-- ==== Sys2Proof/Word.lean ====
section
/-! DEFINITION. The word types, bit fields of natural numbers and signed readings of raw fields. -/
namespace Sys2Proof

/-- One byte of module memory or flash. -/
abbrev Byte := BitVec 8

/-- One 64-bit register or command word. -/
abbrev Word := BitVec 64

end Sys2Proof
end

