-- ==== Sys2Proof/Syntax.lean ====
section
/-! DEFINITION. The commands of the module, one constructor per row of spec/opcode_table.json, and the data they carry. -/
namespace Sys2Proof

/-- The two reset inputs of R376. -/
inductive ResetInput where
  | modReset | perst
  deriving DecidableEq, Repr

/-- Who makes a register access (R409): a PCIe function, the SMBus, a fabric peer acting for a partition, or firmware on
one of CC16 to CC19. -/
inductive Src where
  | pf0
  | vf (n : Nat)
  | smbus
  | fabric (part : Nat)
  | firmware (core : Nat)
  deriving DecidableEq, Repr

/-- An agent of R305: an issuer, waiter or signaller. -/
inductive Agent where
  | queue (n : Nat)
  | ve (n : Nat)
  | cc (n : Nat)
  | dma (n : Nat)
  | peer (fnid : Nat)
  | reg (part : Nat)
  deriving DecidableEq, Repr

/-- A submission entry (R259): the queue it came from and its eight 64-bit words. -/
structure Cmd where
  queue : Nat
  w0 : Word
  w1 : Word
  w2 : Word
  w3 : Word
  w4 : Word
  w5 : Word
  w6 : Word
  w7 : Word
  deriving DecidableEq, Repr

/-- An operation that arrives at a knot (R287, R289): its agent, 0 ADD, 1 SUB, 2 SET or 3 CONFIG, its amount, and the SIGNAL
command it executes, if it is one's. -/
structure KnotArrival where
  agent : Agent
  op : Nat
  amount : Nat
  cmd : Option Cmd := none
  deriving DecidableEq, Repr

/-- A hardware update that meets a software write of the same register (R408): the lowest bit of the field it acts on and
its value, which is an increment for a counter and the bits set for a W1C field. -/
structure Coincident where
  lo : Nat
  value : Nat
  deriving DecidableEq, Repr

/-- A host access through BAR2: a read of some bytes or a write of the bytes given. -/
inductive Access where
  | read (len : Nat)
  | write (bytes : List Byte)
  deriving DecidableEq, Repr

/-- A Greuk packet (R325, R326): the transport header, the extension words, the payload in clear, the authentication tag,
and how it arrived: the CE mark (R318), the port, the lane of a direct-mode link, and whether the UDP checksum of a switched-mode
packet agrees (R317). -/
structure Packet where
  typ : Nat
  last : Bool
  ordered : Bool
  hops : Nat
  src : Nat
  dst : Nat
  part : Nat
  psn : Nat
  idx : Nat
  queue : Nat
  inc : Nat
  keyId : Nat
  time : Nat
  ext : List Word
  data : List Byte
  tag : Nat
  ce : Bool
  port : Nat
  lane : Nat
  sumOk : Bool := true
  deriving DecidableEq, Repr

/-- A frame received: the link tag of a direct-mode one (R315), the packet it carries, and the codewords of it that the receiver's
FEC could not correct and that it corrected (R316, R343). -/
structure Frame where
  lseq : Nat
  ackLseq : Nat
  packet : Packet
  bad : Nat
  corrected : Nat := 0
  deriving DecidableEq, Repr

/-- One entry of a POWER link frame (R315). -/
structure PowerEntry where
  tx : Int
  rx : Int
  channel : Nat
  tuned : Bool
  los : Bool
  deriving DecidableEq, Repr

/-- The floating-point operations of a vector engine (R53). -/
inductive FloatOp where
  | add | sub | mul | fma | div | sqrt | convert
  deriving DecidableEq, Repr

/-- One arithmetic operation of a routine (R53), its operands and result at module addresses: a floating-point operation with
the format of its operands and of its result (BF16 or FP32), or `n` INT8 multiply-accumulates into a 32-bit accumulator. -/
inductive VeOp where
  | float (op : FloatOp) (srcBf16 dstBf16 : Bool) (a b c dst : Nat)
  | mac (acc a b n : Nat)
  deriving DecidableEq, Repr

/-- An operand of a knot operation, and what arrives at the knot in the same handshake cycle (R289). -/
structure KnotOperand (α : Type) where
  value : α
  same : List KnotArrival := []
  deriving DecidableEq, Repr

/-- What a routine has executed when it ends: its steps (R264) and its arithmetic in its order (R53). -/
structure Executed where
  steps : Nat
  ops : List VeOp := []
  deriving DecidableEq, Repr

/-- The commands and events of the module. -/
inductive Instr where
  /-- INPUT_POWER_VALID (R463). -/
  | inputPowerValid
  /-- INPUT_POWER_LOSS (R463). -/
  | inputPowerLoss
  /-- PM_INPUT_RANGE (R463). -/
  | pmInputRange
  /-- PM_RAIL_FAULT (R464). -/
  | pmRailFault (rail : Nat)
  /-- RESET_RECOGNISED_LOW (R376). -/
  | resetRecognisedLow (input : ResetInput)
  /-- RESET_RELEASE (R376). -/
  | resetRelease (input : ResetInput) (holdMs : Nat)
  /-- BT_RESET_STUCK (R378). -/
  | btResetStuck (input : ResetInput)
  /-- PCIE_CONFIG_REQUEST (R373). -/
  | pcieConfigRequest (msSincePerst : Nat)
  /-- HI_LINK_DOWN (R427). -/
  | hiLinkDown
  /-- BOOT_COMPLETE (R374). -/
  | bootComplete
  /-- RESTORE_COMPLETE (R387). -/
  | restoreComplete
  /-- FWLOAD_COMPLETE (R393). -/
  | fwloadComplete
  /-- WARMUP_COMPLETE (R374). -/
  | warmupComplete
  /-- WARMUP_BOUND_EXPIRY (R374). -/
  | warmupBoundExpiry
  /-- DISCOVERY_COMPLETE (R321). -/
  | discoveryComplete
  /-- DISCOVERY_TIMEOUT (R321). -/
  | discoveryTimeout
  /-- FL_READ (R382). -/
  | flRead (src : Src)
  /-- FL_PROGRAM (R382). -/
  | flProgram (src : Src)
  /-- FL_ERASE_4K (R382). -/
  | flErase4k (src : Src)
  /-- FL_ERASE_64K (R382). -/
  | flErase64k (src : Src)
  /-- FLASH_OPERATION_COMPLETE (R382). -/
  | flashOperationComplete (readback : Bool)
  /-- FL_TIMEOUT (R382). -/
  | flTimeout
  /-- JOURNAL_PROGRAM (R384). -/
  | journalProgram
  /-- SAVE (R384). -/
  | save (src : Src)
  /-- REBOOT (R379). -/
  | reboot (src : Src)
  /-- BOOT_HEADER_WRITE (R381). -/
  | bootHeaderWrite (src : Src) (sfw : Nat) (pfw : Nat)
  /-- FACTORY_TABLE_COPY (R391). -/
  | factoryTableCopy
  /-- CAL_STORE_MAP_WRITE (R181). -/
  | calStoreMapWrite (tile : Nat) (ok : Bool)
  /-- SET_POINT_IMAGE_WRITE (R157). -/
  | setPointImageWrite (tile : Nat) (ok : Bool)
  /-- SMBUS_SET_POINTER (R420). -/
  | smbusSetPointer (count : Nat) (offset : Nat)
  /-- SMBUS_BLOCK_READ (R420). -/
  | smbusBlockRead
  /-- SMBUS_ALERT_RESPONSE (R420). -/
  | smbusAlertResponse
  /-- REGISTER_WRITE (R407). -/
  | registerWrite (src : Src) (off : Nat) (value : Word) (hw : List Coincident)
  /-- BAD_WIDTH (R403). -/
  | badWidth (src : Src) (off : Nat) (len : Nat) (isWrite : Bool)
  /-- HI_UNMAPPED (R415). -/
  | hiUnmapped (src : Src) (bar : Nat) (off : Nat) (isWrite : Bool)
  /-- BT_EARLY_ACCESS (R414). -/
  | btEarlyAccess (src : Src) (off : Nat) (isWrite : Bool)
  /-- CNT_CLEAR (R404). -/
  | cntClear (src : Src) (page : Nat) (hw : List Coincident)
  /-- HOST_BAR2_ACCESS (R417). -/
  | hostBar2Access (fn : Nat) (off : Nat) (access : Access)
  /-- PACE_UPDATE (R3). -/
  | paceUpdate (steps : Nat)
  /-- POWER_LIMITER_TICK (R422). -/
  | powerLimiterTick (watts : Nat) (vin : Nat) (iin : Nat) (mv : Nat)
  /-- THERMAL_CHECK (R423). -/
  | thermalCheck (sensor : Nat) (temp : Int)
  /-- DOORBELL_WRITE (R258). -/
  | doorbellWrite (src : Src) (queue : Nat) (word : Word)
  /-- QUEUE_CREATE (R253). -/
  | queueCreate (src : Src) (queue : Nat)
  /-- QUEUE_DELETE (R256). -/
  | queueDelete (src : Src) (queue : Nat)
  /-- RESET_ERROR (R256). -/
  | resetError (src : Src) (queue : Nat)
  /-- QUEUE_FETCH (R269). -/
  | queueFetch (ringOk : Bool)
  /-- COMMAND_DISPATCH (R265). -/
  | commandDispatch (queue : Nat)
  /-- COMMAND_COMPLETION (R255). -/
  | commandCompletion (queue : Nat) (ringOk : Bool)
  /-- COALESCING_TIMEOUT (R255). -/
  | coalescingTimeout (queue : Nat)
  /-- BANK_IDLE_RELEASE (R266). -/
  | bankIdleRelease (tile : Nat)
  /-- NOP (R260). -/
  | nop (c : Cmd)
  /-- WAIT (R292). -/
  | wait (c : Cmd)
  /-- SIGNAL (R293). -/
  | signal (c : Cmd)
  /-- EPOCH (R261). -/
  | epoch (c : Cmd)
  /-- PATCH_OPEN (R123). -/
  | patchOpen (c : Cmd)
  /-- PATCH_CLEAR (R123). -/
  | patchClear (c : Cmd)
  /-- PATCH_RETRIEVE (R130). -/
  | patchRetrieve (c : Cmd)
  /-- PATCH_CLOSE (R123). -/
  | patchClose (c : Cmd)
  /-- SPLICE_LOCAL (R133). -/
  | spliceLocal (c : Cmd)
  /-- PATCH_STATE_IDLE (R124). -/
  | patchStateIdle (tile : Nat) (desc : Nat)
  /-- COIL_ALLOC (R240). -/
  | coilAlloc (c : Cmd)
  /-- COIL_FREE (R233). -/
  | coilFree (c : Cmd)
  /-- COIL_READ (R232). -/
  | coilRead (c : Cmd)
  /-- COIL_WRITE (R232). -/
  | coilWrite (c : Cmd)
  /-- COIL_APPEND (R228). -/
  | coilAppend (c : Cmd)
  /-- COIL_SCAN (R238). -/
  | coilScan (c : Cmd)
  /-- COIL_MIGRATE (R244). -/
  | coilMigrate (c : Cmd)
  /-- COIL_PIN (R244). -/
  | coilPin (c : Cmd)
  /-- COIL_UNPIN (R244). -/
  | coilUnpin (c : Cmd)
  /-- COIL_MIRROR (R245). -/
  | coilMirror (c : Cmd)
  /-- COIL_QUERY (R232). -/
  | coilQuery (c : Cmd)
  /-- COIL_POLICY (R241). -/
  | coilPolicy (c : Cmd)
  /-- COIL_ADMISSION (R235). -/
  | coilAdmission (slot : Nat)
  /-- CLOCK_SWEEP (R242). -/
  | clockSweep (nbhd : Nat)
  /-- MIGRATION_START (R242). -/
  | migrationStart (nbhd : Nat)
  /-- MIGRATION_SWITCH (R242). -/
  | migrationSwitch (slot : Nat) (bad : Option Nat)
  /-- FRAME_ZEROING_DONE (R239). -/
  | frameZeroingDone (nbhd : Nat) (tier : Nat)
  /-- MIRROR_SETUP_DONE (R245, R438). -/
  | mirrorSetupDone (slot : Nat) (bad : Option Nat)
  /-- MEMORY_DEVICE_LOST (R439). -/
  | memoryDeviceLost (device : Nat)
  /-- TABLE_COPY_REBUILT (R248). -/
  | tableCopyRebuilt
  /-- CS_EN_SET (R477). -/
  | csEnSet (src : Src)
  /-- CS_EN_CLEAR (R477). -/
  | csEnClear (src : Src)
  /-- CS_READY (R477). -/
  | csReady
  /-- DMA_COPY (R277). -/
  | dmaCopy (c : Cmd)
  /-- DMA_FILL (R277). -/
  | dmaFill (c : Cmd)
  /-- DMA_TRANSFER_COMPLETE (R295). -/
  | dmaTransferComplete (engine : Nat) (seq : Nat) (result : Nat)
  /-- VE_LAUNCH (R264). -/
  | veLaunch (c : Cmd)
  /-- VE_RETURN (R264). -/
  | veReturn (engine : Nat) (word : Word) (run : Executed)
  /-- VE_EXCEPTION (R301). -/
  | veException (engine : Nat) (status : Nat) (run : Executed)
  /-- REMOTE_WRITE (R329). -/
  | remoteWrite (c : Cmd)
  /-- REMOTE_READ (R329). -/
  | remoteRead (c : Cmd)
  /-- REMOTE_ATOMIC (R329). -/
  | remoteAtomic (c : Cmd)
  /-- REMOTE_SPLICE (R329). -/
  | remoteSplice (c : Cmd)
  /-- PACKER_ROW (R102). -/
  | packerRow (tile : Nat)
  /-- STATIC_ENTRY_WIDENING (R112). -/
  | staticEntryWidening (tile : Nat) (entry : Nat) (written : Option Word)
  /-- TILE_ROW_START (R61). -/
  | tileRowStart (tile : Nat)
  /-- PLANE_CHECK (R68). -/
  | planeCheck (tile : Nat) (codes : List Int)
  /-- REPLAY_BLOCK (R71). -/
  | replayBlock (tile : Nat)
  /-- RECOMPUTATION (R75). -/
  | recomputation (tile : Nat)
  /-- ROW_ADDENDS_ADD (R76). -/
  | rowAddendsAdd (tile : Nat)
  /-- BANK_LOAD_COMPLETE (R86). -/
  | bankLoadComplete (tile : Nat)
  /-- COLUMN_SUM_CHECK (R87). -/
  | columnSumCheck (tile : Nat)
  /-- BANK_SWAP (R88). -/
  | bankSwap (tile : Nat)
  /-- REFRESH_BURST (R83). -/
  | refreshBurst (tile : Nat)
  /-- IDLE_BANK_REFRESH (R84). -/
  | idleBankRefresh (tile : Nat) (seg : Nat)
  /-- EPOCH_COMMAND_END (R262). -/
  | epochCommandEnd (tile : Nat)
  /-- SUPERVISION_WINDOW_CLOSE (R78). -/
  | supervisionWindowClose (tile : Nat)
  /-- QRATE (R90). -/
  | qrate (src : Src) (quad : Nat) (rate : Nat)
  /-- RATE_CHANGE_DRAINED (R90). -/
  | rateChangeDrained (quad : Nat)
  /-- RATE_CHANGE_LOCKED (R90). -/
  | rateChangeLocked (quad : Nat)
  /-- TILE_EN (R93). -/
  | tileEn (src : Src) (tile : Nat) (on : Bool)
  /-- RETURN (R80). -/
  | returnSet (src : Src) (tile : Nat)
  /-- CAL_TRIGGER_EVALUATION (R168). -/
  | calTriggerEvaluation (tile : Nat)
  /-- REQUEST (R168). -/
  | request (src : Src) (mask : Nat)
  /-- CALIBRATION_LOAD (R171). -/
  | calibrationLoad (tile : Nat)
  /-- CALIBRATION_SWAP (R171). -/
  | calibrationSwap (tile : Nat)
  /-- PM_CAL_LATE (R175). -/
  | pmCalLate (tile : Nat)
  /-- FRAME_EVENT (R143). -/
  | frameEvent
  /-- LOCK_GROUP_UPDATE (R150). -/
  | lockGroupUpdate (tile : Nat) (group : Nat) (conv : List Int) (late : Bool)
  /-- HOTSPOT_LIMITER (R152). -/
  | hotspotLimiter (tile : Nat)
  /-- HEAT_EN_SET (R158). -/
  | heatEnSet (src : Src) (tile : Nat)
  /-- HEAT_EN_CLEAR (R158). -/
  | heatEnClear (src : Src) (tile : Nat)
  /-- HEATER_RAMP_END (R158). -/
  | heaterRampEnd (tile : Nat)
  /-- RING_SEARCH_DONE (R160). -/
  | ringSearchDone (tile : Nat) (codes : List Nat)
  /-- FREEZE (R156). -/
  | freeze (src : Src) (tile : Nat) (on : Bool)
  /-- LL_REGULAR_TRIGGER (R190). -/
  | llRegularTrigger (unit : Nat) (trig : Nat)
  /-- REG_GO (R189). -/
  | regGo (src : Src) (unit : Nat)
  /-- INJ_GO (R189). -/
  | injGo (src : Src) (unit : Nat)
  /-- LL_SET_CONVERTED (R193). -/
  | llSetConverted (unit : Nat) (codes : List Int)
  /-- LL_RING_TAIL (R193). -/
  | llRingTail (src : Src) (unit : Nat) (value : Nat)
  /-- INJECTION_START (R191). -/
  | injectionStart (unit : Nat) (cause : Nat) (ring : Nat) (leg : Nat)
  /-- INJECTION_END (R191). -/
  | injectionEnd (unit : Nat)
  /-- LL_HOUSEKEEPING (R187). -/
  | llHousekeeping (unit : Nat) (readings : List Int)
  /-- SYSCAL_ZERO (R196). -/
  | syscalZero (src : Src)
  /-- SYSCAL_FULL (R196). -/
  | syscalFull (src : Src)
  /-- SYSCAL_COMMIT (R196). -/
  | syscalCommit (src : Src)
  /-- SYSCAL_STEP_DONE (R196). -/
  | syscalStepDone (means : List Int)
  /-- LEG_HINT (R199). -/
  | legHint (tile : Nat) (leg : Nat)
  /-- LEG_TRIP (R199). -/
  | legTrip (tile : Nat) (leg : Nat) (hard : Bool)
  /-- LEG_BLANKING_END (R199). -/
  | legBlankingEnd (tile : Nat) (leg : Nat) (above : Bool)
  /-- LEG_TRIP_WINDOW_END (R200). -/
  | legTripWindowEnd (tile : Nat)
  /-- HM_LEG_REARM (R200). -/
  | hmLegRearm (src : Src) (tile : Nat) (mask : Word)
  /-- CLOSE (R202). -/
  | close (src : Src) (tile : Nat)
  /-- RAIL_RISEN (R202). -/
  | railRisen (quad : Nat)
  /-- LEG_ENABLE (R198). -/
  | legEnable (tile : Nat) (leg : Nat)
  /-- COMB_BIAS_UPDATE (R210). -/
  | combBiasUpdate (comb : Nat) (powers : List Int)
  /-- LANE_BIAS_UPDATE (R218). -/
  | laneBiasUpdate (engine : Nat) (lane : Nat) (power : Int)
  /-- LS_EN_SET (R213). -/
  | lsEnSet (src : Src) (source : Nat)
  /-- LS_EN_CLEAR (R213). -/
  | lsEnClear (src : Src) (source : Nat)
  /-- REARM (R214). -/
  | rearm (src : Src) (source : Nat)
  /-- LS_DRV_OC (R204). -/
  | lsDrvOc (source : Nat)
  /-- COMB_RAMP_END (R213). -/
  | combRampEnd (comb : Nat)
  /-- LANE_RETUNE (R219). -/
  | laneRetune (engine : Nat) (lane : Nat) (channel : Nat)
  /-- LANE_TUNED (R219). -/
  | laneTuned (engine : Nat) (lane : Nat)
  /-- LS_TUNE_FAIL (R219). -/
  | lsTuneFail (engine : Nat) (lane : Nat)
  /-- RX_POWER_READING (R220). -/
  | rxPowerReading (engine : Nat) (lane : Nat) (power : Int)
  /-- POWER_REPORT_SEND (R221). -/
  | powerReportSend (port : Nat)
  /-- LS_PEER_STALE (R221). -/
  | lsPeerStale (port : Nat) (lane : Nat)
  /-- KNOT_ADD (R287, R289). -/
  | knotAdd (agent : Agent) (knot : Nat) (amount : KnotOperand Nat)
  /-- KNOT_SUB (R287, R289). -/
  | knotSub (agent : Agent) (knot : Nat) (amount : KnotOperand Nat)
  /-- KNOT_SET (R287, R289). -/
  | knotSet (agent : Agent) (knot : Nat) (amount : KnotOperand Nat)
  /-- KNOT_CONFIG (R287, R289). -/
  | knotConfig (agent : Agent) (knot : Nat) (external : KnotOperand Bool)
  /-- KNOT_WAIT (R290). -/
  | knotWait (engine : Nat) (knot : Nat) (threshold : Nat) (consume : Bool)
  /-- READ_FULL (R283). -/
  | readFull (engine : Nat) (addr : Nat)
  /-- TAKE (R283). -/
  | take (engine : Nat) (addr : Nat)
  /-- PUT (R283). -/
  | put (engine : Nat) (addr : Nat) (data : Word)
  /-- FILL (R283). -/
  | fill (engine : Nat) (addr : Nat) (data : Word)
  /-- CLEAR (R283). -/
  | clear (engine : Nat) (addr : Nat)
  /-- SY_KNOT_VAL (R289). -/
  | syKnotVal (src : Src) (knot : Nat) (value : Nat) (same : List KnotArrival)
  /-- DEADLOCK_EVALUATION (R299). -/
  | deadlockEvaluation
  /-- SY_WAIT_TIMEOUT (R300). -/
  | syWaitTimeout (wait : Nat)
  /-- CONTINUE (R302). -/
  | continue (src : Src) (queue : Nat)
  /-- FLUSH (R302). -/
  | flush (src : Src) (queue : Nat)
  /-- FRAME_RECEIVE (R315). -/
  | frameReceive (port : Nat) (lane : Nat) (frame : Frame)
  /-- LLR_ACK (R315). -/
  | llrAck (port : Nat) (lane : Nat) (ackSeq : Nat)
  /-- LLR_NAK (R315). -/
  | llrNak (port : Nat) (lane : Nat) (nakSeq : Nat)
  /-- POWER (R221). -/
  | powerFrame (port : Nat) (lane : Nat) (entries : List PowerEntry)
  /-- LINK_STATE (R316). -/
  | linkState (port : Nat) (lane : Nat) (up : Bool)
  /-- LINK_STATE_SEND (R316). -/
  | linkStateSend (port : Nat) (lane : Nat)
  /-- LLR_ACK_IDLE (R315). -/
  | llrAckIdle (port : Nat) (lane : Nat)
  /-- FX_LLR_EXHAUSTED (R315). -/
  | fxLlrExhausted (port : Nat) (lane : Nat)
  /-- LINK_LOCK_LOSS (R316). -/
  | linkLockLoss (port : Nat) (lane : Nat)
  /-- LINK_UP_TIMEOUT (R314). -/
  | linkUpTimeout (port : Nat) (lane : Nat)
  /-- PLANE_SKIP_EXPIRY (R338). -/
  | planeSkipExpiry (peer : Nat) (plane : Nat)
  /-- ACK (R326). -/
  | ack (p : Packet)
  /-- READ_REQ (R326). -/
  | readReq (p : Packet)
  /-- READ_RESP (R326). -/
  | readResp (p : Packet)
  /-- WRITE (R331). -/
  | write (p : Packet)
  /-- SIGNAL_MESSAGE (R294). -/
  | signalMessage (p : Packet)
  /-- ATOMIC (R329). -/
  | atomic (p : Packet)
  /-- ATOMIC_RESP (R326). -/
  | atomicResp (p : Packet)
  /-- SPLICE (R134). -/
  | splice (p : Packet)
  /-- COIL_MSG_COPY (R245). -/
  | coilMsgCopy (p : Packet)
  /-- COIL_MSG_WRITE (R246). -/
  | coilMsgWrite (p : Packet)
  /-- COIL_MSG_APPEND (R246). -/
  | coilMsgAppend (p : Packet)
  /-- COIL_MSG_RELEASE (R245). -/
  | coilMsgRelease (p : Packet)
  /-- COIL_MSG_FETCH (R243). -/
  | coilMsgFetch (p : Packet)
  /-- COIL_MSG_DATA (R243). -/
  | coilMsgData (p : Packet)
  /-- COIL_MSG_STORE (R242). -/
  | coilMsgStore (p : Packet)
  /-- PACKET_APPLY (R331). -/
  | packetApply (engine : Nat)
  /-- HELLO (R320). -/
  | hello (p : Packet)
  /-- HELLO_SEND (R320). -/
  | helloSend
  /-- COORDINATOR_ELECTION (R320). -/
  | coordinatorElection
  /-- KEEPALIVE_SEND (R320). -/
  | keepaliveSend
  /-- KEEPALIVE (R320). -/
  | keepalive (p : Packet)
  /-- GT_COORD_LOST (R320). -/
  | gtCoordLost
  /-- DEMAND_REPORT_SEND (R314). -/
  | demandReportSend
  /-- DEMAND (R314). -/
  | demand (p : Packet)
  /-- CHANNEL_ASSIGNMENT (R314). -/
  | channelAssignment
  /-- ASSIGN (R314). -/
  | assign (p : Packet)
  /-- ASSIGN_ACCEPT_STOP (R314). -/
  | assignAcceptStop (port : Nat) (lane : Nat)
  /-- ASSIGN_ACTIVATION (R314). -/
  | assignActivation (port : Nat) (lane : Nat)
  /-- MEMBERS (R321). -/
  | members (p : Packet)
  /-- ROUTES (R323). -/
  | routes (p : Packet)
  /-- PEER_DOWN (R336). -/
  | peerDown (p : Packet)
  /-- ACK_TIMER_EXPIRY (R335). -/
  | ackTimerExpiry (peer : Nat) (psn : Nat)
  /-- BUSY_RESEND (R334). -/
  | busyResend (peer : Nat) (psn : Nat)
  /-- TIME_EXCHANGE (R340). -/
  | timeExchange
  /-- TIME_REQ (R340). -/
  | timeReq (p : Packet)
  /-- TIME_RESP (R340). -/
  | timeResp (p : Packet)
  /-- PPS_EDGE (R342). -/
  | ppsEdge
  /-- TM_PPS_MISSING (R342). -/
  | tmPpsMissing
  /-- PPS_OUT_SECOND (R342). -/
  | ppsOutSecond
  /-- PARTITION_CREATE (R349). -/
  | partitionCreate (src : Src) (part : Nat)
  /-- PARTITION_RELEASE (R364). -/
  | partitionRelease (src : Src) (part : Nat)
  /-- PA_RELEASED (R364). -/
  | paReleased (part : Nat)
  /-- KEY_SWITCH (R357). -/
  | keySwitch (src : Src) (part : Nat)
  /-- FKEY_WORD_WRITE (R357). -/
  | fkeyWordWrite (src : Src) (part : Nat) (keyId : Nat) (word : Nat) (data : Word)
  /-- PREVIOUS_KEY_DROP (R357). -/
  | previousKeyDrop (part : Nat)
  /-- GRANULE_REASSIGN (R355). -/
  | granuleReassign (src : Src) (granule : Nat) (owner : Nat)
  /-- GRANULE_ZEROED (R355). -/
  | granuleZeroed (granule : Nat)
  /-- ENGINE_OWNER_CHANGE (R352). -/
  | engineOwnerChange (engine : Nat)
  /-- QUANTUM_EXPIRY (R361). -/
  | quantumExpiry (tile : Nat)
  /-- TILE_HANDOVER (R362). -/
  | tileHandover (tile : Nat)
  /-- PA_MBOX_REQ (R369). -/
  | paMboxReq (src : Src)
  /-- PA_MBOX_RSP (R369). -/
  | paMboxRsp (src : Src) (part : Nat)
  /-- BREAKPOINT_HIT (R452). -/
  | breakpointHit (core : Nat) (bp : Nat) (pc : Nat)
  /-- CC_HALT (R452). -/
  | ccHalt (src : Src) (core : Nat)
  /-- CC_RESUME (R452). -/
  | ccResume (src : Src) (core : Nat)
  /-- CC_STEP (R452). -/
  | ccStep (src : Src) (core : Nat)
  /-- CC_DRAIN_END (R452). -/
  | ccDrainEnd (core : Nat)
  /-- VE_HALT (R452). -/
  | veHalt (src : Src) (engine : Nat)
  /-- VE_RESUME (R452). -/
  | veResume (src : Src) (engine : Nat)
  /-- TRACE_SNAPSHOT (R449). -/
  | traceSnapshot (part : Nat)
  /-- TR_TAIL (R446). -/
  | trTail (src : Src) (part : Nat) (value : Nat)
  /-- VE_ENGINE_FAULT (R436). -/
  | veEngineFault (engine : Nat)
  /-- CC_PAIR_SPLIT (R437). -/
  | ccPairSplit (core : Nat)
  /-- CC_FW_HALT (R437). -/
  | ccFwHalt (pair : Nat)
  /-- RESET_INPUT_RECOGNISED_HIGH (R379). -/
  | resetInputRecognisedHigh (input : ResetInput) (holdMs : Nat)
  /-- PCIE_LINK_UP (R427). -/
  | pcieLinkUp (speed : Nat) (width : Nat)
  /-- LANE_ALIGNMENT_FEC_LOCK (R316). -/
  | laneAlignmentFecLock (port : Nat) (lane : Nat)
  /-- PCIE_COMPLETION_TIMEOUT (R295). -/
  | pcieCompletionTimeout (queue : Nat) (engine : Nat) (seq : Nat)
  /-- ROUTER_ADVERTISEMENT (R317). -/
  | routerAdvertisement (port : Nat) (router : Nat)
  /-- NEIGHBOR_DISCOVERY (R317). -/
  | neighborDiscovery (port : Nat) (mac : Nat)
  /-- ARP_REPLY (R317). -/
  | arpReply (port : Nat) (mac : Nat)
  /-- PAUSE_PFC_FRAME (R309). -/
  | pausePfcFrame (port : Nat)
  /-- HEATER_BITSTREAM_PERIOD (R142). -/
  | heaterBitstreamPeriod (tile : Nat)
  /-- HINT_COMPARATOR_REARM (R199). -/
  | hintComparatorRearm (tile : Nat) (leg : Nat)
  /-- SEQUENCER_CC_FAULT (R434). -/
  | sequencerCcFault (core : Nat)
  /-- RETAINED_BIAS_WRITE (R213). -/
  | retainedBiasWrite (comb : Nat)
  deriving DecidableEq, Repr

end Sys2Proof
end

