-- ==== Sys2Proof/Machine/NMap.lean ====
section
/-! DEFINITION. Sparse maps from natural numbers: lists of key and value pairs, keys strictly rising, no entry equal to
what an unlisted key reads as. Memory, the flash and every table of the module use this one form. -/
namespace Sys2Proof.Machine

/-- A sparse map. An unlisted key reads as the default its reader names. -/
abbrev NMap (α : Type) := List (Nat × α)

/-- The value of `k`, `d` where `k` is not listed. -/
def NMap.get {α : Type} (d : α) : NMap α → Nat → α
  | [], _ => d
  | (j, v) :: r, k => if j = k then v else NMap.get d r k

/-- Put `v` at `k`, keeping the keys rising. -/
def NMap.insert {α : Type} : NMap α → Nat → α → NMap α
  | [], k, v => [(k, v)]
  | (j, w) :: r, k, v =>
    if k < j then (k, v) :: (j, w) :: r
    else if j = k then (k, v) :: r
    else (j, w) :: NMap.insert r k v

/-- Remove `k`. -/
def NMap.erase {α : Type} (m : NMap α) (k : Nat) : NMap α := m.filter (fun e => e.1 != k)

/-- Write `v` at `k`; writing the default removes the entry. -/
def NMap.set {α : Type} [DecidableEq α] (d : α) (m : NMap α) (k : Nat) (v : α) : NMap α :=
  if v = d then m.erase k else m.insert k v

/-- Change the value at `k` by `f`. -/
def NMap.modify {α : Type} [DecidableEq α] (d : α) (m : NMap α) (k : Nat) (f : α → α) : NMap α :=
  NMap.set d m k (f (NMap.get d m k))

/-- Every key lies above `b` and the keys rise strictly. -/
def NMap.above {α : Type} (b : Nat) : NMap α → Bool
  | [] => true
  | (j, _) :: r => decide (b < j) && NMap.above j r

/-- The keys rise strictly. -/
def NMap.rising {α : Type} : NMap α → Bool
  | [] => true
  | (j, _) :: r => NMap.above j r

/-- No entry holds the default. -/
def NMap.sparse {α : Type} [DecidableEq α] (d : α) (m : NMap α) : Bool := m.all (fun e => decide (e.2 ≠ d))

/-- The canonical form of a map with default `d`. -/
def NMap.wf {α : Type} [DecidableEq α] (d : α) (m : NMap α) : Bool := m.rising && m.sparse d

/-- Remove every key in `lo ≤ k < hi`. -/
def NMap.clearRange {α : Type} (m : NMap α) (lo hi : Nat) : NMap α :=
  m.filter (fun e => !(decide (lo ≤ e.1) && decide (e.1 < hi)))

/-- The entries with `lo ≤ k < hi`. -/
def NMap.range {α : Type} (m : NMap α) (lo hi : Nat) : NMap α :=
  m.filter (fun e => decide (lo ≤ e.1) && decide (e.1 < hi))

end Sys2Proof.Machine
end

