-- ==== Sys2Proof/Machine/Parts/CtrlParts.lean ====
section
/-! DEFINITION. What the queue manager, the DMA engines, the vector engines and control cores, the synchronisation block
and the partition logic hold besides their register fields (spec/11, spec/12, spec/14, spec/18). -/
namespace Sys2Proof.Machine

/-- A command finished, its completion entry not yet written (R255, R267). -/
structure Done where
  c : Cmd
  status : Nat
  executed : Bool
  r0 : Nat
  r1 : Nat
  d0 : Nat
  d1 : Nat
  time : Nat
  deriving DecidableEq, Repr

/-- A command slot (R272): a fetched command, its ring index, whether it has been dispatched and when. -/
structure Slot where
  c : Cmd
  index : Nat
  dispatched : Bool
  finished : Bool
  start : Nat
  deriving DecidableEq, Repr

/-- The counts of one command's own work (R449). -/
structure Work where
  bitMacs : Nat := 0
  steps : Nat := 0
  bytes : Nat := 0
  replays : Nat := 0
  flags : Nat := 0
  deriving DecidableEq, Repr

/-- What a queue holds besides its context registers: ring positions software announced, slots in ring order, finished
commands, coalescing with the COAL_US in force when the last entry was written (R253), whether its head is a failed WAIT (R301), the SQ_HEAD last reported (R254), and whether a scrub silenced
it (R256). -/
structure Queue where
  sqTail : Nat := 0
  cqHead : Nat := 0
  slots : List Slot := []
  done : List Done := []
  uncovered : Nat := 0
  uncoveredSince : Nat := 0
  coalUs : Nat := 0
  failedHead : Bool := false
  deficit : Nat := 0
  repHead : Nat := 0
  silent : Bool := false
  deriving DecidableEq, Repr

/-- The arbiter's place (R269): the last queue served in each class, the class in turn, and what each class may still fetch
in this round. -/
structure Arb where
  lastUrgent : Nat := 0
  lastInt : Nat := 0
  lastBulk : Nat := 0
  lastBg : Nat := 0
  turn : Nat := 1
  creditInt : Nat := 0
  creditBulk : Nat := 0
  creditBg : Nat := 0
  deriving DecidableEq, Repr

/-- A DMA transfer in progress (R277): its command, bytes, and the refusal it met, 0 for none. -/
structure Xfer where
  engine : Nat
  seq : Nat
  c : Cmd
  bytes : Nat
  status : Nat
  detail : Nat
  deriving DecidableEq, Repr

/-- A branch of a control core's code (R450): its PC, whether it was taken if conditional, and the target if indirect. -/
structure Branch where
  pc : Nat
  cond : Option Bool
  target : Nat
  deriving DecidableEq, Repr

/-- A CC_BRANCH record being filled (R449, R450): the PC of its first branch, the conditional branches so far with their taken
bits, and its indirect targets with the branch index of each. -/
structure BranchRec where
  first : Option Nat := none
  conds : Nat := 0
  taken : Nat := 0
  inds : List (Nat × Nat) := []
  deriving DecidableEq, Repr

/-- A vector engine or control core: the command it executes. -/
structure Engine where
  cmd : Option Cmd := none
  coil : Option Nat := none
  haltPending : Bool := false
  deriving DecidableEq, Repr

/-- A routine launch that waits for an engine (R264): the engines it may take, the words that follow its argument block, and
for a COIL_SCAN the coil slot. -/
structure Launch where
  c : Cmd
  routine : Nat
  args : Nat
  argLen : Nat
  cands : List Nat
  extra : List Nat
  coil : Option Nat
  deriving DecidableEq, Repr

/-- A waiter on a knot (R287), in arrival order. -/
structure Waiter where
  id : Nat
  agent : Agent
  part : Nat
  threshold : Nat
  consume : Bool
  deriving DecidableEq, Repr

/-- A knot (R285): value, EXTERNAL, HIGH, waiters, and who last changed it when. -/
structure Knot where
  val : Nat := 0
  external : Bool := false
  high : Bool := false
  waiters : List Waiter := []
  last : Option Agent := none
  lastPart : Nat := 0
  lastTime : Nat := 0
  deriving DecidableEq, Repr

/-- The kinds of waiting full/empty access (R283). -/
inductive FeKind where
  | readFull | take | put (data : Word)
  deriving DecidableEq, Repr

/-- A waiter on a full/empty word, in arrival order (R284). -/
structure FeWaiter where
  id : Nat
  engine : Nat
  part : Nat
  kind : FeKind
  deriving DecidableEq, Repr

/-- A full/empty access that found no free waiter entry (R284): its handshake is parked. -/
structure FePark where
  addr : Nat
  w : FeWaiter
  deriving DecidableEq, Repr

/-- A 64-bit word with a full/empty bit (R282). -/
structure FeWord where
  full : Bool := false
  waiters : List FeWaiter := []
  deriving DecidableEq, Repr

/-- What a wait waits for (R281). -/
inductive WaitObj where
  | knot (k : Nat)
  | word (addr : Nat)
  | patch (tile desc : Nat)
  deriving DecidableEq, Repr

/-- A wait in progress (R281, R300): its object, its waiter, the partition, its start in fabric time and its limit in
microseconds. `c` is the command that waits, for queue-head and unit waits. -/
structure Wait where
  id : Nat
  obj : WaitObj
  agent : Agent
  part : Nat
  start : Nat
  limit : Nat
  c : Option Cmd
  deriving DecidableEq, Repr

/-- One record of the synchronisation event log (R306). -/
structure SyEvent where
  typ : Nat := 0
  part : Nat := 0
  count : Nat := 0
  failed : Bool := false
  kind : Nat := 0
  object : Nat := 0
  agent : Nat := 0
  agent2 : Nat := 0
  time : Nat := 0
  deriving DecidableEq, Repr

/-- One entry of the deadlock list: a queue number and whether its head is WAITING. -/
structure DlEntry where
  queue : Nat
  head : Bool
  deriving DecidableEq, Repr

/-- The word an engine got from its last served full/empty access (R283). -/
structure Served where
  engine : Nat
  addr : Nat
  data : Word
  deriving DecidableEq, Repr

/-- A fabric key (R357): its KEY_ID and the four words written for it. -/
structure FKey where
  keyId : Nat
  words : List Nat
  deriving DecidableEq, Repr

/-- What the partition logic holds of one partition besides its registers (R356, R357): the newest key installed since the
last switch, the current key, the previous key and when it fell behind, the words written by KEY_ID and word, and which
memory-key pair is in force, 0 for none. -/
structure Part where
  newest : Option FKey := none
  cur : Option FKey := none
  prev : Option FKey := none
  switched : Nat := 0
  words : NMap Nat := []
  memKey : Nat := 0
  deriving DecidableEq, Repr

end Sys2Proof.Machine
end

