-- ==== Sys2Proof/Config.lean ====
section
/-! DEFINITION. What the spec leaves to the silicon, to chance or to keys: constants without a body. No proof can see what
they are, so a statement that mentions one holds whatever its value. The assumption log names each. -/
namespace Sys2Proof.Config

/-- The hawser value of an FP32 lane that is an infinity or a NaN (R135 states none). -/
opaque narrowSpecial : Nat → Int

/-- The AES-256-GCM tag of a packet under the four words of a fabric key (R327): key, nonce, authenticated data, payload. -/
opaque gcmTag : List Nat → List Nat → List Nat → List Nat → Nat

/-- The UDP checksum of a packet under its addresses and ports (R317): the bytes it sums are ciphertext, so it is free. -/
opaque udpSum : List Nat → List Nat → BitVec 16

/-- Whether a vector engine or a control core fails its start-up test (R372). -/
opaque engineTestFails : Nat → Bool

/-- A memory error of one nanosecond (R438): one that is corrected, by device (HBM0 to HBM7, LPG0, LPG1), or the address of one that
is not. -/
opaque memoryError : Nat → Option (Nat ⊕ Nat)

/-- Rows beyond 8,000 that a tile's buffer of held addends takes: R76 gives the least size only. -/
opaque heldExtra : Nat

/-- Whether commands of an opcode depend on a firmware pair (R437): pair, opcode. -/
opaque fwDepends : Nat → Nat → Bool

/-- Which of several free engines the queue manager chooses (R259, R238), by fresh counter. -/
opaque pick : Nat → Nat

/-- Steps a routine had executed when a failed wait ended it (R301), by fresh counter. -/
opaque stepsAtEnd : Nat → Nat

/-- How the steps of a routine divide into BF16 and INT8 steps (R454), by fresh counter. -/
opaque stepSplit : Nat → Nat × Nat

/-- The word a vector-engine routine or a core computes is code the module does not define; the next PC of a single step
(R452). -/
opaque nextPc : Nat → Nat → Nat

/-- The branches a control core executes, and the cause and faulting address of its exceptions (R449, R450), by core and fresh
counter: the core's code is not the module's to define. -/
opaque coreBranches : Nat → Nat → List Machine.Branch
opaque coreCause : Nat → Nat → Nat × Nat

/-- What the measurements of a calibration run find on a tile (R167), by fresh counter. -/
opaque measure : Nat → Nat

/-- A byte of the flash that an interrupted or failed operation leaves, by fresh counter and address (R382, R463). -/
opaque flashByte : Nat → Nat → BitVec 8

/-- The AES key wrap of four key words under the module's fused key (R385), and its inverse. -/
opaque keyWrap : List Nat → Nat
opaque keyUnwrap : Nat → List Nat

/-- The boot count drawn where the journal holds none (R388), by fresh counter. -/
opaque randomCount : Nat → Nat

/-- Whether a factory record of these bytes is signed and names this serial number (R390). -/
opaque factoryAccepted : List (Nat × BitVec 8) → Nat → Bool

/-- Whether a firmware header's signature verifies under a boot-code key, and the SHA-384 of a body of these bytes and this
length (R393). -/
opaque signed : Nat → List (Nat × BitVec 8) → Bool
opaque bodyHash : List (Nat × BitVec 8) → Nat → Nat

/-- Whether a quotient the spec does not say how to round is rounded up. -/
opaque roundUp : Int → Nat → Bool

/-- The tables of the calibration store that software cannot read, by tile and ring: slope coefficient (numerator, and
denominator less one), crosstalk coefficient of a neighbour and ambient coefficient (R147, R150). -/
opaque slope : Nat → Nat → Int × Nat
opaque crosstalk : Nat → Nat → Nat → Nat
opaque ambient : Nat → Nat → Int

/-- Dither frequency word and amplitude of a heater group, by tile and group (R146). -/
opaque ditherF : Nat → Nat → Nat
opaque ditherA : Nat → Nat → Nat

/-- Whether a tile's crosstalk table passes its check at start-up (R160), by fresh counter. -/
opaque tableGood : Nat → Nat → Bool

/-- The code a ring search has reached on a ring at a frame event of the search (R160): tile, ring, frame event. -/
opaque sweepCode : Nat → Nat → Nat → Nat

/-- CRC and version of a tile's crosstalk table, and the version a set-point image is written with (R161). -/
opaque tableCrc : Nat → Nat
opaque tableVersion : Nat → Nat
opaque imageVersion : Nat → Nat

/-- The number of a leadline unit's first pass (R193). -/
opaque firstPass : Nat → Nat

/-- The factory leadline coefficients of a converter: offset and gain (R195), by unit and converter. -/
opaque factoryCoef : Nat → Nat → Int × Nat

/-- The mean of no lines at all (R210 divides by their number). -/
opaque meanOfNone : Nat → Int

/-- A byte of the ciphertext of a coil frame (R356): memory key, handle, offset in the coil, and the clear bytes of its unit. -/
opaque cipherByte : Nat → Nat → Nat → List (BitVec 8) → BitVec 8

/-- A byte of the clear text of a coil's ciphertext that is not what the module wrote: memory key, handle, offset in the coil, and
the ciphertext of its unit. -/
opaque plainByte : Nat → Nat → Nat → List (BitVec 8) → BitVec 8

/-- The status of a COIL_MIGRATE whose migration a write abandons (R236 states none), by fresh counter. -/
opaque abandonStatus : Nat → Nat

/-- The address DM_LAST_ERR shows after a transfer whose signal failed (R280), by fresh counter: the spec names no faulting address
there. -/
opaque signalFault : Nat → Nat

/-- The record size code of a peer's replica, by handle: a COIL APPEND names a first record and the spec gives the receiver no
record size (R326). -/
opaque replicaRecord : Nat → Nat

end Sys2Proof.Config
end

