-- ==== Sys2Proof/Machine/Parts/TileParts.lean ====
section
/-! DEFINITION. What one photonic tile holds besides its register fields: weight banks, loads, EPOCH commands, rows in
progress, replay and recomputation queues, static entries, patch descriptors (spec/03, spec/04, spec/05). -/
namespace Sys2Proof.Machine

/-- A weight bank (R58): its ring levels by logical row and column (R31), scale entries (R96) and column sums (R116). An
empty list stands for all zeros. `key` names its load: twice the load's number, plus 1 for the high pass of an I8 pair.
`map` is the number of the substitution map recorded with it (R166), `visit` the physical column that is under a visit in that
map (R173). -/
structure Bank where
  loaded : Bool := false
  verified : Bool := false
  levels : List Int := []
  scales : List Nat := []
  csum : List Int := []
  csumValid : Bool := false
  wfmt : Nat := 0
  gsize : Nat := 0
  key : Nat := 0
  map : Nat := 0
  visit : Option Nat := none
  deriving DecidableEq, Repr

/-- A bank load (R81), kept until its column sums are verified: the bank, the key of what it loads, what was read, how often
its column sums have disagreed (R87), and whether it is complete. `cal` marks a calibration load (R171); `owner` is the
command whose partition it counts for. -/
structure Load where
  bankB : Bool
  key : Nat
  levels : List Int
  scales : List Nat
  wfmt : Nat
  gsize : Nat
  map : Nat
  visit : Option Nat
  tries : Nat
  sent : Bool
  cal : Bool
  owner : Option Cmd
  deriving DecidableEq, Repr

/-- A tile command in the tile sequencer (R265): its opcode, the number it took on arrival, and for an EPOCH the number of
the load it runs on and the LOAD = 1 command whose images that load reads (R261). -/
structure Held where
  op : Nat
  c : Cmd
  seq : Nat
  target : Nat
  img : Cmd
  deriving DecidableEq, Repr

/-- An EPOCH command in progress (R261): the load it runs on, rows it still sends (`limit`), its progress, its pass and the rows of a first pass stored, the
patches it has begun adding to, the scale records it imported (R108), whether it has met a non-finite element (R105), and
the counts of its step (R110, R111). `firstHi`: the high pass of an I8 pair runs first. -/
structure Run where
  id : Nat
  c : Cmd
  target : Nat
  img : Cmd
  firstHi : Bool
  limit : Nat
  packed : Nat := 0
  started : Nat := 0
  added : Nat := 0
  stored : Nat := 0
  pass : Nat := 0
  ended : Bool := false
  status : Nat := 0
  detail : Nat := 0
  executed : Bool := true
  touched : List Nat := []
  entry : Word := 0
  recs : List Nat := []
  nonfinite : Bool := false
  clips : Nat := 0
  elems : Nat := 0
  lo : Int := 0
  hi : Int := 0
  deriving DecidableEq, Repr

/-- A row packed or in progress (R61, R76): its run, number and pass, A-codes of the slice, token scale, zero point, the
load it runs on, and the integers decided so far by plane and segment. A `void` row is finished and checked but adds nothing
(R79, R433). -/
structure Row where
  tag : Nat
  run : Nat
  idx : Nat
  pass : Nat
  width : Nat
  codes : List Nat
  stok : Nat
  zp : Nat
  key : Nat
  dec : NMap (List Int) := []
  tries : NMap Nat := []
  void : Bool := false
  deriving DecidableEq, Repr

/-- A symbol on its way through detection (R61, R71, R86): one plane of a row, a replay of one segment of one, or the
column-sum symbol of a bank, whole or one segment of it. -/
inductive Sample where
  | plane (tag p : Nat)
  | replay (tag p seg : Nat)
  | colsum (bankB : Bool)
  | colsumReplay (bankB : Bool) (seg : Nat)
  deriving DecidableEq, Repr

/-- One adaptation log record (R113). -/
structure Adapt where
  oldScale : Nat := 0
  oldZp : Nat := 0
  newScale : Nat := 0
  newZp : Nat := 0
  entry : Nat := 0
  discarded : Bool := false
  clamp : Bool := false
  clips : Nat := 0
  elems : Nat := 0
  time : Nat := 0
  deriving DecidableEq, Repr

/-- What a queue holds on a tile (R261): the number of its last load, the LOAD = 1 EPOCH that named it, and the bank that each pass
of it was loaded into, bank B or not, once loaded. -/
structure Hold where
  queue : Nat
  seq : Nat
  c : Cmd
  lo : Option Bool := none
  hi : Option Bool := none
  deriving DecidableEq, Repr

/-- A calibration run of a tile (R168 to R177): whether its first swap has come, its start, what it latched, restarts for
temperature, the slice under visit, the column under visit or next to be visited in each bank and whether its visit is on, the
probe symbols each segment has received in each visit, whether its results are staged, and whether a run waits for REFIN. -/
structure Cal where
  begun : Bool := false
  start : Nat := 0
  late : Bool := false
  temp : Int := 0
  dt : Nat := 0
  restarts : Nat := 0
  slices : Nat := 0
  colsA : Nat := 0
  colsB : Nat := 0
  onA : Bool := false
  onB : Bool := false
  probes : List Nat := []
  probesA : List Nat := []
  probesB : List Nat := []
  staged : Bool := false
  waitRefin : Bool := false
  deriving DecidableEq, Repr

/-- A widening that is due after a step (R111, R112): the latched entry and the step's counts and extremes, in units of
2^-149. -/
structure Widen where
  entry : Nat
  word : Word
  clips : Nat
  elems : Nat
  lo : Int
  hi : Int
  deriving DecidableEq, Repr

/-- What one share partition saved of a tile (R362): descriptors, static entries with their counts and due widenings, the
adaptation log and the counters by field; the blocks lie in its save area. -/
structure Saved where
  part : Nat
  desc : NMap (Nat × Nat)
  static : NMap Word
  entryClips : NMap Nat
  entryElems : NMap Nat
  widen : List Widen
  alog : NMap Adapt
  alogHead : Nat
  alogWrapped : Nat
  counts : List (Nat × Nat)
  deriving DecidableEq, Repr

/-- A substitution map (R166): the physical row plus 1 of a logical row (by segment × 32 + row), the physical column plus 1 of
a logical column, the physical slice plus 1 (by rate, segment and column), where it is not the element of the same number; the
physical elements marked unusable; the masked data columns, and the masked logical rows by segment (R180); and how many
substitutions, column masks, row masks, marks and slice choices for other rates have been made. -/
structure SpareMap where
  rows : NMap Nat := []
  cols : NMap Nat := []
  slices : NMap Nat := []
  badRows : List Nat := []
  badCols : List Nat := []
  badSlices : List Nat := []
  maskCols : Nat := 0
  maskRows : NMap Nat := []
  nSub : Nat := 0
  nCol : Nat := 0
  nRow : Nat := 0
  nMark : Nat := 0
  nQual : Nat := 0
  deriving DecidableEq, Repr

/-- What a run's results set when they commit (R176 to R178): its failure reason, 0 for a pass, and the rates that pass. -/
structure RunResult where
  reason : Nat
  rates : List Bool
  deriving DecidableEq, Repr

/-- A staged change (R176): its number, the substitution map it makes, and a run's results staged with it. -/
structure Stage where
  num : Nat
  map : SpareMap
  result : Option RunResult := none
  deriving DecidableEq, Repr

/-- An unresolved following error (R179): its ring by bank, physical row and physical column, and the number of the staged
choice. -/
structure SubReq where
  bank : Nat
  row : Nat
  col : Nat
  map : Nat
  deriving DecidableEq, Repr

/-- One photonic tile with its packer, its accumulator control and its calibration. -/
structure Tile where
  bankA : Bank := {}
  bankB : Bank := {}
  images : List Bank := []
  loads : List Load := []
  runs : List Run := []
  held : List Held := []
  waiting : List (Nat × Cmd) := []
  packedRows : List Row := []
  rows : List Row := []
  air : List Sample := []
  /-- Replay requests in the order of their flags (R72), and the flags that wait because 16 requests are outstanding. -/
  replayQ : List Sample := []
  replayWait : List Sample := []
  /-- Recomputations queued, at most 8 (R75), and those that wait for a place. -/
  recompQ : List Sample := []
  recompWait : List Sample := []
  lateFlags : Nat := 0
  nextSeq : Nat := 1
  nextTag : Nat := 1
  epochStart : Nat := 0
  epochActive : Bool := false
  bursts : Nat := 0
  idleSeg : Nat := 0
  colsumSeen : NMap (List Int) := []
  colsumTries : NMap Nat := []
  winChecked : Nat := 0
  winFlagged : Nat := 0
  persist : Nat := 0
  holds : List Hold := []
  released : Bool := false
  lastCmd : Nat := 0
  lastEpochEnd : Nat := 0
  tookAt : Nat := 0
  shared : Bool := false
  entryClips : NMap Nat := []
  entryElems : NMap Nat := []
  widen : List Widen := []
  alog : NMap Adapt := []
  static : NMap Word := []
  desc : NMap (Nat × Nat) := []
  ppbBase : Nat := 0
  ppbBlocks : Nat := 0
  ppbActive : Bool := false
  adding : NMap Nat := []
  rowbuf : Bool := false
  everOn : Bool := false
  debt : Nat := 0
  saved : List Saved := []
  dead : Bool := false
  svcBack : Nat := 2
  /-- The number of the map in force, that of the last staged one, the map in force and the staged changes (R166, R176). -/
  map : Nat := 0
  mapNext : Nat := 0
  subs : SpareMap := {}
  stages : List Stage := []
  reqs : List SubReq := []
  passed : Bool := false
  mapDirty : Bool := false
  cal : Cal := {}
  deriving DecidableEq, Repr

end Sys2Proof.Machine
end

