-- ==== Sys2Proof/Machine/Parts/BootParts.lean ====
section
/-! DEFINITION. What the management island, the flash and the pins hold besides their register fields (spec/15, spec/16,
spec/19). -/
namespace Sys2Proof.Machine

/-- A flash operation in progress (R382): 1 READ, 2 PROGRAM, 3 ERASE_4K, 4 ERASE_64K; its address, its length and the bytes
it programs. -/
structure FlashOp where
  op : Nat
  addr : Nat
  len : Nat
  data : List Byte
  deriving DecidableEq, Repr

/-- What the flash's SFDP table declares (R380): log2 of its size in bytes, the widest mode and the clock in MHz. -/
structure Sfdp where
  log2 : Nat
  mode : Nat
  mhz : Nat
  deriving DecidableEq, Repr

/-- The calibration store (R389), by area: an area that is absent fails its check. Its content cannot be read from the flash,
so it stands here as what it means. `ratio` is the REFIN ratio of the last system calibration (R196, R197). `temps` holds tile, run
temperature and calibration temperature; `lost` holds comb and line of each lost line, and line 64 where one is lost beyond
spares. -/
structure CalStore where
  tables : Bool := false
  maps : NMap (Option SpareMap) := []
  points : NMap (List Nat) := []
  coefs : Option (NMap (Int × Nat)) := none
  ratio : Nat := 100000
  biases : NMap (Option Nat) := []
  temps : List (Nat × Nat × Nat) := []
  lost : List (Nat × Nat) := []
  deriving DecidableEq, Repr

/-- The management island's own state, the flash and the sideband pins. Everything here outlives a module reset; what the
loss of input power takes is said by that command. -/
structure Boot where
  /-- Input power is valid (R463). -/
  power : Bool := true
  /-- MOD_RESET_N and PERST# are recognised low (R376). -/
  modLow : Bool := true
  perstLow : Bool := false
  /-- Which inputs were low in this reset (BT_RESET_LAST). -/
  wasMod : Bool := true
  wasPerst : Bool := false
  /-- The settings bypass is latched (R377). -/
  bypass : Bool := false
  /-- A thermal trip (R423): 0 none, 1 tripped, 2 tripped and a reset input recognised low since. -/
  trip : Nat := 0
  /-- Local time of t = 0 (R375), of entry to WARMUP and to DISCOVER. -/
  t0 : Nat := 0
  warmAt : Nat := 0
  discAt : Nat := 0
  /-- Whether READY or DEGRADED has been entered since this start (R372). -/
  beenReady : Bool := false
  /-- Registers whose settings wait for the journal (R384): field number over 64, and key. -/
  pending : List (Nat × Nat) := []
  /-- Partition 0's newest fabric key waits for the journal. -/
  pendingKey : Bool := false
  /-- KEY_ID and wrapped form of the newest journaled key (R384). -/
  wrapped : Option (Nat × Nat) := none
  /-- FL_NOT_BLANK refusals met in the active journal copy (R386). -/
  skips : Nat := 0
  /-- The flash contents by byte address; an unlisted byte reads 0xFF, as erased. -/
  flash : NMap Byte := []
  /-- The flash's usable SFDP table, if it has one. -/
  sfdp : Option Sfdp := some ⟨26, 2, 100⟩
  /-- The host's flash operation in progress. -/
  op : Option FlashOp := none
  /-- FL_DATA (R399). -/
  flData : NMap Byte := []
  /-- The calibration store. -/
  cal : CalStore := {}
  /-- Local time of the last set-point image written, by tile, and of the retained biases (R157, R213). -/
  pointAt : NMap Nat := []
  biasAt : NMap Nat := []
  /-- The SMBus pointer (R420) and the last answers given, newest last: none is NACK. -/
  smPtr : Nat := 0
  smOut : List (Option Word) := []
  /-- Answers to PCIe configuration requests: whether completed (R373). -/
  cfgOut : List Bool := []
  /-- Reads answered through BAR2, newest last; none is a Completer Abort (R417, R438). -/
  bar2Out : List (Option (List Byte)) := []
  /-- Latest sensor readings in 1/16 °C, which the management island keeps through a reset (R421, R423). -/
  temps : NMap Int := []
  /-- PM_PWR_LIMIT_HIT has been reported in this episode (R422). -/
  hit : Bool := false
  /-- TIMEPPS_OUT pulses started (R342). -/
  ppsOut : List Nat := []
  deriving DecidableEq, Repr

end Sys2Proof.Machine
end

