-- ==== Sys2Proof/Machine/Parts/CoilParts.lean ====
section
/-! DEFINITION. What the context store holds besides its register fields (spec/10). -/
namespace Sys2Proof.Machine

/-- What an admitted operation waits for: nothing, its routine, a migration, the set-up of a replica, a peer's
acknowledgement. -/
inductive CoilWait where
  | run | scan | move | mirror | ack
  deriving DecidableEq, Repr

/-- An operation on a coil (R235, R236): its command, its number in the order of R232, slot, the generation its handle named,
its class, whether it is admitted, what it waits for, and what came of the messages that set up its replica. -/
structure CoilOp where
  c : Cmd
  op : Nat
  slot : Nat
  gen : Nat
  write : Bool
  admitted : Bool
  wait : CoilWait := .run
  told : Option Nat := none
  deriving DecidableEq, Repr

/-- A coil descriptor (R230). `state` is 0 FREE, 1 LIVE, 2 MIGRATING, 3 LOST, 4 RETIRED; `gen` 0 stands for the generation of
start-up. `ext` holds the extent addresses, `xl` the first word of its extent list, `peer` the holder of REMOTE frames, and
`replica` says that those frames are the coil's former replica (R248). `away` holds the clear text of a REMOTE or HOST coil's
ciphertext. -/
structure Coil where
  state : Nat := 0
  ring : Bool := false
  cls : Nat := 0
  ext : List Nat := []
  tier : Nat := 0
  pinned : Bool := false
  mirrored : Bool := false
  degraded : Bool := false
  touched : Bool := false
  policy : Nat := 0
  owner : Nat := 0
  gen : Nat := 0
  nbhd : Nat := 0
  group : Nat := 0
  rsz : Nat := 0
  mirrorPeer : Nat := 0
  head : Nat := 0
  count : Nat := 0
  lastTouch : Nat := 0
  touches : Nat := 0
  xl : Nat := 0
  peer : Nat := 0
  replica : Bool := false
  away : List Byte := []
  deriving DecidableEq, Repr

/-- A chunk in use (R239): its partition, size class, whether it is lent to peers, and its frames in use and waiting to be
zeroed. -/
structure Chunk where
  part : Nat := 0
  cls : Nat := 0
  loan : Bool := false
  used : List Nat := []
  dirty : List Nat := []
  deriving DecidableEq, Repr

/-- Why a coil migrates (R242 to R244). -/
inductive MoveKind where
  | policy | explicit | fault
  deriving DecidableEq, Repr

/-- A migration, queued or copying (R242): coil, target tier and frames, none while no room is taken, the victim slot plus 1
whose move it follows, whether it still seeks a victim, whether it copies, data that came from a peer, and, of a move to REMOTE,
the peer it stores to, the tag of those messages and their outcome. -/
structure Move where
  slot : Nat
  gen : Nat
  kind : MoveKind
  tier : Nat
  dst : List Nat
  after : Nat := 0
  seeking : Bool := false
  started : Bool := false
  buf : List (Nat × List Byte) := []
  peer : Nat := 0
  tag : Nat := 0
  told : Option Nat := none
  deriving DecidableEq, Repr

/-- What the outcome of coil messages decides. -/
inductive TalkKind where
  | ack (c : Cmd) (r0 : Nat)
  | copy (c : Cmd)
  | store
  | fetch
  | alloc (c : Cmd) (tiers : List Nat) (turn : Nat)
  | release
  deriving DecidableEq, Repr

/-- Coil messages in flight to a peer under one tag: their number and the first failure. -/
structure Talk where
  tag : Nat
  peer : Nat
  part : Nat
  slot : Nat
  gen : Nat
  kind : TalkKind
  left : Nat
  bad : Nat := 0
  deriving DecidableEq, Repr

/-- Memory lent to a peer for one of its coils (R247): the frame of each 4 KiB page, plus 1. -/
structure Loan where
  peer : Nat
  handle : Nat
  pages : NMap Nat
  deriving DecidableEq, Repr

/-- The context store. `fresh` is the first slot never allocated since the table was initialised, `freed` the free list behind
it, `turns` the slots taken off the free list so far, and `back` slots of allocations that failed after they had taken their turn,
by that turn, each plus 1: they stand before the rest. `overQuota` holds the quotas lowered below use (R236), `held` commands
that wait for READY, `hand` the place of each neighbourhood's clock sweep, `marks` slots whose mirror peer failed, `cfg` the configuration EN was last set with. -/
structure CoilStore where
  coils : NMap Coil := []
  chunks : NMap Chunk := []
  fresh : Nat := 0
  freed : List Nat := []
  turns : Nat := 0
  back : NMap Nat := []
  overQuota : List Nat := []
  held : List (Nat × Cmd) := []
  moves : List Move := []
  hand : NMap Nat := []
  marks : List Nat := []
  talks : List Talk := []
  nextTag : Nat := 1
  loans : List Loan := []
  cfg : List Nat := []
  deriving DecidableEq, Repr

end Sys2Proof.Machine
end

