-- ==== Sys2Proof/Machine/Parts/FabricParts.lean ====
section
/-! DEFINITION. What the Greuk fabric holds besides its register fields: frames sent, links with their replay buffers, messages
and packets in flight, peers, receive windows and buffers, the coordinator's tables and the time exchanges (spec/13). -/
namespace Sys2Proof.Machine

/-- The Ethernet, IP and UDP fields of a switched-mode frame (R317). -/
structure Encap where
  srcMac : Nat
  dstMac : Nat
  vlan : Option Nat
  v4 : Bool
  srcIp : Nat
  dstIp : Nat
  tclass : Nat
  flow : Nat
  hops : Nat
  srcPort : Nat
  dstPort : Nat
  sum : Nat
  deriving DecidableEq, Repr

/-- What a frame carries: a packet, or a link frame of R315. -/
inductive Wire where
  | packet (p : Packet)
  | llrAck
  | llrNak (seq : Nat)
  | power (entries : List PowerEntry)
  | linkState (up : Bool)
  deriving DecidableEq, Repr

/-- A frame sent: port and lane, its link tag (direct mode) or its encapsulation (switched mode), and when it left. -/
structure Sent where
  port : Nat
  lane : Nat
  lseq : Nat
  ackLseq : Nat
  wire : Wire
  encap : Option Encap
  time : Nat
  deriving DecidableEq, Repr

/-- A frame kept in a replay buffer (R315): its LSEQ, its packet, when it was first sent and how often it has been replayed. -/
structure Replay where
  lseq : Nat
  packet : Packet
  first : Nat
  plays : Nat
  deriving DecidableEq, Repr

/-- One link (R308, R315, R316): a lane in direct mode, a port (its lane 0) in switched mode. `up`, lanes locked, next LSEQ to
send, highest received in order, replay buffer, packets waiting for room, LINK_STATE frames with UP in a row sent and received,
time of the last frame sent, times of uncorrectable frames and whether FX_FEC_HIGH stands, peer as its HELLO told, retuning
(R314): accept stopped, activation time, the assigned channel and peer. -/
structure Link where
  up : Bool := false
  locked : Bool := false
  txSeq : Nat := 0
  rxSeq : Nat := 65535
  replay : List Replay := []
  txq : List Packet := []
  upSent : Nat := 0
  upRcvd : Nat := 0
  lastTx : Nat := 0
  unc : List Nat := []
  fecHigh : Bool := false
  peer : Option Nat := none
  miswired : Bool := false
  stop : Bool := false
  tAct : Option Nat := none
  next : Nat := 0
  nextPeer : Nat := 0
  report : Nat := 0
  deriving DecidableEq, Repr

/-- What the end of a message does: nothing, completes a command, completes a DMA transfer of an engine whose signal it was,
completes a read or an atomic whose answer came, or tells the context store. -/
inductive MsgEnd where
  | none
  | cmd (c : Cmd)
  | dma (c : Cmd) (engine : Nat)
  | read (c : Cmd) (dst : Nat) (len : Nat)
  | atomic (c : Cmd)
  | coil (tag : Nat)
  deriving DecidableEq, Repr

/-- A message being sent (R328, R330): its packets take consecutive PSNs from `base` once the first is sent under `key`.
Each packet carries `chunk` bytes, and word `incAt` of its extension grows by `step` from packet to packet. `next` is the first
packet not yet sent, `acked` the packets acknowledged, `got` the bytes of a read that have come, `bad` the first refusal of its
data at this end, `answer` the word an atomic brought. `reply` marks an answer to a peer's request. -/
structure Msg where
  id : Nat
  peer : Nat
  part : Nat
  queue : Nat
  typ : Nat
  ordered : Bool
  reply : Bool
  fin : MsgEnd
  ext : List Nat
  data : List Byte
  total : Nat
  chunk : Nat := 4096
  incAt : Nat := 0
  step : Nat := 4096
  key : Option FKey := none
  base : Nat := 0
  next : Nat := 0
  acked : Nat := 0
  got : Nat := 0
  bad : Nat := 0
  answer : Option Nat := none
  deriving DecidableEq, Repr

/-- A packet sent and not yet acknowledged (R330, R334, R335): its message and index, connection, PSN, the path last taken with
its links, when its timer started, retransmissions, consecutive BUSY answers, and since when it waits to be sent again. -/
structure Out where
  msg : Nat
  idx : Nat
  peer : Nat
  part : Nat
  psn : Nat
  path : Nat
  links : Nat
  timer : Nat
  retx : Nat := 0
  busy : Nat := 0
  busyAt : Option Nat := none
  waiting : Bool := false
  deriving DecidableEq, Repr

/-- A receive window (R330): its lowest PSN, and those committed or refused at or above it. -/
structure RxWin where
  low : Nat := 0
  seen : List Nat := []
  refused : List Nat := []
  deriving DecidableEq, Repr

/-- One path to a peer (R318, R338): its window and when it last shrank, consecutive timer expiries, and until when it is
skipped. -/
structure Path where
  window : Nat := 262144
  cutAt : Nat := 0
  expiries : Nat := 0
  skipUntil : Nat := 0
  deriving DecidableEq, Repr

/-- A peer (R322, R330): the incarnations it had before, the path last taken, the ACK sequence, next PSN by partition, receive
windows by partition × 256 + KEY_ID, and paths by code. -/
structure Peer where
  former : List Nat := []
  rr : Nat := 0
  ackSeq : Nat := 0
  conns : NMap Nat := []
  wins : NMap RxWin := []
  paths : NMap Path := []
  deriving DecidableEq, Repr

/-- A splice being received (R134, R322): connection, PSN of its first packet, the destination, packets applied and in all, and
whether it began adding at a live patch. -/
structure SpliceRx where
  peer : Nat
  part : Nat
  keyId : Nat
  base : Nat
  tile : Nat
  desc : Nat
  got : Nat
  total : Option Nat
  live : Bool
  deriving DecidableEq, Repr

/-- A module as the membership list names it (R321): serial, incarnation, ports up, parent and depth in the time tree, and
whether it has PPS_IN_EN set. -/
structure Member where
  fnid : Nat
  serial : Nat
  inc : Nat
  ports : Nat
  parent : Nat
  depth : Nat
  pps : Bool
  deriving DecidableEq, Repr

/-- A HELLO heard (R320): serial, FNID if valid, static, ring index, priority, incarnation, the port and channel it came on, and
its SEND_TIME. -/
structure Heard where
  serial : Nat
  fnid : Option Nat
  static : Bool
  ring : Nat
  priority : Nat
  inc : Nat
  port : Nat
  channel : Nat
  time : Nat
  deriving DecidableEq, Repr

/-- One DEMAND entry (R314): reporting module, its peer, KiB queued and KiB sent. -/
structure Demand where
  src : Nat
  peer : Nat
  queued : Nat
  sent : Nat
  deriving DecidableEq, Repr

/-- One demand channel assigned (R314): the pair, port and channel. -/
structure Assign where
  a : Nat
  b : Nat
  port : Nat
  channel : Nat
  deriving DecidableEq, Repr

/-- Discovery and coordination (R319 to R321, R340): the best candidate known and since when, HELLOs heard, the last keepalive,
demand figures and assignments in force, members, bytes sent to each peer in this period, links (port and channel) whose retune
failed since the last report, and the peers reported down with who said so, and failed links that modules reported: module, port and channel. `best` is priority
and serial. -/
structure Coord where
  best : Option (Nat × Nat) := none
  bestFnid : Nat := 0
  since : Nat := 0
  heard : List Heard := []
  lastKeep : Nat := 0
  demands : List Demand := []
  assigns : List Assign := []
  members : List Member := []
  sentTo : NMap Nat := []
  failed : List (Nat × Nat) := []
  down : List (Nat × Nat) := []
  lost : List (Nat × Nat × Nat) := []
  deriving DecidableEq, Repr

/-- The time base (R339 to R342): the last eight exchanges as (delay, offset), t1 of the exchange in flight, consecutive
estimates beyond the bound, what is still to be slewed, cycles since the last slewed one, when the last PPS edge came, and
whether a missing pulse has been reported. -/
structure TimeSync where
  last : List (Int × Int) := []
  t1 : Option Nat := none
  beyond : Nat := 0
  slew : Int := 0
  since : Nat := 0
  edge : Option Nat := none
  missing : Bool := false
  aligned : Bool := false
  deriving DecidableEq, Repr

/-- The default router of a switched port (R317): its address, and its MAC once resolved. -/
structure Gateway where
  router : Option Nat := none
  mac : Option Nat := none
  deriving DecidableEq, Repr

/-- A message of a peer of which some packets have been committed and others are still to come: packets so far, and how many once
the last has come. -/
structure Inbound where
  peer : Nat
  part : Nat
  keyId : Nat
  base : Nat
  got : Nat
  total : Option Nat
  deriving DecidableEq, Repr

/-- The fabric. `rxq` holds, by engine, the size and partition of each committed packet not yet applied; `inbound` the messages
partly received; `told` the outcomes of messages that the
context store has still to be told: tag and status. -/
structure Fabric where
  net : List Sent := []
  links : NMap Link := []
  gateways : NMap Gateway := []
  msgs : List Msg := []
  nextMsg : Nat := 1
  out : List Out := []
  peers : NMap Peer := []
  rxq : NMap (List (Nat × Nat)) := []
  inbound : List Inbound := []
  splices : List SpliceRx := []
  coord : Coord := {}
  time : TimeSync := {}
  told : List (Nat × Nat) := []
  deriving DecidableEq, Repr

end Sys2Proof.Machine
end

