-- ==== Sys2Proof/Machine/Parts/LightParts.lean ====
section
/-! DEFINITION. What the lock engines, heater modulators, leadline units, heater rails and light sources hold besides their
register fields (spec/06, spec/08, spec/09). -/
namespace Sys2Proof.Machine

/-- One ring (R150 to R155, R142): state (0 OFF, 1 ACQUIRE, 2 LOCKED, 3 UNLOCKED), integrator, latest error, demand and
output, first output since its loop started, output at the last strobe, applied code, HELD and LIMITED, whether its alarm is armed, consecutive updates within
E_lock, beyond E_max and held, updates in ACQUIRE since supervision began, and the modulator's state and last output bit. -/
structure Ring where
  state : Nat := 0
  int : Nat := 0
  err : Int := 0
  demand : Nat := 0
  out : Nat := 0
  first : Option Nat := none
  strobed : Nat := 0
  applied : Nat := 0
  held : Bool := false
  limited : Bool := false
  armed : Bool := false
  good : Nat := 0
  beyond : Nat := 0
  heldRun : Nat := 0
  acq : Nat := 0
  e1 : Int := 0
  e2 : Int := 0
  y : Bool := false
  deriving DecidableEq, Repr

/-- One heater group (R144, R148, R149, R151): the ceiling of its last evaluation, the frame event whose conversions that
evaluation used, and the frame event whose strobe takes its outputs. -/
structure HeatGroup where
  ceil : Nat := 0
  conv : Nat := 0
  due : Nat := 0
  deriving DecidableEq, Repr

/-- The rings and legs of one tile. `on`: HEAT_EN is set and the rail closed, so the loops run. `ramp`: frame events of the
ramp of R158 so far. `search`: frame events of the ring search so far. `supervised`: T_acq supervision has begun. `offDue`: the heaters turn off at the next strobe. `clearDue`:
HEAT_EN is cleared at the next frame event (R200). `ditherFrom`: the frame event at which the dither assignments came into
force. `image`: the set-point image in force, one code per ring. `pointDue`: a run has passed since the image was written.
Legs: switches closed, hint comparators spent, legs to be enabled and since when, and the ends of blanking times. -/
structure RingTile where
  rings : NMap Ring := []
  groups : NMap HeatGroup := []
  on : Bool := false
  ramp : Option Nat := none
  supervised : Bool := false
  search : Option Nat := none
  offDue : Bool := false
  clearDue : Bool := false
  ditherFrom : Option Nat := none
  image : List Nat := []
  pointDue : Bool := false
  legOn : Nat := 0
  hintSpent : Nat := 0
  legDue : Nat := 0
  legFrom : Nat := 0
  blank : NMap Nat := []
  deriving DecidableEq, Repr

/-- The heater rail of one quadrant (R200 to R202): when it opened, whether it is rising, and the trips whose 1 µs windows
run: time, tile and leg. -/
structure Rail where
  openAt : Nat := 0
  rising : Bool := false
  trips : List (Nat × Nat × Nat) := []
  deriving DecidableEq, Repr

/-- One injected result (R191): value, class, index, whether valid. -/
structure InjRes where
  value : Int := 0
  cls : Nat := 0
  index : Nat := 0
  valid : Bool := false
  deriving DecidableEq, Repr

/-- An injected trigger: cause (0 software, 1 frame, 2 lock alarm, 3 leg hint), ring and leg (R191). -/
structure InjTrig where
  cause : Nat
  ring : Nat
  leg : Nat
  deriving DecidableEq, Repr

/-- One leadline unit (R188 to R196): its lists, the pass in progress (sets converted of the entry and their readings, whether
the entry is a repeat, whether its pass-start record is still to be written), the number of passes begun, the injection in
progress with the list it runs and its results so far, the pending one, the results of the latest one, triggers raised and not
yet arrived, housekeeping sums and whether this group is newer than QTEMP, the monitor's consecutive readings, the
coefficients in force, by converter, the entry in progress or due, whether a housekeeping group is due, the local times at
which FRAME triggers of the two sequences arrive, and the time of the last TIMER trigger. -/
structure LlUnit where
  list : NMap Nat := []
  injList : NMap Nat := []
  sets : Nat := 0
  buf : List Int := []
  repeating : Bool := false
  startDue : Bool := false
  passes : Nat := 0
  inj : Option InjTrig := none
  injRun : List Nat := []
  injSets : Nat := 0
  injBuf : NMap InjRes := []
  injPending : Option InjTrig := none
  results : NMap InjRes := []
  raised : List InjTrig := []
  temps : Int := 0
  tempsNew : Bool := false
  inside : Nat := 0
  outside : Nat := 0
  ratio : Nat := 100000
  ratioRef : Nat := 100000
  coefs : NMap (Int × Nat) := []
  cur : Nat := 0
  groupDue : Bool := false
  regAt : List Nat := []
  injAt : List Nat := []
  timerAt : Nat := 0
  deriving DecidableEq, Repr

/-- The system calibration in progress (R196): its step, the trial offsets in 1/16 LSB and the trial gains. -/
structure SysCal where
  step : Nat := 0
  offsets : List Int := []
  gains : List Nat := []
  deriving DecidableEq, Repr

/-- One comb source (R210 to R215): latest line powers, which are LOW, consecutive updates at target, at full bias below
target, and of each line below its loss level; the retained bias, whether the loops of its quadrant are held, and whether the
retained bias is to be written. -/
structure Comb where
  powers : List Int := []
  low : Nat := 0
  steady : Nat := 0
  lowRun : Nat := 0
  lost : NMap Nat := []
  bias0 : Option Nat := none
  hold : Bool := false
  biasDue : Bool := false
  rampAt : Nat := 0
  deriving DecidableEq, Repr

/-- One fabric lane's optics (R216 to R221): launch power, bias in 0.1 mA, channel, TUNED, EOL, TX_LOW, blanked, the channel
being tuned to, consecutive updates at full bias; receive power, channel, its four flags, consecutive readings that set and
clear each, and the peer's report. -/
structure LaneOptics where
  txPower : Int := 0
  bias : Nat := 0
  channel : Nat := 0
  tuned : Bool := false
  eol : Bool := false
  txLow : Bool := false
  blanked : Bool := false
  target : Nat := 0
  retuneAt : Nat := 0
  lowRun : Nat := 0
  rxPower : Int := 0
  rxChannel : Nat := 0
  warnLo : Bool := false
  alarmLo : Bool := false
  high : Bool := false
  los : Bool := false
  setRuns : List Nat := [0, 0, 0, 0]
  clearRuns : List Nat := [0, 0, 0, 0]
  peerValid : Bool := false
  peerTx : Int := 0
  peerRx : Int := 0
  peerTuned : Bool := false
  peerLos : Bool := false
  deriving DecidableEq, Repr

end Sys2Proof.Machine
end

