-- ==== Sys2Proof/Machine/Regs.lean ====
section
/-! DEFINITION. Every register field of the module: its block, offset, place, width, access type and reset value, as the
register tables of spec/03 to spec/18 give them, and every PAGE_ERR event bit. -/
namespace Sys2Proof.Machine

/-- The blocks of R13. `LF` is the fabric-laser layout of LS4 to LS7 (R223), `PAGE` the common header of R404. -/
inductive Blk where
  | ID | BT | PM | FL | PA | TM | TR | PF | HI | CS | SY | GT | QM | DM | LS | PT | LK | HM | LL | AC | QS | CC | VE | FX
  | LF | PAGE
  deriving DecidableEq, Repr

/-- The block code of R405 and R268; the two pseudo-blocks take codes of their own. -/
def Blk.code : Blk → Nat
  | .ID => 0 | .BT => 1 | .PM => 2 | .FL => 3 | .PA => 4 | .TM => 5 | .TR => 6 | .PF => 7 | .HI => 8 | .CS => 9
  | .SY => 10 | .GT => 11 | .QM => 12 | .DM => 13 | .LS => 14 | .PT => 15 | .LK => 16 | .HM => 17 | .LL => 18
  | .AC => 19 | .QS => 20 | .CC => 21 | .VE => 22 | .FX => 23 | .LF => 24 | .PAGE => 25

/-- Access types of R407. -/
inductive Acc where
  | ro | rw | rwh | w1c | w1s | wo
  deriving DecidableEq, Repr

/-- Where a field's value after reset comes from (R407). -/
inductive Keep where
  | volatile | retained | factory | fixed
  deriving DecidableEq, Repr

/-- One register field. -/
structure Field where
  blk : Blk
  off : Nat
  lo : Nat
  width : Nat
  acc : Acc
  keep : Keep
  rst : Nat
  deriving DecidableEq, Repr

/-- The field's number: no two fields of the table share it. -/
def Field.id (f : Field) : Nat := (f.blk.code * 4096 + f.off) * 64 + f.lo

/-- One PAGE_ERR bit: the event it reports (R12, R268). -/
structure Event where
  blk : Blk
  bit : Nat
  deriving DecidableEq, Repr

/-- The completion status of an event with a PAGE_ERR bit (R268). -/
def Event.status (e : Event) : Nat := e.blk.code * 256 + e.bit + 1

namespace Reg

/-- PT_CTRL R93. -/
def PT_CTRL_TILE_EN : Field := ⟨.PT, 0x100, 0, 1, .rw, .retained, 0x0⟩
/-- PT_CTRL R93. -/
def PT_CTRL_QRATE : Field := ⟨.PT, 0x100, 1, 2, .rw, .retained, 0x0⟩
/-- PT_CTRL R93. -/
def PT_CTRL_RETURN : Field := ⟨.PT, 0x100, 3, 1, .w1s, .volatile, 0x0⟩
/-- PT_STATUS R93. -/
def PT_STATUS_SVC : Field := ⟨.PT, 0x108, 0, 3, .ro, .volatile, 0x0⟩
/-- PT_STATUS R93. -/
def PT_STATUS_CAL_OK : Field := ⟨.PT, 0x108, 3, 1, .ro, .volatile, 0x0⟩
/-- PT_STATUS R93. -/
def PT_STATUS_ACTIVE_BANK : Field := ⟨.PT, 0x108, 4, 1, .ro, .volatile, 0x0⟩
/-- PT_STATUS R93. -/
def PT_STATUS_IDLE_READY : Field := ⟨.PT, 0x108, 5, 1, .ro, .volatile, 0x0⟩
/-- PT_STATUS R93. -/
def PT_STATUS_I8_PAIR : Field := ⟨.PT, 0x108, 6, 1, .ro, .volatile, 0x0⟩
/-- PT_STATUS R93. -/
def PT_STATUS_QRATE_NOW : Field := ⟨.PT, 0x108, 7, 2, .ro, .volatile, 0x0⟩
/-- PT_SUP_WIN_CHECKED R93. -/
def PT_SUP_WIN_CHECKED : Field := ⟨.PT, 0x110, 0, 64, .ro, .volatile, 0x0⟩
/-- PT_SUP_WIN_FLAGGED R93. -/
def PT_SUP_WIN_FLAGGED : Field := ⟨.PT, 0x118, 0, 64, .ro, .volatile, 0x0⟩
/-- PT_GS_CHECKED R93. -/
def PT_GS_CHECKED : Field := ⟨.PT, 0x120, 0, 64, .rwh, .volatile, 0x0⟩
/-- PT_GS_FLAGGED R93. -/
def PT_GS_FLAGGED : Field := ⟨.PT, 0x128, 0, 64, .rwh, .volatile, 0x0⟩
/-- PT_REPLAYS R93. -/
def PT_REPLAYS : Field := ⟨.PT, 0x130, 0, 64, .rwh, .volatile, 0x0⟩
/-- PT_RECOMPUTES R93. -/
def PT_RECOMPUTES : Field := ⟨.PT, 0x138, 0, 64, .rwh, .volatile, 0x0⟩
/-- PT_OOR R93. -/
def PT_OOR : Field := ⟨.PT, 0x140, 0, 64, .rwh, .volatile, 0x0⟩
/-- PT_NEGZERO R93. -/
def PT_NEGZERO : Field := ⟨.PT, 0x148, 0, 64, .rwh, .volatile, 0x0⟩
/-- PT_LOAD_MISMATCH R93. -/
def PT_LOAD_MISMATCH : Field := ⟨.PT, 0x150, 0, 64, .rwh, .volatile, 0x0⟩
/-- PT_SWAPS R93. -/
def PT_SWAPS : Field := ⟨.PT, 0x158, 0, 64, .rwh, .volatile, 0x0⟩
/-- PT_SLOT_ACT R93. -/
def PT_SLOT_ACT : Field := ⟨.PT, 0x160, 0, 64, .rwh, .volatile, 0x0⟩
/-- PT_SLOT_COLSUM R93. -/
def PT_SLOT_COLSUM : Field := ⟨.PT, 0x168, 0, 64, .rwh, .volatile, 0x0⟩
/-- PT_SLOT_REPLAY R93. -/
def PT_SLOT_REPLAY : Field := ⟨.PT, 0x170, 0, 64, .rwh, .volatile, 0x0⟩
/-- PT_SLOT_REFRESH R93. -/
def PT_SLOT_REFRESH : Field := ⟨.PT, 0x178, 0, 64, .rwh, .volatile, 0x0⟩
/-- PT_SLOT_LOADWAIT R93. -/
def PT_SLOT_LOADWAIT : Field := ⟨.PT, 0x180, 0, 64, .rwh, .volatile, 0x0⟩
/-- PT_SLOT_IDLE R93. -/
def PT_SLOT_IDLE : Field := ⟨.PT, 0x188, 0, 64, .rwh, .volatile, 0x0⟩
/-- PT_LAST_FLAG R93. -/
def PT_LAST_FLAG_SEG : Field := ⟨.PT, 0x190, 0, 3, .ro, .volatile, 0x0⟩
/-- PT_LAST_FLAG R93. -/
def PT_LAST_FLAG_CGRP : Field := ⟨.PT, 0x190, 3, 3, .ro, .volatile, 0x0⟩
/-- PT_LAST_FLAG R93. -/
def PT_LAST_FLAG_PLANE : Field := ⟨.PT, 0x190, 6, 4, .ro, .volatile, 0x0⟩
/-- PT_LAST_FLAG R93. -/
def PT_LAST_FLAG_OOR : Field := ⟨.PT, 0x190, 10, 1, .ro, .volatile, 0x0⟩
/-- PT_LAST_FLAG R93. -/
def PT_LAST_FLAG_LATE : Field := ⟨.PT, 0x190, 11, 1, .ro, .volatile, 0x0⟩
/-- PT_LAST_FLAG R93. -/
def PT_LAST_FLAG_S0 : Field := ⟨.PT, 0x190, 12, 5, .ro, .volatile, 0x0⟩
/-- PT_LAST_FLAG R93. -/
def PT_LAST_FLAG_S1 : Field := ⟨.PT, 0x190, 17, 5, .ro, .volatile, 0x0⟩
/-- PT_LAST_FLAG R93. -/
def PT_LAST_FLAG_TIME : Field := ⟨.PT, 0x190, 22, 42, .ro, .volatile, 0x0⟩
/-- PT_OOS_TIME R93. -/
def PT_OOS_TIME_TIME : Field := ⟨.PT, 0x198, 0, 64, .ro, .volatile, 0x0⟩
/-- QS_CTRL R117. -/
def QS_CTRL_CLIP_THR : Field := ⟨.QS, 0x100, 0, 5, .rw, .retained, 0xc⟩
/-- QS_CTRL R117. -/
def QS_CTRL_ADAPT_EN : Field := ⟨.QS, 0x100, 5, 1, .rw, .retained, 0x1⟩
/-- QS_ROWBUF R117. -/
def QS_ROWBUF_EN : Field := ⟨.QS, 0x108, 0, 1, .rw, .volatile, 0x0⟩
/-- QS_ROWBUF R117. -/
def QS_ROWBUF_BASE : Field := ⟨.QS, 0x108, 12, 14, .rw, .volatile, 0x0⟩
/-- QS_STATUS R117. -/
def QS_STATUS_ALOG_HEAD : Field := ⟨.QS, 0x110, 0, 4, .ro, .volatile, 0x0⟩
/-- QS_STATUS R117. -/
def QS_STATUS_ALOG_WRAPPED : Field := ⟨.QS, 0x110, 4, 1, .ro, .volatile, 0x0⟩
/-- QS_STATUS R117. -/
def QS_STATUS_SRF_BANK_ACTIVE : Field := ⟨.QS, 0x110, 5, 1, .ro, .volatile, 0x0⟩
/-- QS_ROWS_DYN R117. -/
def QS_ROWS_DYN : Field := ⟨.QS, 0x118, 0, 64, .rwh, .volatile, 0x0⟩
/-- QS_ROWS_IMP R117. -/
def QS_ROWS_IMP : Field := ⟨.QS, 0x120, 0, 64, .rwh, .volatile, 0x0⟩
/-- QS_ROWS_STATIC R117. -/
def QS_ROWS_STATIC : Field := ⟨.QS, 0x128, 0, 64, .rwh, .volatile, 0x0⟩
/-- QS_CLIPS R117. -/
def QS_CLIPS : Field := ⟨.QS, 0x130, 0, 64, .rwh, .volatile, 0x0⟩
/-- QS_DYN_CLAMPS R117. -/
def QS_DYN_CLAMPS : Field := ⟨.QS, 0x138, 0, 64, .rwh, .volatile, 0x0⟩
/-- QS_NONFINITE R117. -/
def QS_NONFINITE : Field := ⟨.QS, 0x140, 0, 64, .rwh, .volatile, 0x0⟩
/-- QS_SCALE_CLAMP R117. -/
def QS_SCALE_CLAMP : Field := ⟨.QS, 0x148, 0, 64, .rwh, .volatile, 0x0⟩
/-- QS_ADAPTS R117. -/
def QS_ADAPTS : Field := ⟨.QS, 0x150, 0, 64, .rwh, .volatile, 0x0⟩
/-- QS_SENT_IDX R117. -/
def QS_SENT_IDX_INDEX : Field := ⟨.QS, 0x158, 0, 6, .rw, .volatile, 0x0⟩
/-- QS_SENT_DATA R117. -/
def QS_SENT_DATA : Field := ⟨.QS, 0x160, 0, 64, .rwh, .volatile, 0x0⟩
/-- QS_SENT_CLIPS R117. -/
def QS_SENT_CLIPS : Field := ⟨.QS, 0x168, 0, 64, .ro, .volatile, 0x0⟩
/-- QS_SENT_ELEMS R117. -/
def QS_SENT_ELEMS : Field := ⟨.QS, 0x170, 0, 64, .ro, .volatile, 0x0⟩
/-- QS_SRF_IDX R117. -/
def QS_SRF_IDX_BANK : Field := ⟨.QS, 0x178, 0, 1, .rw, .volatile, 0x0⟩
/-- QS_SRF_IDX R117. -/
def QS_SRF_IDX_COLUMN : Field := ⟨.QS, 0x178, 1, 7, .rw, .volatile, 0x0⟩
/-- QS_SRF_IDX R117. -/
def QS_SRF_IDX_ENTRY : Field := ⟨.QS, 0x178, 8, 3, .rw, .volatile, 0x0⟩
/-- QS_SRF_DATA R117. -/
def QS_SRF_DATA_S16 : Field := ⟨.QS, 0x180, 0, 16, .ro, .volatile, 0x0⟩
/-- QS_CSUM_DATA R117. -/
def QS_CSUM_DATA_CSUM : Field := ⟨.QS, 0x188, 0, 16, .ro, .volatile, 0x0⟩
/-- QS_CSUM_DATA R117. -/
def QS_CSUM_DATA_VALID : Field := ⟨.QS, 0x188, 16, 1, .ro, .volatile, 0x0⟩
/-- QS_ALOG_IDX R117. -/
def QS_ALOG_IDX_RECORD : Field := ⟨.QS, 0x198, 0, 4, .rw, .volatile, 0x0⟩
/-- QS_ALOG_VAL R117. -/
def QS_ALOG_VAL_OLD_SCALE : Field := ⟨.QS, 0x1a0, 0, 16, .ro, .volatile, 0x0⟩
/-- QS_ALOG_VAL R117. -/
def QS_ALOG_VAL_OLD_ZP : Field := ⟨.QS, 0x1a0, 16, 16, .ro, .volatile, 0x0⟩
/-- QS_ALOG_VAL R117. -/
def QS_ALOG_VAL_NEW_SCALE : Field := ⟨.QS, 0x1a0, 32, 16, .ro, .volatile, 0x0⟩
/-- QS_ALOG_VAL R117. -/
def QS_ALOG_VAL_NEW_ZP : Field := ⟨.QS, 0x1a0, 48, 16, .ro, .volatile, 0x0⟩
/-- QS_ALOG_CNT R117. -/
def QS_ALOG_CNT_ENTRY : Field := ⟨.QS, 0x1a8, 0, 6, .ro, .volatile, 0x0⟩
/-- QS_ALOG_CNT R117. -/
def QS_ALOG_CNT_DISCARDED : Field := ⟨.QS, 0x1a8, 6, 1, .ro, .volatile, 0x0⟩
/-- QS_ALOG_CNT R117. -/
def QS_ALOG_CNT_SCALE_CLAMP : Field := ⟨.QS, 0x1a8, 7, 1, .ro, .volatile, 0x0⟩
/-- QS_ALOG_CNT R117. -/
def QS_ALOG_CNT_CLIPS : Field := ⟨.QS, 0x1a8, 32, 32, .ro, .volatile, 0x0⟩
/-- QS_ALOG_TIME R117. -/
def QS_ALOG_TIME : Field := ⟨.QS, 0x1b0, 0, 64, .ro, .volatile, 0x0⟩
/-- AC_CTRL R137. -/
def AC_CTRL_NARROW_ACCEPT : Field := ⟨.AC, 0x100, 0, 1, .rw, .retained, 0x1⟩
/-- AC_STATUS R137. -/
def AC_STATUS_FREE_BLOCKS : Field := ⟨.AC, 0x108, 0, 13, .ro, .volatile, 0x1000⟩
/-- AC_STATUS R137. -/
def AC_STATUS_FREE_DESC : Field := ⟨.AC, 0x108, 13, 8, .ro, .volatile, 0x80⟩
/-- AC_STATUS R137. -/
def AC_STATUS_PPB_BLOCKS : Field := ⟨.AC, 0x108, 21, 13, .ro, .volatile, 0x0⟩
/-- AC_STATUS R137. -/
def AC_STATUS_PPB_ACTIVE : Field := ⟨.AC, 0x108, 34, 1, .ro, .volatile, 0x0⟩
/-- AC_ADDENDS R137. -/
def AC_ADDENDS : Field := ⟨.AC, 0x110, 0, 64, .rwh, .volatile, 0x0⟩
/-- AC_SAT_EVENTS R137. -/
def AC_SAT_EVENTS : Field := ⟨.AC, 0x118, 0, 64, .rwh, .volatile, 0x0⟩
/-- AC_CONV_SAT_EVENTS R137. -/
def AC_CONV_SAT_EVENTS : Field := ⟨.AC, 0x120, 0, 64, .rwh, .volatile, 0x0⟩
/-- AC_SPLICE_LANES R137. -/
def AC_SPLICE_LANES : Field := ⟨.AC, 0x128, 0, 64, .rwh, .volatile, 0x0⟩
/-- AC_NARROW_LANES R137. -/
def AC_NARROW_LANES : Field := ⟨.AC, 0x130, 0, 64, .rwh, .volatile, 0x0⟩
/-- AC_BUSY_REFUSED R137. -/
def AC_BUSY_REFUSED : Field := ⟨.AC, 0x138, 0, 64, .rwh, .volatile, 0x0⟩
/-- AC_RETRIEVALS R137. -/
def AC_RETRIEVALS : Field := ⟨.AC, 0x140, 0, 64, .rwh, .volatile, 0x0⟩
/-- AC_DESC_IDX R137. -/
def AC_DESC_IDX_INDEX : Field := ⟨.AC, 0x148, 0, 7, .rw, .volatile, 0x0⟩
/-- AC_DESC_W0 R137. -/
def AC_DESC_W0 : Field := ⟨.AC, 0x150, 0, 64, .ro, .volatile, 0x0⟩
/-- AC_DESC_W1 R137. -/
def AC_DESC_W1 : Field := ⟨.AC, 0x158, 0, 64, .ro, .volatile, 0x0⟩
/-- LK_CTRL R161. -/
def LK_CTRL_FREEZE : Field := ⟨.LK, 0x100, 0, 1, .rw, .volatile, 0x0⟩
/-- LK_PARAM R161. -/
def LK_PARAM_E_MAX : Field := ⟨.LK, 0x108, 0, 12, .rw, .retained, 0x28⟩
/-- LK_PARAM R161. -/
def LK_PARAM_E_LOCK : Field := ⟨.LK, 0x108, 12, 8, .rw, .retained, 0x8⟩
/-- LK_PARAM R161. -/
def LK_PARAM_T_FE : Field := ⟨.LK, 0x108, 20, 8, .rw, .retained, 0x5⟩
/-- LK_PARAM R161. -/
def LK_PARAM_T_LIM : Field := ⟨.LK, 0x108, 28, 8, .rw, .retained, 0x14⟩
/-- LK_PARAM R161. -/
def LK_PARAM_T_ACQ : Field := ⟨.LK, 0x108, 36, 10, .rw, .retained, 0x12c⟩
/-- LK_GAIN R161. -/
def LK_GAIN_KP : Field := ⟨.LK, 0x110, 0, 16, .rw, .retained, 0x20⟩
/-- LK_GAIN R161. -/
def LK_GAIN_KI : Field := ⟨.LK, 0x110, 16, 16, .rw, .retained, 0x100⟩
/-- LK_STATUS R161. -/
def LK_STATUS_N_LOCKED : Field := ⟨.LK, 0x118, 0, 17, .ro, .volatile, 0x0⟩
/-- LK_STATUS R161. -/
def LK_STATUS_N_ACQUIRE : Field := ⟨.LK, 0x118, 17, 17, .ro, .volatile, 0x0⟩
/-- LK_STATUS R161. -/
def LK_STATUS_N_UNLOCKED : Field := ⟨.LK, 0x118, 34, 17, .ro, .volatile, 0x0⟩
/-- LK_STATUS R161. -/
def LK_STATUS_ALL_LOCKED : Field := ⟨.LK, 0x118, 51, 1, .ro, .volatile, 0x0⟩
/-- LK_STATUS R161. -/
def LK_STATUS_FROZEN : Field := ⟨.LK, 0x118, 52, 1, .ro, .volatile, 0x0⟩
/-- LK_STATUS R161. -/
def LK_STATUS_FF_OK : Field := ⟨.LK, 0x118, 53, 1, .ro, .volatile, 0x0⟩
/-- LK_STATUS R161. -/
def LK_STATUS_SP_OK : Field := ⟨.LK, 0x118, 54, 1, .ro, .volatile, 0x0⟩
/-- LK_UPDATES R161. -/
def LK_UPDATES : Field := ⟨.LK, 0x120, 0, 64, .rwh, .volatile, 0x0⟩
/-- LK_OVERRUNS R161. -/
def LK_OVERRUNS : Field := ⟨.LK, 0x128, 0, 64, .rwh, .volatile, 0x0⟩
/-- LK_FOLLOW_ERRS R161. -/
def LK_FOLLOW_ERRS : Field := ⟨.LK, 0x130, 0, 64, .rwh, .volatile, 0x0⟩
/-- LK_LIMITED_RINGS R161. -/
def LK_LIMITED_RINGS : Field := ⟨.LK, 0x138, 0, 64, .rwh, .volatile, 0x0⟩
/-- LK_RELOCKS R161. -/
def LK_RELOCKS : Field := ⟨.LK, 0x140, 0, 64, .rwh, .volatile, 0x0⟩
/-- LK_HELD_UPDATES R161. -/
def LK_HELD_UPDATES : Field := ⟨.LK, 0x148, 0, 64, .rwh, .volatile, 0x0⟩
/-- LK_RING_IDX R161. -/
def LK_RING_IDX_BANK : Field := ⟨.LK, 0x150, 0, 1, .rw, .volatile, 0x0⟩
/-- LK_RING_IDX R161. -/
def LK_RING_IDX_PROW : Field := ⟨.LK, 0x150, 1, 9, .rw, .volatile, 0x0⟩
/-- LK_RING_IDX R161. -/
def LK_RING_IDX_PCOL : Field := ⟨.LK, 0x150, 10, 8, .rw, .volatile, 0x0⟩
/-- LK_RING_STATE R161. -/
def LK_RING_STATE_STATE : Field := ⟨.LK, 0x158, 0, 2, .ro, .volatile, 0x0⟩
/-- LK_RING_STATE R161. -/
def LK_RING_STATE_LIMITED : Field := ⟨.LK, 0x158, 2, 1, .ro, .volatile, 0x0⟩
/-- LK_RING_STATE R161. -/
def LK_RING_STATE_HELD : Field := ⟨.LK, 0x158, 3, 1, .ro, .volatile, 0x0⟩
/-- LK_RING_STATE R161. -/
def LK_RING_STATE_ERR : Field := ⟨.LK, 0x158, 4, 12, .ro, .volatile, 0x0⟩
/-- LK_RING_STATE R161. -/
def LK_RING_STATE_DEMAND : Field := ⟨.LK, 0x158, 16, 16, .ro, .volatile, 0x0⟩
/-- LK_RING_STATE R161. -/
def LK_RING_STATE_OUT : Field := ⟨.LK, 0x158, 32, 16, .ro, .volatile, 0x0⟩
/-- LK_RING_STATE R161. -/
def LK_RING_STATE_APPLIED : Field := ⟨.LK, 0x158, 48, 16, .ro, .volatile, 0x0⟩
/-- LK_RING_INT R161. -/
def LK_RING_INT_INTEG : Field := ⟨.LK, 0x160, 0, 28, .ro, .volatile, 0x0⟩
/-- LK_LAST_EVENT R161. -/
def LK_LAST_EVENT_BANK : Field := ⟨.LK, 0x168, 0, 1, .ro, .volatile, 0x0⟩
/-- LK_LAST_EVENT R161. -/
def LK_LAST_EVENT_PROW : Field := ⟨.LK, 0x168, 1, 9, .ro, .volatile, 0x0⟩
/-- LK_LAST_EVENT R161. -/
def LK_LAST_EVENT_PCOL : Field := ⟨.LK, 0x168, 10, 8, .ro, .volatile, 0x0⟩
/-- LK_LAST_EVENT R161. -/
def LK_LAST_EVENT_TYPE : Field := ⟨.LK, 0x168, 18, 2, .ro, .volatile, 0x0⟩
/-- LK_LAST_EVENT R161. -/
def LK_LAST_EVENT_TIME : Field := ⟨.LK, 0x168, 20, 44, .ro, .volatile, 0x0⟩
/-- LK_TABLES R161. -/
def LK_TABLES_FF_CRC : Field := ⟨.LK, 0x170, 0, 32, .ro, .volatile, 0x0⟩
/-- LK_TABLES R161. -/
def LK_TABLES_FF_VERSION : Field := ⟨.LK, 0x170, 32, 16, .ro, .volatile, 0x0⟩
/-- LK_TABLES R161. -/
def LK_TABLES_SP_VERSION : Field := ⟨.LK, 0x170, 48, 16, .ro, .volatile, 0x0⟩
/-- HM_CTRL R163. -/
def HM_CTRL_HEAT_EN : Field := ⟨.HM, 0x100, 0, 1, .rw, .volatile, 0x0⟩
/-- HM_CTRL R163. -/
def HM_CTRL_DITHER_EN : Field := ⟨.HM, 0x100, 1, 1, .rw, .retained, 0x1⟩
/-- HM_GRP_LIMIT R163. -/
def HM_GRP_LIMIT_LIMIT : Field := ⟨.HM, 0x108, 0, 20, .rw, .retained, 0x27400⟩
/-- HM_HOT R163. -/
def HM_HOT_HOT_LIMIT : Field := ⟨.HM, 0x110, 0, 8, .rw, .retained, 0x55⟩
/-- HM_HOT R163. -/
def HM_HOT_HYST : Field := ⟨.HM, 0x110, 8, 4, .rw, .retained, 0x2⟩
/-- HM_HOT R163. -/
def HM_HOT_HOT_STEP : Field := ⟨.HM, 0x110, 12, 16, .rw, .retained, 0x100⟩
/-- HM_STATUS R163. -/
def HM_STATUS_TILE_CEIL : Field := ⟨.HM, 0x118, 0, 16, .ro, .volatile, 0xf000⟩
/-- HM_STATUS R163. -/
def HM_STATUS_HOT_ACTIVE : Field := ⟨.HM, 0x118, 16, 1, .ro, .volatile, 0x0⟩
/-- HM_STATUS R163. -/
def HM_STATUS_RAMPING : Field := ⟨.HM, 0x118, 17, 1, .ro, .volatile, 0x0⟩
/-- HM_STATUS R163. -/
def HM_STATUS_RAIL_OPEN : Field := ⟨.HM, 0x118, 18, 1, .ro, .volatile, 0x0⟩
/-- HM_TEMP R163. -/
def HM_TEMP_HOTSPOT : Field := ⟨.HM, 0x120, 0, 16, .ro, .volatile, 0x0⟩
/-- HM_TEMP R163. -/
def HM_TEMP_QTEMP : Field := ⟨.HM, 0x120, 16, 16, .ro, .volatile, 0x0⟩
/-- HM_TEMP R163. -/
def HM_TEMP_CAL_TEMP : Field := ⟨.HM, 0x120, 32, 16, .ro, .retained, 0x0⟩
/-- HM_POWER R163. -/
def HM_POWER_TILE_MW : Field := ⟨.HM, 0x128, 0, 16, .ro, .volatile, 0x0⟩
/-- HM_STROBES R163. -/
def HM_STROBES : Field := ⟨.HM, 0x130, 0, 64, .rwh, .volatile, 0x0⟩
/-- HM_GRP_LIMITED R163. -/
def HM_GRP_LIMITED : Field := ⟨.HM, 0x138, 0, 64, .rwh, .volatile, 0x0⟩
/-- HM_HOT_PERIODS R163. -/
def HM_HOT_PERIODS : Field := ⟨.HM, 0x140, 0, 64, .rwh, .volatile, 0x0⟩
/-- HM_GRP_IDX R163. -/
def HM_GRP_IDX_BANK : Field := ⟨.HM, 0x148, 0, 1, .rw, .volatile, 0x0⟩
/-- HM_GRP_IDX R163. -/
def HM_GRP_IDX_PCOL : Field := ⟨.HM, 0x148, 1, 8, .rw, .volatile, 0x0⟩
/-- HM_GRP_IDX R163. -/
def HM_GRP_IDX_K : Field := ⟨.HM, 0x148, 9, 5, .rw, .volatile, 0x0⟩
/-- HM_DITHER R163. -/
def HM_DITHER_F : Field := ⟨.HM, 0x150, 0, 32, .ro, .volatile, 0x0⟩
/-- HM_DITHER R163. -/
def HM_DITHER_A : Field := ⟨.HM, 0x150, 32, 8, .ro, .volatile, 0x0⟩
/-- HM_DITHER R163. -/
def HM_DITHER_IDX : Field := ⟨.HM, 0x150, 40, 10, .ro, .volatile, 0x0⟩
/-- HM_GRP_POWER R163. -/
def HM_GRP_POWER_SUM : Field := ⟨.HM, 0x158, 0, 20, .ro, .volatile, 0x0⟩
/-- HM_GRP_POWER R163. -/
def HM_GRP_POWER_CEILING : Field := ⟨.HM, 0x158, 20, 20, .ro, .volatile, 0x0⟩
/-- PM_CAL_CTRL R183. -/
def PM_CAL_CTRL_DT_CAL : Field := ⟨.PM, 0x400, 0, 8, .rw, .retained, 0x20⟩
/-- PM_CAL_CTRL R183. -/
def PM_CAL_CTRL_REQ : Field := ⟨.PM, 0x400, 16, 16, .w1s, .volatile, 0x0⟩
/-- PM_CAL_QUAD R183. -/
def PM_CAL_QUAD_Q_PASS0 : Field := ⟨.PM, 0x408, 0, 1, .ro, .volatile, 0x0⟩
/-- PM_CAL_QUAD R183. -/
def PM_CAL_QUAD_Q_PASS1 : Field := ⟨.PM, 0x408, 8, 1, .ro, .volatile, 0x0⟩
/-- PM_CAL_QUAD R183. -/
def PM_CAL_QUAD_Q_PASS2 : Field := ⟨.PM, 0x408, 16, 1, .ro, .volatile, 0x0⟩
/-- PM_CAL_QUAD R183. -/
def PM_CAL_QUAD_Q_PASS3 : Field := ⟨.PM, 0x408, 24, 1, .ro, .volatile, 0x0⟩
/-- PM_CAL_QUAD R183. -/
def PM_CAL_QUAD_Q_RUNNING0 : Field := ⟨.PM, 0x408, 1, 1, .ro, .volatile, 0x0⟩
/-- PM_CAL_QUAD R183. -/
def PM_CAL_QUAD_Q_RUNNING1 : Field := ⟨.PM, 0x408, 9, 1, .ro, .volatile, 0x0⟩
/-- PM_CAL_QUAD R183. -/
def PM_CAL_QUAD_Q_RUNNING2 : Field := ⟨.PM, 0x408, 17, 1, .ro, .volatile, 0x0⟩
/-- PM_CAL_QUAD R183. -/
def PM_CAL_QUAD_Q_RUNNING3 : Field := ⟨.PM, 0x408, 25, 1, .ro, .volatile, 0x0⟩
/-- PM_CAL_QUAD R183. -/
def PM_CAL_QUAD_LINE_LOST0 : Field := ⟨.PM, 0x408, 2, 1, .ro, .retained, 0x0⟩
/-- PM_CAL_QUAD R183. -/
def PM_CAL_QUAD_LINE_LOST1 : Field := ⟨.PM, 0x408, 10, 1, .ro, .retained, 0x0⟩
/-- PM_CAL_QUAD R183. -/
def PM_CAL_QUAD_LINE_LOST2 : Field := ⟨.PM, 0x408, 18, 1, .ro, .retained, 0x0⟩
/-- PM_CAL_QUAD R183. -/
def PM_CAL_QUAD_LINE_LOST3 : Field := ⟨.PM, 0x408, 26, 1, .ro, .retained, 0x0⟩
/-- PM_CAL_IDX R183. -/
def PM_CAL_IDX_TILE : Field := ⟨.PM, 0x410, 0, 4, .rw, .volatile, 0x0⟩
/-- PM_CAL_IDX R183. -/
def PM_CAL_IDX_SEG : Field := ⟨.PM, 0x410, 4, 3, .rw, .volatile, 0x0⟩
/-- PM_CAL_TILE R183. -/
def PM_CAL_TILE_PASS : Field := ⟨.PM, 0x418, 0, 1, .ro, .volatile, 0x0⟩
/-- PM_CAL_TILE R183. -/
def PM_CAL_TILE_PASS_80 : Field := ⟨.PM, 0x418, 1, 1, .ro, .volatile, 0x0⟩
/-- PM_CAL_TILE R183. -/
def PM_CAL_TILE_PASS_60 : Field := ⟨.PM, 0x418, 2, 1, .ro, .volatile, 0x0⟩
/-- PM_CAL_TILE R183. -/
def PM_CAL_TILE_PASS_40 : Field := ⟨.PM, 0x418, 3, 1, .ro, .volatile, 0x0⟩
/-- PM_CAL_TILE R183. -/
def PM_CAL_TILE_RUNNING : Field := ⟨.PM, 0x418, 4, 1, .ro, .volatile, 0x0⟩
/-- PM_CAL_TILE R183. -/
def PM_CAL_TILE_TRIGGER : Field := ⟨.PM, 0x418, 5, 3, .ro, .volatile, 0x0⟩
/-- PM_CAL_TILE R183. -/
def PM_CAL_TILE_FAIL_REASON : Field := ⟨.PM, 0x418, 8, 3, .ro, .volatile, 0x0⟩
/-- PM_CAL_TILE R183. -/
def PM_CAL_TILE_VISITS_DONE : Field := ⟨.PM, 0x418, 11, 9, .ro, .volatile, 0x0⟩
/-- PM_CAL_TILE R183. -/
def PM_CAL_TILE_COL_SUBS : Field := ⟨.PM, 0x418, 20, 2, .ro, .retained, 0x0⟩
/-- PM_CAL_TILE R183. -/
def PM_CAL_TILE_ROW_SUBS : Field := ⟨.PM, 0x418, 22, 5, .ro, .retained, 0x0⟩
/-- PM_CAL_TILE R183. -/
def PM_CAL_TILE_SLICE_SUBS : Field := ⟨.PM, 0x418, 27, 4, .ro, .retained, 0x0⟩
/-- PM_CAL_TILE R183. -/
def PM_CAL_TILE_MASKED_COLS : Field := ⟨.PM, 0x418, 31, 8, .ro, .retained, 0x0⟩
/-- PM_CAL_TILE R183. -/
def PM_CAL_TILE_MASKED_ROWS : Field := ⟨.PM, 0x418, 39, 9, .ro, .retained, 0x0⟩
/-- PM_CAL_TILE R183. -/
def PM_CAL_TILE_CONSEC_FAILS : Field := ⟨.PM, 0x418, 48, 2, .ro, .volatile, 0x0⟩
/-- PM_CAL_ROWMASK R183. -/
def PM_CAL_ROWMASK : Field := ⟨.PM, 0x420, 0, 64, .ro, .retained, 0x0⟩
/-- PM_CAL_COLMASK_LO R183. -/
def PM_CAL_COLMASK_LO : Field := ⟨.PM, 0x428, 0, 64, .ro, .retained, 0x0⟩
/-- PM_CAL_COLMASK_HI R183. -/
def PM_CAL_COLMASK_HI : Field := ⟨.PM, 0x430, 0, 64, .ro, .retained, 0x0⟩
/-- PM_CAL_RUN_TEMP R183. -/
def PM_CAL_RUN_TEMP : Field := ⟨.PM, 0x438, 0, 16, .ro, .retained, 0x0⟩
/-- PM_CAL_PASS_TIME R183. -/
def PM_CAL_PASS_TIME : Field := ⟨.PM, 0x440, 0, 64, .ro, .volatile, 0x0⟩
/-- PM_CAL_END_TIME R183. -/
def PM_CAL_END_TIME : Field := ⟨.PM, 0x448, 0, 64, .ro, .volatile, 0x0⟩
/-- PM_CAL_PASSES R183. -/
def PM_CAL_PASSES : Field := ⟨.PM, 0x450, 0, 64, .rwh, .volatile, 0x0⟩
/-- PM_CAL_FAILS R183. -/
def PM_CAL_FAILS : Field := ⟨.PM, 0x458, 0, 64, .rwh, .volatile, 0x0⟩
/-- PM_CAL_RESTARTS R183. -/
def PM_CAL_RESTARTS : Field := ⟨.PM, 0x460, 0, 64, .rwh, .volatile, 0x0⟩
/-- PM_CAL_COMMITS R183. -/
def PM_CAL_COMMITS : Field := ⟨.PM, 0x468, 0, 64, .rwh, .volatile, 0x0⟩
/-- PM_CAL_PERM R183. -/
def PM_CAL_PERM : Field := ⟨.PM, 0x470, 0, 64, .rwh, .volatile, 0x0⟩
/-- LL_CTRL R205. -/
def LL_CTRL_REG_EN : Field := ⟨.LL, 0x100, 0, 1, .rw, .volatile, 0x0⟩
/-- LL_CTRL R205. -/
def LL_CTRL_REG_TRIG : Field := ⟨.LL, 0x100, 1, 2, .rw, .volatile, 0x0⟩
/-- LL_CTRL R205. -/
def LL_CTRL_INJ_ALARM : Field := ⟨.LL, 0x100, 3, 1, .rw, .retained, 0x1⟩
/-- LL_CTRL R205. -/
def LL_CTRL_INJ_HINT : Field := ⟨.LL, 0x100, 4, 1, .rw, .retained, 0x1⟩
/-- LL_CTRL R205. -/
def LL_CTRL_INJ_FRAME : Field := ⟨.LL, 0x100, 5, 1, .rw, .volatile, 0x0⟩
/-- LL_CTRL R205. -/
def LL_CTRL_REG_GO : Field := ⟨.LL, 0x100, 6, 1, .w1s, .volatile, 0x0⟩
/-- LL_CTRL R205. -/
def LL_CTRL_INJ_GO : Field := ⟨.LL, 0x100, 7, 1, .w1s, .volatile, 0x0⟩
/-- LL_TRIG R205. -/
def LL_TRIG_REG_DELAY : Field := ⟨.LL, 0x108, 0, 16, .rw, .volatile, 0x0⟩
/-- LL_TRIG R205. -/
def LL_TRIG_INJ_DELAY : Field := ⟨.LL, 0x108, 16, 16, .rw, .volatile, 0x0⟩
/-- LL_TRIG R205. -/
def LL_TRIG_FRAME_DIV : Field := ⟨.LL, 0x108, 32, 16, .rw, .volatile, 0x1⟩
/-- LL_TIMER R205. -/
def LL_TIMER_PERIOD : Field := ⟨.LL, 0x110, 0, 32, .rw, .volatile, 0x186a0⟩
/-- LL_LEN R205. -/
def LL_LEN_REG_LEN : Field := ⟨.LL, 0x118, 0, 13, .rw, .volatile, 0x1⟩
/-- LL_LEN R205. -/
def LL_LEN_INJ_LEN : Field := ⟨.LL, 0x118, 16, 5, .rw, .volatile, 0x1⟩
/-- LL_LIST_IDX R205. -/
def LL_LIST_IDX_INDEX : Field := ⟨.LL, 0x120, 0, 12, .rw, .volatile, 0x0⟩
/-- LL_LIST_IDX R205. -/
def LL_LIST_IDX_INJ : Field := ⟨.LL, 0x120, 12, 1, .rw, .volatile, 0x0⟩
/-- LL_LIST_DATA R205. -/
def LL_LIST_DATA_ENTRY : Field := ⟨.LL, 0x128, 0, 32, .rw, .volatile, 0x0⟩
/-- LL_RING_BASE R205. -/
def LL_RING_BASE_BASE : Field := ⟨.LL, 0x130, 12, 36, .rw, .volatile, 0x0⟩
/-- LL_RING_SIZE R205. -/
def LL_RING_SIZE_LOG2 : Field := ⟨.LL, 0x138, 0, 5, .rw, .volatile, 0xc⟩
/-- LL_RING_HEAD R205. -/
def LL_RING_HEAD_RECORD : Field := ⟨.LL, 0x140, 0, 23, .ro, .volatile, 0x0⟩
/-- LL_RING_TAIL R205. -/
def LL_RING_TAIL_RECORD : Field := ⟨.LL, 0x148, 0, 23, .rw, .volatile, 0x0⟩
/-- LL_STATUS R205. -/
def LL_STATUS_REG_STATE : Field := ⟨.LL, 0x150, 0, 2, .ro, .volatile, 0x0⟩
/-- LL_STATUS R205. -/
def LL_STATUS_CUR_ENTRY : Field := ⟨.LL, 0x150, 2, 12, .ro, .volatile, 0x0⟩
/-- LL_STATUS R205. -/
def LL_STATUS_INJ_ACTIVE : Field := ⟨.LL, 0x150, 14, 1, .ro, .volatile, 0x0⟩
/-- LL_STATUS R205. -/
def LL_STATUS_INJ_PENDING : Field := ⟨.LL, 0x150, 15, 1, .ro, .volatile, 0x0⟩
/-- LL_STATUS R205. -/
def LL_STATUS_SYSCAL_BUSY : Field := ⟨.LL, 0x150, 16, 1, .ro, .volatile, 0x0⟩
/-- LL_INJ_CAUSE R205. -/
def LL_INJ_CAUSE_CAUSE : Field := ⟨.LL, 0x158, 0, 2, .ro, .volatile, 0x0⟩
/-- LL_INJ_CAUSE R205. -/
def LL_INJ_CAUSE_RING : Field := ⟨.LL, 0x158, 2, 18, .ro, .volatile, 0x0⟩
/-- LL_INJ_CAUSE R205. -/
def LL_INJ_CAUSE_LEG : Field := ⟨.LL, 0x158, 20, 6, .ro, .volatile, 0x0⟩
/-- LL_INJ_CAUSE R205. -/
def LL_INJ_CAUSE_TIME : Field := ⟨.LL, 0x158, 26, 38, .ro, .volatile, 0x0⟩
/-- LL_PASS_TIME R205. -/
def LL_PASS_TIME : Field := ⟨.LL, 0x160, 0, 64, .ro, .volatile, 0x0⟩
/-- LL_INJ_IDX R205. -/
def LL_INJ_IDX_RESULT : Field := ⟨.LL, 0x168, 0, 7, .rw, .volatile, 0x0⟩
/-- LL_INJ_RES R205. -/
def LL_INJ_RES_VALUE : Field := ⟨.LL, 0x170, 0, 20, .ro, .volatile, 0x0⟩
/-- LL_INJ_RES R205. -/
def LL_INJ_RES_CLASS : Field := ⟨.LL, 0x170, 20, 4, .ro, .volatile, 0x0⟩
/-- LL_INJ_RES R205. -/
def LL_INJ_RES_INDEX : Field := ⟨.LL, 0x170, 24, 18, .ro, .volatile, 0x0⟩
/-- LL_INJ_RES R205. -/
def LL_INJ_RES_VALID : Field := ⟨.LL, 0x170, 42, 1, .ro, .volatile, 0x0⟩
/-- LL_PASSES R205. -/
def LL_PASSES : Field := ⟨.LL, 0x178, 0, 64, .rwh, .volatile, 0x0⟩
/-- LL_SETS R205. -/
def LL_SETS : Field := ⟨.LL, 0x180, 0, 64, .rwh, .volatile, 0x0⟩
/-- LL_INJECTIONS R205. -/
def LL_INJECTIONS : Field := ⟨.LL, 0x188, 0, 64, .rwh, .volatile, 0x0⟩
/-- LL_INJ_MISSED R205. -/
def LL_INJ_MISSED : Field := ⟨.LL, 0x190, 0, 64, .rwh, .volatile, 0x0⟩
/-- LL_REPEATS R205. -/
def LL_REPEATS : Field := ⟨.LL, 0x198, 0, 64, .rwh, .volatile, 0x0⟩
/-- LL_TRIG_MISSED R205. -/
def LL_TRIG_MISSED : Field := ⟨.LL, 0x1a0, 0, 64, .rwh, .volatile, 0x0⟩
/-- LL_SYSCAL R205. -/
def LL_SYSCAL_STEP : Field := ⟨.LL, 0x1a8, 0, 2, .wo, .volatile, 0x0⟩
/-- LL_SYSCAL R205. -/
def LL_SYSCAL_STATE : Field := ⟨.LL, 0x1a8, 2, 2, .ro, .volatile, 0x0⟩
/-- LL_SYSCAL R205. -/
def LL_SYSCAL_LAST_FAIL : Field := ⟨.LL, 0x1a8, 4, 1, .ro, .volatile, 0x0⟩
/-- LL_COEF_IDX R205. -/
def LL_COEF_IDX_CONV : Field := ⟨.LL, 0x1b0, 0, 3, .rw, .volatile, 0x0⟩
/-- LL_COEF_IDX R205. -/
def LL_COEF_IDX_UNIT : Field := ⟨.LL, 0x1b0, 3, 5, .rw, .volatile, 0x0⟩
/-- LL_COEF R205. -/
def LL_COEF_OFFSET : Field := ⟨.LL, 0x1b8, 0, 16, .ro, .retained, 0x0⟩
/-- LL_COEF R205. -/
def LL_COEF_GAIN : Field := ⟨.LL, 0x1b8, 16, 16, .ro, .retained, 0x0⟩
/-- LL_REFIN R205. -/
def LL_REFIN_REFIN : Field := ⟨.LL, 0x1c0, 0, 16, .ro, .volatile, 0x0⟩
/-- LL_REFIN R205. -/
def LL_REFIN_DEV : Field := ⟨.LL, 0x1c0, 16, 16, .ro, .volatile, 0x0⟩
/-- LL_REFIN R205. -/
def LL_REFIN_IN_TOL : Field := ⟨.LL, 0x1c0, 32, 1, .ro, .volatile, 0x0⟩
/-- HM_LEG_CFG R207. -/
def HM_LEG_CFG_SOFT : Field := ⟨.HM, 0x200, 0, 7, .rw, .retained, 0x10⟩
/-- HM_LEG_CFG R207. -/
def HM_LEG_CFG_BLANK : Field := ⟨.HM, 0x200, 8, 6, .rw, .retained, 0x14⟩
/-- HM_LEG_STATE R207. -/
def HM_LEG_STATE : Field := ⟨.HM, 0x208, 0, 64, .ro, .volatile, 0x0⟩
/-- HM_LEG_REARM R207. -/
def HM_LEG_REARM : Field := ⟨.HM, 0x210, 0, 64, .w1s, .volatile, 0x0⟩
/-- HM_LEG_LAST R207. -/
def HM_LEG_LAST_LEG : Field := ⟨.HM, 0x218, 0, 6, .ro, .volatile, 0x0⟩
/-- HM_LEG_LAST R207. -/
def HM_LEG_LAST_HARD : Field := ⟨.HM, 0x218, 6, 1, .ro, .volatile, 0x0⟩
/-- HM_LEG_LAST R207. -/
def HM_LEG_LAST_IN_BLANK : Field := ⟨.HM, 0x218, 7, 1, .ro, .volatile, 0x0⟩
/-- HM_LEG_LAST R207. -/
def HM_LEG_LAST_QUAD : Field := ⟨.HM, 0x218, 8, 1, .ro, .volatile, 0x0⟩
/-- HM_LEG_LAST R207. -/
def HM_LEG_LAST_TIME : Field := ⟨.HM, 0x218, 20, 44, .ro, .volatile, 0x0⟩
/-- HM_RAIL R207. -/
def HM_RAIL_CLOSE : Field := ⟨.HM, 0x220, 0, 1, .w1s, .volatile, 0x0⟩
/-- HM_RAIL R207. -/
def HM_RAIL_RAIL_MV : Field := ⟨.HM, 0x220, 16, 16, .ro, .volatile, 0x0⟩
/-- HM_LEG_HINTS R207. -/
def HM_LEG_HINTS : Field := ⟨.HM, 0x228, 0, 64, .rwh, .volatile, 0x0⟩
/-- HM_LEG_TRIPS R207. -/
def HM_LEG_TRIPS : Field := ⟨.HM, 0x230, 0, 64, .rwh, .volatile, 0x0⟩
/-- HM_QUAD_TRIPS R207. -/
def HM_QUAD_TRIPS : Field := ⟨.HM, 0x238, 0, 64, .rwh, .volatile, 0x0⟩
/-- LS_CTRL R223. -/
def LS_CTRL_EN : Field := ⟨.LS, 0x100, 0, 1, .rw, .volatile, 0x0⟩
/-- LS_CTRL R223. -/
def LS_CTRL_REARM : Field := ⟨.LS, 0x100, 1, 1, .w1s, .volatile, 0x0⟩
/-- LS_TARGET R223. -/
def LS_TARGET_TARGET : Field := ⟨.LS, 0x108, 0, 16, .rw, .retained, 0x4b0⟩
/-- LS_TARGET R223. -/
def LS_TARGET_STEP : Field := ⟨.LS, 0x108, 16, 4, .rw, .retained, 0x1⟩
/-- LS_BIAS R223. -/
def LS_BIAS_BIAS : Field := ⟨.LS, 0x110, 0, 12, .ro, .volatile, 0x0⟩
/-- LS_BIAS R223. -/
def LS_BIAS_BIAS_MAX : Field := ⟨.LS, 0x110, 16, 12, .ro, .factory, 0xbb8⟩
/-- LS_BIAS R223. -/
def LS_BIAS_BIAS_EOL : Field := ⟨.LS, 0x110, 28, 12, .ro, .factory, 0xa8c⟩
/-- LS_STATUS R223. -/
def LS_STATUS_ON : Field := ⟨.LS, 0x118, 0, 1, .ro, .volatile, 0x0⟩
/-- LS_STATUS R223. -/
def LS_STATUS_RAMPING : Field := ⟨.LS, 0x118, 1, 1, .ro, .volatile, 0x0⟩
/-- LS_STATUS R223. -/
def LS_STATUS_AT_TARGET : Field := ⟨.LS, 0x118, 2, 1, .ro, .volatile, 0x0⟩
/-- LS_STATUS R223. -/
def LS_STATUS_EOL : Field := ⟨.LS, 0x118, 3, 1, .ro, .volatile, 0x0⟩
/-- LS_STATUS R223. -/
def LS_STATUS_POWER_LOW : Field := ⟨.LS, 0x118, 4, 1, .ro, .volatile, 0x0⟩
/-- LS_STATUS R223. -/
def LS_STATUS_DRV_TRIPPED : Field := ⟨.LS, 0x118, 5, 1, .ro, .volatile, 0x0⟩
/-- LS_STATUS R223. -/
def LS_STATUS_LOST : Field := ⟨.LS, 0x118, 6, 34, .ro, .retained, 0x0⟩
/-- LS_MEAN R223. -/
def LS_MEAN_MEAN : Field := ⟨.LS, 0x120, 0, 16, .ro, .volatile, 0x0⟩
/-- LS_MEAN R223. -/
def LS_MEAN_ERR : Field := ⟨.LS, 0x120, 16, 16, .ro, .volatile, 0x0⟩
/-- LS_LINE_IDX R223. -/
def LS_LINE_IDX_LINE : Field := ⟨.LS, 0x128, 0, 6, .rw, .volatile, 0x0⟩
/-- LS_LINE R223. -/
def LS_LINE_POWER : Field := ⟨.LS, 0x130, 0, 16, .ro, .volatile, 0x0⟩
/-- LS_LINE R223. -/
def LS_LINE_IN_USE : Field := ⟨.LS, 0x130, 16, 1, .ro, .volatile, 0x0⟩
/-- LS_LINE R223. -/
def LS_LINE_LOW : Field := ⟨.LS, 0x130, 17, 1, .ro, .volatile, 0x0⟩
/-- LS_LINE R223. -/
def LS_LINE_LOST : Field := ⟨.LS, 0x130, 18, 1, .ro, .volatile, 0x0⟩
/-- LS_UPDATES R223. -/
def LS_UPDATES : Field := ⟨.LS, 0x138, 0, 64, .rwh, .volatile, 0x0⟩
/-- LS_STEPS_UP R223. -/
def LS_STEPS_UP : Field := ⟨.LS, 0x140, 0, 64, .rwh, .volatile, 0x0⟩
/-- LS_DRV_TRIPS R223. -/
def LS_DRV_TRIPS : Field := ⟨.LS, 0x148, 0, 64, .rwh, .volatile, 0x0⟩
/-- LS_EOL_TIME R223. -/
def LS_EOL_TIME : Field := ⟨.LS, 0x150, 0, 64, .ro, .volatile, 0x0⟩
/-- LS_TX_TARGET R223. -/
def LF_TX_TARGET_TX_TARGET : Field := ⟨.LF, 0x108, 0, 16, .rw, .retained, 0x12c⟩
/-- LS_TX_TARGET R223. -/
def LF_TX_TARGET_STEP : Field := ⟨.LF, 0x108, 16, 4, .rw, .retained, 0x2⟩
/-- LS_RX_THR R223. -/
def LF_RX_THR_WARN_LO : Field := ⟨.LF, 0x110, 0, 16, .rw, .retained, 0xfed4⟩
/-- LS_RX_THR R223. -/
def LF_RX_THR_ALARM_LO : Field := ⟨.LF, 0x110, 16, 16, .rw, .retained, 0xfe0c⟩
/-- LS_RX_THR R223. -/
def LF_RX_THR_HIGH : Field := ⟨.LF, 0x110, 32, 16, .rw, .retained, 0x1c2⟩
/-- LS_STATUS R223. -/
def LF_STATUS_ON : Field := ⟨.LF, 0x118, 0, 1, .ro, .volatile, 0x0⟩
/-- LS_STATUS R223. -/
def LF_STATUS_DRV_TRIPPED : Field := ⟨.LF, 0x118, 1, 1, .ro, .volatile, 0x0⟩
/-- LS_STATUS R223. -/
def LF_STATUS_ANY_EOL : Field := ⟨.LF, 0x118, 2, 1, .ro, .volatile, 0x0⟩
/-- LS_STATUS R223. -/
def LF_STATUS_ANY_ALARM : Field := ⟨.LF, 0x118, 3, 1, .ro, .volatile, 0x0⟩
/-- LS_LANE_IDX R223. -/
def LF_LANE_IDX_LANE : Field := ⟨.LF, 0x120, 0, 3, .rw, .volatile, 0x0⟩
/-- LS_LANE_IDX R223. -/
def LF_LANE_IDX_PORT : Field := ⟨.LF, 0x120, 3, 3, .rw, .volatile, 0x0⟩
/-- LS_LANE_TX R223. -/
def LF_LANE_TX_TX_POWER : Field := ⟨.LF, 0x128, 0, 16, .ro, .volatile, 0x0⟩
/-- LS_LANE_TX R223. -/
def LF_LANE_TX_BIAS : Field := ⟨.LF, 0x128, 16, 11, .ro, .volatile, 0x0⟩
/-- LS_LANE_TX R223. -/
def LF_LANE_TX_CHANNEL : Field := ⟨.LF, 0x128, 27, 4, .ro, .volatile, 0x0⟩
/-- LS_LANE_TX R223. -/
def LF_LANE_TX_TUNED : Field := ⟨.LF, 0x128, 31, 1, .ro, .volatile, 0x0⟩
/-- LS_LANE_TX R223. -/
def LF_LANE_TX_EOL : Field := ⟨.LF, 0x128, 32, 1, .ro, .volatile, 0x0⟩
/-- LS_LANE_TX R223. -/
def LF_LANE_TX_TX_LOW : Field := ⟨.LF, 0x128, 33, 1, .ro, .volatile, 0x0⟩
/-- LS_LANE_RX R223. -/
def LF_LANE_RX_RX_POWER : Field := ⟨.LF, 0x130, 0, 16, .ro, .volatile, 0x0⟩
/-- LS_LANE_RX R223. -/
def LF_LANE_RX_RX_CHANNEL : Field := ⟨.LF, 0x130, 16, 4, .ro, .volatile, 0x0⟩
/-- LS_LANE_RX R223. -/
def LF_LANE_RX_WARN_LO : Field := ⟨.LF, 0x130, 20, 1, .ro, .volatile, 0x0⟩
/-- LS_LANE_RX R223. -/
def LF_LANE_RX_ALARM_LO : Field := ⟨.LF, 0x130, 21, 1, .ro, .volatile, 0x0⟩
/-- LS_LANE_RX R223. -/
def LF_LANE_RX_HIGH : Field := ⟨.LF, 0x130, 22, 1, .ro, .volatile, 0x0⟩
/-- LS_LANE_RX R223. -/
def LF_LANE_RX_LOS : Field := ⟨.LF, 0x130, 23, 1, .ro, .volatile, 0x0⟩
/-- LS_LANE_RX R223. -/
def LF_LANE_RX_PEER_VALID : Field := ⟨.LF, 0x130, 24, 1, .ro, .volatile, 0x0⟩
/-- LS_LANE_RX R223. -/
def LF_LANE_RX_PEER_TX : Field := ⟨.LF, 0x130, 32, 16, .ro, .volatile, 0x0⟩
/-- LS_LANE_RX R223. -/
def LF_LANE_RX_PEER_RX : Field := ⟨.LF, 0x130, 48, 16, .ro, .volatile, 0x0⟩
/-- LS_RETUNES R223. -/
def LF_RETUNES : Field := ⟨.LF, 0x138, 0, 64, .rwh, .volatile, 0x0⟩
/-- LS_RX_EVENTS R223. -/
def LF_RX_EVENTS : Field := ⟨.LF, 0x140, 0, 64, .rwh, .volatile, 0x0⟩
/-- LS_DRV_TRIPS R223. -/
def LF_DRV_TRIPS : Field := ⟨.LF, 0x148, 0, 64, .rwh, .volatile, 0x0⟩
/-- CS_CTRL R249. -/
def CS_CTRL_EN : Field := ⟨.CS, 0x100, 0, 1, .rw, .volatile, 0x0⟩
/-- CS_CTRL R249. -/
def CS_CTRL_MIG_SHARE : Field := ⟨.CS, 0x100, 1, 6, .rw, .retained, 0x4⟩
/-- CS_CTRL R249. -/
def CS_CTRL_MIG_EN : Field := ⟨.CS, 0x100, 7, 1, .rw, .retained, 0x1⟩
/-- CS_TABLE R249. -/
def CS_TABLE_LOG2_SLOTS : Field := ⟨.CS, 0x108, 0, 5, .rw, .retained, 0x14⟩
/-- CS_TABLE0 R249. -/
def CS_TABLE0_BASE : Field := ⟨.CS, 0x110, 16, 32, .rw, .retained, 0x0⟩
/-- CS_TABLE1 R249. -/
def CS_TABLE1_BASE : Field := ⟨.CS, 0x118, 16, 32, .rw, .retained, 0x0⟩
/-- CS_STATUS R249. -/
def CS_STATUS_READY : Field := ⟨.CS, 0x120, 0, 1, .ro, .volatile, 0x0⟩
/-- CS_STATUS R249. -/
def CS_STATUS_TABLE_SINGLE : Field := ⟨.CS, 0x120, 1, 1, .ro, .volatile, 0x0⟩
/-- CS_STATUS R249. -/
def CS_STATUS_LOST_STACKS : Field := ⟨.CS, 0x120, 2, 8, .ro, .volatile, 0x0⟩
/-- CS_STATUS R249. -/
def CS_STATUS_MLOG_HEAD : Field := ⟨.CS, 0x120, 10, 5, .ro, .volatile, 0x0⟩
/-- CS_STATUS R249. -/
def CS_STATUS_MLOG_WRAPPED : Field := ⟨.CS, 0x120, 15, 1, .ro, .volatile, 0x0⟩
/-- CS_STATUS R249. -/
def CS_STATUS_LOST_LPDDR : Field := ⟨.CS, 0x120, 16, 32, .ro, .volatile, 0x0⟩
/-- CS_POOL_IDX R249. -/
def CS_POOL_IDX_NBHD : Field := ⟨.CS, 0x128, 0, 3, .rw, .volatile, 0x0⟩
/-- CS_POOL_IDX R249. -/
def CS_POOL_IDX_TIER : Field := ⟨.CS, 0x128, 3, 1, .rw, .volatile, 0x0⟩
/-- CS_POOL R249. -/
def CS_POOL_POOL_CHUNKS : Field := ⟨.CS, 0x130, 0, 12, .rw, .retained, 0x0⟩
/-- CS_POOL R249. -/
def CS_POOL_FREE_CHUNKS : Field := ⟨.CS, 0x130, 12, 12, .ro, .volatile, 0x0⟩
/-- CS_POOL R249. -/
def CS_POOL_FREE_MIB : Field := ⟨.CS, 0x130, 24, 18, .ro, .volatile, 0x0⟩
/-- CS_PART_IDX R249. -/
def CS_PART_IDX_PARTITION : Field := ⟨.CS, 0x138, 0, 6, .rw, .volatile, 0x0⟩
/-- CS_PART_QUOTA R249. -/
def CS_PART_QUOTA_HBM : Field := ⟨.CS, 0x140, 0, 16, .rw, .retained, 0x0⟩
/-- CS_PART_QUOTA R249. -/
def CS_PART_QUOTA_LPDDR : Field := ⟨.CS, 0x140, 16, 16, .rw, .retained, 0x0⟩
/-- CS_PART_QUOTA R249. -/
def CS_PART_QUOTA_LOAN : Field := ⟨.CS, 0x140, 32, 16, .rw, .retained, 0x0⟩
/-- CS_PART_USE R249. -/
def CS_PART_USE_HBM : Field := ⟨.CS, 0x148, 0, 16, .ro, .volatile, 0x0⟩
/-- CS_PART_USE R249. -/
def CS_PART_USE_LPDDR : Field := ⟨.CS, 0x148, 16, 16, .ro, .volatile, 0x0⟩
/-- CS_PART_USE R249. -/
def CS_PART_USE_LOAN : Field := ⟨.CS, 0x148, 32, 16, .ro, .volatile, 0x0⟩
/-- CS_PART_SLOTS R249. -/
def CS_PART_SLOTS_SLOT_QUOTA : Field := ⟨.CS, 0x150, 0, 32, .rw, .retained, 0x0⟩
/-- CS_PART_SLOTS R249. -/
def CS_PART_SLOTS_LIVE : Field := ⟨.CS, 0x150, 32, 32, .ro, .volatile, 0x0⟩
/-- CS_PART_SPILL R249. -/
def CS_PART_SPILL_HOST_EN : Field := ⟨.CS, 0x158, 0, 1, .rw, .retained, 0x0⟩
/-- CS_PART_SPILL R249. -/
def CS_PART_SPILL_REMOTE_EN : Field := ⟨.CS, 0x158, 1, 1, .rw, .retained, 0x0⟩
/-- CS_PART_SPILL R249. -/
def CS_PART_SPILL_SPILL_FNID : Field := ⟨.CS, 0x158, 16, 16, .rw, .retained, 0x0⟩
/-- CS_PART_SPILL R249. -/
def CS_PART_SPILL_HOST_CHUNKS : Field := ⟨.CS, 0x158, 32, 32, .rw, .retained, 0x0⟩
/-- CS_PART_HOSTBASE R249. -/
def CS_PART_HOSTBASE_BASE : Field := ⟨.CS, 0x160, 12, 52, .rw, .retained, 0x0⟩
/-- CS_PART_STALE R249. -/
def CS_PART_STALE : Field := ⟨.CS, 0x168, 0, 64, .rwh, .volatile, 0x0⟩
/-- CS_PART_NOTOWNER R249. -/
def CS_PART_NOTOWNER : Field := ⟨.CS, 0x170, 0, 64, .rwh, .volatile, 0x0⟩
/-- CS_PART_LOST R249. -/
def CS_PART_LOST : Field := ⟨.CS, 0x178, 0, 64, .rwh, .volatile, 0x0⟩
/-- CS_MLOG_IDX R249. -/
def CS_MLOG_IDX_RECORD : Field := ⟨.CS, 0x180, 0, 5, .rw, .volatile, 0x0⟩
/-- CS_MLOG_HANDLE R249. -/
def CS_MLOG_HANDLE : Field := ⟨.CS, 0x188, 0, 64, .ro, .volatile, 0x0⟩
/-- CS_MLOG_INFO R249. -/
def CS_MLOG_INFO_PARTITION : Field := ⟨.CS, 0x190, 0, 6, .ro, .volatile, 0x0⟩
/-- CS_MLOG_INFO R249. -/
def CS_MLOG_INFO_QUEUE : Field := ⟨.CS, 0x190, 6, 16, .ro, .volatile, 0x0⟩
/-- CS_MLOG_INFO R249. -/
def CS_MLOG_INFO_OP : Field := ⟨.CS, 0x190, 22, 4, .ro, .volatile, 0x0⟩
/-- CS_MLOG_INFO R249. -/
def CS_MLOG_INFO_CAUSE : Field := ⟨.CS, 0x190, 26, 1, .ro, .volatile, 0x0⟩
/-- CS_MLOG_TIME R249. -/
def CS_MLOG_TIME : Field := ⟨.CS, 0x198, 0, 64, .ro, .volatile, 0x0⟩
/-- CS_DESC_IDX R249. -/
def CS_DESC_IDX_SLOT : Field := ⟨.CS, 0x1a0, 0, 32, .rw, .volatile, 0x0⟩
/-- CS_DESC_IDX R249. -/
def CS_DESC_IDX_WORD : Field := ⟨.CS, 0x1a0, 32, 3, .rw, .volatile, 0x0⟩
/-- CS_DESC_DATA R249. -/
def CS_DESC_DATA : Field := ⟨.CS, 0x1a8, 0, 64, .ro, .volatile, 0x0⟩
/-- CS_POL_IDX R249. -/
def CS_POL_IDX_PARTITION : Field := ⟨.CS, 0x1b0, 0, 6, .rw, .volatile, 0x0⟩
/-- CS_POL_IDX R249. -/
def CS_POL_IDX_ENTRY : Field := ⟨.CS, 0x1b0, 6, 4, .rw, .volatile, 0x0⟩
/-- CS_POL_DATA R249. -/
def CS_POL_DATA : Field := ⟨.CS, 0x1b8, 0, 64, .ro, .factory, 0x7d03215⟩
/-- CS_ALLOCS R249. -/
def CS_ALLOCS : Field := ⟨.CS, 0x1c0, 0, 64, .rwh, .volatile, 0x0⟩
/-- CS_FREES R249. -/
def CS_FREES : Field := ⟨.CS, 0x1c8, 0, 64, .rwh, .volatile, 0x0⟩
/-- CS_APPENDS R249. -/
def CS_APPENDS : Field := ⟨.CS, 0x1d0, 0, 64, .rwh, .volatile, 0x0⟩
/-- CS_PROMOTIONS R249. -/
def CS_PROMOTIONS : Field := ⟨.CS, 0x1d8, 0, 64, .rwh, .volatile, 0x0⟩
/-- CS_DEMOTIONS R249. -/
def CS_DEMOTIONS : Field := ⟨.CS, 0x1e0, 0, 64, .rwh, .volatile, 0x0⟩
/-- CS_FAULT_INS R249. -/
def CS_FAULT_INS : Field := ⟨.CS, 0x1e8, 0, 64, .rwh, .volatile, 0x0⟩
/-- CS_MIG_ABORTS R249. -/
def CS_MIG_ABORTS : Field := ⟨.CS, 0x1f0, 0, 64, .rwh, .volatile, 0x0⟩
/-- CS_MIRROR_WRITES R249. -/
def CS_MIRROR_WRITES : Field := ⟨.CS, 0x1f8, 0, 64, .rwh, .volatile, 0x0⟩
/-- CS_PROMO_NOROOM R249. -/
def CS_PROMO_NOROOM : Field := ⟨.CS, 0x200, 0, 64, .rwh, .volatile, 0x0⟩
/-- CS_RETIRED_SLOTS R249. -/
def CS_RETIRED_SLOTS : Field := ⟨.CS, 0x208, 0, 64, .rwh, .volatile, 0x0⟩
/-- QM_CTRL R278. -/
def QM_CTRL_EN : Field := ⟨.QM, 0x100, 0, 1, .rw, .volatile, 0x0⟩
/-- QM_CTRL R278. -/
def QM_CTRL_IDLE_REL : Field := ⟨.QM, 0x100, 8, 8, .rw, .retained, 0xa⟩
/-- QM_ARB R278. -/
def QM_ARB_W_INT : Field := ⟨.QM, 0x108, 0, 8, .rw, .retained, 0x8⟩
/-- QM_ARB R278. -/
def QM_ARB_W_BULK : Field := ⟨.QM, 0x108, 8, 8, .rw, .retained, 0x3⟩
/-- QM_ARB R278. -/
def QM_ARB_W_BG : Field := ⟨.QM, 0x108, 16, 8, .rw, .retained, 0x1⟩
/-- QM_STATUS R278. -/
def QM_STATUS_SLOTS_USED : Field := ⟨.QM, 0x110, 0, 13, .ro, .volatile, 0x0⟩
/-- QM_STATUS R278. -/
def QM_STATUS_URG_USED : Field := ⟨.QM, 0x110, 13, 9, .ro, .volatile, 0x0⟩
/-- QM_STATUS R278. -/
def QM_STATUS_QUEUES_ACTIVE : Field := ⟨.QM, 0x110, 22, 17, .ro, .volatile, 0x0⟩
/-- QM_TILE_PREEMPT R278. -/
def QM_TILE_PREEMPT_BITS : Field := ⟨.QM, 0x118, 0, 16, .rw, .retained, 0x0⟩
/-- QM_EPOCH_CAP R278. -/
def QM_EPOCH_CAP_CAP_NS : Field := ⟨.QM, 0x120, 0, 16, .rw, .retained, 0x780⟩
/-- QM_Q_IDX R278. -/
def QM_Q_IDX_QUEUE : Field := ⟨.QM, 0x128, 0, 16, .rw, .volatile, 0x0⟩
/-- QM_Q_SQ R278. -/
def QM_Q_SQ_LOC : Field := ⟨.QM, 0x130, 0, 1, .rw, .volatile, 0x0⟩
/-- QM_Q_SQ R278. -/
def QM_Q_SQ_BASE : Field := ⟨.QM, 0x130, 12, 52, .rw, .volatile, 0x0⟩
/-- QM_Q_CQ R278. -/
def QM_Q_CQ_LOC : Field := ⟨.QM, 0x138, 0, 1, .rw, .volatile, 0x0⟩
/-- QM_Q_CQ R278. -/
def QM_Q_CQ_BASE : Field := ⟨.QM, 0x138, 12, 52, .rw, .volatile, 0x0⟩
/-- QM_Q_CFG R278. -/
def QM_Q_CFG_SQ_LOG2 : Field := ⟨.QM, 0x140, 0, 5, .rw, .volatile, 0x0⟩
/-- QM_Q_CFG R278. -/
def QM_Q_CFG_CQ_LOG2 : Field := ⟨.QM, 0x140, 5, 5, .rw, .volatile, 0x0⟩
/-- QM_Q_CFG R278. -/
def QM_Q_CFG_CLASS : Field := ⟨.QM, 0x140, 10, 2, .rw, .volatile, 0x0⟩
/-- QM_Q_CFG R278. -/
def QM_Q_CFG_WEIGHT : Field := ⟨.QM, 0x140, 12, 8, .rw, .volatile, 0x0⟩
/-- QM_Q_CFG R278. -/
def QM_Q_CFG_PARTITION : Field := ⟨.QM, 0x140, 20, 6, .rw, .volatile, 0x0⟩
/-- QM_Q_CFG R278. -/
def QM_Q_CFG_GROUP : Field := ⟨.QM, 0x140, 26, 8, .rw, .volatile, 0x0⟩
/-- QM_Q_CFG R278. -/
def QM_Q_CFG_DRV_MAJOR : Field := ⟨.QM, 0x140, 34, 8, .rw, .volatile, 0x0⟩
/-- QM_Q_CFG R278. -/
def QM_Q_CFG_DRV_MINOR : Field := ⟨.QM, 0x140, 42, 8, .rw, .volatile, 0x0⟩
/-- QM_Q_CFG R278. -/
def QM_Q_CFG_VECTOR : Field := ⟨.QM, 0x140, 50, 11, .rw, .volatile, 0x0⟩
/-- QM_Q_IRQ R278. -/
def QM_Q_IRQ_COAL_COUNT : Field := ⟨.QM, 0x148, 0, 8, .rw, .volatile, 0x0⟩
/-- QM_Q_IRQ R278. -/
def QM_Q_IRQ_COAL_US : Field := ⟨.QM, 0x148, 8, 16, .rw, .volatile, 0x0⟩
/-- QM_Q_CMD R278. -/
def QM_Q_CMD_OP : Field := ⟨.QM, 0x150, 0, 2, .wo, .volatile, 0x0⟩
/-- QM_Q_STATE R278. -/
def QM_Q_STATE_STATE : Field := ⟨.QM, 0x158, 0, 3, .ro, .volatile, 0x0⟩
/-- QM_Q_STATE R278. -/
def QM_Q_STATE_UNTESTED : Field := ⟨.QM, 0x158, 3, 1, .ro, .volatile, 0x0⟩
/-- QM_Q_STATE R278. -/
def QM_Q_STATE_INFLIGHT : Field := ⟨.QM, 0x158, 4, 7, .ro, .volatile, 0x0⟩
/-- QM_Q_STATE R278. -/
def QM_Q_STATE_SQ_HEAD : Field := ⟨.QM, 0x158, 11, 16, .ro, .volatile, 0x0⟩
/-- QM_Q_STATE R278. -/
def QM_Q_STATE_CQ_TAIL : Field := ⟨.QM, 0x158, 27, 16, .ro, .volatile, 0x0⟩
/-- QM_Q_STATE R278. -/
def QM_Q_STATE_CQ_PHASE : Field := ⟨.QM, 0x158, 43, 1, .ro, .volatile, 0x0⟩
/-- QM_Q_BOUND_NS R278. -/
def QM_Q_BOUND_NS : Field := ⟨.QM, 0x160, 0, 64, .rwh, .volatile, 0x0⟩
/-- QM_FETCHED R278. -/
def QM_FETCHED : Field := ⟨.QM, 0x168, 0, 64, .rwh, .volatile, 0x0⟩
/-- QM_COMPLETED R278. -/
def QM_COMPLETED : Field := ⟨.QM, 0x170, 0, 64, .rwh, .volatile, 0x0⟩
/-- QM_BOUND_SLOTS_NS R278. -/
def QM_BOUND_SLOTS_NS : Field := ⟨.QM, 0x178, 0, 64, .rwh, .volatile, 0x0⟩
/-- QM_BOUND_URG_NS R278. -/
def QM_BOUND_URG_NS : Field := ⟨.QM, 0x180, 0, 64, .rwh, .volatile, 0x0⟩
/-- QM_BOUND_XPORT_NS R278. -/
def QM_BOUND_XPORT_NS : Field := ⟨.QM, 0x188, 0, 64, .rwh, .volatile, 0x0⟩
/-- QM_BOUND_PEER_NS R278. -/
def QM_BOUND_PEER_NS : Field := ⟨.QM, 0x190, 0, 64, .rwh, .volatile, 0x0⟩
/-- QM_BOUND_CQ_NS R278. -/
def QM_BOUND_CQ_NS : Field := ⟨.QM, 0x198, 0, 64, .rwh, .volatile, 0x0⟩
/-- QM_MEM_IDX R278. -/
def QM_MEM_IDX : Field := ⟨.QM, 0x1a0, 0, 4, .rw, .volatile, 0x0⟩
/-- QM_BOUND_MEM_NS R278. -/
def QM_BOUND_MEM_NS : Field := ⟨.QM, 0x1a8, 0, 64, .rwh, .volatile, 0x0⟩
/-- QM_PREEMPTIONS R278. -/
def QM_PREEMPTIONS : Field := ⟨.QM, 0x1b0, 0, 64, .rwh, .volatile, 0x0⟩
/-- QM_DB_IGNORED R278. -/
def QM_DB_IGNORED : Field := ⟨.QM, 0x1b8, 0, 64, .rwh, .volatile, 0x0⟩
/-- QM_DB_FOREIGN R278. -/
def QM_DB_FOREIGN : Field := ⟨.QM, 0x1c0, 0, 64, .rwh, .volatile, 0x0⟩
/-- DM_CTRL R280. -/
def DM_CTRL_EN : Field := ⟨.DM, 0x100, 0, 1, .rw, .volatile, 0x0⟩
/-- DM_STATUS R280. -/
def DM_STATUS_ACTIVE : Field := ⟨.DM, 0x108, 0, 7, .ro, .volatile, 0x0⟩
/-- DM_STATUS R280. -/
def DM_STATUS_BUSY : Field := ⟨.DM, 0x108, 7, 1, .ro, .volatile, 0x0⟩
/-- DM_BYTES R280. -/
def DM_BYTES : Field := ⟨.DM, 0x110, 0, 64, .rwh, .volatile, 0x0⟩
/-- DM_XFERS R280. -/
def DM_XFERS : Field := ⟨.DM, 0x118, 0, 64, .rwh, .volatile, 0x0⟩
/-- DM_ERRORS R280. -/
def DM_ERRORS : Field := ⟨.DM, 0x120, 0, 64, .rwh, .volatile, 0x0⟩
/-- DM_LAST_ERR R280. -/
def DM_LAST_ERR_ADDR : Field := ⟨.DM, 0x128, 0, 48, .ro, .volatile, 0x0⟩
/-- DM_LAST_ERR R280. -/
def DM_LAST_ERR_PART : Field := ⟨.DM, 0x128, 48, 6, .ro, .volatile, 0x0⟩
/-- SY_CTRL R306. -/
def SY_CTRL_DL_EN : Field := ⟨.SY, 0x100, 0, 1, .rw, .retained, 0x1⟩
/-- SY_CTRL R306. -/
def SY_CTRL_DL_ACTION : Field := ⟨.SY, 0x100, 1, 1, .rw, .retained, 0x1⟩
/-- SY_CTRL R306. -/
def SY_CTRL_DL_TIME : Field := ⟨.SY, 0x100, 2, 10, .rw, .retained, 0x32⟩
/-- SY_PART_IDX R306. -/
def SY_PART_IDX_PARTITION : Field := ⟨.SY, 0x108, 0, 6, .rw, .volatile, 0x0⟩
/-- SY_PART_TMO R306. -/
def SY_PART_TMO_DEFAULT : Field := ⟨.SY, 0x110, 0, 32, .rw, .retained, 0x186a0⟩
/-- SY_PART_STATE R306. -/
def SY_PART_STATE_BLOCKED : Field := ⟨.SY, 0x118, 0, 17, .ro, .volatile, 0x0⟩
/-- SY_PART_STATE R306. -/
def SY_PART_STATE_STALLED : Field := ⟨.SY, 0x118, 17, 1, .ro, .volatile, 0x0⟩
/-- SY_PART_STATE R306. -/
def SY_PART_STATE_STALLED_US : Field := ⟨.SY, 0x118, 18, 20, .ro, .volatile, 0x0⟩
/-- SY_PART_UNDERFLOWS R306. -/
def SY_PART_UNDERFLOWS : Field := ⟨.SY, 0x120, 0, 64, .rwh, .volatile, 0x0⟩
/-- SY_PART_TIMEOUTS R306. -/
def SY_PART_TIMEOUTS : Field := ⟨.SY, 0x128, 0, 64, .rwh, .volatile, 0x0⟩
/-- SY_PART_DEADLOCKS R306. -/
def SY_PART_DEADLOCKS : Field := ⟨.SY, 0x130, 0, 64, .rwh, .volatile, 0x0⟩
/-- SY_KNOT_IDX R306. -/
def SY_KNOT_IDX_KNOT : Field := ⟨.SY, 0x138, 0, 13, .rw, .volatile, 0x0⟩
/-- SY_KNOT_VAL R306. -/
def SY_KNOT_VAL_VALUE : Field := ⟨.SY, 0x140, 0, 32, .rwh, .volatile, 0x0⟩
/-- SY_KNOT_CFG R306. -/
def SY_KNOT_CFG_EXTERNAL : Field := ⟨.SY, 0x148, 0, 1, .rw, .volatile, 0x0⟩
/-- SY_KNOT_CFG R306. -/
def SY_KNOT_CFG_HIGH : Field := ⟨.SY, 0x148, 1, 1, .ro, .volatile, 0x0⟩
/-- SY_KNOT_CFG R306. -/
def SY_KNOT_CFG_OWNER : Field := ⟨.SY, 0x148, 2, 6, .ro, .volatile, 0x0⟩
/-- SY_KNOT_CFG R306. -/
def SY_KNOT_CFG_NWAIT : Field := ⟨.SY, 0x148, 8, 13, .ro, .volatile, 0x0⟩
/-- SY_KNOT_WIDX R306. -/
def SY_KNOT_WIDX_WAITER : Field := ⟨.SY, 0x150, 0, 4, .rw, .volatile, 0x0⟩
/-- SY_KNOT_WAITER R306. -/
def SY_KNOT_WAITER : Field := ⟨.SY, 0x158, 0, 64, .ro, .volatile, 0x0⟩
/-- SY_KNOT_LAST R306. -/
def SY_KNOT_LAST_AGENT : Field := ⟨.SY, 0x160, 0, 19, .ro, .volatile, 0x0⟩
/-- SY_KNOT_LAST R306. -/
def SY_KNOT_LAST_PARTITION : Field := ⟨.SY, 0x160, 19, 6, .ro, .volatile, 0x0⟩
/-- SY_KNOT_LAST R306. -/
def SY_KNOT_LAST_FNID : Field := ⟨.SY, 0x160, 25, 16, .ro, .volatile, 0x0⟩
/-- SY_KNOT_LTIME R306. -/
def SY_KNOT_LTIME : Field := ⟨.SY, 0x168, 0, 64, .ro, .volatile, 0x0⟩
/-- SY_FE_ADDR R306. -/
def SY_FE_ADDR_WORD : Field := ⟨.SY, 0x170, 3, 45, .rw, .volatile, 0x0⟩
/-- SY_FE_STATE R306. -/
def SY_FE_STATE_FULL : Field := ⟨.SY, 0x178, 0, 1, .ro, .volatile, 0x0⟩
/-- SY_FE_STATE R306. -/
def SY_FE_STATE_NWAIT : Field := ⟨.SY, 0x178, 1, 8, .ro, .volatile, 0x0⟩
/-- SY_FE_WAITER R306. -/
def SY_FE_WAITER : Field := ⟨.SY, 0x180, 0, 64, .ro, .volatile, 0x0⟩
/-- SY_EV_IDX R306. -/
def SY_EV_IDX_RECORD : Field := ⟨.SY, 0x188, 0, 4, .rw, .volatile, 0x0⟩
/-- SY_EV_HDR R306. -/
def SY_EV_HDR_TYPE : Field := ⟨.SY, 0x190, 0, 3, .ro, .volatile, 0x0⟩
/-- SY_EV_HDR R306. -/
def SY_EV_HDR_PARTITION : Field := ⟨.SY, 0x190, 3, 6, .ro, .volatile, 0x0⟩
/-- SY_EV_HDR R306. -/
def SY_EV_HDR_COUNT : Field := ⟨.SY, 0x190, 9, 17, .ro, .volatile, 0x0⟩
/-- SY_EV_HDR R306. -/
def SY_EV_HDR_FAILED : Field := ⟨.SY, 0x190, 26, 1, .ro, .volatile, 0x0⟩
/-- SY_EV_OBJ R306. -/
def SY_EV_OBJ_KIND : Field := ⟨.SY, 0x198, 0, 2, .ro, .volatile, 0x0⟩
/-- SY_EV_OBJ R306. -/
def SY_EV_OBJ_OBJECT : Field := ⟨.SY, 0x198, 16, 48, .ro, .volatile, 0x0⟩
/-- SY_EV_AGENT R306. -/
def SY_EV_AGENT : Field := ⟨.SY, 0x1a0, 0, 64, .ro, .volatile, 0x0⟩
/-- SY_EV_AGENT2 R306. -/
def SY_EV_AGENT2 : Field := ⟨.SY, 0x1a8, 0, 64, .ro, .volatile, 0x0⟩
/-- SY_EV_TIME R306. -/
def SY_EV_TIME : Field := ⟨.SY, 0x1b0, 0, 64, .ro, .volatile, 0x0⟩
/-- SY_DL_IDX R306. -/
def SY_DL_IDX_ENTRY : Field := ⟨.SY, 0x1b8, 0, 6, .rw, .volatile, 0x0⟩
/-- SY_DL_QUEUE R306. -/
def SY_DL_QUEUE_QUEUE : Field := ⟨.SY, 0x1c0, 0, 16, .ro, .volatile, 0x0⟩
/-- SY_DL_QUEUE R306. -/
def SY_DL_QUEUE_HEAD : Field := ⟨.SY, 0x1c0, 16, 1, .ro, .volatile, 0x0⟩
/-- SY_RESUME R306. -/
def SY_RESUME_QUEUE : Field := ⟨.SY, 0x1c8, 0, 16, .wo, .volatile, 0x0⟩
/-- SY_RESUME R306. -/
def SY_RESUME_OP : Field := ⟨.SY, 0x1c8, 16, 2, .wo, .volatile, 0x0⟩
/-- SY_STATUS R306. -/
def SY_STATUS_EV_HEAD : Field := ⟨.SY, 0x1d0, 0, 4, .ro, .volatile, 0x0⟩
/-- SY_STATUS R306. -/
def SY_STATUS_EV_WRAPPED : Field := ⟨.SY, 0x1d0, 4, 1, .ro, .volatile, 0x0⟩
/-- SY_SIGNALS R306. -/
def SY_SIGNALS : Field := ⟨.SY, 0x1d8, 0, 64, .rwh, .volatile, 0x0⟩
/-- SY_WAITS R306. -/
def SY_WAITS : Field := ⟨.SY, 0x1e0, 0, 64, .rwh, .volatile, 0x0⟩
/-- SY_FE_WAITS R306. -/
def SY_FE_WAITS : Field := ⟨.SY, 0x1e8, 0, 64, .rwh, .volatile, 0x0⟩
/-- FX_CTRL R343. -/
def FX_CTRL_EN : Field := ⟨.FX, 0x100, 0, 1, .rw, .volatile, 0x0⟩
/-- FX_CTRL R343. -/
def FX_CTRL_MODE : Field := ⟨.FX, 0x100, 1, 2, .rw, .retained, 0x0⟩
/-- FX_CTRL R343. -/
def FX_CTRL_FOLD : Field := ⟨.FX, 0x100, 3, 9, .rw, .retained, 0x200⟩
/-- FX_STATUS R343. -/
def FX_STATUS_UP : Field := ⟨.FX, 0x108, 0, 8, .ro, .volatile, 0x0⟩
/-- FX_STATUS R343. -/
def FX_STATUS_ANCHOR : Field := ⟨.FX, 0x108, 8, 8, .ro, .volatile, 0x0⟩
/-- FX_STATUS R343. -/
def FX_STATUS_RETUNING : Field := ⟨.FX, 0x108, 16, 8, .ro, .volatile, 0x0⟩
/-- FX_LANE_IDX R343. -/
def FX_LANE_IDX_LANE : Field := ⟨.FX, 0x110, 0, 3, .rw, .volatile, 0x0⟩
/-- FX_LANE R343. -/
def FX_LANE_CHANNEL : Field := ⟨.FX, 0x118, 0, 4, .ro, .volatile, 0x0⟩
/-- FX_LANE R343. -/
def FX_LANE_PEER : Field := ⟨.FX, 0x118, 4, 16, .ro, .volatile, 0x0⟩
/-- FX_LANE R343. -/
def FX_LANE_PEER_VALID : Field := ⟨.FX, 0x118, 20, 1, .ro, .volatile, 0x0⟩
/-- FX_LANE R343. -/
def FX_LANE_UP : Field := ⟨.FX, 0x118, 21, 1, .ro, .volatile, 0x0⟩
/-- FX_LANE R343. -/
def FX_LANE_ANCHOR : Field := ⟨.FX, 0x118, 22, 1, .ro, .volatile, 0x0⟩
/-- FX_LANE R343. -/
def FX_LANE_LLR_KIB : Field := ⟨.FX, 0x118, 23, 6, .ro, .volatile, 0x0⟩
/-- FX_FRAMES_TX R343. -/
def FX_FRAMES_TX : Field := ⟨.FX, 0x120, 0, 64, .rwh, .volatile, 0x0⟩
/-- FX_FRAMES_RX R343. -/
def FX_FRAMES_RX : Field := ⟨.FX, 0x128, 0, 64, .rwh, .volatile, 0x0⟩
/-- FX_FEC_CORR R343. -/
def FX_FEC_CORR : Field := ⟨.FX, 0x130, 0, 64, .rwh, .volatile, 0x0⟩
/-- FX_FEC_UNCORR R343. -/
def FX_FEC_UNCORR : Field := ⟨.FX, 0x138, 0, 64, .rwh, .volatile, 0x0⟩
/-- FX_LLR_REPLAYS R343. -/
def FX_LLR_REPLAYS : Field := ⟨.FX, 0x140, 0, 64, .rwh, .volatile, 0x0⟩
/-- FX_LINK_DOWNS R343. -/
def FX_LINK_DOWNS : Field := ⟨.FX, 0x148, 0, 64, .rwh, .volatile, 0x0⟩
/-- FX_CE_MARKED R343. -/
def FX_CE_MARKED : Field := ⟨.FX, 0x150, 0, 64, .rwh, .volatile, 0x0⟩
/-- FX_CTRL_DISCARDED R343. -/
def FX_CTRL_DISCARDED : Field := ⟨.FX, 0x158, 0, 64, .rwh, .volatile, 0x0⟩
/-- GT_CTRL R345. -/
def GT_CTRL_EN : Field := ⟨.GT, 0x100, 0, 1, .rw, .volatile, 0x0⟩
/-- GT_CTRL R345. -/
def GT_CTRL_MODE : Field := ⟨.GT, 0x100, 1, 1, .rw, .retained, 0x0⟩
/-- GT_CTRL R345. -/
def GT_CTRL_IPV4 : Field := ⟨.GT, 0x100, 2, 1, .rw, .retained, 0x0⟩
/-- GT_CTRL R345. -/
def GT_CTRL_STATIC_ROUTES : Field := ⟨.GT, 0x100, 3, 1, .rw, .retained, 0x0⟩
/-- GT_CTRL R345. -/
def GT_CTRL_VLAN_EN : Field := ⟨.GT, 0x100, 4, 1, .rw, .retained, 0x0⟩
/-- GT_CTRL R345. -/
def GT_CTRL_VID : Field := ⟨.GT, 0x100, 5, 12, .rw, .retained, 0x0⟩
/-- GT_CTRL R345. -/
def GT_CTRL_PCP : Field := ⟨.GT, 0x100, 17, 3, .rw, .retained, 0x0⟩
/-- GT_CTRL R345. -/
def GT_CTRL_DSCP : Field := ⟨.GT, 0x100, 20, 6, .rw, .retained, 0x0⟩
/-- GT_CTRL R345. -/
def GT_CTRL_UDP_PORT : Field := ⟨.GT, 0x100, 26, 16, .rw, .retained, 0xca6c⟩
/-- GT_NODE R345. -/
def GT_NODE_FNID : Field := ⟨.GT, 0x108, 0, 16, .rw, .retained, 0x0⟩
/-- GT_NODE R345. -/
def GT_NODE_STATIC : Field := ⟨.GT, 0x108, 16, 1, .rw, .retained, 0x0⟩
/-- GT_NODE R345. -/
def GT_NODE_VALID : Field := ⟨.GT, 0x108, 17, 1, .ro, .retained, 0x0⟩
/-- GT_NODE R345. -/
def GT_NODE_RING_INDEX : Field := ⟨.GT, 0x108, 18, 9, .rw, .retained, 0x0⟩
/-- GT_NODE R345. -/
def GT_NODE_RING_N : Field := ⟨.GT, 0x108, 27, 10, .rw, .retained, 0x0⟩
/-- GT_NODE R345. -/
def GT_NODE_PRIORITY : Field := ⟨.GT, 0x108, 37, 8, .rw, .retained, 0x0⟩
/-- GT_NODE R345. -/
def GT_NODE_NCAND : Field := ⟨.GT, 0x108, 45, 3, .rw, .retained, 0x0⟩
/-- GT_COORD R345. -/
def GT_COORD_COORD : Field := ⟨.GT, 0x110, 0, 16, .ro, .volatile, 0x0⟩
/-- GT_COORD R345. -/
def GT_COORD_COORD_VALID : Field := ⟨.GT, 0x110, 16, 1, .ro, .volatile, 0x0⟩
/-- GT_COORD R345. -/
def GT_COORD_IS_COORD : Field := ⟨.GT, 0x110, 17, 1, .ro, .volatile, 0x0⟩
/-- GT_CAND R345. -/
def GT_CAND : Field := ⟨.GT, 0x118, 0, 64, .rw, .retained, 0x0⟩
/-- GT_PREFIX R345. -/
def GT_PREFIX : Field := ⟨.GT, 0x120, 0, 64, .rw, .retained, 0x0⟩
/-- GT_V4 R345. -/
def GT_V4_BASE : Field := ⟨.GT, 0x128, 0, 32, .rw, .retained, 0x0⟩
/-- GT_V4 R345. -/
def GT_V4_GATEWAY : Field := ⟨.GT, 0x128, 32, 32, .rw, .retained, 0x0⟩
/-- GT_TIMING R345. -/
def GT_TIMING_ACK_TMO : Field := ⟨.GT, 0x130, 0, 8, .rw, .retained, 0x18⟩
/-- GT_TIMING R345. -/
def GT_TIMING_PATH_MAX : Field := ⟨.GT, 0x130, 8, 6, .rw, .retained, 0x4⟩
/-- GT_TIMING R345. -/
def GT_TIMING_RETX : Field := ⟨.GT, 0x130, 14, 3, .rw, .retained, 0x7⟩
/-- GT_TIMING R345. -/
def GT_TIMING_CHAN_PERIOD : Field := ⟨.GT, 0x130, 17, 10, .rw, .retained, 0xa⟩
/-- GT_IDX R345. -/
def GT_IDX_FNID : Field := ⟨.GT, 0x138, 0, 16, .rw, .volatile, 0x0⟩
/-- GT_ROUTE R345. -/
def GT_ROUTE : Field := ⟨.GT, 0x140, 0, 45, .rw, .volatile, 0x0⟩
/-- GT_PEER R345. -/
def GT_PEER_STATE : Field := ⟨.GT, 0x148, 0, 2, .ro, .volatile, 0x0⟩
/-- GT_PEER R345. -/
def GT_PEER_INCARNATION : Field := ⟨.GT, 0x148, 2, 16, .ro, .volatile, 0x0⟩
/-- GT_PEER R345. -/
def GT_PEER_OUTSTANDING : Field := ⟨.GT, 0x148, 18, 11, .ro, .volatile, 0x0⟩
/-- GT_RXBUF R345. -/
def GT_RXBUF_KIB : Field := ⟨.GT, 0x150, 0, 16, .ro, .volatile, 0x0⟩
/-- GT_PKTS_TX R345. -/
def GT_PKTS_TX : Field := ⟨.GT, 0x158, 0, 64, .rwh, .volatile, 0x0⟩
/-- GT_PKTS_RX R345. -/
def GT_PKTS_RX : Field := ⟨.GT, 0x160, 0, 64, .rwh, .volatile, 0x0⟩
/-- GT_RETX R345. -/
def GT_RETX : Field := ⟨.GT, 0x168, 0, 64, .rwh, .volatile, 0x0⟩
/-- GT_HANDOFFS R345. -/
def GT_HANDOFFS : Field := ⟨.GT, 0x170, 0, 64, .rwh, .volatile, 0x0⟩
/-- GT_DUPS R345. -/
def GT_DUPS : Field := ⟨.GT, 0x178, 0, 64, .rwh, .volatile, 0x0⟩
/-- GT_BUSY_SENT R345. -/
def GT_BUSY_SENT : Field := ⟨.GT, 0x180, 0, 64, .rwh, .volatile, 0x0⟩
/-- GT_BUSY_RCVD R345. -/
def GT_BUSY_RCVD : Field := ⟨.GT, 0x188, 0, 64, .rwh, .volatile, 0x0⟩
/-- GT_ECE R345. -/
def GT_ECE : Field := ⟨.GT, 0x190, 0, 64, .rwh, .volatile, 0x0⟩
/-- GT_RELAYED R345. -/
def GT_RELAYED : Field := ⟨.GT, 0x198, 0, 64, .rwh, .volatile, 0x0⟩
/-- GT_AUTH_FAILS R345. -/
def GT_AUTH_FAILS : Field := ⟨.GT, 0x1a0, 0, 64, .rwh, .volatile, 0x0⟩
/-- TM_NOW R347. -/
def TM_NOW : Field := ⟨.TM, 0x100, 0, 64, .ro, .volatile, 0x0⟩
/-- TM_CTRL R347. -/
def TM_CTRL_PPS_IN_EN : Field := ⟨.TM, 0x108, 0, 1, .rw, .retained, 0x0⟩
/-- TM_CTRL R347. -/
def TM_CTRL_PPS_OUT_EN : Field := ⟨.TM, 0x108, 1, 1, .rw, .retained, 0x1⟩
/-- TM_CTRL R347. -/
def TM_CTRL_MASTER : Field := ⟨.TM, 0x108, 2, 1, .ro, .volatile, 0x0⟩
/-- TM_CTRL R347. -/
def TM_CTRL_LOCKED : Field := ⟨.TM, 0x108, 3, 1, .ro, .volatile, 0x0⟩
/-- TM_CTRL R347. -/
def TM_CTRL_PPS_ACTIVE : Field := ⟨.TM, 0x108, 4, 1, .ro, .volatile, 0x0⟩
/-- TM_PPS_SEC R347. -/
def TM_PPS_SEC_SECONDS : Field := ⟨.TM, 0x110, 0, 48, .rw, .volatile, 0x0⟩
/-- TM_PPS_LAST R347. -/
def TM_PPS_LAST : Field := ⟨.TM, 0x118, 0, 64, .ro, .volatile, 0x0⟩
/-- TM_OFFSET R347. -/
def TM_OFFSET_OFFSET : Field := ⟨.TM, 0x120, 0, 32, .ro, .volatile, 0x0⟩
/-- TM_OFFSET R347. -/
def TM_OFFSET_DELAY : Field := ⟨.TM, 0x120, 32, 32, .ro, .volatile, 0x0⟩
/-- TM_PARENT R347. -/
def TM_PARENT_FNID : Field := ⟨.TM, 0x128, 0, 16, .ro, .volatile, 0x0⟩
/-- TM_PARENT R347. -/
def TM_PARENT_DEPTH : Field := ⟨.TM, 0x128, 16, 3, .ro, .volatile, 0x0⟩
/-- TM_EXCHANGES R347. -/
def TM_EXCHANGES : Field := ⟨.TM, 0x130, 0, 64, .rwh, .volatile, 0x0⟩
/-- TM_SLEW_CYCLES R347. -/
def TM_SLEW_CYCLES : Field := ⟨.TM, 0x138, 0, 64, .rwh, .volatile, 0x0⟩
/-- PA_STATUS R369. -/
def PA_STATUS : Field := ⟨.PA, 0x100, 0, 64, .ro, .volatile, 0x1⟩
/-- PA_PART_IDX R369. -/
def PA_PART_IDX_PARTITION : Field := ⟨.PA, 0x108, 0, 6, .rw, .volatile, 0x0⟩
/-- PA_PART_CFG R369. -/
def PA_PART_CFG_STATE : Field := ⟨.PA, 0x110, 0, 2, .ro, .volatile, 0x0⟩
/-- PA_PART_CFG R369. -/
def PA_PART_CFG_KEY_CUR : Field := ⟨.PA, 0x110, 8, 8, .ro, .volatile, 0x0⟩
/-- PA_PART_CFG R369. -/
def PA_PART_CFG_KEY_PREV : Field := ⟨.PA, 0x110, 16, 8, .ro, .volatile, 0x0⟩
/-- PA_PART_CFG R369. -/
def PA_PART_CFG_CUR_VALID : Field := ⟨.PA, 0x110, 24, 1, .ro, .volatile, 0x0⟩
/-- PA_PART_CFG R369. -/
def PA_PART_CFG_PREV_VALID : Field := ⟨.PA, 0x110, 25, 1, .ro, .volatile, 0x0⟩
/-- PA_PART_CMD R369. -/
def PA_PART_CMD_OP : Field := ⟨.PA, 0x118, 0, 2, .wo, .volatile, 0x0⟩
/-- PA_SAVE_BASE R369. -/
def PA_SAVE_BASE_BASE : Field := ⟨.PA, 0x120, 12, 36, .rw, .volatile, 0x0⟩
/-- PA_FKEY_IDX R369. -/
def PA_FKEY_IDX_KEY_ID : Field := ⟨.PA, 0x128, 0, 8, .rw, .volatile, 0x0⟩
/-- PA_FKEY_IDX R369. -/
def PA_FKEY_IDX_WORD : Field := ⟨.PA, 0x128, 8, 2, .rw, .volatile, 0x0⟩
/-- PA_FKEY_DATA R369. -/
def PA_FKEY_DATA : Field := ⟨.PA, 0x130, 0, 64, .wo, .volatile, 0x0⟩
/-- PA_FOREIGN R369. -/
def PA_FOREIGN : Field := ⟨.PA, 0x138, 0, 64, .rwh, .volatile, 0x0⟩
/-- PA_MEM_IDX R369. -/
def PA_MEM_IDX_GRANULE : Field := ⟨.PA, 0x140, 0, 15, .rw, .volatile, 0x0⟩
/-- PA_MEM_OWNER R369. -/
def PA_MEM_OWNER_OWNER : Field := ⟨.PA, 0x148, 0, 6, .rw, .volatile, 0x0⟩
/-- PA_MEM_OWNER R369. -/
def PA_MEM_OWNER_ASSIGNED : Field := ⟨.PA, 0x148, 6, 1, .ro, .volatile, 0x1⟩
/-- PA_MEM_OWNER R369. -/
def PA_MEM_OWNER_POOL : Field := ⟨.PA, 0x148, 7, 1, .ro, .volatile, 0x0⟩
/-- PA_ENG_IDX R369. -/
def PA_ENG_IDX_ENGINE : Field := ⟨.PA, 0x150, 0, 7, .rw, .volatile, 0x0⟩
/-- PA_ENG_OWNER R369. -/
def PA_ENG_OWNER_OWNER : Field := ⟨.PA, 0x158, 0, 6, .rw, .volatile, 0x0⟩
/-- PA_TILE_IDX R369. -/
def PA_TILE_IDX_TILE : Field := ⟨.PA, 0x160, 0, 4, .rw, .volatile, 0x0⟩
/-- PA_TILE_CFG R369. -/
def PA_TILE_CFG_SHARED : Field := ⟨.PA, 0x168, 0, 1, .rw, .volatile, 0x0⟩
/-- PA_TILE_CFG R369. -/
def PA_TILE_CFG_OWNER : Field := ⟨.PA, 0x168, 1, 6, .rw, .volatile, 0x0⟩
/-- PA_TILE_CFG R369. -/
def PA_TILE_CFG_HOLDER : Field := ⟨.PA, 0x168, 7, 6, .ro, .volatile, 0x0⟩
/-- PA_TILE_CFG R369. -/
def PA_TILE_CFG_QUANTUM_US : Field := ⟨.PA, 0x168, 13, 9, .rw, .volatile, 0x64⟩
/-- PA_TILE_SHARE R369. -/
def PA_TILE_SHARE : Field := ⟨.PA, 0x170, 0, 64, .rw, .volatile, 0x0⟩
/-- PA_HANDOVERS R369. -/
def PA_HANDOVERS : Field := ⟨.PA, 0x178, 0, 64, .rwh, .volatile, 0x0⟩
/-- PA_SHARE_WAIT_NS R369. -/
def PA_SHARE_WAIT_NS : Field := ⟨.PA, 0x180, 0, 64, .rwh, .volatile, 0x0⟩
/-- PA_MBOX_REQ0 R369. -/
def PA_MBOX_REQ0 : Field := ⟨.PA, 0x200, 0, 64, .rw, .volatile, 0x0⟩
/-- PA_MBOX_REQ1 R369. -/
def PA_MBOX_REQ1 : Field := ⟨.PA, 0x208, 0, 64, .rw, .volatile, 0x0⟩
/-- PA_MBOX_REQ2 R369. -/
def PA_MBOX_REQ2 : Field := ⟨.PA, 0x210, 0, 64, .rw, .volatile, 0x0⟩
/-- PA_MBOX_REQ3 R369. -/
def PA_MBOX_REQ3 : Field := ⟨.PA, 0x218, 0, 64, .rw, .volatile, 0x0⟩
/-- PA_MBOX_REQ4 R369. -/
def PA_MBOX_REQ4 : Field := ⟨.PA, 0x220, 0, 64, .rw, .volatile, 0x0⟩
/-- PA_MBOX_REQ5 R369. -/
def PA_MBOX_REQ5 : Field := ⟨.PA, 0x228, 0, 64, .rw, .volatile, 0x0⟩
/-- PA_MBOX_REQ6 R369. -/
def PA_MBOX_REQ6 : Field := ⟨.PA, 0x230, 0, 64, .rw, .volatile, 0x0⟩
/-- PA_MBOX_REQ7 R369. -/
def PA_MBOX_REQ7 : Field := ⟨.PA, 0x238, 0, 64, .rw, .volatile, 0x0⟩
/-- PA_MBOX_RSP0 R369. -/
def PA_MBOX_RSP0 : Field := ⟨.PA, 0x240, 0, 64, .rw, .volatile, 0x0⟩
/-- PA_MBOX_RSP1 R369. -/
def PA_MBOX_RSP1 : Field := ⟨.PA, 0x248, 0, 64, .rw, .volatile, 0x0⟩
/-- PA_MBOX_RSP2 R369. -/
def PA_MBOX_RSP2 : Field := ⟨.PA, 0x250, 0, 64, .rw, .volatile, 0x0⟩
/-- PA_MBOX_RSP3 R369. -/
def PA_MBOX_RSP3 : Field := ⟨.PA, 0x258, 0, 64, .rw, .volatile, 0x0⟩
/-- PA_MBOX_RSP4 R369. -/
def PA_MBOX_RSP4 : Field := ⟨.PA, 0x260, 0, 64, .rw, .volatile, 0x0⟩
/-- PA_MBOX_RSP5 R369. -/
def PA_MBOX_RSP5 : Field := ⟨.PA, 0x268, 0, 64, .rw, .volatile, 0x0⟩
/-- PA_MBOX_RSP6 R369. -/
def PA_MBOX_RSP6 : Field := ⟨.PA, 0x270, 0, 64, .rw, .volatile, 0x0⟩
/-- PA_MBOX_RSP7 R369. -/
def PA_MBOX_RSP7 : Field := ⟨.PA, 0x278, 0, 64, .rw, .volatile, 0x0⟩
/-- PA_MBOX_CTRL R369. -/
def PA_MBOX_CTRL_REQ : Field := ⟨.PA, 0x280, 0, 1, .w1s, .volatile, 0x0⟩
/-- PA_MBOX_CTRL R369. -/
def PA_MBOX_CTRL_RSP : Field := ⟨.PA, 0x280, 1, 1, .w1s, .volatile, 0x0⟩
/-- BT_STATE R397. -/
def BT_STATE_STATE : Field := ⟨.BT, 0x100, 0, 4, .ro, .volatile, 0x1⟩
/-- BT_STATE R397. -/
def BT_STATE_DEGR : Field := ⟨.BT, 0x100, 4, 6, .ro, .volatile, 0x0⟩
/-- BT_STATE R397. -/
def BT_STATE_LIMIT : Field := ⟨.BT, 0x100, 12, 3, .ro, .volatile, 0x0⟩
/-- BT_STATUS R397. -/
def BT_STATUS_BYPASS : Field := ⟨.BT, 0x108, 0, 1, .ro, .volatile, 0x0⟩
/-- BT_STATUS R397. -/
def BT_STATUS_JOURNAL_OK : Field := ⟨.BT, 0x108, 1, 1, .ro, .volatile, 0x0⟩
/-- BT_STATUS R397. -/
def BT_STATUS_CALSTORE_OK : Field := ⟨.BT, 0x108, 2, 1, .ro, .volatile, 0x0⟩
/-- BT_STATUS R397. -/
def BT_STATUS_FACTORY_OK : Field := ⟨.BT, 0x108, 3, 1, .ro, .volatile, 0x0⟩
/-- BT_STATUS R397. -/
def BT_STATUS_FACTORY_START : Field := ⟨.BT, 0x108, 4, 1, .ro, .volatile, 0x0⟩
/-- BT_STATUS R397. -/
def BT_STATUS_SFW_SLOT : Field := ⟨.BT, 0x108, 5, 1, .ro, .volatile, 0x0⟩
/-- BT_STATUS R397. -/
def BT_STATUS_PFW_SLOT : Field := ⟨.BT, 0x108, 6, 1, .ro, .volatile, 0x0⟩
/-- BT_STATUS R397. -/
def BT_STATUS_SFW_FALLBACK : Field := ⟨.BT, 0x108, 7, 1, .ro, .volatile, 0x0⟩
/-- BT_STATUS R397. -/
def BT_STATUS_PFW_FALLBACK : Field := ⟨.BT, 0x108, 8, 1, .ro, .volatile, 0x0⟩
/-- BT_STATUS R397. -/
def BT_STATUS_UNTESTED : Field := ⟨.BT, 0x108, 9, 1, .ro, .volatile, 0x0⟩
/-- BT_STATUS R397. -/
def BT_STATUS_HDR_OK : Field := ⟨.BT, 0x108, 10, 1, .ro, .volatile, 0x0⟩
/-- BT_STATUS R397. -/
def BT_STATUS_MOD_RESET_LVL : Field := ⟨.BT, 0x108, 11, 1, .ro, .fixed, 0x0⟩
/-- BT_STATUS R397. -/
def BT_STATUS_PERST_LVL : Field := ⟨.BT, 0x108, 12, 1, .ro, .fixed, 0x0⟩
/-- BT_STATUS R397. -/
def BT_STATUS_STUCK_MOD : Field := ⟨.BT, 0x108, 13, 1, .ro, .volatile, 0x0⟩
/-- BT_STATUS R397. -/
def BT_STATUS_STUCK_PERST : Field := ⟨.BT, 0x108, 14, 1, .ro, .volatile, 0x0⟩
/-- BT_BOOT_COUNT R397. -/
def BT_BOOT_COUNT_COUNT : Field := ⟨.BT, 0x110, 0, 32, .ro, .retained, 0x0⟩
/-- BT_FW_SFW R397. -/
def BT_FW_SFW_IF_VER : Field := ⟨.BT, 0x118, 0, 16, .ro, .volatile, 0x0⟩
/-- BT_FW_SFW R397. -/
def BT_FW_SFW_BUILD : Field := ⟨.BT, 0x118, 16, 32, .ro, .volatile, 0x0⟩
/-- BT_FW_PFW R397. -/
def BT_FW_PFW_IF_VER : Field := ⟨.BT, 0x120, 0, 16, .ro, .volatile, 0x0⟩
/-- BT_FW_PFW R397. -/
def BT_FW_PFW_BUILD : Field := ⟨.BT, 0x120, 16, 32, .ro, .volatile, 0x0⟩
/-- BT_FW_SEL R397. -/
def BT_FW_SEL_SFW_PREF : Field := ⟨.BT, 0x128, 0, 1, .rw, .retained, 0x0⟩
/-- BT_FW_SEL R397. -/
def BT_FW_SEL_PFW_PREF : Field := ⟨.BT, 0x128, 1, 1, .rw, .retained, 0x0⟩
/-- BT_FW_SEL R397. -/
def BT_FW_SEL_WRITING : Field := ⟨.BT, 0x128, 2, 1, .ro, .retained, 0x0⟩
/-- BT_CTRL R397. -/
def BT_CTRL_SAVE : Field := ⟨.BT, 0x130, 0, 1, .w1s, .volatile, 0x0⟩
/-- BT_CTRL R397. -/
def BT_CTRL_REBOOT : Field := ⟨.BT, 0x130, 1, 1, .w1s, .volatile, 0x0⟩
/-- BT_TIME_IDX R397. -/
def BT_TIME_IDX_STATE : Field := ⟨.BT, 0x138, 0, 4, .rw, .volatile, 0x0⟩
/-- BT_TIME R397. -/
def BT_TIME_MS : Field := ⟨.BT, 0x140, 0, 32, .ro, .volatile, 0x0⟩
/-- BT_JOURNAL R397. -/
def BT_JOURNAL_GEN : Field := ⟨.BT, 0x148, 0, 32, .ro, .volatile, 0x0⟩
/-- BT_JOURNAL R397. -/
def BT_JOURNAL_COPY : Field := ⟨.BT, 0x148, 32, 1, .ro, .volatile, 0x0⟩
/-- BT_JOURNAL R397. -/
def BT_JOURNAL_USED : Field := ⟨.BT, 0x148, 33, 15, .ro, .volatile, 0x0⟩
/-- BT_JOURNAL R397. -/
def BT_JOURNAL_PENDING : Field := ⟨.BT, 0x148, 48, 1, .ro, .volatile, 0x0⟩
/-- BT_JOURNAL R397. -/
def BT_JOURNAL_COMPACTING : Field := ⟨.BT, 0x148, 49, 1, .ro, .volatile, 0x0⟩
/-- BT_JOURNAL_WRITES R397. -/
def BT_JOURNAL_WRITES : Field := ⟨.BT, 0x150, 0, 64, .rwh, .volatile, 0x0⟩
/-- BT_RESET_LAST R397. -/
def BT_RESET_LAST_HOLD_MS : Field := ⟨.BT, 0x158, 0, 32, .ro, .volatile, 0x0⟩
/-- BT_RESET_LAST R397. -/
def BT_RESET_LAST_MOD : Field := ⟨.BT, 0x158, 32, 1, .ro, .volatile, 0x0⟩
/-- BT_RESET_LAST R397. -/
def BT_RESET_LAST_PERST : Field := ⟨.BT, 0x158, 33, 1, .ro, .volatile, 0x0⟩
/-- FL_INFO R399. -/
def FL_INFO_LOG2_SIZE : Field := ⟨.FL, 0x100, 0, 5, .ro, .volatile, 0x0⟩
/-- FL_INFO R399. -/
def FL_INFO_MODE : Field := ⟨.FL, 0x100, 5, 2, .ro, .volatile, 0x0⟩
/-- FL_INFO R399. -/
def FL_INFO_FREQ_MHZ : Field := ⟨.FL, 0x100, 7, 10, .ro, .volatile, 0x0⟩
/-- FL_INFO R399. -/
def FL_INFO_SFDP_OK : Field := ⟨.FL, 0x100, 17, 1, .ro, .volatile, 0x0⟩
/-- FL_ADDR R399. -/
def FL_ADDR_ADDR : Field := ⟨.FL, 0x108, 0, 32, .rw, .volatile, 0x0⟩
/-- FL_LEN R399. -/
def FL_LEN_LEN_M1 : Field := ⟨.FL, 0x110, 0, 11, .rw, .volatile, 0x0⟩
/-- FL_CMD R399. -/
def FL_CMD_OP : Field := ⟨.FL, 0x118, 0, 3, .wo, .volatile, 0x0⟩
/-- FL_STATUS R399. -/
def FL_STATUS_BUSY : Field := ⟨.FL, 0x120, 0, 1, .ro, .volatile, 0x0⟩
/-- FL_STATUS R399. -/
def FL_STATUS_RESULT : Field := ⟨.FL, 0x120, 1, 3, .ro, .volatile, 0x0⟩
/-- FL_STATUS R399. -/
def FL_STATUS_FAIL_ADDR : Field := ⟨.FL, 0x120, 4, 32, .ro, .volatile, 0x0⟩
/-- FL_INT_LAST R399. -/
def FL_INT_LAST_RESULT : Field := ⟨.FL, 0x128, 0, 3, .ro, .volatile, 0x0⟩
/-- FL_INT_LAST R399. -/
def FL_INT_LAST_ADDR : Field := ⟨.FL, 0x128, 3, 32, .ro, .volatile, 0x0⟩
/-- FL_HOST_OPS R399. -/
def FL_HOST_OPS : Field := ⟨.FL, 0x130, 0, 64, .rwh, .volatile, 0x0⟩
/-- FL_INT_OPS R399. -/
def FL_INT_OPS : Field := ⟨.FL, 0x138, 0, 64, .rwh, .volatile, 0x0⟩
/-- FL_REFUSALS R399. -/
def FL_REFUSALS : Field := ⟨.FL, 0x140, 0, 64, .rwh, .volatile, 0x0⟩
/-- PAGE_ID R404. -/
def PAGE_ID_BLOCK : Field := ⟨.PAGE, 0x0, 0, 8, .ro, .fixed, 0x0⟩
/-- PAGE_ID R404. -/
def PAGE_ID_INSTANCE : Field := ⟨.PAGE, 0x0, 8, 8, .ro, .fixed, 0x0⟩
/-- PAGE_ID R404. -/
def PAGE_ID_VERSION : Field := ⟨.PAGE, 0x0, 16, 8, .ro, .fixed, 0x0⟩
/-- PAGE_ID R404. -/
def PAGE_ID_LAYOUT : Field := ⟨.PAGE, 0x0, 24, 8, .ro, .fixed, 0x0⟩
/-- PAGE_CAPS R404. -/
def PAGE_CAPS_HAS_IRQ : Field := ⟨.PAGE, 0x8, 0, 1, .ro, .fixed, 0x0⟩
/-- PAGE_CAPS R404. -/
def PAGE_CAPS_HAS_WINDOWS : Field := ⟨.PAGE, 0x8, 1, 1, .ro, .fixed, 0x0⟩
/-- PAGE_CAPS R404. -/
def PAGE_CAPS_HAS_COUNTERS : Field := ⟨.PAGE, 0x8, 2, 1, .ro, .fixed, 0x0⟩
/-- PAGE_CAPS R404. -/
def PAGE_CAPS_OWNED : Field := ⟨.PAGE, 0x8, 3, 1, .ro, .fixed, 0x0⟩
/-- PAGE_CAPS R404. -/
def PAGE_CAPS_ISLAND : Field := ⟨.PAGE, 0x8, 4, 8, .ro, .fixed, 0x0⟩
/-- PAGE_CTRL R404. -/
def PAGE_CTRL_CNT_FREEZE : Field := ⟨.PAGE, 0x10, 0, 1, .rw, .volatile, 0x0⟩
/-- PAGE_CTRL R404. -/
def PAGE_CTRL_CNT_CLEAR : Field := ⟨.PAGE, 0x10, 1, 1, .w1s, .volatile, 0x0⟩
/-- PAGE_STATUS R404. -/
def PAGE_STATUS_HW_LOST : Field := ⟨.PAGE, 0x18, 0, 1, .w1c, .volatile, 0x0⟩
/-- PAGE_STATUS R404. -/
def PAGE_STATUS_BAD_WIDTH : Field := ⟨.PAGE, 0x18, 1, 1, .w1c, .volatile, 0x0⟩
/-- PAGE_STATUS R404. -/
def PAGE_STATUS_STARTED : Field := ⟨.PAGE, 0x18, 2, 1, .ro, .volatile, 0x0⟩
/-- PAGE_STATUS R404. -/
def PAGE_STATUS_IRQ_PENDING : Field := ⟨.PAGE, 0x18, 3, 1, .ro, .volatile, 0x0⟩
/-- PAGE_ERR_MASK R404. -/
def PAGE_ERR_MASK : Field := ⟨.PAGE, 0x28, 0, 64, .rw, .retained, 0x0⟩
/-- PAGE_IRQ_EN R404. -/
def PAGE_IRQ_EN : Field := ⟨.PAGE, 0x30, 0, 64, .rw, .retained, 0x0⟩
/-- PAGE_OWNER R404. -/
def PAGE_OWNER_OWNER : Field := ⟨.PAGE, 0x38, 0, 6, .ro, .volatile, 0x0⟩
/-- ID_PART0 R419. -/
def ID_PART0 : Field := ⟨.ID, 0x100, 0, 64, .ro, .factory, 0x33353158432d4448⟩
/-- ID_PART1 R419. -/
def ID_PART1 : Field := ⟨.ID, 0x108, 0, 64, .ro, .factory, 0x434c2d36⟩
/-- ID_STEPPING R419. -/
def ID_STEPPING_MINOR : Field := ⟨.ID, 0x110, 0, 4, .ro, .factory, 0x1⟩
/-- ID_STEPPING R419. -/
def ID_STEPPING_MAJOR : Field := ⟨.ID, 0x110, 4, 4, .ro, .factory, 0xa⟩
/-- ID_SERIAL R419. -/
def ID_SERIAL : Field := ⟨.ID, 0x118, 0, 64, .ro, .factory, 0x0⟩
/-- ID_MAC_BASE R419. -/
def ID_MAC_BASE_MAC : Field := ⟨.ID, 0x120, 0, 48, .ro, .factory, 0x0⟩
/-- ID_COUNTS R419. -/
def ID_COUNTS_TILES : Field := ⟨.ID, 0x128, 0, 8, .ro, .factory, 0x10⟩
/-- ID_COUNTS R419. -/
def ID_COUNTS_ENGINES : Field := ⟨.ID, 0x128, 8, 8, .ro, .factory, 0x40⟩
/-- ID_COUNTS R419. -/
def ID_COUNTS_CORES : Field := ⟨.ID, 0x128, 16, 8, .ro, .factory, 0x14⟩
/-- ID_COUNTS R419. -/
def ID_COUNTS_PORTS : Field := ⟨.ID, 0x128, 24, 8, .ro, .factory, 0x20⟩
/-- ID_COUNTS R419. -/
def ID_COUNTS_HBM : Field := ⟨.ID, 0x128, 32, 8, .ro, .factory, 0x8⟩
/-- ID_COUNTS R419. -/
def ID_COUNTS_LPDDR : Field := ⟨.ID, 0x128, 40, 8, .ro, .factory, 0x20⟩
/-- ID_MEM R419. -/
def ID_MEM_HBM : Field := ⟨.ID, 0x130, 0, 16, .ro, .factory, 0x200⟩
/-- ID_MEM R419. -/
def ID_MEM_LPDDR : Field := ⟨.ID, 0x130, 16, 16, .ro, .factory, 0x400⟩
/-- ID_PCI R419. -/
def ID_PCI_VENDOR : Field := ⟨.ID, 0x138, 0, 16, .ro, .factory, 0x1f5d⟩
/-- ID_PCI R419. -/
def ID_PCI_PF_DEV : Field := ⟨.ID, 0x138, 16, 16, .ro, .factory, 0xc536⟩
/-- ID_PCI R419. -/
def ID_PCI_VF_DEV : Field := ⟨.ID, 0x138, 32, 16, .ro, .factory, 0xc537⟩
/-- ID_MFG R419. -/
def ID_MFG_DATE : Field := ⟨.ID, 0x140, 0, 32, .ro, .factory, 0x0⟩
/-- PM_PACE R421. -/
def PM_PACE_STEPS_US : Field := ⟨.PM, 0x100, 0, 12, .ro, .volatile, 0x0⟩
/-- PM_VCORE R421. -/
def PM_VCORE_MEAS_MV : Field := ⟨.PM, 0x108, 0, 12, .ro, .volatile, 0x0⟩
/-- PM_VCORE R421. -/
def PM_VCORE_SET_MV : Field := ⟨.PM, 0x108, 12, 12, .ro, .volatile, 0x0⟩
/-- PM_INPUT R421. -/
def PM_INPUT_VIN : Field := ⟨.PM, 0x110, 0, 16, .ro, .volatile, 0x0⟩
/-- PM_INPUT R421. -/
def PM_INPUT_IIN : Field := ⟨.PM, 0x110, 16, 16, .ro, .volatile, 0x0⟩
/-- PM_INPUT R421. -/
def PM_INPUT_POWER_W : Field := ⟨.PM, 0x110, 32, 16, .ro, .volatile, 0x0⟩
/-- PM_PWR_LIMIT R421. -/
def PM_PWR_LIMIT_LIMIT_W : Field := ⟨.PM, 0x118, 0, 12, .rw, .retained, 0x79e⟩
/-- PM_TEMP_MAX R421. -/
def PM_TEMP_MAX_CORE : Field := ⟨.PM, 0x120, 0, 16, .ro, .volatile, 0x0⟩
/-- PM_TEMP_MAX R421. -/
def PM_TEMP_MAX_PHOTONIC : Field := ⟨.PM, 0x120, 16, 16, .ro, .volatile, 0x0⟩
/-- PM_TEMP_MAX R421. -/
def PM_TEMP_MAX_HBM : Field := ⟨.PM, 0x120, 32, 16, .ro, .volatile, 0x0⟩
/-- PM_TEMP_MAX R421. -/
def PM_TEMP_MAX_COLDPLATE : Field := ⟨.PM, 0x120, 48, 16, .ro, .volatile, 0x0⟩
/-- PM_THERM R421. -/
def PM_THERM_WARN_C : Field := ⟨.PM, 0x128, 0, 8, .rw, .retained, 0x5a⟩
/-- PM_THERM R421. -/
def PM_THERM_WARN : Field := ⟨.PM, 0x128, 8, 1, .ro, .volatile, 0x0⟩
/-- PM_THERM R421. -/
def PM_THERM_OVER : Field := ⟨.PM, 0x128, 9, 1, .ro, .volatile, 0x0⟩
/-- PM_THERM R421. -/
def PM_THERM_LIMITING : Field := ⟨.PM, 0x128, 10, 1, .ro, .volatile, 0x0⟩
/-- PM_SENSOR_IDX R421. -/
def PM_SENSOR_IDX_SENSOR : Field := ⟨.PM, 0x130, 0, 6, .rw, .volatile, 0x0⟩
/-- PM_SENSOR R421. -/
def PM_SENSOR_TEMP : Field := ⟨.PM, 0x138, 0, 16, .ro, .volatile, 0x0⟩
/-- PM_SENSOR R421. -/
def PM_SENSOR_VALID : Field := ⟨.PM, 0x138, 16, 1, .ro, .volatile, 0x0⟩
/-- PM_RAIL_IDX R421. -/
def PM_RAIL_IDX_RAIL : Field := ⟨.PM, 0x140, 0, 4, .rw, .volatile, 0x0⟩
/-- PM_RAIL R421. -/
def PM_RAIL_MV : Field := ⟨.PM, 0x148, 0, 16, .ro, .volatile, 0x0⟩
/-- PM_LIMIT_NS R421. -/
def PM_LIMIT_NS : Field := ⟨.PM, 0x150, 0, 64, .rwh, .volatile, 0x0⟩
/-- PM_WARN_EVENTS R421. -/
def PM_WARN_EVENTS : Field := ⟨.PM, 0x158, 0, 64, .rwh, .volatile, 0x0⟩
/-- PM_OVER_EVENTS R421. -/
def PM_OVER_EVENTS : Field := ⟨.PM, 0x160, 0, 64, .rwh, .volatile, 0x0⟩
/-- HI_LINK R426. -/
def HI_LINK_SPEED : Field := ⟨.HI, 0x100, 0, 4, .ro, .volatile, 0x0⟩
/-- HI_LINK R426. -/
def HI_LINK_WIDTH : Field := ⟨.HI, 0x100, 4, 5, .ro, .volatile, 0x0⟩
/-- HI_LINK R426. -/
def HI_LINK_FLIT : Field := ⟨.HI, 0x100, 9, 1, .ro, .volatile, 0x0⟩
/-- HI_LINK R426. -/
def HI_LINK_UP : Field := ⟨.HI, 0x100, 10, 1, .ro, .volatile, 0x0⟩
/-- HI_SRIOV R426. -/
def HI_SRIOV_NUM_VFS : Field := ⟨.HI, 0x108, 0, 6, .ro, .volatile, 0x0⟩
/-- HI_SRIOV R426. -/
def HI_SRIOV_VF_ENABLE : Field := ⟨.HI, 0x108, 6, 1, .ro, .volatile, 0x0⟩
/-- HI_BAR2_IDX R426. -/
def HI_BAR2_IDX_FUNCTION : Field := ⟨.HI, 0x110, 0, 6, .rw, .volatile, 0x0⟩
/-- HI_BAR2_BASE R426. -/
def HI_BAR2_BASE_BASE : Field := ⟨.HI, 0x118, 36, 12, .rw, .retained, 0x0⟩
/-- HI_EVT_SUM0 R426. -/
def HI_EVT_SUM0 : Field := ⟨.HI, 0x120, 0, 64, .ro, .volatile, 0x0⟩
/-- HI_EVT_SUM1 R426. -/
def HI_EVT_SUM1 : Field := ⟨.HI, 0x128, 0, 64, .ro, .volatile, 0x0⟩
/-- HI_EVT_SUM2 R426. -/
def HI_EVT_SUM2 : Field := ⟨.HI, 0x130, 0, 64, .ro, .volatile, 0x0⟩
/-- HI_EVT_SUM3 R426. -/
def HI_EVT_SUM3 : Field := ⟨.HI, 0x138, 0, 64, .ro, .volatile, 0x0⟩
/-- HI_AER_CORR R426. -/
def HI_AER_CORR : Field := ⟨.HI, 0x140, 0, 64, .rwh, .volatile, 0x0⟩
/-- HI_AER_UNCORR R426. -/
def HI_AER_UNCORR : Field := ⟨.HI, 0x148, 0, 64, .rwh, .volatile, 0x0⟩
/-- HI_LINK_DOWNS R426. -/
def HI_LINK_DOWNS : Field := ⟨.HI, 0x150, 0, 64, .rwh, .volatile, 0x0⟩
/-- HI_UNMAPPED_CNT R426. -/
def HI_UNMAPPED_CNT : Field := ⟨.HI, 0x158, 0, 64, .rwh, .volatile, 0x0⟩
/-- TR_CTRL R456. -/
def TR_CTRL_EN : Field := ⟨.TR, 0x100, 0, 1, .rw, .retained, 0x1⟩
/-- TR_CTRL R456. -/
def TR_CTRL_FW_EN : Field := ⟨.TR, 0x100, 1, 1, .rw, .retained, 0x0⟩
/-- TR_PART_IDX R456. -/
def TR_PART_IDX_PARTITION : Field := ⟨.TR, 0x108, 0, 6, .rw, .volatile, 0x0⟩
/-- TR_REGION R456. -/
def TR_REGION_BASE : Field := ⟨.TR, 0x110, 26, 22, .rw, .retained, 0x0⟩
/-- TR_SIZE R456. -/
def TR_SIZE_SIZE : Field := ⟨.TR, 0x118, 0, 10, .rw, .retained, 0x10⟩
/-- TR_BYTES R456. -/
def TR_BYTES : Field := ⟨.TR, 0x120, 0, 64, .rwh, .volatile, 0x0⟩
/-- TR_DROPPED_ALL R456. -/
def TR_DROPPED_ALL : Field := ⟨.TR, 0x128, 0, 64, .rwh, .volatile, 0x0⟩
/-- TR_PCTRL R456. -/
def TR_PCTRL_EN : Field := ⟨.TR, 0x200, 0, 1, .rw, .volatile, 0x0⟩
/-- TR_PCTRL R456. -/
def TR_PCTRL_STOP : Field := ⟨.TR, 0x200, 1, 1, .rw, .volatile, 0x0⟩
/-- TR_PCTRL R456. -/
def TR_PCTRL_CMD_EN : Field := ⟨.TR, 0x200, 2, 1, .rw, .volatile, 0x0⟩
/-- TR_PCTRL R456. -/
def TR_PCTRL_CC_EN : Field := ⟨.TR, 0x200, 3, 1, .rw, .volatile, 0x0⟩
/-- TR_PCTRL R456. -/
def TR_PCTRL_EVT_EN : Field := ⟨.TR, 0x200, 4, 1, .rw, .volatile, 0x0⟩
/-- TR_PCTRL R456. -/
def TR_PCTRL_SNAP_EN : Field := ⟨.TR, 0x200, 5, 1, .rw, .volatile, 0x0⟩
/-- TR_PCTRL R456. -/
def TR_PCTRL_SNAP_MS : Field := ⟨.TR, 0x200, 8, 8, .rw, .volatile, 0x0⟩
/-- TR_HEAD R456. -/
def TR_HEAD_RECORD : Field := ⟨.TR, 0x208, 0, 36, .ro, .volatile, 0x0⟩
/-- TR_HEAD R456. -/
def TR_HEAD_FULL : Field := ⟨.TR, 0x208, 62, 1, .ro, .volatile, 0x0⟩
/-- TR_HEAD R456. -/
def TR_HEAD_LOST : Field := ⟨.TR, 0x208, 63, 1, .ro, .volatile, 0x0⟩
/-- TR_TAIL R456. -/
def TR_TAIL_RECORD : Field := ⟨.TR, 0x210, 0, 36, .rw, .volatile, 0x0⟩
/-- TR_DROPPED R456. -/
def TR_DROPPED : Field := ⟨.TR, 0x218, 0, 64, .rwh, .volatile, 0x0⟩
/-- TR_RECORDS R456. -/
def TR_RECORDS : Field := ⟨.TR, 0x220, 0, 64, .rwh, .volatile, 0x0⟩
/-- PF_PART_IDX R457. -/
def PF_PART_IDX_PARTITION : Field := ⟨.PF, 0x100, 0, 6, .rw, .volatile, 0x0⟩
/-- PF_IDX R457. -/
def PF_IDX_COUNTER : Field := ⟨.PF, 0x200, 0, 8, .rw, .volatile, 0x0⟩
/-- PF_VAL R457. -/
def PF_VAL : Field := ⟨.PF, 0x208, 0, 64, .rwh, .volatile, 0x0⟩
/-- PF_FLT_IDX R457. -/
def PF_FLT_IDX_FILTER : Field := ⟨.PF, 0x210, 0, 3, .rw, .volatile, 0x0⟩
/-- PF_FLT_MATCH R457. -/
def PF_FLT_MATCH_L_MATCH : Field := ⟨.PF, 0x218, 0, 32, .rw, .volatile, 0x0⟩
/-- PF_FLT_MATCH R457. -/
def PF_FLT_MATCH_O_MATCH : Field := ⟨.PF, 0x218, 32, 32, .rw, .volatile, 0x0⟩
/-- PF_FLT_MASK R457. -/
def PF_FLT_MASK_L_MASK : Field := ⟨.PF, 0x220, 0, 32, .rw, .volatile, 0x0⟩
/-- PF_FLT_MASK R457. -/
def PF_FLT_MASK_O_MASK : Field := ⟨.PF, 0x220, 32, 32, .rw, .volatile, 0x0⟩
/-- PF_FLT_BITMACS R457. -/
def PF_FLT_BITMACS : Field := ⟨.PF, 0x228, 0, 64, .rwh, .volatile, 0x0⟩
/-- PF_FLT_STEPS R457. -/
def PF_FLT_STEPS : Field := ⟨.PF, 0x230, 0, 64, .rwh, .volatile, 0x0⟩
/-- PF_FLT_BYTES R457. -/
def PF_FLT_BYTES : Field := ⟨.PF, 0x238, 0, 64, .rwh, .volatile, 0x0⟩
/-- CC_CTRL R458. -/
def CC_CTRL_HALT : Field := ⟨.CC, 0x100, 0, 1, .w1s, .volatile, 0x0⟩
/-- CC_CTRL R458. -/
def CC_CTRL_RESUME : Field := ⟨.CC, 0x100, 1, 1, .w1s, .volatile, 0x0⟩
/-- CC_CTRL R458. -/
def CC_CTRL_STEP : Field := ⟨.CC, 0x100, 2, 1, .w1s, .volatile, 0x0⟩
/-- CC_STATUS R458. -/
def CC_STATUS_STATE : Field := ⟨.CC, 0x108, 0, 2, .ro, .volatile, 0x0⟩
/-- CC_STATUS R458. -/
def CC_STATUS_LAST_BP : Field := ⟨.CC, 0x108, 2, 3, .ro, .volatile, 0x0⟩
/-- CC_STATUS R458. -/
def CC_STATUS_SPLIT : Field := ⟨.CC, 0x108, 5, 1, .ro, .volatile, 0x0⟩
/-- CC_PC R458. -/
def CC_PC_PC : Field := ⟨.CC, 0x110, 0, 48, .ro, .volatile, 0x0⟩
/-- CC_BP_IDX R458. -/
def CC_BP_IDX_BP : Field := ⟨.CC, 0x118, 0, 3, .rw, .volatile, 0x0⟩
/-- CC_BP R458. -/
def CC_BP_ADDR : Field := ⟨.CC, 0x120, 0, 48, .rw, .volatile, 0x0⟩
/-- CC_BP R458. -/
def CC_BP_EN : Field := ⟨.CC, 0x120, 48, 1, .rw, .volatile, 0x0⟩
/-- CC_BP R458. -/
def CC_BP_KIND : Field := ⟨.CC, 0x120, 49, 2, .rw, .volatile, 0x0⟩
/-- CC_BREAKS R458. -/
def CC_BREAKS : Field := ⟨.CC, 0x128, 0, 64, .rwh, .volatile, 0x0⟩
/-- VE_CTRL R458. -/
def VE_CTRL_HALT : Field := ⟨.VE, 0x100, 0, 1, .w1s, .volatile, 0x0⟩
/-- VE_CTRL R458. -/
def VE_CTRL_RESUME : Field := ⟨.VE, 0x100, 1, 1, .w1s, .volatile, 0x0⟩
/-- VE_STATUS R458. -/
def VE_STATUS_STATE : Field := ⟨.VE, 0x108, 0, 2, .ro, .volatile, 0x0⟩
/-- VE_STATUS R458. -/
def VE_STATUS_FAULTED : Field := ⟨.VE, 0x108, 2, 1, .ro, .volatile, 0x0⟩
/-- VE_STATUS R458. -/
def VE_STATUS_INT_SAT : Field := ⟨.VE, 0x108, 3, 1, .ro, .volatile, 0x0⟩
/-- VE_PC R458. -/
def VE_PC_PC : Field := ⟨.VE, 0x110, 0, 48, .ro, .volatile, 0x0⟩
/-- VE_STEPS R458. -/
def VE_STEPS : Field := ⟨.VE, 0x118, 0, 64, .rwh, .volatile, 0x0⟩
/-- PAGE_ERR R404: the event bits of a page. -/
def PAGE_ERR : Field := ⟨.PAGE, 0x20, 0, 64, .w1c, .volatile, 0x0⟩
/-- Fields, part 0. -/
def table0 : List Field := [PT_CTRL_TILE_EN, PT_CTRL_QRATE, PT_CTRL_RETURN, PT_STATUS_SVC, PT_STATUS_CAL_OK, PT_STATUS_ACTIVE_BANK, PT_STATUS_IDLE_READY, PT_STATUS_I8_PAIR, PT_STATUS_QRATE_NOW, PT_SUP_WIN_CHECKED, PT_SUP_WIN_FLAGGED, PT_GS_CHECKED, PT_GS_FLAGGED, PT_REPLAYS, PT_RECOMPUTES, PT_OOR, PT_NEGZERO, PT_LOAD_MISMATCH, PT_SWAPS, PT_SLOT_ACT, PT_SLOT_COLSUM, PT_SLOT_REPLAY, PT_SLOT_REFRESH, PT_SLOT_LOADWAIT, PT_SLOT_IDLE, PT_LAST_FLAG_SEG, PT_LAST_FLAG_CGRP, PT_LAST_FLAG_PLANE, PT_LAST_FLAG_OOR, PT_LAST_FLAG_LATE, PT_LAST_FLAG_S0, PT_LAST_FLAG_S1, PT_LAST_FLAG_TIME, PT_OOS_TIME_TIME, QS_CTRL_CLIP_THR, QS_CTRL_ADAPT_EN, QS_ROWBUF_EN, QS_ROWBUF_BASE, QS_STATUS_ALOG_HEAD, QS_STATUS_ALOG_WRAPPED, QS_STATUS_SRF_BANK_ACTIVE, QS_ROWS_DYN, QS_ROWS_IMP, QS_ROWS_STATIC, QS_CLIPS, QS_DYN_CLAMPS, QS_NONFINITE, QS_SCALE_CLAMP, QS_ADAPTS, QS_SENT_IDX_INDEX, QS_SENT_DATA, QS_SENT_CLIPS, QS_SENT_ELEMS, QS_SRF_IDX_BANK, QS_SRF_IDX_COLUMN, QS_SRF_IDX_ENTRY, QS_SRF_DATA_S16, QS_CSUM_DATA_CSUM, QS_CSUM_DATA_VALID, QS_ALOG_IDX_RECORD]
/-- Fields, part 1. -/
def table1 : List Field := [QS_ALOG_VAL_OLD_SCALE, QS_ALOG_VAL_OLD_ZP, QS_ALOG_VAL_NEW_SCALE, QS_ALOG_VAL_NEW_ZP, QS_ALOG_CNT_ENTRY, QS_ALOG_CNT_DISCARDED, QS_ALOG_CNT_SCALE_CLAMP, QS_ALOG_CNT_CLIPS, QS_ALOG_TIME, AC_CTRL_NARROW_ACCEPT, AC_STATUS_FREE_BLOCKS, AC_STATUS_FREE_DESC, AC_STATUS_PPB_BLOCKS, AC_STATUS_PPB_ACTIVE, AC_ADDENDS, AC_SAT_EVENTS, AC_CONV_SAT_EVENTS, AC_SPLICE_LANES, AC_NARROW_LANES, AC_BUSY_REFUSED, AC_RETRIEVALS, AC_DESC_IDX_INDEX, AC_DESC_W0, AC_DESC_W1, LK_CTRL_FREEZE, LK_PARAM_E_MAX, LK_PARAM_E_LOCK, LK_PARAM_T_FE, LK_PARAM_T_LIM, LK_PARAM_T_ACQ, LK_GAIN_KP, LK_GAIN_KI, LK_STATUS_N_LOCKED, LK_STATUS_N_ACQUIRE, LK_STATUS_N_UNLOCKED, LK_STATUS_ALL_LOCKED, LK_STATUS_FROZEN, LK_STATUS_FF_OK, LK_STATUS_SP_OK, LK_UPDATES, LK_OVERRUNS, LK_FOLLOW_ERRS, LK_LIMITED_RINGS, LK_RELOCKS, LK_HELD_UPDATES, LK_RING_IDX_BANK, LK_RING_IDX_PROW, LK_RING_IDX_PCOL, LK_RING_STATE_STATE, LK_RING_STATE_LIMITED, LK_RING_STATE_HELD, LK_RING_STATE_ERR, LK_RING_STATE_DEMAND, LK_RING_STATE_OUT, LK_RING_STATE_APPLIED, LK_RING_INT_INTEG, LK_LAST_EVENT_BANK, LK_LAST_EVENT_PROW, LK_LAST_EVENT_PCOL, LK_LAST_EVENT_TYPE]
/-- Fields, part 2. -/
def table2 : List Field := [LK_LAST_EVENT_TIME, LK_TABLES_FF_CRC, LK_TABLES_FF_VERSION, LK_TABLES_SP_VERSION, HM_CTRL_HEAT_EN, HM_CTRL_DITHER_EN, HM_GRP_LIMIT_LIMIT, HM_HOT_HOT_LIMIT, HM_HOT_HYST, HM_HOT_HOT_STEP, HM_STATUS_TILE_CEIL, HM_STATUS_HOT_ACTIVE, HM_STATUS_RAMPING, HM_STATUS_RAIL_OPEN, HM_TEMP_HOTSPOT, HM_TEMP_QTEMP, HM_TEMP_CAL_TEMP, HM_POWER_TILE_MW, HM_STROBES, HM_GRP_LIMITED, HM_HOT_PERIODS, HM_GRP_IDX_BANK, HM_GRP_IDX_PCOL, HM_GRP_IDX_K, HM_DITHER_F, HM_DITHER_A, HM_DITHER_IDX, HM_GRP_POWER_SUM, HM_GRP_POWER_CEILING, PM_CAL_CTRL_DT_CAL, PM_CAL_CTRL_REQ, PM_CAL_QUAD_Q_PASS0, PM_CAL_QUAD_Q_PASS1, PM_CAL_QUAD_Q_PASS2, PM_CAL_QUAD_Q_PASS3, PM_CAL_QUAD_Q_RUNNING0, PM_CAL_QUAD_Q_RUNNING1, PM_CAL_QUAD_Q_RUNNING2, PM_CAL_QUAD_Q_RUNNING3, PM_CAL_QUAD_LINE_LOST0, PM_CAL_QUAD_LINE_LOST1, PM_CAL_QUAD_LINE_LOST2, PM_CAL_QUAD_LINE_LOST3, PM_CAL_IDX_TILE, PM_CAL_IDX_SEG, PM_CAL_TILE_PASS, PM_CAL_TILE_PASS_80, PM_CAL_TILE_PASS_60, PM_CAL_TILE_PASS_40, PM_CAL_TILE_RUNNING, PM_CAL_TILE_TRIGGER, PM_CAL_TILE_FAIL_REASON, PM_CAL_TILE_VISITS_DONE, PM_CAL_TILE_COL_SUBS, PM_CAL_TILE_ROW_SUBS, PM_CAL_TILE_SLICE_SUBS, PM_CAL_TILE_MASKED_COLS, PM_CAL_TILE_MASKED_ROWS, PM_CAL_TILE_CONSEC_FAILS, PM_CAL_ROWMASK]
/-- Fields, part 3. -/
def table3 : List Field := [PM_CAL_COLMASK_LO, PM_CAL_COLMASK_HI, PM_CAL_RUN_TEMP, PM_CAL_PASS_TIME, PM_CAL_END_TIME, PM_CAL_PASSES, PM_CAL_FAILS, PM_CAL_RESTARTS, PM_CAL_COMMITS, PM_CAL_PERM, LL_CTRL_REG_EN, LL_CTRL_REG_TRIG, LL_CTRL_INJ_ALARM, LL_CTRL_INJ_HINT, LL_CTRL_INJ_FRAME, LL_CTRL_REG_GO, LL_CTRL_INJ_GO, LL_TRIG_REG_DELAY, LL_TRIG_INJ_DELAY, LL_TRIG_FRAME_DIV, LL_TIMER_PERIOD, LL_LEN_REG_LEN, LL_LEN_INJ_LEN, LL_LIST_IDX_INDEX, LL_LIST_IDX_INJ, LL_LIST_DATA_ENTRY, LL_RING_BASE_BASE, LL_RING_SIZE_LOG2, LL_RING_HEAD_RECORD, LL_RING_TAIL_RECORD, LL_STATUS_REG_STATE, LL_STATUS_CUR_ENTRY, LL_STATUS_INJ_ACTIVE, LL_STATUS_INJ_PENDING, LL_STATUS_SYSCAL_BUSY, LL_INJ_CAUSE_CAUSE, LL_INJ_CAUSE_RING, LL_INJ_CAUSE_LEG, LL_INJ_CAUSE_TIME, LL_PASS_TIME, LL_INJ_IDX_RESULT, LL_INJ_RES_VALUE, LL_INJ_RES_CLASS, LL_INJ_RES_INDEX, LL_INJ_RES_VALID, LL_PASSES, LL_SETS, LL_INJECTIONS, LL_INJ_MISSED, LL_REPEATS, LL_TRIG_MISSED, LL_SYSCAL_STEP, LL_SYSCAL_STATE, LL_SYSCAL_LAST_FAIL, LL_COEF_IDX_CONV, LL_COEF_IDX_UNIT, LL_COEF_OFFSET, LL_COEF_GAIN, LL_REFIN_REFIN, LL_REFIN_DEV]
/-- Fields, part 4. -/
def table4 : List Field := [LL_REFIN_IN_TOL, HM_LEG_CFG_SOFT, HM_LEG_CFG_BLANK, HM_LEG_STATE, HM_LEG_REARM, HM_LEG_LAST_LEG, HM_LEG_LAST_HARD, HM_LEG_LAST_IN_BLANK, HM_LEG_LAST_QUAD, HM_LEG_LAST_TIME, HM_RAIL_CLOSE, HM_RAIL_RAIL_MV, HM_LEG_HINTS, HM_LEG_TRIPS, HM_QUAD_TRIPS, LS_CTRL_EN, LS_CTRL_REARM, LS_TARGET_TARGET, LS_TARGET_STEP, LS_BIAS_BIAS, LS_BIAS_BIAS_MAX, LS_BIAS_BIAS_EOL, LS_STATUS_ON, LS_STATUS_RAMPING, LS_STATUS_AT_TARGET, LS_STATUS_EOL, LS_STATUS_POWER_LOW, LS_STATUS_DRV_TRIPPED, LS_STATUS_LOST, LS_MEAN_MEAN, LS_MEAN_ERR, LS_LINE_IDX_LINE, LS_LINE_POWER, LS_LINE_IN_USE, LS_LINE_LOW, LS_LINE_LOST, LS_UPDATES, LS_STEPS_UP, LS_DRV_TRIPS, LS_EOL_TIME, LF_TX_TARGET_TX_TARGET, LF_TX_TARGET_STEP, LF_RX_THR_WARN_LO, LF_RX_THR_ALARM_LO, LF_RX_THR_HIGH, LF_STATUS_ON, LF_STATUS_DRV_TRIPPED, LF_STATUS_ANY_EOL, LF_STATUS_ANY_ALARM, LF_LANE_IDX_LANE, LF_LANE_IDX_PORT, LF_LANE_TX_TX_POWER, LF_LANE_TX_BIAS, LF_LANE_TX_CHANNEL, LF_LANE_TX_TUNED, LF_LANE_TX_EOL, LF_LANE_TX_TX_LOW, LF_LANE_RX_RX_POWER, LF_LANE_RX_RX_CHANNEL, LF_LANE_RX_WARN_LO]
/-- Fields, part 5. -/
def table5 : List Field := [LF_LANE_RX_ALARM_LO, LF_LANE_RX_HIGH, LF_LANE_RX_LOS, LF_LANE_RX_PEER_VALID, LF_LANE_RX_PEER_TX, LF_LANE_RX_PEER_RX, LF_RETUNES, LF_RX_EVENTS, LF_DRV_TRIPS, CS_CTRL_EN, CS_CTRL_MIG_SHARE, CS_CTRL_MIG_EN, CS_TABLE_LOG2_SLOTS, CS_TABLE0_BASE, CS_TABLE1_BASE, CS_STATUS_READY, CS_STATUS_TABLE_SINGLE, CS_STATUS_LOST_STACKS, CS_STATUS_MLOG_HEAD, CS_STATUS_MLOG_WRAPPED, CS_STATUS_LOST_LPDDR, CS_POOL_IDX_NBHD, CS_POOL_IDX_TIER, CS_POOL_POOL_CHUNKS, CS_POOL_FREE_CHUNKS, CS_POOL_FREE_MIB, CS_PART_IDX_PARTITION, CS_PART_QUOTA_HBM, CS_PART_QUOTA_LPDDR, CS_PART_QUOTA_LOAN, CS_PART_USE_HBM, CS_PART_USE_LPDDR, CS_PART_USE_LOAN, CS_PART_SLOTS_SLOT_QUOTA, CS_PART_SLOTS_LIVE, CS_PART_SPILL_HOST_EN, CS_PART_SPILL_REMOTE_EN, CS_PART_SPILL_SPILL_FNID, CS_PART_SPILL_HOST_CHUNKS, CS_PART_HOSTBASE_BASE, CS_PART_STALE, CS_PART_NOTOWNER, CS_PART_LOST, CS_MLOG_IDX_RECORD, CS_MLOG_HANDLE, CS_MLOG_INFO_PARTITION, CS_MLOG_INFO_QUEUE, CS_MLOG_INFO_OP, CS_MLOG_INFO_CAUSE, CS_MLOG_TIME, CS_DESC_IDX_SLOT, CS_DESC_IDX_WORD, CS_DESC_DATA, CS_POL_IDX_PARTITION, CS_POL_IDX_ENTRY, CS_POL_DATA, CS_ALLOCS, CS_FREES, CS_APPENDS, CS_PROMOTIONS]
/-- Fields, part 6. -/
def table6 : List Field := [CS_DEMOTIONS, CS_FAULT_INS, CS_MIG_ABORTS, CS_MIRROR_WRITES, CS_PROMO_NOROOM, CS_RETIRED_SLOTS, QM_CTRL_EN, QM_CTRL_IDLE_REL, QM_ARB_W_INT, QM_ARB_W_BULK, QM_ARB_W_BG, QM_STATUS_SLOTS_USED, QM_STATUS_URG_USED, QM_STATUS_QUEUES_ACTIVE, QM_TILE_PREEMPT_BITS, QM_EPOCH_CAP_CAP_NS, QM_Q_IDX_QUEUE, QM_Q_SQ_LOC, QM_Q_SQ_BASE, QM_Q_CQ_LOC, QM_Q_CQ_BASE, QM_Q_CFG_SQ_LOG2, QM_Q_CFG_CQ_LOG2, QM_Q_CFG_CLASS, QM_Q_CFG_WEIGHT, QM_Q_CFG_PARTITION, QM_Q_CFG_GROUP, QM_Q_CFG_DRV_MAJOR, QM_Q_CFG_DRV_MINOR, QM_Q_CFG_VECTOR, QM_Q_IRQ_COAL_COUNT, QM_Q_IRQ_COAL_US, QM_Q_CMD_OP, QM_Q_STATE_STATE, QM_Q_STATE_UNTESTED, QM_Q_STATE_INFLIGHT, QM_Q_STATE_SQ_HEAD, QM_Q_STATE_CQ_TAIL, QM_Q_STATE_CQ_PHASE, QM_Q_BOUND_NS, QM_FETCHED, QM_COMPLETED, QM_BOUND_SLOTS_NS, QM_BOUND_URG_NS, QM_BOUND_XPORT_NS, QM_BOUND_PEER_NS, QM_BOUND_CQ_NS, QM_MEM_IDX, QM_BOUND_MEM_NS, QM_PREEMPTIONS, QM_DB_IGNORED, QM_DB_FOREIGN, DM_CTRL_EN, DM_STATUS_ACTIVE, DM_STATUS_BUSY, DM_BYTES, DM_XFERS, DM_ERRORS, DM_LAST_ERR_ADDR, DM_LAST_ERR_PART]
/-- Fields, part 7. -/
def table7 : List Field := [SY_CTRL_DL_EN, SY_CTRL_DL_ACTION, SY_CTRL_DL_TIME, SY_PART_IDX_PARTITION, SY_PART_TMO_DEFAULT, SY_PART_STATE_BLOCKED, SY_PART_STATE_STALLED, SY_PART_STATE_STALLED_US, SY_PART_UNDERFLOWS, SY_PART_TIMEOUTS, SY_PART_DEADLOCKS, SY_KNOT_IDX_KNOT, SY_KNOT_VAL_VALUE, SY_KNOT_CFG_EXTERNAL, SY_KNOT_CFG_HIGH, SY_KNOT_CFG_OWNER, SY_KNOT_CFG_NWAIT, SY_KNOT_WIDX_WAITER, SY_KNOT_WAITER, SY_KNOT_LAST_AGENT, SY_KNOT_LAST_PARTITION, SY_KNOT_LAST_FNID, SY_KNOT_LTIME, SY_FE_ADDR_WORD, SY_FE_STATE_FULL, SY_FE_STATE_NWAIT, SY_FE_WAITER, SY_EV_IDX_RECORD, SY_EV_HDR_TYPE, SY_EV_HDR_PARTITION, SY_EV_HDR_COUNT, SY_EV_HDR_FAILED, SY_EV_OBJ_KIND, SY_EV_OBJ_OBJECT, SY_EV_AGENT, SY_EV_AGENT2, SY_EV_TIME, SY_DL_IDX_ENTRY, SY_DL_QUEUE_QUEUE, SY_DL_QUEUE_HEAD, SY_RESUME_QUEUE, SY_RESUME_OP, SY_STATUS_EV_HEAD, SY_STATUS_EV_WRAPPED, SY_SIGNALS, SY_WAITS, SY_FE_WAITS, FX_CTRL_EN, FX_CTRL_MODE, FX_CTRL_FOLD, FX_STATUS_UP, FX_STATUS_ANCHOR, FX_STATUS_RETUNING, FX_LANE_IDX_LANE, FX_LANE_CHANNEL, FX_LANE_PEER, FX_LANE_PEER_VALID, FX_LANE_UP, FX_LANE_ANCHOR, FX_LANE_LLR_KIB]
/-- Fields, part 8. -/
def table8 : List Field := [FX_FRAMES_TX, FX_FRAMES_RX, FX_FEC_CORR, FX_FEC_UNCORR, FX_LLR_REPLAYS, FX_LINK_DOWNS, FX_CE_MARKED, FX_CTRL_DISCARDED, GT_CTRL_EN, GT_CTRL_MODE, GT_CTRL_IPV4, GT_CTRL_STATIC_ROUTES, GT_CTRL_VLAN_EN, GT_CTRL_VID, GT_CTRL_PCP, GT_CTRL_DSCP, GT_CTRL_UDP_PORT, GT_NODE_FNID, GT_NODE_STATIC, GT_NODE_VALID, GT_NODE_RING_INDEX, GT_NODE_RING_N, GT_NODE_PRIORITY, GT_NODE_NCAND, GT_COORD_COORD, GT_COORD_COORD_VALID, GT_COORD_IS_COORD, GT_CAND, GT_PREFIX, GT_V4_BASE, GT_V4_GATEWAY, GT_TIMING_ACK_TMO, GT_TIMING_PATH_MAX, GT_TIMING_RETX, GT_TIMING_CHAN_PERIOD, GT_IDX_FNID, GT_ROUTE, GT_PEER_STATE, GT_PEER_INCARNATION, GT_PEER_OUTSTANDING, GT_RXBUF_KIB, GT_PKTS_TX, GT_PKTS_RX, GT_RETX, GT_HANDOFFS, GT_DUPS, GT_BUSY_SENT, GT_BUSY_RCVD, GT_ECE, GT_RELAYED, GT_AUTH_FAILS, TM_NOW, TM_CTRL_PPS_IN_EN, TM_CTRL_PPS_OUT_EN, TM_CTRL_MASTER, TM_CTRL_LOCKED, TM_CTRL_PPS_ACTIVE, TM_PPS_SEC_SECONDS, TM_PPS_LAST, TM_OFFSET_OFFSET]
/-- Fields, part 9. -/
def table9 : List Field := [TM_OFFSET_DELAY, TM_PARENT_FNID, TM_PARENT_DEPTH, TM_EXCHANGES, TM_SLEW_CYCLES, PA_STATUS, PA_PART_IDX_PARTITION, PA_PART_CFG_STATE, PA_PART_CFG_KEY_CUR, PA_PART_CFG_KEY_PREV, PA_PART_CFG_CUR_VALID, PA_PART_CFG_PREV_VALID, PA_PART_CMD_OP, PA_SAVE_BASE_BASE, PA_FKEY_IDX_KEY_ID, PA_FKEY_IDX_WORD, PA_FKEY_DATA, PA_FOREIGN, PA_MEM_IDX_GRANULE, PA_MEM_OWNER_OWNER, PA_MEM_OWNER_ASSIGNED, PA_MEM_OWNER_POOL, PA_ENG_IDX_ENGINE, PA_ENG_OWNER_OWNER, PA_TILE_IDX_TILE, PA_TILE_CFG_SHARED, PA_TILE_CFG_OWNER, PA_TILE_CFG_HOLDER, PA_TILE_CFG_QUANTUM_US, PA_TILE_SHARE, PA_HANDOVERS, PA_SHARE_WAIT_NS, PA_MBOX_REQ0, PA_MBOX_REQ1, PA_MBOX_REQ2, PA_MBOX_REQ3, PA_MBOX_REQ4, PA_MBOX_REQ5, PA_MBOX_REQ6, PA_MBOX_REQ7, PA_MBOX_RSP0, PA_MBOX_RSP1, PA_MBOX_RSP2, PA_MBOX_RSP3, PA_MBOX_RSP4, PA_MBOX_RSP5, PA_MBOX_RSP6, PA_MBOX_RSP7, PA_MBOX_CTRL_REQ, PA_MBOX_CTRL_RSP, BT_STATE_STATE, BT_STATE_DEGR, BT_STATE_LIMIT, BT_STATUS_BYPASS, BT_STATUS_JOURNAL_OK, BT_STATUS_CALSTORE_OK, BT_STATUS_FACTORY_OK, BT_STATUS_FACTORY_START, BT_STATUS_SFW_SLOT, BT_STATUS_PFW_SLOT]
/-- Fields, part 10. -/
def table10 : List Field := [BT_STATUS_SFW_FALLBACK, BT_STATUS_PFW_FALLBACK, BT_STATUS_UNTESTED, BT_STATUS_HDR_OK, BT_STATUS_MOD_RESET_LVL, BT_STATUS_PERST_LVL, BT_STATUS_STUCK_MOD, BT_STATUS_STUCK_PERST, BT_BOOT_COUNT_COUNT, BT_FW_SFW_IF_VER, BT_FW_SFW_BUILD, BT_FW_PFW_IF_VER, BT_FW_PFW_BUILD, BT_FW_SEL_SFW_PREF, BT_FW_SEL_PFW_PREF, BT_FW_SEL_WRITING, BT_CTRL_SAVE, BT_CTRL_REBOOT, BT_TIME_IDX_STATE, BT_TIME_MS, BT_JOURNAL_GEN, BT_JOURNAL_COPY, BT_JOURNAL_USED, BT_JOURNAL_PENDING, BT_JOURNAL_COMPACTING, BT_JOURNAL_WRITES, BT_RESET_LAST_HOLD_MS, BT_RESET_LAST_MOD, BT_RESET_LAST_PERST, FL_INFO_LOG2_SIZE, FL_INFO_MODE, FL_INFO_FREQ_MHZ, FL_INFO_SFDP_OK, FL_ADDR_ADDR, FL_LEN_LEN_M1, FL_CMD_OP, FL_STATUS_BUSY, FL_STATUS_RESULT, FL_STATUS_FAIL_ADDR, FL_INT_LAST_RESULT, FL_INT_LAST_ADDR, FL_HOST_OPS, FL_INT_OPS, FL_REFUSALS, PAGE_ID_BLOCK, PAGE_ID_INSTANCE, PAGE_ID_VERSION, PAGE_ID_LAYOUT, PAGE_CAPS_HAS_IRQ, PAGE_CAPS_HAS_WINDOWS, PAGE_CAPS_HAS_COUNTERS, PAGE_CAPS_OWNED, PAGE_CAPS_ISLAND, PAGE_CTRL_CNT_FREEZE, PAGE_CTRL_CNT_CLEAR, PAGE_STATUS_HW_LOST, PAGE_STATUS_BAD_WIDTH, PAGE_STATUS_STARTED, PAGE_STATUS_IRQ_PENDING, PAGE_ERR_MASK]
/-- Fields, part 11. -/
def table11 : List Field := [PAGE_IRQ_EN, PAGE_OWNER_OWNER, ID_PART0, ID_PART1, ID_STEPPING_MINOR, ID_STEPPING_MAJOR, ID_SERIAL, ID_MAC_BASE_MAC, ID_COUNTS_TILES, ID_COUNTS_ENGINES, ID_COUNTS_CORES, ID_COUNTS_PORTS, ID_COUNTS_HBM, ID_COUNTS_LPDDR, ID_MEM_HBM, ID_MEM_LPDDR, ID_PCI_VENDOR, ID_PCI_PF_DEV, ID_PCI_VF_DEV, ID_MFG_DATE, PM_PACE_STEPS_US, PM_VCORE_MEAS_MV, PM_VCORE_SET_MV, PM_INPUT_VIN, PM_INPUT_IIN, PM_INPUT_POWER_W, PM_PWR_LIMIT_LIMIT_W, PM_TEMP_MAX_CORE, PM_TEMP_MAX_PHOTONIC, PM_TEMP_MAX_HBM, PM_TEMP_MAX_COLDPLATE, PM_THERM_WARN_C, PM_THERM_WARN, PM_THERM_OVER, PM_THERM_LIMITING, PM_SENSOR_IDX_SENSOR, PM_SENSOR_TEMP, PM_SENSOR_VALID, PM_RAIL_IDX_RAIL, PM_RAIL_MV, PM_LIMIT_NS, PM_WARN_EVENTS, PM_OVER_EVENTS, HI_LINK_SPEED, HI_LINK_WIDTH, HI_LINK_FLIT, HI_LINK_UP, HI_SRIOV_NUM_VFS, HI_SRIOV_VF_ENABLE, HI_BAR2_IDX_FUNCTION, HI_BAR2_BASE_BASE, HI_EVT_SUM0, HI_EVT_SUM1, HI_EVT_SUM2, HI_EVT_SUM3, HI_AER_CORR, HI_AER_UNCORR, HI_LINK_DOWNS, HI_UNMAPPED_CNT, TR_CTRL_EN]
/-- Fields, part 12. -/
def table12 : List Field := [TR_CTRL_FW_EN, TR_PART_IDX_PARTITION, TR_REGION_BASE, TR_SIZE_SIZE, TR_BYTES, TR_DROPPED_ALL, TR_PCTRL_EN, TR_PCTRL_STOP, TR_PCTRL_CMD_EN, TR_PCTRL_CC_EN, TR_PCTRL_EVT_EN, TR_PCTRL_SNAP_EN, TR_PCTRL_SNAP_MS, TR_HEAD_RECORD, TR_HEAD_FULL, TR_HEAD_LOST, TR_TAIL_RECORD, TR_DROPPED, TR_RECORDS, PF_PART_IDX_PARTITION, PF_IDX_COUNTER, PF_VAL, PF_FLT_IDX_FILTER, PF_FLT_MATCH_L_MATCH, PF_FLT_MATCH_O_MATCH, PF_FLT_MASK_L_MASK, PF_FLT_MASK_O_MASK, PF_FLT_BITMACS, PF_FLT_STEPS, PF_FLT_BYTES, CC_CTRL_HALT, CC_CTRL_RESUME, CC_CTRL_STEP, CC_STATUS_STATE, CC_STATUS_LAST_BP, CC_STATUS_SPLIT, CC_PC_PC, CC_BP_IDX_BP, CC_BP_ADDR, CC_BP_EN, CC_BP_KIND, CC_BREAKS, VE_CTRL_HALT, VE_CTRL_RESUME, VE_STATUS_STATE, VE_STATUS_FAULTED, VE_STATUS_INT_SAT, VE_PC_PC, VE_STEPS, PAGE_ERR]
/-- Every field of every register page. -/
def table : List Field := table0 ++ table1 ++ table2 ++ table3 ++ table4 ++ table5 ++ table6 ++ table7 ++ table8 ++ table9 ++ table10 ++ table11 ++ table12

end Reg

namespace Ev

/-- R94. -/
def PT_RATE_HIGH : Event := ⟨.PT, 0⟩
/-- R94. -/
def PT_RATE_PERSIST : Event := ⟨.PT, 1⟩
/-- R94. -/
def PT_OUT_OF_SERVICE : Event := ⟨.PT, 2⟩
/-- R94. -/
def PT_REPLAY_EXHAUSTED : Event := ⟨.PT, 3⟩
/-- R94. -/
def PT_LOAD_MISMATCH : Event := ⟨.PT, 4⟩
/-- R118. -/
def QS_SCALE_RESERVED : Event := ⟨.QS, 0⟩
/-- R118. -/
def QS_ZP_RANGE : Event := ⟨.QS, 1⟩
/-- R118. -/
def QS_SCALE_CLAMP : Event := ⟨.QS, 2⟩
/-- R118. -/
def QS_NONFINITE : Event := ⟨.QS, 3⟩
/-- R118. -/
def QS_ROW_TOO_LONG : Event := ⟨.QS, 4⟩
/-- R118. -/
def QS_NO_ROWBUF : Event := ⟨.QS, 5⟩
/-- R118. -/
def QS_ROWBUF_ACCESS : Event := ⟨.QS, 6⟩
/-- R118. -/
def QS_SCALE_MISMATCH : Event := ⟨.QS, 7⟩
/-- R118. -/
def QS_ADAPTED : Event := ⟨.QS, 8⟩
/-- R138. -/
def AC_SAT : Event := ⟨.AC, 0⟩
/-- R138. -/
def AC_CONV_SAT : Event := ⟨.AC, 1⟩
/-- R138. -/
def AC_INCOMPLETE : Event := ⟨.AC, 2⟩
/-- R138. -/
def AC_PATCH_BUSY : Event := ⟨.AC, 3⟩
/-- R138. -/
def AC_BAD_PATCH : Event := ⟨.AC, 4⟩
/-- R138. -/
def AC_OVERLAP : Event := ⟨.AC, 5⟩
/-- R138. -/
def AC_SPLICE_FORMAT : Event := ⟨.AC, 6⟩
/-- R138. -/
def AC_NARROW_REFUSED : Event := ⟨.AC, 7⟩
/-- R162. -/
def LK_FOLLOW_ERR : Event := ⟨.LK, 0⟩
/-- R162. -/
def LK_LIMITED : Event := ⟨.LK, 1⟩
/-- R162. -/
def LK_OVERRUN : Event := ⟨.LK, 2⟩
/-- R162. -/
def LK_FF_TABLE : Event := ⟨.LK, 3⟩
/-- R162. -/
def LK_SETPOINT_IMAGE : Event := ⟨.LK, 4⟩
/-- R164. -/
def HM_HOT_ACTIVE : Event := ⟨.HM, 0⟩
/-- R184. -/
def PM_CAL_FAIL : Event := ⟨.PM, 8⟩
/-- R184. -/
def PM_CAL_LATE : Event := ⟨.PM, 9⟩
/-- R184. -/
def PM_SPARE_SUB : Event := ⟨.PM, 10⟩
/-- R184. -/
def PM_COL_MASKED : Event := ⟨.PM, 11⟩
/-- R184. -/
def PM_ROW_MASKED : Event := ⟨.PM, 12⟩
/-- R184. -/
def PM_LINE_LOST : Event := ⟨.PM, 13⟩
/-- R184. -/
def PM_CAL_STORE : Event := ⟨.PM, 14⟩
/-- R206. -/
def LL_REFIN_RANGE : Event := ⟨.LL, 0⟩
/-- R206. -/
def LL_RING_FULL : Event := ⟨.LL, 1⟩
/-- R206. -/
def LL_INJ_MISSED : Event := ⟨.LL, 2⟩
/-- R206. -/
def LL_TRIG_MISSED : Event := ⟨.LL, 3⟩
/-- R206. -/
def LL_CFG_BUSY : Event := ⟨.LL, 4⟩
/-- R206. -/
def LL_SYSCAL_FAIL : Event := ⟨.LL, 5⟩
/-- R206. -/
def LL_COEF : Event := ⟨.LL, 6⟩
/-- R208. -/
def HM_LEG_TRIP : Event := ⟨.HM, 8⟩
/-- R208. -/
def HM_QUAD_TRIP : Event := ⟨.HM, 9⟩
/-- R208. -/
def HM_RAIL_REFUSED : Event := ⟨.HM, 10⟩
/-- R208. -/
def HM_REARM_REFUSED : Event := ⟨.HM, 11⟩
/-- R224. -/
def LS_DRV_OC : Event := ⟨.LS, 0⟩
/-- R224. -/
def LS_EOL : Event := ⟨.LS, 1⟩
/-- R224. -/
def LS_POWER_LOW : Event := ⟨.LS, 2⟩
/-- R224. -/
def LS_LINE_LOST : Event := ⟨.LS, 3⟩
/-- R224. -/
def LS_LINE_LOW : Event := ⟨.LS, 4⟩
/-- R224. -/
def LS_RX_WARN : Event := ⟨.LS, 5⟩
/-- R224. -/
def LS_RX_ALARM : Event := ⟨.LS, 6⟩
/-- R224. -/
def LS_RX_HIGH : Event := ⟨.LS, 7⟩
/-- R224. -/
def LS_RX_LOS : Event := ⟨.LS, 8⟩
/-- R224. -/
def LS_PEER_STALE : Event := ⟨.LS, 9⟩
/-- R224. -/
def LS_TUNE_FAIL : Event := ⟨.LS, 10⟩
/-- R250. -/
def CS_STALE_HANDLE : Event := ⟨.CS, 0⟩
/-- R250. -/
def CS_NOT_OWNER : Event := ⟨.CS, 1⟩
/-- R250. -/
def CS_BAD_HANDLE : Event := ⟨.CS, 2⟩
/-- R250. -/
def CS_QUOTA : Event := ⟨.CS, 3⟩
/-- R250. -/
def CS_NO_SLOT : Event := ⟨.CS, 4⟩
/-- R250. -/
def CS_COIL_LOST : Event := ⟨.CS, 5⟩
/-- R250. -/
def CS_MIRROR_LOST : Event := ⟨.CS, 6⟩
/-- R250. -/
def CS_TABLE_COPY : Event := ⟨.CS, 7⟩
/-- R250. -/
def CS_RETIRED : Event := ⟨.CS, 8⟩
/-- R279. -/
def QM_BAD_FORMAT : Event := ⟨.QM, 0⟩
/-- R279. -/
def QM_BAD_OPCODE : Event := ⟨.QM, 1⟩
/-- R279. -/
def QM_DB_BAD : Event := ⟨.QM, 2⟩
/-- R279. -/
def QM_DB_FOREIGN : Event := ⟨.QM, 3⟩
/-- R279. -/
def QM_RING_FAULT : Event := ⟨.QM, 4⟩
/-- R279. -/
def QM_DRV_MISMATCH : Event := ⟨.QM, 5⟩
/-- R279. -/
def QM_UNTESTED_DRV : Event := ⟨.QM, 6⟩
/-- R279. -/
def QM_EPOCH_LONG : Event := ⟨.QM, 7⟩
/-- R279. -/
def QM_NO_BANK : Event := ⟨.QM, 8⟩
/-- R280. -/
def DM_ADDR_FAULT : Event := ⟨.DM, 0⟩
/-- R280. -/
def DM_DEST_ERROR : Event := ⟨.DM, 1⟩
/-- R280. -/
def DM_REMOTE_FAIL : Event := ⟨.DM, 2⟩
/-- R307. -/
def SY_UNDERFLOW : Event := ⟨.SY, 0⟩
/-- R307. -/
def SY_OVERFLOW : Event := ⟨.SY, 1⟩
/-- R307. -/
def SY_WAIT_TIMEOUT : Event := ⟨.SY, 2⟩
/-- R307. -/
def SY_DEADLOCK : Event := ⟨.SY, 3⟩
/-- R307. -/
def SY_FOREIGN : Event := ⟨.SY, 4⟩
/-- R307. -/
def SY_KNOT_HIGH : Event := ⟨.SY, 5⟩
/-- R344. -/
def FX_LLR_EXHAUSTED : Event := ⟨.FX, 0⟩
/-- R344. -/
def FX_LINK_DOWN : Event := ⟨.FX, 1⟩
/-- R344. -/
def FX_WIRING : Event := ⟨.FX, 2⟩
/-- R344. -/
def FX_FEC_HIGH : Event := ⟨.FX, 3⟩
/-- R344. -/
def FX_RELAY_DROP : Event := ⟨.FX, 4⟩
/-- R344. -/
def FX_CTRL_DISCARDED : Event := ⟨.FX, 5⟩
/-- R346. -/
def GT_PEER_FAILED : Event := ⟨.GT, 0⟩
/-- R346. -/
def GT_PEER_RESET : Event := ⟨.GT, 1⟩
/-- R346. -/
def GT_AUTH_FAIL : Event := ⟨.GT, 2⟩
/-- R346. -/
def GT_NO_ROUTE : Event := ⟨.GT, 3⟩
/-- R346. -/
def GT_COORD_LOST : Event := ⟨.GT, 4⟩
/-- R346. -/
def GT_FNID_CONFLICT : Event := ⟨.GT, 5⟩
/-- R346. -/
def GT_PEER_BUSY : Event := ⟨.GT, 6⟩
/-- R348. -/
def TM_UNLOCKED : Event := ⟨.TM, 0⟩
/-- R348. -/
def TM_PPS_CONFLICT : Event := ⟨.TM, 1⟩
/-- R348. -/
def TM_PPS_MISSING : Event := ⟨.TM, 2⟩
/-- R348. -/
def TM_PARENT_LOST : Event := ⟨.TM, 3⟩
/-- R370. -/
def PA_FOREIGN_ACCESS : Event := ⟨.PA, 0⟩
/-- R370. -/
def PA_RELEASED : Event := ⟨.PA, 1⟩
/-- R370. -/
def PA_MBOX_REQ : Event := ⟨.PA, 2⟩
/-- R398. -/
def BT_EARLY_ACCESS : Event := ⟨.BT, 0⟩
/-- R398. -/
def BT_FW_MISMATCH : Event := ⟨.BT, 1⟩
/-- R398. -/
def BT_UNTESTED_PAIR : Event := ⟨.BT, 2⟩
/-- R398. -/
def BT_RESET_STUCK : Event := ⟨.BT, 3⟩
/-- R398. -/
def BT_FW_SIG : Event := ⟨.BT, 4⟩
/-- R398. -/
def BT_JOURNAL_INVALID : Event := ⟨.BT, 5⟩
/-- R398. -/
def BT_CALSTORE : Event := ⟨.BT, 6⟩
/-- R398. -/
def BT_FACTORY_RECORD : Event := ⟨.BT, 7⟩
/-- R398. -/
def BT_FLASH : Event := ⟨.BT, 8⟩
/-- R398. -/
def BT_DEGRADED : Event := ⟨.BT, 9⟩
/-- R398. -/
def BT_BYPASS : Event := ⟨.BT, 10⟩
/-- R398. -/
def BT_SETTING_IGNORED : Event := ⟨.BT, 11⟩
/-- R401. -/
def FL_NOT_BLANK : Event := ⟨.FL, 0⟩
/-- R401. -/
def FL_PROTECTED : Event := ⟨.FL, 1⟩
/-- R401. -/
def FL_ALIGN : Event := ⟨.FL, 2⟩
/-- R401. -/
def FL_TIMEOUT : Event := ⟨.FL, 3⟩
/-- R401. -/
def FL_VERIFY : Event := ⟨.FL, 4⟩
/-- R401. -/
def FL_INTERNAL : Event := ⟨.FL, 5⟩
/-- R424. -/
def PM_PWR_LIMIT_HIT : Event := ⟨.PM, 0⟩
/-- R424. -/
def PM_TEMP_WARN : Event := ⟨.PM, 1⟩
/-- R424. -/
def PM_OVERTEMP : Event := ⟨.PM, 2⟩
/-- R424. -/
def PM_THERMTRIP : Event := ⟨.PM, 3⟩
/-- R424. -/
def PM_INPUT_RANGE : Event := ⟨.PM, 4⟩
/-- R424. -/
def PM_RAIL_FAULT : Event := ⟨.PM, 5⟩
/-- R427. -/
def HI_LINK_DOWN : Event := ⟨.HI, 0⟩
/-- R427. -/
def HI_UNCORR : Event := ⟨.HI, 1⟩
/-- R427. -/
def HI_SPEED_DEGRADED : Event := ⟨.HI, 2⟩
/-- R427. -/
def HI_UNMAPPED : Event := ⟨.HI, 3⟩
/-- R456. -/
def TR_FULL : Event := ⟨.TR, 0⟩
/-- R456. -/
def TR_DROPPED : Event := ⟨.TR, 1⟩
/-- R456. -/
def TR_REGION_LOST : Event := ⟨.TR, 2⟩
/-- R458. -/
def CC_BREAK : Event := ⟨.CC, 0⟩
/-- R458. -/
def CC_PAIR_SPLIT : Event := ⟨.CC, 1⟩
/-- R458. -/
def CC_FW_HALT : Event := ⟨.CC, 2⟩
/-- R458. -/
def CC_DBG_REFUSED : Event := ⟨.CC, 3⟩
/-- R458. -/
def VE_INT_SAT : Event := ⟨.VE, 0⟩
/-- R458. -/
def VE_ENGINE_FAULT : Event := ⟨.VE, 1⟩

end Ev

end Sys2Proof.Machine
end

