-- ==== Sys2Proof/Machine/State.lean ====
section
/-! DEFINITION. The state of the module, its state after reset, and the reasons a command can stop. -/
namespace Sys2Proof.Machine

/-- The module. Register fields live in `regs`, by field number and then by instance and window element; a field not
listed holds its reset value. -/
structure Dev where
  /-- Register fields (R402, R407). -/
  regs : NMap (NMap Nat) := []
  /-- The module address space (R418): bytes by address; an unlisted byte reads 0. -/
  mem : NMap Byte := []
  /-- The 64-byte data units that hold an uncorrectable error, by address over 64 (R438). -/
  badMem : List Nat := []
  /-- Fabric time (R339), the home of TM_NOW. -/
  now : Nat := 0
  /-- Local time since input power became valid, in the units of fabric time but never stepped: what local timers count. -/
  mono : Nat := 0
  /-- The counter that fresh free values are applied to: the model's own. -/
  seed : Nat := 0
  /-- MSI-X vectors raised, newest last: PCIe function and vector (R406, R416). -/
  msix : List (Nat × Nat) := []
  /-- The sixteen tiles (R13). -/
  tiles : NMap Tile := []
  /-- The 65,536 queues (R252). -/
  queues : NMap Queue := []
  /-- Host driver interface versions the running system firmware lists as tested (R392 DRV, R395). -/
  sfwDrv : List Nat := []
  /-- The arbiter (R269). -/
  arb : Arb := {}
  /-- Work counts of commands in flight, by queue and CMD_ID (R449). -/
  work : NMap Work := []
  /-- DMA transfers in progress (R277). -/
  xfers : List Xfer := []
  /-- DMA commands that wait for an engine, oldest first (R280). -/
  dmaWait : List Cmd := []
  nextXfer : Nat := 1
  /-- Vector engines 0 to 63 and control cores 64 to 83 (R285 HOST). -/
  engines : NMap Engine := []
  /-- Launches that wait for a free engine, oldest first (R264, R265). -/
  launches : List Launch := []
  /-- Operations on coils, in arrival order (R236). -/
  coilOps : List CoilOp := []
  /-- The context store (spec/10). -/
  coil : CoilStore := {}
  /-- Knots by knot ID (R285). -/
  knots : NMap Knot := []
  /-- Full/empty words by address (R282). -/
  feWords : NMap FeWord := []
  /-- Full/empty accesses parked for want of a waiter entry, in arrival order (R284). -/
  feParked : List FePark := []
  /-- Waits in progress (R281). -/
  waits : List Wait := []
  nextWait : Nat := 1
  /-- Synchronisation event log by record (R306). -/
  syEvents : NMap SyEvent := []
  /-- Deadlock list of the last report (R299). -/
  dlList : List DlEntry := []
  /-- Partitions already reported stalled (R299). -/
  dlReported : List Nat := []
  /-- What engines got from served full/empty accesses, newest last (R283). -/
  served : List Served := []
  /-- Partitions (R349). -/
  parts : NMap Part := []
  /-- Granules being zeroed, with the owner that takes each (R355). -/
  zeroing : NMap Nat := []
  /-- Owner in force of each engine (R352). -/
  engOwner : NMap Nat := []
  /-- Trace sequence numbers and records dropped since the last one written, by partition (R446, R448). -/
  trSeq : NMap Nat := []
  trLost : NMap Nat := []
  /-- Address plus 1 of the BREAK record of a HALT, by control core, while the core drains (R453). -/
  brk : NMap Nat := []
  /-- Branch records being filled, by control core (R450). -/
  branches : NMap BranchRec := []
  /-- Firmware pairs that have halted (R437): 0 system, 1 photonics. -/
  fwHalted : List Nat := []
  /-- Symbol-rate changes in progress by quadrant (R90): 1 draining, 2 plus the rate being retuned to. -/
  rate : NMap Nat := []
  /-- Frame events so far (R143). -/
  frames : Nat := 0
  /-- Rings and heater legs by tile, heater rails by quadrant (spec/06, R198 to R203). -/
  rings : NMap RingTile := []
  rails : NMap Rail := []
  /-- Leadline units LL0 to LL16 and the system calibration (spec/08). -/
  ll : NMap LlUnit := []
  syscal : SysCal := {}
  /-- Comb sources by quadrant, fabric lanes by port × 8 + lane (spec/09). -/
  combs : NMap Comb := []
  optics : NMap LaneOptics := []
  /-- The Greuk fabric (spec/13). -/
  fabric : Fabric := {}
  /-- Management island and flash (spec/15). -/
  boot : Boot := {}
  deriving DecidableEq, Repr

/-- The state of the block: the module, and the queue of commands that wait, first in first out. -/
structure State where
  dev : Dev := {}
  pending : List Instr := []
  deriving DecidableEq, Repr

/-- No command of the table stops the module: nothing raises a fault. -/
inductive Fault where
  deriving DecidableEq, Repr

/-- Why the model refuses a command. -/
inductive Refusal where
  /-- Raised by an arm of Dispatch.lean whose command has no meaning yet. Safe. -/
  | notModelled (mnemonic : String)
  deriving DecidableEq, Repr

/-- The module just after a recognised reset: in STANDBY, every register field at its reset value, nothing in memory. -/
def State.reset : State := {}

/-- A meaning works on the module alone; the queue of waiting commands is untouched. -/
def State.on (s : State) (f : Dev → Dev) : Host.Outcome State Fault Refusal := .next { s with dev := f s.dev }

end Sys2Proof.Machine
end

