-- ==== Sys2Proof/Machine/Ops.lean ====
section
/-! DEFINITION. The named operations every meaning is written with: register fields, pages, events and interrupts, memory
accesses, traces, and finishing a command. -/
namespace Sys2Proof

/-! Bits and signed readings -/

/-- Bits `hi` down to `lo` of a natural number. -/
def nbits (n hi lo : Nat) : Nat := n / 2 ^ lo % 2 ^ (hi + 1 - lo)

/-- Bits `hi` down to `lo` of a word. -/
def bits (w : Word) (hi lo : Nat) : Nat := nbits w.toNat hi lo

/-- Bit `i` of a word. -/
def bit (w : Word) (i : Nat) : Bool := bits w i i == 1

/-- The two's complement reading of `w` bits. -/
def toSigned (w n : Nat) : Int := if n % 2 ^ w < 2 ^ (w - 1) then (n % 2 ^ w : Nat) else (n % 2 ^ w : Nat) - (2 ^ w : Nat)

/-- The `w`-bit two's complement code of an integer. -/
def ofSigned (w : Nat) (i : Int) : Nat := (i % (2 ^ w : Nat)).toNat

/-- A Boolean as a one-bit field. -/
def b2n (b : Bool) : Nat := if b then 1 else 0

/-- The numbers below `n` whose bit is set in `m`, ascending. -/
def bitsSet (n m : Nat) : List Nat := (List.range n).filter (fun i => m.testBit i)

/-- `x` with bit `i` set or clear. -/
def putBit (x i : Nat) (b : Bool) : Nat := if b then x ||| 2 ^ i else if x.testBit i then x - 2 ^ i else x

/-! Fields of a submission entry -/

/-- OPCODE (R259). -/
def Cmd.opcode (c : Cmd) : Nat := bits c.w0 7 0
/-- FENCE. -/
def Cmd.fence (c : Cmd) : Bool := bit c.w0 8
/-- IRQ. -/
def Cmd.irqBit (c : Cmd) : Bool := bit c.w0 9
/-- QUIET. -/
def Cmd.quiet (c : Cmd) : Bool := bit c.w0 10
/-- CMD_ID. -/
def Cmd.id (c : Cmd) : Nat := bits c.w0 31 16
/-- LAYER_ID. -/
def Cmd.layer (c : Cmd) : Nat := bits c.w0 63 32
/-- OPERATOR_ID. -/
def Cmd.op (c : Cmd) : Nat := bits c.w1 31 0
/-- TILE. -/
def Cmd.tile (c : Cmd) : Nat := bits c.w1 35 32
/-- ENGINE. -/
def Cmd.engine (c : Cmd) : Nat := bits c.w1 41 36

/-- The key of a command's work counts. -/
def Cmd.key (c : Cmd) : Nat := c.queue * 65536 + c.id

/-- The code of an agent (R305). -/
def Agent.code : Agent → Nat
  | .queue n => n * 8
  | .ve n => 1 + n * 8
  | .cc n => 2 + n * 8
  | .dma n => 3 + n * 8
  | .peer _ => 4
  | .reg _ => 5

end Sys2Proof

namespace Sys2Proof.Machine

/-! Register fields -/

/-- The value of field `f` at key `i` (instance, with the window element above it). -/
def Dev.rd (s : Dev) (f : Field) (i : Nat) : Nat := NMap.get f.rst (NMap.get [] s.regs f.id) i

/-- Field `f` at `i` read as a flag. -/
def Dev.flag (s : Dev) (f : Field) (i : Nat) : Bool := s.rd f i == 1

/-- Field `f` at `i` read as a signed number. -/
def Dev.rdS (s : Dev) (f : Field) (i : Nat) : Int := toSigned f.width (s.rd f i)

/-- Write field `f` at `i`; the value is cut to the field's width. -/
def Dev.wr (s : Dev) (f : Field) (i v : Nat) : Dev :=
  { s with regs := NMap.set [] s.regs f.id (NMap.set f.rst (NMap.get [] s.regs f.id) i (v % 2 ^ f.width)) }

/-- Write a signed number to field `f` at `i`. -/
def Dev.wrS (s : Dev) (f : Field) (i : Nat) (v : Int) : Dev := s.wr f i (ofSigned f.width v)

/-- The number of a source, for its private index registers (R410). -/
def srcCode : Src → Nat
  | .pf0 => 0 | .vf n => n | .smbus => 64 | .fabric _ => 65 | .firmware c => 66 + c

/-- The partition a source acts for (R351); firmware acts for partition 0. -/
def srcPart : Src → Nat
  | .pf0 => 0 | .vf n => n | .smbus => 0 | .fabric p => p | .firmware _ => 0

/-- Whether a field is a setting that the journal keeps (R384); the boot header keeps BT_FW_SEL instead (R381). -/
def Field.isSetting (f : Field) : Bool := f.keep == .retained && f.acc == .rw && f.blk != .BT

/-- Software of source `src` writes a field (R407): a setting that partition 0 changes waits for the journal (R384). -/
def Dev.setBy (s : Dev) (src : Src) (f : Field) (i v : Nat) : Dev :=
  let t := s.wr f i v
  if srcPart src = 0 ∧ f.isSetting ∧ t.rd f i ≠ s.rd f i ∧ (f.id / 64, i) ∉ s.boot.pending then
    { t with boot := { t.boot with pending := t.boot.pending ++ [(f.id / 64, i)] } }
  else t

/-- Key of window element `e` of instance `i`, for blocks with several instances. -/
def win (i e : Nat) : Nat := i + 128 * e

/-- The index field `f` of instance `i` as source `src` wrote it (R410). -/
def Dev.rdIdx (s : Dev) (f : Field) (i : Nat) (src : Src) : Nat := s.rd f (win i (srcCode src))

/-! Pages (R415) -/

/-- The directory index of the page of block `b`, instance `i` (R426); LL16 comes after QM. -/
def pageOf (b : Blk) (i : Nat) : Nat :=
  match b with
  | .ID => 0 | .BT => 1 | .PM => 2 | .FL => 3 | .PA => 4 | .TM => 5 | .TR => 6 | .PF => 7 | .HI => 8 | .CS => 9
  | .SY => 10 | .GT => 11 | .QM => 12
  | .DM => 14 + i | .LS => 22 + i | .LF => 22 + i | .PT => 30 + i | .LK => 46 + i | .HM => 62 + i
  | .LL => if i = 16 then 13 else 78 + i
  | .AC => 94 + i | .QS => 110 + i | .CC => 126 + i | .VE => 146 + i | .FX => 210 + i
  | .PAGE => i

/-- The partition that holds tile `t` (R369 HOLDER). -/
def Dev.holder (s : Dev) (t : Nat) : Nat := s.rd Reg.PA_TILE_CFG_HOLDER t

/-- The partition in force of engine `e` (R352). -/
def Dev.engineOwner (s : Dev) (e : Nat) : Nat := NMap.get 0 s.engOwner e

/-- The partition that owns directory page `p` (R354). -/
def Dev.pageOwner (s : Dev) (p : Nat) : Nat :=
  if 30 ≤ p ∧ p < 46 then s.holder (p - 30)
  else if 94 ≤ p ∧ p < 110 then s.holder (p - 94)
  else if 110 ≤ p ∧ p < 126 then s.holder (p - 110)
  else if 126 ≤ p ∧ p < 146 then s.engineOwner (64 + (p - 126))
  else if 146 ≤ p ∧ p < 210 then s.engineOwner (p - 146)
  else 0

/-- Whether a block has more than one instance, so that keys carry the instance below the window element. -/
def manyInst : Blk → Bool
  | .DM | .LS | .LF | .PT | .LK | .HM | .LL | .AC | .QS | .CC | .VE | .FX => true
  | _ => false

/-- The page that holds field `f` at key `i`. -/
def pageOfKey (f : Field) (i : Nat) : Nat := pageOf f.blk (if manyInst f.blk then i % 128 else 0)

/-- Count `n` on a counter, unless its page's counters are frozen (R404); counters are 64 bits wide and wrap. -/
def Dev.bump (s : Dev) (f : Field) (i n : Nat) : Dev :=
  if s.flag Reg.PAGE_CTRL_CNT_FREEZE (pageOfKey f i) then s else s.wr f i (s.rd f i + n)

/-! Time (R16) -/

/-- `d` units of 1/16 ns pass: fabric time is 64 bits wide and wraps. -/
def Dev.pass (s : Dev) (d : Nat) : Dev := { s with now := (s.now + d) % 2 ^ 64, mono := s.mono + d }

/-- Fabric time has reached `t`: an event that comes at a time brings the time base there. -/
def Dev.reach (s : Dev) (t : Nat) : Dev := s.pass (t - s.now)

/-- Fabric time has reached `d` units after the stamp `t`. -/
def Dev.reachAfter (s : Dev) (t d : Nat) : Dev := s.pass (d - (s.now + 2 ^ 64 - t) % 2 ^ 64)

/-- Local time has reached `t`: a local timer has run out. -/
def Dev.reachLocal (s : Dev) (t : Nat) : Dev := s.pass (t - s.mono)

/-! Events and interrupts (R406) -/

/-- The interrupt request of page `p`: PAGE_ERR AND PAGE_IRQ_EN is non-zero. -/
def Dev.irq (s : Dev) (p : Nat) : Bool := (s.rd Reg.PAGE_ERR p &&& s.rd Reg.PAGE_IRQ_EN p) != 0

/-- Deliver vector 0 of the owner's function where the request of page `p` has risen since `old`. -/
def Dev.irqEdge (old s : Dev) (p : Nat) : Dev :=
  if !old.irq p && s.irq p then { s with msix := s.msix ++ [(s.pageOwner p, 0)] } else s

/-- Set bits of PAGE_ERR of page `p`, other than masked ones (R406). -/
def Dev.setErr (s : Dev) (p m : Nat) : Dev :=
  let set := bitsSet 64 m |>.filter (fun i => !(s.rd Reg.PAGE_ERR_MASK p).testBit i)
  Dev.irqEdge s (s.wr Reg.PAGE_ERR p (set.foldl (fun e i => e ||| 2 ^ i) (s.rd Reg.PAGE_ERR p))) p

/-! Bytes of memory -/

/-- The bytes of a little-endian number (R10). -/
def leBytes : Nat → Nat → List Byte
  | 0, _ => []
  | k + 1, n => BitVec.ofNat 8 n :: leBytes k (n / 256)

/-- The little-endian number of some bytes (R10). -/
def leNat : List Byte → Nat
  | [] => 0
  | b :: r => b.toNat + 256 * leNat r

/-- One byte of memory as stored. -/
def Dev.byte (s : Dev) (a : Nat) : Byte := NMap.get 0 s.mem a

/-- `n` bytes of memory as stored. -/
def Dev.bytes (s : Dev) (a n : Nat) : List Byte := (List.range n).map (fun i => s.byte (a + i))

/-- Store one byte. -/
def Dev.putByte (s : Dev) (a : Nat) (b : Byte) : Dev := { s with mem := NMap.set 0 s.mem a b }

/-- Store bytes from address `a` on. -/
def Dev.putBytes (s : Dev) : Nat → List Byte → Dev
  | _, [] => s
  | a, b :: r => (s.putByte a b).putBytes (a + 1) r

/-- A little-endian number of `n` bytes in memory. -/
def Dev.le (s : Dev) (a n : Nat) : Nat := leNat (s.bytes a n)

/-- Store a little-endian number of `n` bytes. -/
def Dev.putLe (s : Dev) (a n v : Nat) : Dev := s.putBytes a (leBytes n v)

/-- Overwrite `n` bytes with zeros. -/
def Dev.zero (s : Dev) (a n : Nat) : Dev := { s with mem := NMap.clearRange s.mem a (a + n) }

/-- Copy `n` bytes from `src` to `dst`, read whole before it is written. -/
def Dev.copy (s : Dev) (src dst n : Nat) : Dev :=
  { s with mem := (NMap.range s.mem src (src + n)).foldl (fun m e => NMap.set 0 m (e.1 - src + dst) e.2)
                    (NMap.clearRange s.mem dst (dst + n)) }

/-! Tiles and patch descriptors -/

/-- Tile `t`. -/
def Dev.tile (s : Dev) (t : Nat) : Tile := NMap.get {} s.tiles t

/-- Replace tile `t`. -/
def Dev.setTile (s : Dev) (t : Nat) (v : Tile) : Dev := { s with tiles := NMap.set {} s.tiles t v }

/-- Change tile `t`. -/
def Dev.modTile (s : Dev) (t : Nat) (f : Tile → Tile) : Dev := s.setTile t (f (s.tile t))

/-- Bytes of one accumulator in format `f`: ACC96, ACC48, ACC32 (R120). -/
def accWidth (f : Nat) : Nat := if f = 0 then 12 else if f = 1 then 6 else 4

/-- Blocks of 1 KiB of a patch of `rows` rows in format `f` (R120). -/
def patchBlocks (rows f : Nat) : Nat := (rows * 128 * accWidth f + 1023) / 1024

/-- VALID of a descriptor word 0 (R122). -/
def dValid (d : Nat × Nat) : Bool := d.1.testBit 0
/-- STATE: 0 IDLE, 1 ACCUM, 2 RETRIEVING. -/
def dState (d : Nat × Nat) : Nat := nbits d.1 2 1
/-- ACCFMT. -/
def dFmt (d : Nat × Nat) : Nat := nbits d.1 4 3
/-- Rows of the patch. -/
def dRows (d : Nat × Nat) : Nat := nbits d.1 10 5 + 1
/-- AC_SAT. -/
def dSat (d : Nat × Nat) : Bool := d.1.testBit 11
/-- AC_CONV_SAT. -/
def dConvSat (d : Nat × Nat) : Bool := d.1.testBit 12
/-- INCOMPLETE. -/
def dIncomplete (d : Nat × Nat) : Bool := d.1.testBit 13
/-- NARROW. -/
def dNarrow (d : Nat × Nat) : Bool := d.1.testBit 14
/-- BASE block. -/
def dBase (d : Nat × Nat) : Nat := nbits d.1 26 15
/-- OWNER partition. -/
def dOwner (d : Nat × Nat) : Nat := nbits d.1 32 27
/-- EPOCH_ADDS. -/
def dAdds (d : Nat × Nat) : Nat := nbits d.2 31 0
/-- SPLICES. -/
def dSplices (d : Nat × Nat) : Nat := nbits d.2 63 32
/-- Blocks of the patch. -/
def dBlocks (d : Nat × Nat) : Nat := patchBlocks (dRows d) (dFmt d)

/-- Word 0 of a newly opened patch. -/
def mkDesc (fmt rowsM1 base owner : Nat) : Nat × Nat :=
  (1 + fmt * 2 ^ 3 + rowsM1 * 2 ^ 5 + base * 2 ^ 15 + owner * 2 ^ 27, 0)

/-- Set STATE. -/
def dSetState (d : Nat × Nat) (v : Nat) : Nat × Nat := (d.1 - dState d * 2 + v * 2, d.2)

/-- Set flag bit `i` of word 0. -/
def dSetBit (d : Nat × Nat) (i : Nat) : Nat × Nat := (d.1 ||| 2 ^ i, d.2)

/-- Descriptor `d` of tile `t`. -/
def Dev.desc (s : Dev) (t d : Nat) : Nat × Nat := NMap.get (0, 0) (s.tile t).desc d

/-- Replace descriptor `d` of tile `t`. -/
def Dev.setDesc (s : Dev) (t d : Nat) (v : Nat × Nat) : Dev :=
  s.modTile t (fun x => { x with desc := NMap.set (0, 0) x.desc d v })

/-- Whether a run of blocks meets an open patch of tile `t` other than the descriptor `but` (R123, R127). -/
def Dev.meetsPatch (s : Dev) (t base n but : Nat) : Bool :=
  (s.tile t).desc.any (fun e => e.1 != but && dValid e.2 && decide (dBase e.2 < base + n) && decide (base < dBase e.2 + dBlocks e.2))

/-- Whether a run of blocks meets the pass-pair buffer of tile `t` (R127). -/
def Dev.meetsPpb (s : Dev) (t base n : Nat) : Bool :=
  let x := s.tile t
  x.ppbActive && decide (x.ppbBase < base + n) && decide (base < x.ppbBase + x.ppbBlocks)

/-! The module address space (R418) -/

/-- First address of the accumulator SRAM of tile `t` (R119). -/
def acBase (t : Nat) : Nat := 0x040008000000 + t * 0x00400000
/-- First address of shared staging SRAM. -/
def stagingBase : Nat := 0x04000C000000
/-- First address of the local memory of vector engine `e`. -/
def veBase (e : Nat) : Nat := 0x040000000000 + e * 0x00200000
/-- First address of LPDDR. -/
def lpddrBase : Nat := 0x010000000000
/-- First address of the register space. -/
def regBase : Nat := 0x080000000000
/-- First address of the host window. -/
def hostBase : Nat := 0x800000000000

/-- The regions of R418. -/
inductive Region where
  | hbm | lpddr | ve | ac | staging | reg | host | hole
  deriving DecidableEq, Repr

/-- The region of an address. -/
def regionOf (a : Nat) : Region :=
  if a < 0x008000000000 then .hbm
  else if lpddrBase ≤ a ∧ a < 0x020000000000 then .lpddr
  else if veBase 0 ≤ a ∧ a < 0x040008000000 then .ve
  else if acBase 0 ≤ a ∧ a < stagingBase then .ac
  else if stagingBase ≤ a ∧ a < 0x040010000000 then .staging
  else if regBase ≤ a ∧ a < 0x080004000000 then .reg
  else if hostBase ≤ a ∧ a < 0x1000000000000 then .host
  else .hole

/-- The ownership granule of an address of HBM, LPDDR or staging (R352). -/
def granuleOf (a : Nat) : Nat :=
  match regionOf a with
  | .hbm => a / 2 ^ 26
  | .lpddr => 8192 + (a - lpddrBase) / 2 ^ 26
  | _ => 24576 + (a - stagingBase) / 2 ^ 18

/-- The granules of a range that lies in one region. -/
def granulesOf (a n : Nat) : List Nat :=
  (List.range (granuleOf (a + (n - 1)) + 1 - granuleOf a)).map (fun i => granuleOf a + i)

/-- First address and length of granule `g`. -/
def granuleRange (g : Nat) : Nat × Nat :=
  if g < 8192 then (g * 2 ^ 26, 2 ^ 26)
  else if g < 24576 then (lpddrBase + (g - 8192) * 2 ^ 26, 2 ^ 26)
  else (stagingBase + (g - 24576) * 2 ^ 18, 2 ^ 18)

/-- Whether partition `p` may use granule `g`: it owns it and the granule is not being zeroed (R355). -/
def Dev.owns (s : Dev) (p g : Nat) : Bool :=
  s.rd Reg.PA_MEM_OWNER_OWNER g == p && s.flag Reg.PA_MEM_OWNER_ASSIGNED g

/-- Why an access is refused. -/
inductive Refuse where
  | ok | hole | foreign | lost | busy (t : Nat) | badPatch (t : Nat) | rowbuf (q : Nat) | uncorr (unit : Nat) | veFault (e : Nat)
  deriving DecidableEq, Repr

/-- Whether the device that holds an HBM or LPDDR address is lost (R439). -/
def Dev.deviceLost (s : Dev) (a : Nat) : Bool :=
  match regionOf a with
  | .hbm => (s.rd Reg.CS_STATUS_LOST_STACKS 0).testBit (a / 2 ^ 36)
  | .lpddr => (s.rd Reg.CS_STATUS_LOST_LPDDR 0).testBit ((a - lpddrBase) / 2 ^ 35)
  | _ => false

/-- The QS page, if any, whose enabled row buffers meet a range of staging (R106). -/
def Dev.rowbufAt (s : Dev) (a n : Nat) : Option Nat :=
  (List.range 16).find? (fun q => s.flag Reg.QS_ROWBUF_EN q &&
    decide (stagingBase + s.rd Reg.QS_ROWBUF_BASE q * 4096 < a + n) &&
    decide (a < stagingBase + s.rd Reg.QS_ROWBUF_BASE q * 4096 + 0x80000))

/-- The 64-byte data units of a range that hold an uncorrectable error (R438). -/
def Dev.badUnit (s : Dev) (a n : Nat) : Option Nat :=
  s.badMem.find? (fun u => decide (u * 64 < a + n) && decide (a < u * 64 + 64))

/-- The first refusal of some checks in order. -/
def firstRefuse : List Refuse → Refuse
  | [] => .ok
  | .ok :: r => firstRefuse r
  | x :: _ => x

/-- The instances that `n` ≥ 1 bytes at `a` touch, where an instance has `size` bytes from `base` on. -/
def touched (base size a n : Nat) : List Nat :=
  (List.range ((a + (n - 1) - base) / size + 1 - (a - base) / size)).map (fun i => (a - base) / size + i)

/-- What meets an access of partition `p` to the local memory of engine `e` (R353, R436). -/
def Dev.probeEngine (s : Dev) (p e : Nat) : Refuse :=
  if s.engineOwner e ≠ p then .foreign
  else if s.flag Reg.VE_STATUS_FAULTED e then .veFault e else .ok

/-- What meets an access of partition `p` to the bytes from `lo` up to `hi` that lie in the accumulator SRAM of tile `t`
(R126, R131). -/
def Dev.probeTile (s : Dev) (p lo hi t : Nat) : Refuse :=
  if s.holder t ≠ p then .foreign
  else
    let b0 := (max lo (acBase t) - acBase t) / 1024
    let b1 := (min hi (acBase t + 0x3FFFFF) - acBase t) / 1024
    let blocks := (List.range (b1 + 1 - b0)).map (fun i => b0 + i)
    let patchAt := fun b => (s.tile t).desc.find? (fun e => dValid e.2 && decide (dBase e.2 ≤ b) && decide (b < dBase e.2 + dBlocks e.2))
    if blocks.any (fun b => (patchAt b).isNone) then .badPatch t
    else if blocks.any (fun b => match patchAt b with | some e => dState e.2 != 0 | none => false) then .busy t
    else .ok

/-- What meets an access of partition `p` to `n` ≥ 1 bytes at `a`, without regard to uncorrectable errors (R131, R353,
R418). -/
def Dev.probe (s : Dev) (p a n : Nat) : Refuse :=
  let r := regionOf a
  if r ≠ regionOf (a + (n - 1)) then .hole
  else match r with
  | .hole => .hole
  | .reg => .hole
  | .host => .ok
  | .hbm | .lpddr =>
    if s.deviceLost a || s.deviceLost (a + (n - 1)) then .lost
    else if (granulesOf a n).all (s.owns p) then .ok else .foreign
  | .staging =>
    match s.rowbufAt a n with
    | some q => .rowbuf q
    | none => if (granulesOf a n).all (s.owns p) then .ok else .foreign
  | .ve => firstRefuse ((touched (veBase 0) 0x00200000 a n).map (s.probeEngine p))
  | .ac => firstRefuse ((touched (acBase 0) 0x00400000 a n).map (s.probeTile p a (a + (n - 1))))

/-- The check a read meets: the probe, then uncorrectable errors (R438). -/
def Dev.probeRead (s : Dev) (p a n : Nat) : Refuse :=
  match s.probe p a n with
  | .ok => match s.badUnit a n with | some u => .uncorr u | none => .ok
  | r => r

/-- The check a write meets: the probe, then uncorrectable units it covers only in part (R438). -/
def Dev.probeWrite (s : Dev) (p a n : Nat) : Refuse :=
  match s.probe p a n with
  | .ok =>
    match s.badMem.find? (fun u => decide (u * 64 < a + n) && decide (a < u * 64 + 64) &&
        !(decide (a ≤ u * 64) && decide (u * 64 + 64 ≤ a + n))) with
    | some u => .uncorr u
    | none => .ok
  | r => r

/-- A write that covers whole units clears their errors (R438). -/
def Dev.clearBad (s : Dev) (a n : Nat) : Dev :=
  { s with badMem := s.badMem.filter (fun u => !(decide (a ≤ u * 64) && decide (u * 64 + 64 ≤ a + n))) }

/-! Trace (R445 to R449) -/

/-- Entries of partition `p`'s trace ring: 2^20 records per 64 MiB (R445). -/
def Dev.traceSize (s : Dev) (p : Nat) : Nat := s.rd Reg.TR_SIZE_SIZE p * 2 ^ 20

/-- Whether partition `p` is traced. -/
def Dev.traceOn (s : Dev) (p : Nat) : Bool :=
  s.flag Reg.TR_CTRL_EN 0 && s.flag Reg.TR_PCTRL_EN p && s.rd Reg.TR_REGION_BASE p != 0 && !s.flag Reg.TR_HEAD_LOST p

/-- Whether partition `p`'s ring has no room: STOP mode and the next record would reach TR_TAIL (R446). -/
def Dev.traceFull (s : Dev) (p : Nat) : Bool :=
  s.flag Reg.TR_PCTRL_STOP p && (s.rd Reg.TR_HEAD_RECORD p + 1) % s.traceSize p == s.rd Reg.TR_TAIL_RECORD p

/-- The 64 bytes of a trace record (R448): type, partition, agent, status, sequence number, time, identifiers, payload. -/
def traceBytes (typ p agent status seq time layer op : Nat) (pay : List Nat) : List Byte :=
  leBytes 8 (typ % 16 + (p % 64) * 2 ^ 4 + (agent % 2 ^ 19) * 2 ^ 10 + (status % 2 ^ 16) * 2 ^ 29 + (seq % 2 ^ 19) * 2 ^ 45)
  ++ leBytes 8 time ++ leBytes 8 (layer % 2 ^ 32 + (op % 2 ^ 32) * 2 ^ 32)
  ++ ((List.range 5).map (fun i => leBytes 8 (pay.getD i 0))).flatten

/-- Place one record at TR_HEAD and advance it. -/
def Dev.tracePut (s : Dev) (p : Nat) (rec : List Byte) : Dev :=
  let h := s.rd Reg.TR_HEAD_RECORD p
  let s := s.putBytes (s.rd Reg.TR_REGION_BASE p * 2 ^ 26 + h * 64) rec
  let s := s.wr Reg.TR_HEAD_RECORD p ((h + 1) % s.traceSize p)
  let s := { s with trSeq := NMap.set 0 s.trSeq p (NMap.get 0 s.trSeq p + 1) }
  (s.bump Reg.TR_RECORDS p 1).bump Reg.TR_BYTES 0 64

/-- Show FULL of partition `p`'s ring, reporting TR_FULL as it fills (R456). -/
def Dev.traceShow (s : Dev) (p : Nat) : Dev :=
  let full := s.traceFull p
  let was := s.flag Reg.TR_HEAD_FULL p
  let s := s.wr Reg.TR_HEAD_FULL p (b2n full)
  if full && !was then s.setErr (pageOf .TR 0) (2 ^ Ev.TR_FULL.bit) else s

/-- Drop one record (R446). -/
def Dev.traceDrop (s : Dev) (p : Nat) : Dev :=
  let s := { s with trLost := NMap.set 0 s.trLost p (NMap.get 0 s.trLost p + 1)
                    trSeq := NMap.set 0 s.trSeq p (NMap.get 0 s.trSeq p + 1) }
  let s := (s.bump Reg.TR_DROPPED p 1).bump Reg.TR_DROPPED_ALL 0 1
  (s.setErr (pageOf .TR 0) (2 ^ Ev.TR_DROPPED.bit)).traceShow p

/-- Write a trace record of partition `p`: a LOSS record first where records were dropped, and a drop where the ring has no
room (R446). -/
def Dev.trace (s : Dev) (p typ agent status layer op : Nat) (pay : List Nat) : Dev :=
  if !s.traceOn p then s
  else if s.traceFull p then s.traceDrop p
  else
    let lost := NMap.get 0 s.trLost p
    let s := if lost = 0 then s else
      { s.tracePut p (traceBytes 7 p 0 0 (NMap.get 0 s.trSeq p) s.now 0 0 [lost]) with trLost := NMap.set 0 s.trLost p 0 }
    if s.traceFull p then s.traceDrop p
    else (s.tracePut p (traceBytes typ p agent status (NMap.get 0 s.trSeq p) s.now layer op pay)).traceShow p

/-! Reporting an event -/

/-- The agent that an event's trace record names: a tile's sequencer for happenings of the tile, an engine, or the queue of the
command concerned (R305, R448). -/
def eventAgent (e : Event) (i : Nat) (who : Option Cmd) : Nat :=
  match e.blk with
  | .PT | .QS | .AC | .LK | .HM | .CC => (Agent.cc i).code
  | .DM => (Agent.dma i).code
  | .VE => (Agent.ve i).code
  | _ => match who with
    | some c => (Agent.queue c.queue).code
    | none => 0

/-- Report event `e` of instance `i`, concerning partition `p`, with the details its trace record carries: PAGE_ERR unless
masked, the interrupt, and an EVENT trace record even when masked, with the identifiers of the command concerned (R276, R406,
R449). -/
def Dev.reportAs (s : Dev) (e : Event) (i p d0 d1 : Nat) (who : Option Cmd) : Dev :=
  let s := s.setErr (pageOf e.blk i) (2 ^ e.bit)
  if s.flag Reg.TR_PCTRL_EVT_EN p then
    s.trace p 3 (eventAgent e i who) e.status ((who.map Cmd.layer).getD 0) ((who.map Cmd.op).getD 0) [d0, d1]
  else s

/-- Report an event that concerns no command. -/
def Dev.reportP (s : Dev) (e : Event) (i p d0 d1 : Nat) : Dev := s.reportAs e i p d0 d1 none

/-- Report event `e` of instance `i` to the owner of its page, with the command concerned, if one is. -/
def Dev.reportFor (s : Dev) (e : Event) (i : Nat) (who : Option Cmd) : Dev :=
  s.reportAs e i (s.pageOwner (pageOf e.blk i)) 0 0 who

/-- Report event `e` of instance `i` to the owner of its page. -/
def Dev.report (s : Dev) (e : Event) (i : Nat) : Dev := s.reportFor e i none

/-! Commands -/

/-- Queue `q`. -/
def Dev.queue (s : Dev) (q : Nat) : Queue := NMap.get {} s.queues q

/-- Change queue `q`. -/
def Dev.modQueue (s : Dev) (q : Nat) (f : Queue → Queue) : Dev :=
  { s with queues := NMap.set {} s.queues q (f (s.queue q)) }

/-- The partition of a queue (R253, R351). -/
def Dev.qPart (s : Dev) (q : Nat) : Nat := s.rd Reg.QM_Q_CFG_PARTITION q

/-- The partition of a command (R351). -/
def Dev.cPart (s : Dev) (c : Cmd) : Nat := s.qPart c.queue

/-- Report an event that a command has caused (R276). -/
def Dev.reportC (s : Dev) (c : Cmd) (e : Event) (i d0 d1 : Nat) : Dev := s.reportAs e i (s.cPart c) d0 d1 (some c)

/-- The class of a queue (R269). -/
def Dev.qClass (s : Dev) (q : Nat) : Nat := s.rd Reg.QM_Q_CFG_CLASS q

/-- Mark the slot of a command finished. -/
def markDone (c : Cmd) : List Slot → List Slot
  | [] => []
  | x :: r => if x.c = c ∧ !x.finished then { x with dispatched := true, finished := true } :: r else x :: markDone c r

/-- Finish a command (R267): its completion waits to be written by the queue manager. -/
def Dev.finish (s : Dev) (c : Cmd) (status : Nat) (executed : Bool) (r0 r1 d0 d1 : Nat) : Dev :=
  s.modQueue c.queue (fun q => { q with
    slots := markDone c q.slots
    done := q.done ++ [{ c := c, status := status, executed := executed, r0 := r0, r1 := r1, d0 := d0, d1 := d1, time := s.now }] })

/-- Finish a command with success and no results. -/
def Dev.finishOk (s : Dev) (c : Cmd) : Dev := s.finish c 0 true 0 0 0 0

/-- Finish a command with success and results. -/
def Dev.finishR (s : Dev) (c : Cmd) (r0 r1 : Nat) : Dev := s.finish c 0 true r0 r1 0 0

/-- Finish a command with an event of instance `i`: the event is reported and its status completes the command, which has
not executed. -/
def Dev.failEv (s : Dev) (c : Cmd) (e : Event) (i d0 d1 : Nat) : Dev :=
  (s.reportC c e i d0 d1).finish c e.status false 0 0 d0 d1

/-- Finish a command with a status that has no PAGE_ERR bit (R268). -/
def Dev.failSt (s : Dev) (c : Cmd) (status d0 d1 : Nat) : Dev := s.finish c status false 0 0 d0 d1

/-- QM_BAD_FORMAT, with the queue in DETAIL0 (R279). -/
def Dev.badFormat (s : Dev) (c : Cmd) : Dev := s.failEv c Ev.QM_BAD_FORMAT 0 c.queue 0

/-- Statuses reported only in completions (R268): codes from 0x41 in each block. -/
def stMemUncorr : Nat := 0x0D41
/-- DM_MEM_LOST. -/
def stMemLost : Nat := 0x0D42
/-- SY_BAD_KNOT. -/
def stBadKnot : Nat := 0x0A41
/-- SY_FLUSHED. -/
def stFlushed : Nat := 0x0A42
/-- GT_BAD_PEER. -/
def stBadPeer : Nat := 0x0B41
/-- PA_TILE_DENIED. -/
def stTileDenied : Nat := 0x0441
/-- PA_NO_SAVE_AREA. -/
def stNoSaveArea : Nat := 0x0442
/-- PA_NO_FKEY. -/
def stNoFkey : Nat := 0x0443

/-- A foreign access of partition `p` (R353), by command `who`, if by one. -/
def Dev.foreign (s : Dev) (p : Nat) (who : Option Cmd := none) : Dev :=
  (s.bump Reg.PA_FOREIGN p 1).reportFor Ev.PA_FOREIGN_ACCESS 0 who

/-- What a refused access of partition `p` sets and counts at its target, with the command that made it (R106, R126, R131,
R276, R353); a faulty engine's memory reports to the issuer (R436). -/
def Dev.noteRefused (s : Dev) (p : Nat) (r : Refuse) (who : Option Cmd := none) : Dev :=
  match r with
  | .foreign => s.foreign p who
  | .busy t => (s.bump Reg.AC_BUSY_REFUSED t 1).reportFor Ev.AC_PATCH_BUSY t who
  | .badPatch t => (s.bump Reg.AC_BUSY_REFUSED t 1).reportFor Ev.AC_BAD_PATCH t who
  | .rowbuf q => s.reportFor Ev.QS_ROWBUF_ACCESS q who
  | .veFault e => s.reportAs Ev.VE_ENGINE_FAULT e p 0 0 who
  | _ => s

/-- The completion status of a command whose access was refused (R126, R131, R277, R436, R438, R439); 0 for an access that
reads zero or is ignored without failing its command. -/
def refuseStatus : Refuse → Nat
  | .ok => 0
  | .rowbuf _ => 0
  | .hole => Ev.DM_ADDR_FAULT.status
  | .foreign => Ev.DM_ADDR_FAULT.status
  | .lost => stMemLost
  | .busy _ => Ev.AC_PATCH_BUSY.status
  | .badPatch _ => Ev.AC_BAD_PATCH.status
  | .uncorr _ => stMemUncorr
  | .veFault _ => Ev.VE_ENGINE_FAULT.status

/-- Read bytes for partition `p`: the bytes, zeros where the access is refused, and the refusal. -/
def Dev.loadFor (s : Dev) (p a n : Nat) : List Byte × Refuse :=
  match s.probeRead p a n with
  | .ok => (s.bytes a n, .ok)
  | r => (List.replicate n 0, r)

/-- A read of partition `p` shows its refusal at the target (R106, R126, R131, R353). -/
def Dev.noteRead (s : Dev) (p a n : Nat) (who : Option Cmd := none) : Dev := s.noteRefused p (s.probeRead p a n) who

/-- Write bytes for partition `p` where nothing refuses it. -/
def Dev.storeFor (s : Dev) (p a : Nat) (bs : List Byte) (who : Option Cmd := none) : Dev × Refuse :=
  match s.probeWrite p a bs.length with
  | .ok => ((s.putBytes a bs).clearBad a bs.length, .ok)
  | r => (s.noteRefused p r who, r)

/-! Work counts (R449, R454, R455) -/

/-- Count on PF counter `id` of partition `p` (R454); CNT_FREEZE of the page holds the counters of the view's partition. -/
def Dev.pf (s : Dev) (p id n : Nat) : Dev :=
  if s.flag Reg.PAGE_CTRL_CNT_FREEZE (pageOf .PF 0 + 256 * p) then s
  else s.wr Reg.PF_VAL (p * 256 + id) (s.rd Reg.PF_VAL (p * 256 + id) + n)

/-- Whether a command matches attribution filter `f` of its partition (R455). -/
def Dev.matchesFilter (s : Dev) (c : Cmd) (f : Nat) : Bool :=
  let k := s.cPart c * 8 + f
  ((c.layer &&& s.rd Reg.PF_FLT_MASK_L_MASK k) == s.rd Reg.PF_FLT_MATCH_L_MATCH k) &&
  ((c.op &&& s.rd Reg.PF_FLT_MASK_O_MASK k) == s.rd Reg.PF_FLT_MATCH_O_MATCH k)

/-- Attribute work to the filters a command matches. -/
def Dev.attribute (s : Dev) (c : Cmd) (w : Work) : Dev :=
  (List.range 8).foldl (fun s f =>
    if s.matchesFilter c f then
      let k := s.cPart c * 8 + f
      if s.flag Reg.PAGE_CTRL_CNT_FREEZE (pageOf .PF 0 + 256 * s.cPart c) then s
      else ((s.wr Reg.PF_FLT_BITMACS k (s.rd Reg.PF_FLT_BITMACS k + w.bitMacs)).wr Reg.PF_FLT_STEPS k
              (s.rd Reg.PF_FLT_STEPS k + w.steps)).wr Reg.PF_FLT_BYTES k (s.rd Reg.PF_FLT_BYTES k + w.bytes)
    else s) s

/-- Add to the counts of a command's own work and attribute them. -/
def Dev.addWork (s : Dev) (c : Cmd) (w : Work) : Dev :=
  let o := NMap.get {} s.work c.key
  let s := { s with work := NMap.set {} s.work c.key ({ bitMacs := o.bitMacs + w.bitMacs, steps := o.steps + w.steps, bytes := o.bytes + w.bytes, replays := o.replays + w.replays, flags := o.flags + w.flags } : Work) }
  s.attribute c w

end Sys2Proof.Machine
end

