-- ==== Sys2Proof/Machine/Operands.lean ====
section
/-! DEFINITION. The number formats of spec/02, spec/04 and spec/05: weight codes, A-codes, S16 scales, accumulators and
output formats, each with the rounding its rule states. Real values are integers in units of 2^-149, hawsers in units of
2^-56. -/
namespace Sys2Proof.Machine

/-! Rounding (R45) -/

/-- Round half to even of `x / d`, `d` > 0. -/
def rhe (x : Int) (d : Nat) : Int :=
  let q := x / (d : Int)
  let r := x - q * d
  if 2 * r > d ∨ (2 * r = d ∧ q % 2 = 1) then q + 1 else q

/-- Clamp to a range. -/
def clampI (x lo hi : Int) : Int := if x < lo then lo else if hi < x then hi else x

/-! Weight codes (R32 to R36) -/

/-- The level of a KN4 code (R32, R33). -/
def kn4Level (code : Nat) : Int :=
  let m : Int := match code % 8 with
    | 0 => 0 | 1 => 1 | 2 => 2 | 3 => 3 | 4 => 5 | 5 => 7 | 6 => 10 | _ => 15
  if code % 16 < 8 then m else -m

/-- The level of a U4 code (R34). -/
def u4Level (code : Nat) : Int := toSigned 4 code

/-- The high pass level of an I8 weight (R35). -/
def i8Hi (code : Nat) : Int := toSigned 8 code / 16

/-- The low pass level of an I8 weight (R35). -/
def i8Lo (code : Nat) : Int := (code % 16 : Nat)

/-- The level a code stands for, by WFMT and pass. -/
def levelOf (wfmt : Nat) (hi : Bool) (code : Nat) : Int :=
  match wfmt with
  | 0 => kn4Level code
  | 1 => u4Level code
  | _ => if hi then i8Hi code else i8Lo code

/-- Code of element `i` of a packed weight image column (R36). -/
def weightCode (wfmt : Nat) (bs : List Byte) (i : Nat) : Nat :=
  if wfmt = 2 then (bs.getD i 0).toNat
  else nbits (bs.getD (i / 2) 0).toNat (4 * (i % 2) + 3) (4 * (i % 2))

/-- Bytes of 256 weight codes. -/
def weightBytes (wfmt : Nat) : Nat := if wfmt = 2 then 256 else 128

/-- The representative modulo 31 in −15 to +15 (R67). -/
def sym31 (x : Int) : Int := let m := x % 31; if m ≤ 15 then m else m - 31

/-- The 144 levels of one row from its 128 data levels: check columns 128 + 2g and 129 + 2g follow R67. -/
def withChecks (data : List Int) : List Int :=
  data ++ ((List.range 8).map (fun g =>
    [sym31 (((List.range 16).map (fun (j : Nat) => data.getD (16 * g + j) 0)).sum),
     sym31 (((List.range 16).map (fun (j : Nat) => ((j : Int) + 1) * data.getD (16 * g + j) 0)).sum)])).flatten

/-! A-codes (R37 to R39) -/

/-- Whether an AFMT code is defined (R52). -/
def afmtOk (a : Nat) : Bool := (decide (1 ≤ a) && decide (a ≤ 8)) || a == 16

/-- Bits one A-code of width `b` takes in memory (R39). -/
def codeBits (b : Nat) : Nat := if b = 1 then 1 else if b = 2 then 2 else if b = 4 then 4 else if b = 16 then 16 else 8

/-- A-code number `i` of width `b` in packed bytes (R39). -/
def codeAt (b : Nat) (bs : List Byte) (i : Nat) : Nat := nbits (leNat bs) (codeBits b * i + (b - 1)) (codeBits b * i)

/-- Packed bytes of some A-codes of width `b`. -/
def packCodes (b : Nat) (qs : List Nat) : List Byte :=
  leBytes ((qs.length * codeBits b + 7) / 8) (qs.foldr (fun q n => q + 2 ^ codeBits b * n) 0)

/-! S16 scales (R42) -/

/-- Exponent field of an S16 word. -/
def s16E (w : Nat) : Nat := nbits w 15 8
/-- Stored mantissa of an S16 word. -/
def s16M (w : Nat) : Nat := nbits w 7 0
/-- e = 255 is reserved (R42). -/
def s16Reserved (w : Nat) : Bool := s16E w == 255
/-- The value of an S16 word in units of 2^-149. -/
def s16Val (w : Nat) : Nat := if s16E w = 0 then 0 else (256 + s16M w) * 2 ^ (s16E w + 14)

/-- The smallest S16 word of value at least `num / den` (units of 2^-149), none above the largest (R103, R104). -/
def s16Ceil (num : Int) (den : Nat) : Option Nat :=
  if num ≤ 0 then some 0
  else
    match (List.range 254).find? (fun i => decide (num ≤ ((511 * 2 ^ (i + 1 + 14) * den : Nat) : Int))) with
    | none => none
    | some i =>
      let d := den * 2 ^ (i + 1 + 14)
      let n := (num.toNat + d - 1) / d
      some ((i + 1) * 256 + (if n < 256 then 0 else n - 256))

/-- The largest S16 word, 0xFEFF (R104). -/
def s16Max : Nat := 0xFEFF

/-! Input elements (R101, R105) -/

/-- An input element: a finite value in units of 2^-149, or not finite. -/
inductive Elem where
  | fin (v : Int) | nan | pinf | ninf
  deriving DecidableEq, Repr

/-- An IEEE binary32 word. -/
def fp32Elem (w : Nat) : Elem :=
  let e := nbits w 30 23; let m := nbits w 22 0; let neg := w.testBit 31
  if e = 255 then (if m ≠ 0 then .nan else if neg then .ninf else .pinf)
  else
    let v : Int := if e = 0 then (m : Nat) else ((2 ^ 23 + m) * 2 ^ (e - 1) : Nat)
    .fin (if neg then -v else v)

/-- An IEEE binary16 word. -/
def fp16Elem (w : Nat) : Elem :=
  let e := nbits w 14 10; let m := nbits w 9 0; let neg := w.testBit 15
  if e = 31 then (if m ≠ 0 then .nan else if neg then .ninf else .pinf)
  else
    let v : Int := if e = 0 then (m * 2 ^ 125 : Nat) else ((1024 + m) * 2 ^ (e + 124) : Nat)
    .fin (if neg then -v else v)

/-- Bytes of one input element by INFMT. -/
def infmtBytes (f : Nat) : Nat := if f = 2 then 4 else 2

/-- Element `i` of a row by INFMT (R101, R261). -/
def elemAt (f : Nat) (bs : List Byte) (i : Nat) : Elem :=
  if f = 2 then fp32Elem (leNat ((bs.drop (4 * i)).take 4))
  else
    let w := leNat ((bs.drop (2 * i)).take 2)
    if f = 1 then fp16Elem w else fp32Elem (w * 65536)

/-- The finite values among some elements. -/
def finites (xs : List Elem) : List Int := xs.filterMap (fun e => match e with | .fin v => some v | _ => none)

/-- The smallest of some integers and a start value. -/
def minOf (z : Int) (xs : List Int) : Int := xs.foldl (fun a b => if b < a then b else a) z
/-- The largest of some integers and a start value. -/
def maxOf (z : Int) (xs : List Int) : Int := xs.foldl (fun a b => if a < b then b else a) z

/-- A code, and whether its element was clipped and whether it was not finite (R102, R105). -/
structure Quant where
  q : Nat
  clipped : Bool
  nonfinite : Bool
  deriving DecidableEq, Repr

/-- Quantise one element (R102, R105): scale `s` in units of 2^-149, zero point, width. -/
def quantise (s zp b : Nat) : Elem → Quant
  | .nan => ⟨zp, false, true⟩
  | .pinf => ⟨2 ^ b - 1, false, true⟩
  | .ninf => ⟨0, false, true⟩
  | .fin v =>
    if s = 0 then ⟨zp, decide (v ≠ 0), false⟩
    else
      let u := rhe v s + zp
      ⟨(clampI u 0 ((2 ^ b - 1 : Nat) : Int)).toNat, decide (u < 0) || decide (((2 ^ b - 1 : Nat) : Int) < u), false⟩

/-- A formed scale: the S16 word, the zero point, and whether it needed the clamp of R104. -/
structure Scale where
  s : Nat
  zp : Nat
  clamp : Bool
  deriving DecidableEq, Repr

/-- The scale and zero point of a range (R103, R104). -/
def scaleOf (sym : Bool) (b : Nat) (lo hi : Int) : Scale :=
  if hi = lo then ⟨0, if sym then 2 ^ (b - 1) else 0, false⟩
  else if sym then
    match s16Ceil (maxOf (-lo) [hi]) (2 ^ (b - 1) - 1) with
    | some s => ⟨s, 2 ^ (b - 1), false⟩
    | none => ⟨s16Max, 2 ^ (b - 1), true⟩
  else
    match s16Ceil (hi - lo) (2 ^ b - 1) with
    | some s => ⟨s, (rhe (-lo) (s16Val s)).toNat, false⟩
    | none => ⟨s16Max, min (rhe (-lo) (s16Val s16Max)).toNat (2 ^ b - 1), true⟩

/-- The dynamic rule over a row's elements (R103). -/
def dynamicScale (sym : Bool) (b : Nat) (xs : List Elem) : Scale :=
  scaleOf sym b (minOf 0 (finites xs)) (maxOf 0 (finites xs))

/-! Accumulators (R44 to R47) -/

/-- Width in bits of an accumulator format. -/
def accBits (f : Nat) : Nat := 8 * accWidth f
/-- Largest value of an accumulator format. -/
def accMax (f : Nat) : Int := (2 ^ (accBits f - 1) : Nat) - 1
/-- Smallest value of an accumulator format. -/
def accMin (f : Nat) : Int := -((2 ^ (accBits f - 1) : Nat) : Int)

/-- Saturating addition (R46, R47): the new value, and whether the exact sum lay beyond a limit. -/
def accAdd (f : Nat) (acc n : Int) : Int × Bool :=
  let s := acc + n
  if s < accMin f then (accMin f, true) else if accMax f < s then (accMax f, true) else (s, false)

/-- The scaled addend of R45: corrected partial, S16 group scale and token scale, and whether the weights are KN4. -/
def addend (g : Int) (w t : Nat) (kn4 : Bool) : Int :=
  if s16E w = 0 ∨ s16E t = 0 then 0
  else
    let num := g * ((256 + s16M w) * (256 + s16M t) : Nat)
    let d := if kn4 then 15 else 1
    if 214 ≤ s16E w + s16E t then rhe (num * (2 ^ (s16E w + s16E t - 214) : Nat)) d
    else rhe num (d * 2 ^ (214 - (s16E w + s16E t)))

/-! Output formats (R48 to R50) -/

/-- A floating-point format: mantissa bits, bias, bits in all, and the code of the largest finite value. -/
structure FloatFmt where
  man : Nat
  bias : Nat
  total : Nat
  maxCode : Nat
  deriving DecidableEq, Repr

/-- FP32. -/
def fmtFp32 : FloatFmt := ⟨23, 127, 32, 0x7F7FFFFF⟩
/-- FP16. -/
def fmtFp16 : FloatFmt := ⟨10, 15, 16, 0x7BFF⟩
/-- BF16. -/
def fmtBf16 : FloatFmt := ⟨7, 127, 16, 0x7F7F⟩
/-- FP8 E4M3. -/
def fmtE4M3 : FloatFmt := ⟨3, 7, 8, 0x7E⟩
/-- FP8 E5M2. -/
def fmtE5M2 : FloatFmt := ⟨2, 15, 8, 0x7B⟩

/-- The format of an OFMT code 1 to 5 (R52). -/
def ofmtFloat (o : Nat) : FloatFmt :=
  match o with
  | 1 => fmtFp32 | 2 => fmtFp16 | 3 => fmtBf16 | 4 => fmtE4M3 | _ => fmtE5M2

/-- Convert a hawser to a floating-point code (R49): the code, and whether it went to the largest finite value. -/
def toFloat (f : FloatFmt) (v : Int) : Nat × Bool :=
  let a := v.natAbs
  let sign := if v < 0 then 2 ^ (f.total - 1) else 0
  if a = 0 then (0, false)
  else
    -- the exponent of one unit in the last place, biased by 56 + bias + man so that it is a natural number
    let lg := Nat.log2 a
    -- quantum exponent + 56 = max (lg - man, 56 + 1 - bias - man)
    let q : Int := maxOf ((lg : Int) - f.man) [57 - (f.bias : Int) - f.man]
    let n : Nat := if 0 ≤ q then (rhe a (2 ^ q.toNat)).toNat else a * 2 ^ (-q).toNat
    let carry := decide (2 ^ (f.man + 1) ≤ n)
    let n := if carry then n / 2 else n
    let q := if carry then q + 1 else q
    let code := if n < 2 ^ f.man then n else ((q - 56 + f.man + f.bias).toNat) * 2 ^ f.man + (n - 2 ^ f.man)
    if f.maxCode < code then (sign + f.maxCode, true) else (sign + code, false)

/-- The hawser of an FP32 lane (R135): rounded half to even to 2^-56. -/
def fromFp32 (w : Nat) : Int :=
  match fp32Elem w with
  | .fin v => rhe v (2 ^ 93)
  | _ => Config.narrowSpecial w

/-- Requantise a hawser to an A-code (R50, R115): the code and whether it was clamped. -/
def requant (s zp b : Nat) (v : Int) : Nat × Bool :=
  if s = 0 then (zp, decide (v ≠ 0))
  else
    let u := rhe (v * (2 ^ 93 : Nat)) s + zp
    ((clampI u 0 ((2 ^ b - 1 : Nat) : Int)).toNat, decide (u < 0) || decide (((2 ^ b - 1 : Nat) : Int) < u))

/-! Static entries (R110) -/

/-- SCALE of a static entry. -/
def seScale (w : Word) : Nat := bits w 15 0
/-- Zero point in force: ZP, or 2^(b-1) with SYM. -/
def seZp (w : Word) : Nat := if bit w 37 then 2 ^ (bits w 36 32 - 1) else bits w 31 16
/-- AFMT. -/
def seAfmt (w : Word) : Nat := bits w 36 32
/-- SYM. -/
def seSym (w : Word) : Bool := bit w 37
/-- ADAPT. -/
def seAdapt (w : Word) : Bool := bit w 38

/-- The word that a write of a static entry leaves (R52, R110): bits 63 to 39 are reserved, and a reserved AFMT code leaves that
field as it is. -/
def staticWord (old v : Word) : Word :=
  BitVec.ofNat 64 (bits v 31 0 + (if afmtOk (seAfmt v) then seAfmt v else seAfmt old) * 2 ^ 32 + bits v 38 37 * 2 ^ 37)

end Sys2Proof.Machine
end

