-- ==== Sys2Proof/Machine/Flags.lean ====
section
/-! DEFINITION. The conditions the module tests: the residue check, supervision thresholds, clip fractions, and the checks of
EPOCH fields. -/
namespace Sys2Proof.Machine

/-- A decided code outside −480 to +480 (R64). -/
def outOfRange (c : Int) : Bool := decide (c < -480) || decide (480 < c)

/-- The 18 codes of check group `g` in a segment's 144 integers (R60): 16 data, then e0 and e1. -/
def groupSample (seg : List Int) (g : Nat) : List Int :=
  (List.range 16).map (fun (j : Nat) => seg.getD (16 * g + j) 0) ++ [seg.getD (128 + 2 * g) 0, seg.getD (129 + 2 * g) 0]

/-- Syndrome s0 (R68). -/
def syn0 (x : List Int) : Nat := ((((x.take 16).sum) - x.getD 16 0) % 31).toNat

/-- Syndrome s1 (R68). -/
def syn1 (x : List Int) : Nat :=
  ((((List.range 16).map (fun (j : Nat) => ((j : Int) + 1) * x.getD j 0)).sum - x.getD 17 0) % 31).toNat

/-- Whether a group-sample is flagged (R68). -/
def flagged (x : List Int) : Bool := syn0 x != 0 || syn1 x != 0 || x.any outOfRange

/-- The flagged check groups of a segment, ascending. -/
def flaggedGroups (seg : List Int) : List Nat := (List.range 8).filter (fun g => flagged (groupSample seg g))

/-- Out-of-range decisions of a segment. -/
def oorCount (seg : List Int) : Nat := (seg.filter outOfRange).length

/-- Flagged rate above 10^-6 (R78). -/
def rateHigh (flagged checked : Nat) : Bool := decide (checked < flagged * 1000000)

/-- Flagged rate above 10^-4 (R78). -/
def rateOut (flagged checked : Nat) : Bool := decide (checked < flagged * 10000)

/-- Clip fraction above the threshold 2^-thr (R111). -/
def clipExceeds (clipped elems thr : Nat) : Bool := decide (elems < clipped * 2 ^ thr)

end Sys2Proof.Machine
end

