-- ==== Sys2Proof/Machine/Reach.lean ====
section
/-! DEFINITION. Which register pages an access of each source reaches in each start-up state (R371, R413, R414). -/
namespace Sys2Proof.Machine

/-- The island code of a block's page (R415). -/
def Blk.island : Blk → Nat
  | .ID | .BT | .PM | .FL => 1
  | .LL | .HM => 2
  | .LS | .LF => 3
  | .TM => 4
  | .FX => 5
  | .HI => 6
  | _ => 0

/-- BT_STATE.STATE. -/
def Dev.bootState (s : Dev) : Nat := s.rd Reg.BT_STATE_STATE 0

/-- Whether the island of a page has started (R373, R413). In LIMITED only the islands of BOOT run. -/
def Dev.started (s : Dev) (b : Blk) : Bool :=
  let st := s.bootState
  match b.island with
  | 1 => decide (1 ≤ st)
  | 3 => decide (5 ≤ st) && decide (st ≤ 8)
  | 5 => decide (6 ≤ st) && decide (st ≤ 8)
  | _ => decide (2 ≤ st)

/-- What a write to a page meets before its register. -/
inductive Reach where
  | ok | early | silent
  deriving DecidableEq, Repr

/-- Whether a write of source `src` reaches the page of block `b` (R371, R413, R414, R420). -/
def Dev.reaches (s : Dev) (src : Src) (b : Blk) : Reach :=
  let st := s.bootState
  match src with
  | .smbus => .silent
  | .fabric _ => .silent
  | .firmware _ => if s.started b then .ok else .early
  | _ =>
    if st = 0 then .silent
    else if st = 7 ∨ st = 8 then .ok
    else if st = 9 then (if b = .BT ∨ b = .FL then .ok else if b = .ID ∨ b = .PM then .silent else .early)
    else if 2 ≤ st ∧ (b = .ID ∨ b = .BT ∨ b = .PM) then .silent
    else .early

/-- Whether a read of source `src` reaches the page of block `b` (R371, R414, R420). -/
def Dev.readReaches (s : Dev) (src : Src) (b : Blk) : Reach :=
  let st := s.bootState
  match src with
  | .smbus | .fabric _ => .silent
  | .firmware _ => if s.started b then .ok else .early
  | _ =>
    if st = 0 then .silent
    else if st = 7 ∨ st = 8 then .ok
    else if 2 ≤ st ∧ (b = .ID ∨ b = .BT ∨ b = .PM ∨ (st = 9 ∧ b = .FL)) then .ok
    else .early

/-- A write of source `src` acts on a page of block `b` where it reaches it; else it is ignored, and an early access is
reported (R414). -/
def Dev.at (s : Dev) (src : Src) (b : Blk) (f : Dev → Dev) : Dev :=
  match s.reaches src b with
  | .ok => f s
  | .silent => s
  | .early => s.report Ev.BT_EARLY_ACCESS 0

/-- A write of a register of a page that only partition 0 owns (R353, R354). -/
def Dev.own0 (s : Dev) (src : Src) (f : Dev → Dev) : Dev := if srcPart src = 0 then f s else s.foreign (srcPart src)

end Sys2Proof.Machine
end

