-- ==== Sys2Proof/Machine/Service.lean ====
section
/-! DEFINITION. The service state of the module and of its tiles: DEGRADED causes (R372), and the checks a tile command meets
before it reaches its tile (R359 to R361). -/
namespace Sys2Proof.Machine

/-- A DEGRADED cause (R372): its bit of DEGR. -/
inductive Cause where
  | discover | tile | quad | memory | refin | engine
  deriving DecidableEq, Repr

/-- The bit of DEGR of a cause. -/
def Cause.bit : Cause → Nat
  | .discover => 0 | .tile => 1 | .quad => 2 | .memory => 3 | .refin => 4 | .engine => 5

/-- The module enters start-up state `st`, at so many milliseconds from t = 0 (R371, R397). -/
def Dev.enter (s : Dev) (st : Nat) : Dev :=
  (s.wr Reg.BT_STATE_STATE 0 st).wr Reg.BT_TIME_MS st ((s.mono - s.boot.t0) / 16000000)

/-- A cause arises or clears: DEGR shows it, and the module moves between READY (7) and DEGRADED (8), reporting BT_DEGRADED
at each entry to DEGRADED (R372). -/
def Dev.degrade (s : Dev) (c : Cause) (on : Bool) : Dev :=
  let s := s.wr Reg.BT_STATE_DEGR 0 (putBit (s.rd Reg.BT_STATE_DEGR 0) c.bit on)
  let st := s.rd Reg.BT_STATE_STATE 0
  let d := s.rd Reg.BT_STATE_DEGR 0
  if st = 7 ∧ d ≠ 0 then (s.enter 8).report Ev.BT_DEGRADED 0
  else if st = 8 ∧ d = 0 then s.enter 7
  else s

/-- SVC of a tile (R93): 0 OFF, 1 STARTING, 2 IN_SERVICE, 3 URGENT_CAL, 4 OUT_OF_SERVICE, 5 RATE_CHANGE, 6 SCRUB. -/
def Dev.svc (s : Dev) (t : Nat) : Nat := s.rd Reg.PT_STATUS_SVC t

/-- Whether a tile runs rows: IN_SERVICE or URGENT_CAL (R78). -/
def Dev.inService (s : Dev) (t : Nat) : Bool := s.svc t == 2 || s.svc t == 3

/-- The quadrant of a tile. -/
def quadOf (t : Nat) : Nat := t / 4

/-- A tile becomes IN_SERVICE (R80, R478): where its quadrant changes its symbol rate, when that change ends (R90). -/
def Dev.enterService (s : Dev) (t : Nat) : Dev :=
  if NMap.get 0 s.rate (quadOf t) = 0 then s.wr Reg.PT_STATUS_SVC t 2
  else (s.modTile t (fun x => { x with svcBack := 2 })).wr Reg.PT_STATUS_SVC t 5

/-- Whether partition `p` has a save area: its base is set and it owns every granule of the 16 regions (R360). -/
def Dev.saveOk (s : Dev) (p : Nat) : Bool :=
  let b := s.rd Reg.PA_SAVE_BASE_BASE p * 4096
  b != 0 && (granulesOf b (16 * 0x402000)).all (s.owns p) && (regionOf b == .hbm || regionOf b == .lpddr || regionOf b == .staging)

/-- The save region of tile `t` of partition `p` (R360). -/
def Dev.saveBase (s : Dev) (p t : Nat) : Nat := s.rd Reg.PA_SAVE_BASE_BASE p * 4096 + t * 0x402000

/-- Whether partition `p` is in the share mask of tile `t`. -/
def Dev.inShare (s : Dev) (t p : Nat) : Bool := (s.rd Reg.PA_TILE_SHARE t).testBit p

/-- What a tile command meets before its tile: nothing, a hold until its partition holds the tile, or a denial. -/
inductive Gate where
  | pass | hold | deny (status : Nat)
  deriving DecidableEq, Repr

/-- The gate of tile `t` for partition `p` (R359, R360), by the mode and the owner in force (R362). -/
def Dev.gate (s : Dev) (t p : Nat) : Gate :=
  if (s.tile t).shared then
    if !s.inShare t p then .deny stTileDenied
    else if !s.saveOk p then .deny stNoSaveArea
    else if s.holder t = p then .pass else .hold
  else if s.holder t = p then .pass else .deny stTileDenied

/-- A control core's sequencer is stopped or draining (R452). -/
def Dev.seqStopped (s : Dev) (t : Nat) : Bool := s.rd Reg.CC_STATUS_STATE t != 0

/-- Symbol slots in one nanosecond at the rate in force of tile `t` (R61, R90). -/
def Dev.slotsPerNs (s : Dev) (t : Nat) : Nat :=
  let r := s.rd Reg.PT_STATUS_QRATE_NOW t
  if r = 0 then 8 else if r = 1 then 6 else 4

end Sys2Proof.Machine
end

