-- ==== Sys2Proof/Machine/Spares.lean ====
section
/-! DEFINITION. The substitution map of a tile: which physical elements serve its logical rows, columns and slices, which are
free, and what a faulty element makes of the map (R165, R166, R178 to R180). Everything here is a function of the map alone. -/
namespace Sys2Proof.Machine

/-! Reading a map -/

/-- Whether data column `j` is masked. -/
def SpareMap.colMasked (m : SpareMap) (j : Nat) : Bool := m.maskCols.testBit j

/-- Whether logical row `i mod 32` of segment `i div 32` is masked. -/
def SpareMap.rowMasked (m : SpareMap) (i : Nat) : Bool := (NMap.get 0 m.maskRows (i / 32)).testBit (i % 32)

/-- The physical row of logical row `i` of segment `seg`. -/
def SpareMap.rowPhys (m : SpareMap) (seg i : Nat) : Nat :=
  let v := NMap.get 0 m.rows (seg * 32 + i)
  if v = 0 then i else v - 1

/-- The physical column of logical column `j`. -/
def SpareMap.colPhys (m : SpareMap) (j : Nat) : Nat :=
  let v := NMap.get 0 m.cols j
  if v = 0 then j else v - 1

/-- The place of a logical column in the slice map of a segment and a symbol rate. -/
def sliceKey (rate seg j : Nat) : Nat := (rate * 8 + seg) * 144 + j

/-- The decision slice of logical column `j` of segment `seg` at a symbol rate. -/
def SpareMap.slicePhys (m : SpareMap) (rate seg j : Nat) : Nat :=
  let v := NMap.get 0 m.slices (sliceKey rate seg j)
  if v = 0 then j else v - 1

/-- The free spare rows of a segment, lowest first. -/
def SpareMap.freeRows (m : SpareMap) (seg : Nat) : List Nat :=
  [32, 33].filter (fun r => !m.badRows.contains (seg * 34 + r) && !(List.range 32).any (fun i => m.rowPhys seg i == r))

/-- The free spare columns, lowest first: the last of them is the shadow. -/
def SpareMap.freeCols (m : SpareMap) : List Nat :=
  [144, 145, 146, 147].filter (fun c => !m.badCols.contains c && !(List.range 144).any (fun j => m.colPhys j == c))

/-- The free spare slices of a segment at a symbol rate, lowest first: the last of them is the shadow. -/
def SpareMap.freeSlices (m : SpareMap) (rate seg : Nat) : List Nat :=
  [144, 145].filter (fun k => !m.badSlices.contains (seg * 146 + k) && !(List.range 144).any (fun j => m.slicePhys rate seg j == k))

/-- The logical row that a physical row of a segment serves, masked rows aside. -/
def SpareMap.rowUser (m : SpareMap) (seg r : Nat) : Option Nat :=
  (List.range 32).find? (fun i => m.rowPhys seg i == r && !m.rowMasked (seg * 32 + i))

/-- The logical column that a physical column serves, masked columns aside. -/
def SpareMap.colUser (m : SpareMap) (c : Nat) : Option Nat :=
  (List.range 144).find? (fun j => m.colPhys j == c && !m.colMasked j)

/-- The logical column that a decision slice of a segment serves at a symbol rate, masked columns aside. -/
def SpareMap.sliceUser (m : SpareMap) (rate seg k : Nat) : Option Nat :=
  (List.range 144).find? (fun j => m.slicePhys rate seg j == k && !m.colMasked j)

/-- Permanent substitutions, masks and unusable marks made so far (R183). -/
def SpareMap.perms (m : SpareMap) : Nat := m.nSub + m.nCol + m.nRow + m.nMark

/-! Marks and masks -/

/-- Mark physical row `k` = segment × 34 + row unusable. -/
def SpareMap.markRow (m : SpareMap) (k : Nat) : SpareMap :=
  if m.badRows.contains k then m else { m with badRows := k :: m.badRows, nMark := m.nMark + 1 }

/-- Mark a physical column unusable. -/
def SpareMap.markCol (m : SpareMap) (c : Nat) : SpareMap :=
  if m.badCols.contains c then m else { m with badCols := c :: m.badCols, nMark := m.nMark + 1 }

/-- Mark decision slice `k` = segment × 146 + slice unusable. -/
def SpareMap.markSlice (m : SpareMap) (k : Nat) : SpareMap :=
  if m.badSlices.contains k then m else { m with badSlices := k :: m.badSlices, nMark := m.nMark + 1 }

/-- Mask data column `j` (R180). -/
def SpareMap.maskCol (m : SpareMap) (j : Nat) : SpareMap :=
  if m.colMasked j then m else { m with maskCols := m.maskCols ||| 2 ^ j, nCol := m.nCol + 1 }

/-- Mask logical row `i mod 32` of segment `i div 32` (R180). -/
def SpareMap.maskRow (m : SpareMap) (i : Nat) : SpareMap :=
  if m.rowMasked i then m
  else { m with maskRows := NMap.modify 0 m.maskRows (i / 32) (fun w => w ||| 2 ^ (i % 32)), nRow := m.nRow + 1 }

/-! Substitutions (R165, R179): a permanent one takes the lowest free spare, where the shadow stays free -/

/-- A spare row takes logical row `i` of a segment; the row it served is unusable. -/
def SpareMap.useSpareRow (m : SpareMap) (seg i : Nat) : Option SpareMap :=
  match m.freeRows seg with
  | r :: _ =>
    let m := m.markRow (seg * 34 + m.rowPhys seg i)
    some { m with rows := NMap.set 0 m.rows (seg * 32 + i) (r + 1), nSub := m.nSub + 1 }
  | [] => none

/-- A permanent spare column takes logical column `j`; the column it served is unusable. -/
def SpareMap.useSpareCol (m : SpareMap) (j : Nat) : Option SpareMap :=
  match m.freeCols with
  | c :: _ :: _ =>
    let m := m.markCol (m.colPhys j)
    some { m with cols := NMap.set 0 m.cols j (c + 1), nSub := m.nSub + 1 }
  | _ => none

/-- The permanent spare slice of a segment takes logical column `j` at a symbol rate. -/
def SpareMap.useSpareSlice (m : SpareMap) (rate seg j : Nat) : Option SpareMap :=
  match m.freeSlices rate seg with
  | k :: _ :: _ => some { m with slices := NMap.set 0 m.slices (sliceKey rate seg j) (k + 1) }
  | _ => none

/-- The lowest-margin unmasked data column of the check group of check column `j`; margins are not readable, so which it is is
the free number `pick` (R180). -/
def SpareMap.lowMargin (m : SpareMap) (j pick : Nat) : Option Nat :=
  let free := ((List.range 16).map (fun i => 16 * ((j - 128) / 2) + i)).filter (fun i => !m.colMasked i)
  match free with
  | [] => none
  | d :: _ => some (free.getD (pick % free.length) d)

/-- Mask logical column `j`; for a check column, mask a data column of its group, whose physical column it takes (R180). The
answer says that no data column was left. -/
def SpareMap.dropCol (m : SpareMap) (j pick : Nat) : SpareMap × Bool :=
  if j < 128 then (m.maskCol j, false)
  else match m.lowMargin j pick with
  | none => (m, true)
  | some d => (({ m with cols := NMap.set 0 m.cols j (m.colPhys d + 1) } : SpareMap).maskCol d, false)

/-! Faulty elements (R179, R180) -/

/-- A faulty physical column: a permanent spare column, else the mask, or the place of the check column. One that serves
nothing is marked unusable. -/
def SpareMap.resolveCol (m : SpareMap) (c pick : Nat) : SpareMap × Bool :=
  match m.colUser c with
  | none => (m.markCol c, false)
  | some j =>
    match m.useSpareCol j with
    | some m => (m, false)
    | none => (m.markCol c).dropCol j pick

/-- A faulty physical row `k` = segment × 34 + row: a spare row of the segment, else the mask of its logical row. -/
def SpareMap.resolveRow (m : SpareMap) (k : Nat) : SpareMap :=
  match m.rowUser (k / 34) (k % 34) with
  | none => m.markRow k
  | some i =>
    match m.useSpareRow (k / 34) i with
    | some m => m
    | none => (m.markRow k).maskRow (k / 34 * 32 + i)

/-- A faulty ring at a physical row (of 272) and column: in use, a spare row, else a permanent spare column, else the mask of
its logical row; else the spare it belongs to is marked unusable. -/
def SpareMap.resolveRing (m : SpareMap) (row col : Nat) : SpareMap :=
  match m.rowUser (row / 34) (row % 34), m.colUser col with
  | none, _ => m.markRow row
  | some _, none => m.markCol col
  | some i, some j =>
    match m.useSpareRow (row / 34) i with
    | some m => m
    | none =>
      match m.useSpareCol j with
      | some m => m
      | none => (m.markRow row).maskRow (row / 34 * 32 + i)

/-- A faulty decision slice `k` = segment × 146 + slice at a symbol rate: the permanent spare slice of its segment, else the
mask of its logical column. For a check column a data column of its group is masked and gives up its slice. -/
def SpareMap.resolveSlice (m : SpareMap) (rate k pick : Nat) : SpareMap × Bool :=
  let seg := k / 146
  match m.sliceUser rate seg (k % 146) with
  | none => (m.markSlice k, false)
  | some j =>
    let m := m.markSlice k
    match m.useSpareSlice rate seg j with
    | some m => ({ m with nSub := m.nSub + 1 }, false)
    | none =>
      if j < 128 then (m.maskCol j, false)
      else match m.lowMargin j pick with
      | none => (m, true)
      | some d => (({ m with slices := NMap.set 0 m.slices (sliceKey rate seg j) (m.slicePhys rate seg d + 1) } : SpareMap).maskCol d, false)

/-- Choose a slice map for another rate, at which slices fail (R178): every failing slice in use must find its spare; nothing is
masked. The answer says whether the rate qualifies. -/
def SpareMap.qualify (m : SpareMap) (rate : Nat) (fails : List Nat) : SpareMap × Bool :=
  let bad := fails ++ m.badSlices
  (List.range 1168).foldl (fun (a : SpareMap × Bool) k =>
    if !bad.contains k then a
    else match a.1.sliceUser rate (k / 146) (k % 146) with
    | none => a
    | some j =>
      match (a.1.freeSlices rate (k / 146)).filter (fun f => !fails.contains (k / 146 * 146 + f)) with
      | f :: _ :: _ => ({ a.1 with slices := NMap.set 0 a.1.slices (sliceKey rate (k / 146) j) (f + 1), nQual := a.1.nQual + 1 }, a.2)
      | _ => (a.1, false)) (m, true)

/-! Results of a run (R167, R177, R178) -/

/-- The findings of a run that measurement alone decides: the physical columns, rows (segment × 34 + row) and, by symbol rate,
decision slices (segment × 146 + slice) that fail to qualify. -/
structure Findings where
  cols : List Nat
  rows : List Nat
  slices : List (List Nat)
  deriving DecidableEq, Repr

/-- The slices that fail at a rate. -/
def Findings.slicesAt (f : Findings) (rate : Nat) : List Nat := f.slices.getD rate []

/-- What a run's findings make of a map at its running rate: spares that fail are marked first; then columns, rows and slices in
use are resolved; then the other rates choose their slice maps. The answers: the map, whether a check column could not be
placed, and whether each rate qualifies. -/
def SpareMap.runResult (m : SpareMap) (rate : Nat) (f : Findings) (pick : Nat) : SpareMap × Bool × List Bool :=
  let m := (f.cols.filter (fun c => (m.colUser c).isNone)).foldl SpareMap.markCol m
  let m := (f.rows.filter (fun k => (m.rowUser (k / 34) (k % 34)).isNone)).foldl SpareMap.markRow m
  let own := f.slicesAt rate
  let m := (own.filter (fun k => (m.sliceUser rate (k / 146) (k % 146)).isNone)).foldl SpareMap.markSlice m
  let (m, c1) := f.cols.foldl (fun (a : SpareMap × Bool) c => let r := a.1.resolveCol c pick; (r.1, a.2 || r.2)) (m, false)
  let m := f.rows.foldl SpareMap.resolveRow m
  let (m, c2) := own.foldl (fun (a : SpareMap × Bool) k => let r := a.1.resolveSlice rate k pick; (r.1, a.2 || r.2)) (m, c1)
  let (m, ok) := (List.range 3).foldl (fun (a : SpareMap × List Bool) r =>
    if r = rate then (a.1, a.2 ++ [true]) else let q := a.1.qualify r (f.slicesAt r); (q.1, a.2 ++ [q.2])) (m, [])
  (m, c2, ok)

end Sys2Proof.Machine
end

