-- ==== Sys2Proof/Machine/Locks.lean ====
section
/-! DEFINITION. Ring addresses, which elements are in use under a tile's substitution map, when lock loops are held, and
whether every ring in use is locked (R141, R65, R154, R156, R165, R166). -/
namespace Sys2Proof.Machine

/-- A quotient that the spec does not say how to round: either neighbour, exact where exact. -/
def est (n : Int) (d : Nat) : Int := n / (d : Int) + (if n % (d : Int) ≠ 0 ∧ Config.roundUp n d then 1 else 0)

/-! The substitution map (R165, R166) -/

/-- The map in force of tile `t`. -/
def Dev.subs (s : Dev) (t : Nat) : SpareMap := (s.tile t).subs

/-- The map of a tile with every staged change (R176). -/
def Tile.nextSubs (x : Tile) : SpareMap := match x.stages.getLast? with | some g => g.map | none => x.subs

/-- The rate in force of tile `t`. -/
def Dev.rateOf (s : Dev) (t : Nat) : Nat := s.rd Reg.PT_STATUS_QRATE_NOW t

/-! Rings (R141) -/

/-- Heater groups of a tile. -/
def groupsPerTile : Nat := 5032

/-- A ring by bank, physical row and physical column: its group × 16, and its place in the group. -/
def ringAt (bank row col : Nat) : Nat := (bank * 2516 + col * 17 + row / 16) * 16 + row % 16

/-- Bank, physical row and physical column of a ring. -/
def ringPlace (r : Nat) : Nat × Nat × Nat :=
  let g := r / 16
  (g / 2516, g % 17 * 16 + r % 16, g % 2516 / 17)

/-- The rings and legs of tile `t`. -/
def Dev.ringTile (s : Dev) (t : Nat) : RingTile := NMap.get {} s.rings t

/-- Change the rings and legs of tile `t`. -/
def Dev.modRings (s : Dev) (t : Nat) (f : RingTile → RingTile) : Dev :=
  { s with rings := NMap.set {} s.rings t (f (s.ringTile t)) }

/-- Leadline unit `u`. -/
def Dev.unit (s : Dev) (u : Nat) : LlUnit := NMap.get {} s.ll u

/-- Change leadline unit `u`. -/
def Dev.modUnit (s : Dev) (u : Nat) (f : LlUnit → LlUnit) : Dev := { s with ll := NMap.set {} s.ll u (f (s.unit u)) }

/-- Comb source `q`. -/
def Dev.comb (s : Dev) (q : Nat) : Comb := NMap.get {} s.combs q

/-- Change comb source `q`. -/
def Dev.modComb (s : Dev) (q : Nat) (f : Comb → Comb) : Dev := { s with combs := NMap.set {} s.combs q (f (s.comb q)) }

/-- Whether a ring is in use under a map: its row and its column each serve a logical one. -/
def SpareMap.ringInUse (m : SpareMap) (row col : Nat) : Bool :=
  (m.rowUser (row / 34) (row % 34)).isSome && (m.colUser col).isSome

/-- Whether every ring of an element in use is LOCKED (R154, R177). -/
def Dev.ringsLocked (s : Dev) (t : Nat) : Bool :=
  let x := s.ringTile t
  x.on && !x.rings.any (fun e => e.2.state != 2 && (s.subs t).ringInUse (ringPlace e.1).2.1 (ringPlace e.1).2.2)

/-- Whether the loops of tile `t` are held (R146, R156, R204). -/
def Dev.loopsHeld (s : Dev) (t : Nat) : Bool :=
  s.flag Reg.LK_CTRL_FREEZE t || !s.flag Reg.HM_CTRL_DITHER_EN t || (s.comb (quadOf t)).hold

/-- Condition 3 of R65: the loops run, every ring in use is LOCKED, and no following error waits for its substitution (R156,
R179). -/
def Dev.locksOk (s : Dev) (t : Nat) : Bool := !s.loopsHeld t && s.ringsLocked t && (s.tile t).reqs.isEmpty

end Sys2Proof.Machine
end

