-- ==== Sys2Proof/Machine/CalRun.lean ====
section
/-! DEFINITION. Starting and restarting calibration runs, gap-slot probes, and the calibrated state (R65, R168 to R170). -/
namespace Sys2Proof.Machine

/-- Whether REFIN is within tolerance, as LL16 monitors it (R197). -/
def Dev.refinOk (s : Dev) : Bool := s.flag Reg.LL_REFIN_IN_TOL 16

/-- The PASS bit of a rate of tile `t` (R178). -/
def Dev.passAt (s : Dev) (t rate : Nat) : Bool :=
  if rate = 0 then s.flag Reg.PM_CAL_TILE_PASS_80 t
  else if rate = 1 then s.flag Reg.PM_CAL_TILE_PASS_60 t else s.flag Reg.PM_CAL_TILE_PASS_40 t

/-- Whether the quadrant temperature has moved from a reference by more than a bound, in 1/16 °C. -/
def Dev.tempMoved (s : Dev) (t : Nat) (ref : Int) (dt : Nat) : Bool :=
  decide ((dt : Int) < ((s.rdS Reg.HM_TEMP_QTEMP t - ref).natAbs : Int))

/-- The four conditions of calibrated state (R65, R178). -/
def Dev.calState (s : Dev) (t : Nat) : Bool :=
  s.passAt t (s.rateOf t) && !s.tempMoved t (s.rdS Reg.PM_CAL_RUN_TEMP t) (s.rd Reg.PM_CAL_CTRL_DT_CAL 0) &&
  s.locksOk t && s.refinOk

/-- CAL_OK and PASS show the tile's state (R65, R178). -/
def Dev.updCal (s : Dev) (t : Nat) : Dev :=
  (s.wr Reg.PT_STATUS_CAL_OK t (b2n (s.calState t))).wr Reg.PM_CAL_TILE_PASS t (b2n (s.passAt t (s.rateOf t)))

/-- A run begins afresh from its first visit at the next swap (R168, R169): it latches the quadrant temperature. Results that
an earlier one has staged end nothing any more; what they change in the map still commits. -/
def Dev.calFresh (s : Dev) (t : Nat) (k : Cal) : Dev :=
  let k : Cal := { start := k.start, late := k.late, dt := k.dt, restarts := k.restarts, temp := s.rdS Reg.HM_TEMP_QTEMP t }
  (s.modTile t (fun x => { x with cal := k, stages := x.stages.map (fun g => { g with result := none }) })).wr Reg.PM_CAL_TILE_VISITS_DONE t 0

/-- While an URGENT run is in progress an in-service tile reads URGENT_CAL (R169, R474). -/
def Dev.showUrgent (s : Dev) (t trig : Nat) : Dev :=
  if trig = 2 ∧ s.svc t = 2 then s.wr Reg.PT_STATUS_SVC t 3
  else if trig = 2 ∧ s.svc t = 5 then s.modTile t (fun x => { x with svcBack := if x.svcBack = 2 then 3 else x.svcBack }) else s

/-- Start a run of tile `t` with a trigger (R168). Where REFIN is out of tolerance the run waits for it (R169). -/
def Dev.calStart (s : Dev) (t trig : Nat) : Dev :=
  let s := s.wr Reg.PM_CAL_TILE_TRIGGER t trig
  if s.refinOk then
    let s := s.wr Reg.PM_CAL_CTRL_REQ 0 (putBit (s.rd Reg.PM_CAL_CTRL_REQ 0) t false)
    let s := s.wr Reg.PM_CAL_TILE_RUNNING t 1
    (s.calFresh t { start := s.mono, dt := s.rd Reg.PM_CAL_CTRL_DT_CAL 0 }).showUrgent t trig
  else s.modTile t (fun x => { x with cal := { x.cal with waitRefin := true } })

/-- The run of tile `t` restarts from its first visit with a trigger (R169). -/
def Dev.calRestart (s : Dev) (t trig : Nat) : Dev :=
  let s := (s.wr Reg.PM_CAL_TILE_TRIGGER t trig).bump Reg.PM_CAL_RESTARTS t 1
  (s.calFresh t (s.tile t).cal).showUrgent t trig

/-- A trigger fires on tile `t` (R168, R169): 0 START, 1 TEMP, 2 URGENT, 3 RETURN, 4 REQUEST. A START trigger that meets a run
of another trigger than RETURN restarts it (log entry 63). -/
def Dev.calTrigger (s : Dev) (t trig : Nat) : Dev :=
  let now := s.rd Reg.PM_CAL_TILE_TRIGGER t
  if s.flag Reg.PM_CAL_TILE_RUNNING t then
    let s := s.wr Reg.PM_CAL_CTRL_REQ 0 (putBit (s.rd Reg.PM_CAL_CTRL_REQ 0) t false)
    if trig = 3 then s.calRestart t 3
    else if trig = 0 ∧ now ≠ 0 ∧ now ≠ 3 then s.calRestart t 0
    else if trig = 2 ∧ now ≠ 2 ∧ now ≠ 3 then s.calRestart t 2
    else s
  else if (s.tile t).cal.waitRefin ∧ (trig ≠ 3 ∧ trig ≠ 2 ∨ now = 3) then s
  else s.calStart t trig

/-- Add probe symbols to the segments of a list. -/
def addProbes (l segs : List Nat) (n : Nat) : List Nat :=
  (List.range 8).map (fun i => l.getD i 0 + if segs.contains i then n else 0)

/-! Visits (R172, R173) -/

/-- The slice that all segments of tile `t` measure at its reference input. -/
def Tile.refSlice (x : Tile) : Option Nat := if x.cal.begun && decide (x.cal.slices < 146) then some x.cal.slices else none

/-- Whether slice `k` of segment `seg` is visited: it is usable, and where it is in use the segment's shadow is free. -/
def SpareMap.visitsSlice (m : SpareMap) (rate seg k : Nat) : Bool :=
  !m.badSlices.contains (seg * 146 + k) && ((m.sliceUser rate seg k).isNone || !(m.freeSlices rate seg).isEmpty)

/-- The decision slice that serves logical column `j` of a segment at this moment: the shadow while the column's own is under a
visit. -/
def Dev.sliceNow (s : Dev) (t seg j : Nat) : Nat :=
  let m := s.subs t
  let r := s.rateOf t
  let k := m.slicePhys r seg j
  if (s.tile t).refSlice = some k ∧ m.visitsSlice r seg k then (m.freeSlices r seg).getLast?.getD k else k

/-- Whether column `c` is visited: it is usable, and where it is in use the shadow column is free. -/
def SpareMap.visitsCol (m : SpareMap) (c : Nat) : Bool := !m.badCols.contains c && ((m.colUser c).isNone || !m.freeCols.isEmpty)

/-- The next slice from `k` on that some segment visits, 146 where there is none. -/
def SpareMap.nextSlice (m : SpareMap) (rate k : Nat) : Nat :=
  ((List.range 146).find? (fun i => decide (k ≤ i) && (List.range 8).any (fun g => m.visitsSlice rate g i))).getD 146

/-- The next column from `c` on that is visited, 148 where there is none. -/
def SpareMap.nextCol (m : SpareMap) (c : Nat) : Nat := ((List.range 148).find? (fun i => decide (c ≤ i) && m.visitsCol i)).getD 148

/-- The column that a bank load of tile `t` puts under a visit: the next of its bank, once a run has ended its slice visits. -/
def Dev.loadVisit (s : Dev) (t : Nat) (b : Bool) : Option Nat :=
  let k := (s.tile t).cal
  let c := if b then k.colsB else k.colsA
  if s.flag Reg.PM_CAL_TILE_RUNNING t && k.begun && decide (k.slices = 146) && !k.staged && decide (c < 148) then some c else none

/-- The physical column that serves logical column `j` in a bank: the shadow while its own is under a visit of that bank. -/
def Dev.colNow (s : Dev) (t : Nat) (b : Bank) (j : Nat) : Nat :=
  let c := (s.subs t).colPhys j
  if b.visit = some c then (s.subs t).freeCols.getLast?.getD c else c

/-- Gap slots carry probe symbols of the visit in progress (R170, R172, R173). -/
def Dev.calProbe (s : Dev) (t : Nat) (segs : List Nat) (n : Nat) : Dev :=
  let k := (s.tile t).cal
  if !s.flag Reg.PM_CAL_TILE_RUNNING t || !k.begun || k.staged then s
  else if k.slices < 146 then s.modTile t (fun x => { x with cal := { k with probes := addProbes k.probes segs n } })
  else if s.flag Reg.PT_STATUS_ACTIVE_BANK t then
    if k.onB then s.modTile t (fun x => { x with cal := { k with probesB := addProbes k.probesB segs n } }) else s
  else if k.onA then s.modTile t (fun x => { x with cal := { k with probesA := addProbes k.probesA segs n } })
  else s

end Sys2Proof.Machine
end

