-- ==== Sys2Proof/Machine/Cores.lean ====
section
/-! DEFINITION. What the trace keeps of the code of the control cores: branch records and exceptions (R449, R450). -/
namespace Sys2Proof.Machine

/-- The partition whose region a control core's records go to: the holder of its tile for a sequencer. -/
def Dev.corePart (s : Dev) (n : Nat) : Nat := if n < 16 then s.holder n else s.engineOwner (64 + n)

/-- Whether the branches of control core `n` are recorded (R450): its partition's CC_EN, and for a firmware core also FW_EN. -/
def Dev.branchesOn (s : Dev) (n : Nat) : Bool :=
  let p := s.corePart n
  s.traceOn p && s.flag Reg.TR_PCTRL_CC_EN p && (decide (n < 16) || (s.flag Reg.TR_CTRL_FW_EN 0 && p == 0))

/-- The branch record that core `n` is filling. -/
def Dev.branchRec (s : Dev) (n : Nat) : BranchRec := NMap.get {} s.branches n

/-- Replace the branch record of core `n`. -/
def Dev.setBranchRec (s : Dev) (n : Nat) (r : BranchRec) : Dev := { s with branches := NMap.set {} s.branches n r }

/-- Words 3 to 7 of a CC_BRANCH record (R449). -/
def BranchRec.words (r : BranchRec) : List Nat :=
  let ind := fun i => let e := r.inds.getD i (0, 0); e.1 % 2 ^ 48 + e.2 * 2 ^ 48
  [r.first.getD 0 % 2 ^ 48 + r.conds * 2 ^ 48, r.taken % 2 ^ 64, r.taken / 2 ^ 64, ind 0, ind 1]

/-- The record of core `n` closes: it is written, unless no branch is in it. -/
def Dev.closeBranches (s : Dev) (n : Nat) : Dev :=
  let r := s.branchRec n
  if r = {} then s else (s.setBranchRec n {}).trace (s.corePart n) 4 (Agent.cc n).code 0 0 0 r.words

/-- One branch of core `n` (R450): the 128th conditional one closes its record, and a third indirect one begins the next. -/
def Dev.coreBranch (s : Dev) (n : Nat) (b : Branch) : Dev :=
  let s := if b.cond.isNone && decide (2 ≤ (s.branchRec n).inds.length) then s.closeBranches n else s
  let r := s.branchRec n
  let r := { r with first := some (r.first.getD b.pc) }
  match b.cond with
  | none => s.setBranchRec n { r with inds := r.inds ++ [(b.target, r.conds)] }
  | some taken =>
    let s := s.setBranchRec n { r with conds := r.conds + 1, taken := r.taken + b2n taken * 2 ^ r.conds }
    if 128 ≤ r.conds + 1 then s.closeBranches n else s

/-- Whether core `n` executes: it is neither stopped nor waiting. -/
def Dev.coreExecutes (s : Dev) (n : Nat) : Bool :=
  s.rd Reg.CC_STATUS_STATE n == 0 && s.waits.all (fun w => w.agent != Agent.cc n)

/-- The branches core `n` has executed since the last look at it, where they are recorded: its code's, so free. -/
def Dev.coreCode (s : Dev) (n : Nat) : Dev :=
  if s.branchesOn n && s.coreExecutes n then
    (Config.coreBranches n s.seed).foldl (fun s b => s.coreBranch n b) { s with seed := s.seed + 1 }
  else s

/-- Core `n` stops executing: what it executed last, and the close of its record. -/
def Dev.coreHalts (s : Dev) (n : Nat) : Dev := (s.coreCode n).closeBranches n

/-- Control core `n` takes an exception (R449, R450): its branch record closes, and a sequencer's CC_EXCEPTION record follows,
whose PC, cause and address are the core's own, so free. -/
def Dev.coreException (s : Dev) (n : Nat) : Dev :=
  let s := s.coreHalts n
  if n < 16 then
    let (cause, addr) := Config.coreCause n s.seed
    let pc := Config.nextPc n s.seed
    ({ s with seed := s.seed + 1 } : Dev).trace (s.corePart n) 5 (Agent.cc n).code 0 0 0 [pc % 2 ^ 48, cause % 256, addr]
  else s

end Sys2Proof.Machine
end

