-- ==== Sys2Proof/Machine/VeArith.lean ====
section
/-! DEFINITION. The arithmetic of the vector engines (R53): IEEE 754 binary32 operations over BF16 and FP32 operands, each result
rounded once, half to even, to its destination format, and saturating INT8 multiply-accumulates. -/
namespace Sys2Proof.Machine

/-- A value of a floating-point operation: a finite one keeps its sign apart from its magnitude in units of 2^-149, so that
the two zeros differ. -/
inductive Flt where
  | nan
  | inf (neg : Bool)
  | fin (neg : Bool) (mag : Nat)
  deriving DecidableEq, Repr

/-- The format of a floating-point operand or result. -/
def fltFmt (bf16 : Bool) : FloatFmt := if bf16 then fmtBf16 else fmtFp32

/-- The value of an FP32 word; subnormals are kept. -/
def fltOfFp32 (w : Nat) : Flt :=
  let e := nbits w 30 23
  let m := nbits w 22 0
  if e = 255 then (if m = 0 then .inf (w.testBit 31) else .nan)
  else .fin (w.testBit 31) (if e = 0 then m else (2 ^ 23 + m) * 2 ^ (e - 1))

/-- The value of an operand: a BF16 word is widened exactly. -/
def fltOf (bf16 : Bool) (w : Nat) : Flt := fltOfFp32 (if bf16 then w * 65536 else w)

/-- The sign bit of a format. -/
def fltSign (f : FloatFmt) (neg : Bool) : Nat := if neg then 2 ^ (f.total - 1) else 0

/-- The canonical quiet NaN: 0x7FC0_0000 or 0x7FC0. -/
def fltNan (f : FloatFmt) : Nat := 2 ^ (f.total - 1) - 2 ^ (f.man - 1)

/-- Infinity: the code after the largest finite one. -/
def fltInf (f : FloatFmt) (neg : Bool) : Nat := fltSign f neg + f.maxCode + 1

/-- Round the magnitude `n / d`, in units of 2^-298, half to even to a format of FP32's exponent range. The code of a magnitude
of `k` quanta above the smallest quantum's exponent by `j` is `j * 2^man + k`; one beyond the largest finite code is infinity. -/
def fltRound (f : FloatFmt) (neg : Bool) (n d : Nat) : Nat :=
  let low := 172 - f.man
  let q := max low (Nat.log2 (n / d) - f.man)
  let code := (q - low) * 2 ^ f.man + (rhe n (d * 2 ^ q)).toNat
  if f.maxCode < code then fltInf f neg else fltSign f neg + code

/-- A signed exact sum, in units of 2^-298; an exact zero of unlike signs is +0 (round half to even). -/
def fltSum (f : FloatFmt) (na : Bool) (a : Nat) (nb : Bool) (b : Nat) : Nat :=
  let x : Int := (if na then -(a : Int) else a) + (if nb then -(b : Int) else b)
  fltRound f (if x = 0 then na && nb else decide (x < 0)) x.natAbs 1

/-- a × b + c, rounded once. -/
def fltFma (f : FloatFmt) (a b c : Flt) : Nat :=
  match a, b, c with
  | .nan, _, _ | _, .nan, _ | _, _, .nan => fltNan f
  | .fin na x, .fin nb y, .fin nc z => fltSum f (na != nb) (x * y) nc (z * 2 ^ 149)
  | .fin _ _, .fin _ _, .inf nc => fltInf f nc
  | .inf na, .inf nb, .inf nc => if (na != nb) = nc then fltInf f nc else fltNan f
  | .inf na, .inf nb, .fin _ _ => fltInf f (na != nb)
  | .inf na, .fin nb y, .inf nc => if y = 0 ∨ (na != nb) ≠ nc then fltNan f else fltInf f nc
  | .inf na, .fin nb y, .fin _ _ => if y = 0 then fltNan f else fltInf f (na != nb)
  | .fin na x, .inf nb, .inf nc => if x = 0 ∨ (na != nb) ≠ nc then fltNan f else fltInf f nc
  | .fin na x, .inf nb, .fin _ _ => if x = 0 then fltNan f else fltInf f (na != nb)

/-- a + b. -/
def fltAdd (f : FloatFmt) (a b : Flt) : Nat :=
  match a, b with
  | .nan, _ | _, .nan => fltNan f
  | .fin na x, .fin nb y => fltSum f na (x * 2 ^ 149) nb (y * 2 ^ 149)
  | .inf na, .inf nb => if na = nb then fltInf f na else fltNan f
  | .inf na, .fin _ _ => fltInf f na
  | .fin _ _, .inf nb => fltInf f nb

/-- The value with the other sign. -/
def Flt.neg : Flt → Flt
  | .nan => .nan
  | .inf n => .inf (!n)
  | .fin n m => .fin (!n) m

/-- a × b. -/
def fltMul (f : FloatFmt) (a b : Flt) : Nat :=
  match a, b with
  | .nan, _ | _, .nan => fltNan f
  | .fin na x, .fin nb y => fltRound f (na != nb) (x * y) 1
  | .inf na, .inf nb => fltInf f (na != nb)
  | .inf na, .fin nb y => if y = 0 then fltNan f else fltInf f (na != nb)
  | .fin na x, .inf nb => if x = 0 then fltNan f else fltInf f (na != nb)

/-- a ÷ b. -/
def fltDiv (f : FloatFmt) (a b : Flt) : Nat :=
  match a, b with
  | .nan, _ | _, .nan => fltNan f
  | .fin na x, .fin nb y =>
    if y = 0 then (if x = 0 then fltNan f else fltInf f (na != nb)) else fltRound f (na != nb) (x * 2 ^ 298) y
  | .inf _, .inf _ => fltNan f
  | .inf na, .fin nb _ => fltInf f (na != nb)
  | .fin na _, .inf nb => fltSign f (na != nb)

/-- The integer square root of `n` from its bits, highest first: `k` bits of the root remain to be found. -/
def isqrtFrom (n : Nat) : Nat → Nat → Nat
  | 0, r => r
  | k + 1, r => let t := r + 2 ^ k; isqrtFrom n k (if t * t ≤ n then t else r)

/-- √a: the root of the magnitude in units of 2^-298, with a half more where it is not exact, rounds as the exact root does. -/
def fltSqrt (f : FloatFmt) (a : Flt) : Nat :=
  match a with
  | .nan => fltNan f
  | .inf neg => if neg then fltNan f else fltInf f false
  | .fin neg x =>
    if x = 0 then fltSign f neg
    else if neg then fltNan f
    else
      let v := x * 2 ^ 447
      let r := isqrtFrom v (Nat.log2 v / 2 + 1) 0
      fltRound f false (2 * r + (if r * r = v then 0 else 1)) 2

/-- How many operands an operation has. -/
def floatOperands : FloatOp → Nat
  | .sqrt | .convert => 1
  | .add | .sub | .mul | .div => 2
  | .fma => 3

/-- The result of a floating-point operation in its destination format. -/
def fltResult (f : FloatFmt) (op : FloatOp) (a b c : Flt) : Nat :=
  match op with
  | .add => fltAdd f a b
  | .sub => fltAdd f a b.neg
  | .mul => fltMul f a b
  | .fma => fltFma f a b c
  | .div => fltDiv f a b
  | .sqrt => fltSqrt f a
  | .convert => fltMul f a (.fin false (2 ^ 149))

/-! INT8 multiply-accumulate -/

/-- The limits of the 32-bit accumulator. -/
def int32Max : Int := 2 ^ 31 - 1
/-- The limits of the 32-bit accumulator. -/
def int32Min : Int := -(2 ^ 31)

/-- One multiply-accumulate: the new accumulator, and whether any so far saturated. -/
def mac (acc : Int × Bool) (p : Int × Int) : Int × Bool :=
  let x := acc.1 + p.1 * p.2
  (clampI x int32Min int32Max, acc.2 || decide (x < int32Min) || decide (int32Max < x))

/-- A run of multiply-accumulates over pairs of elements, in order. -/
def macs (acc : Int) (ps : List (Int × Int)) : Int × Bool := ps.foldl mac (acc, false)

end Sys2Proof.Machine
end

