-- ==== Sys2Proof/Machine/Engines.lean ====
section
/-! DEFINITION. The vector engines: full/empty words, launching a routine, its arithmetic, its return, its exceptions (R53, R263,
R264, R282 to R284, R301, R436). -/
namespace Sys2Proof.Machine

/-- Engine `e`. -/
def Dev.eng (s : Dev) (e : Nat) : Engine := NMap.get {} s.engines e

/-- Replace engine `e`. -/
def Dev.setEng (s : Dev) (e : Nat) (v : Engine) : Dev := { s with engines := NMap.set {} s.engines e v }

/-- Step the counter that fresh free values are applied to. -/
def Dev.fresh (s : Dev) : Dev := { s with seed := s.seed + 1 }

/-- Show STATE of a vector engine: 0 IDLE, 1 RUNNING, 2 WAITING, 3 HALTED. -/
def Dev.veState (s : Dev) (e v : Nat) : Dev := if e < 64 then s.wr Reg.VE_STATUS_STATE e v else s

/-- An engine is woken: it runs on, or stops where a halt is pending (R290, R452). -/
def Dev.wakeEngine (s : Dev) (e : Nat) : Dev :=
  let x := s.eng e
  if x.haltPending then (s.setEng e { x with haltPending := false }).veState e 3 else s.veState e 1

/-- The engine an agent is, if it is one. -/
def agentEngine : Agent → Option Nat
  | .ve n => some n
  | .cc n => some (64 + n)
  | _ => none

/-- The agent that engine `e` is. -/
def engineAgent (e : Nat) : Agent := if e < 64 then .ve e else .cc (e - 64)

/-- A wait ends served: it leaves the waits, its command completes and its queue goes on, or its engine is woken (R290,
R292). -/
def Dev.waitServed (s : Dev) (id : Nat) : Dev :=
  match s.waits.find? (fun w => w.id = id) with
  | none => s
  | some w =>
    let s := { s with waits := s.waits.filter (fun x => x.id ≠ id) }
    match w.c with
    | some c =>
      let s := s.finishOk c
      if s.rd Reg.QM_Q_STATE_STATE c.queue = 2 then s.wr Reg.QM_Q_STATE_STATE c.queue 1 else s
    | none => match agentEngine w.agent with
      | some e => s.wakeEngine e
      | none => s

/-! Full/empty words (R282 to R284) -/

/-- The word at address `a`. -/
def Dev.fe (s : Dev) (a : Nat) : FeWord := NMap.get {} s.feWords a

/-- Replace the full/empty state of a word. -/
def Dev.setFe (s : Dev) (a : Nat) (v : FeWord) : Dev := { s with feWords := NMap.set {} s.feWords a v }

/-- A naturally aligned word that has a full/empty bit (R282). -/
def feWordOk (a : Nat) : Bool := a % 8 == 0 && (regionOf a == .ve || regionOf a == .staging)

/-- The bit after an access of a kind. -/
def FeKind.after : FeKind → Bool
  | .readFull => true
  | .take => false
  | .put _ => true

/-- Whether an access finds the bit it waits for. -/
def FeKind.met (k : FeKind) (full : Bool) : Bool :=
  match k with
  | .put _ => !full
  | _ => full

/-- Do a full/empty access that has found its bit: the data access and the bit change together (R283). -/
def Dev.feDo (s : Dev) (a e : Nat) (k : FeKind) : Dev :=
  let s : Dev := match k with
    | .put d => s.putLe a 8 d.toNat
    | _ => { s with served := s.served ++ [{ engine := e, addr := a, data := BitVec.ofNat 64 (s.le a 8) }] }
  s.setFe a { s.fe a with full := k.after }

/-- One pass over the waiters of a word in arrival order; those that stay come back (R284). -/
def Dev.feServeFrom (a : Nat) : List FeWaiter → Dev → Dev × List FeWaiter
  | [], s => (s, [])
  | w :: r, s =>
    if w.kind.met (s.fe a).full then Dev.feServeFrom a r ((s.feDo a w.engine w.kind).waitServed w.id)
    else
      let (s, r) := Dev.feServeFrom a r s
      (s, w :: r)

/-- Serve the waiters of a word until none is met: each pass that serves one may meet another. -/
def Dev.feServe (a : Nat) : Nat → Dev → Dev
  | 0, s => s
  | n + 1, s =>
    let ws := (s.fe a).waiters
    let (s, r) := Dev.feServeFrom a ws s
    let s := s.setFe a { s.fe a with waiters := r }
    if r.length = ws.length then s else Dev.feServe a n s

/-- Serve every waiter of the word at `a` that can be served. -/
def Dev.serveFe (s : Dev) (a : Nat) : Dev := Dev.feServe a ((s.fe a).waiters.length + 1) s

/-- The memory whose waiter entries a word uses (R284): a vector engine's local memory, or 64, staging SRAM. -/
def feMemory (a : Nat) : Nat := if regionOf a = .ve then (a - veBase 0) / 0x200000 else 64

/-- Whether the memory of word `a` has a free waiter entry: 16 in each local memory, 256 in staging SRAM (R284). -/
def Dev.feRoom (s : Dev) (a : Nat) : Bool :=
  decide (((s.feWords.filter (fun e => feMemory e.1 == feMemory a)).map (fun e => e.2.waiters.length)).sum < (if feMemory a < 64 then 16 else 256))

/-- An access that waits takes a waiter entry and is examined against the bit it finds (R284). -/
def Dev.feEnter (s : Dev) (a : Nat) (w : FeWaiter) : Dev :=
  (s.setFe a { s.fe a with waiters := (s.fe a).waiters ++ [w] }).serveFe a

/-- Parked accesses take the entries that are free, oldest first (R284). -/
def Dev.unparkN : Nat → Dev → Dev
  | 0, s => s
  | n + 1, s => match s.feParked.find? (fun x => s.feRoom x.addr) with
    | none => s
    | some x => Dev.unparkN n ({ s with feParked := s.feParked.erase x }.feEnter x.addr x.w)

/-- Parked accesses take the entries that are free. -/
def Dev.unpark (s : Dev) : Dev := Dev.unparkN s.feParked.length s

/-- The waiters of the word at `a` that can be served are, and entries that become free are taken. -/
def Dev.serveWord (s : Dev) (a : Nat) : Dev := (s.serveFe a).unpark

/-- Whether engine `e` makes transitions: it neither waits nor is stopped (R290, R452). -/
def Dev.engineRuns (s : Dev) (e : Nat) : Bool :=
  s.waits.all (fun w => w.agent != engineAgent e) &&
  (if e < 64 then s.rd Reg.VE_STATUS_STATE e != 3 else s.rd Reg.CC_STATUS_STATE (e - 64) == 0)

/-- A command stops holding its coil: the operation leaves the list of admitted operations (R235). -/
def Dev.coilRelease (s : Dev) (c : Cmd) : Dev :=
  { s with coilOps := s.coilOps.eraseP (fun o => decide (o.c = c) && o.admitted) }

/-- The header of a routine image is good (R264). -/
def Dev.routineOk (s : Dev) (h : List Byte) (argLen : Nat) : Bool :=
  let w := fun o n => leNat ((h.drop o).take n)
  w 0 4 == 0x52564448 && w 4 2 / 256 == s.rd Reg.BT_FW_SFW_IF_VER 0 / 256 && decide (w 8 4 ≤ 0x40000) &&
  decide (w 16 4 ≤ 0x200000) && w 20 4 % 8 == 0 && decide (w 20 4 + argLen ≤ w 16 4)

/-- Whether engine `e` can take a launch. -/
def Dev.engineFree (s : Dev) (e : Nat) : Bool :=
  (s.eng e).cmd.isNone && !s.flag Reg.VE_STATUS_FAULTED e && s.rd Reg.VE_STATUS_STATE e == 0

/-- Start a launch on engine `e` (R264): the header is checked, the argument block and the words after it are copied into
local memory, and the routine starts. -/
def Dev.startOn (s : Dev) (l : Launch) (e : Nat) : Dev :=
  let p := s.cPart l.c
  let (h, rh) := s.loadFor p l.routine 64
  let (a, ra) := if l.argLen = 0 then ([], .ok) else s.loadFor p l.args l.argLen
  let s := (s.noteRefused p rh (some l.c)).noteRefused p ra (some l.c)
  let fail := fun (s : Dev) => s.coilRelease l.c
  match rh with
  | .uncorr u => (fail s).failSt l.c stMemUncorr (u * 64) 0
  | .lost => (fail s).failSt l.c stMemLost l.routine 0
  | _ =>
    if l.routine % 4096 ≠ 0 ∨ ¬s.routineOk h l.argLen then (fail s).badFormat l.c
    else match ra with
    | .uncorr u => (fail s).failSt l.c stMemUncorr (u * 64) 0
    | .lost => (fail s).failSt l.c stMemLost l.args 0
    | _ =>
      let off := leNat ((h.drop 20).take 4)
      let s := s.putBytes (veBase e + off) (a ++ (l.extra.map (leBytes 8)).flatten)
      (s.setEng e { cmd := some l.c, coil := l.coil }).veState e 1

/-- Launch a routine on a free engine among its candidates, or hold the launch until one is free (R264, R265). -/
def Dev.launch (s : Dev) (l : Launch) : Dev :=
  let free := l.cands.filter (fun e => s.engineOwner e == s.cPart l.c && s.engineFree e)
  match free with
  | [] => { s with launches := s.launches ++ [l] }
  | _ => s.fresh.startOn l (free.getD (Config.pick s.seed % free.length) 0)

/-- Engine `e` is free: the oldest held launch that may take it starts. -/
def Dev.nextLaunch (s : Dev) (e : Nat) : Dev :=
  if !s.engineFree e then s
  else match s.launches.find? (fun l => l.cands.contains e && s.engineOwner e == s.cPart l.c) with
  | none => s
  | some l => { s with launches := s.launches.erase l }.startOn l e

/-- Count the steps a routine executed (R449, R454, R455). -/
def Dev.countSteps (s : Dev) (c : Cmd) (e n : Nat) : Dev :=
  let (b, i) := Config.stepSplit s.seed
  let b := min b n
  let i := min i (n - b)
  let p := s.cPart c
  let s := s.fresh
  let s := if e < 64 then s.bump Reg.VE_STEPS e n else s
  (((s.pf p 0x38 b).pf p 0x39 i).pf p 0x3A (n - b - i)).addWork c { steps := n }

/-- The waits of an engine end with it: they leave every waiter list. -/
def Dev.dropEngineWaits (s : Dev) (e : Nat) : Dev :=
  let ag := engineAgent e
  let ids := (s.waits.filter (fun w => w.agent = ag)).map (fun w => w.id)
  ({ s with
    waits := s.waits.filter (fun w => w.agent ≠ ag)
    feParked := s.feParked.filter (fun x => !ids.contains x.w.id)
    knots := s.knots.map (fun (e : Nat × Knot) => (e.1, { e.2 with waiters := e.2.waiters.filter (fun w => !ids.contains w.id) }))
             |>.filter (fun e => e.2 ≠ {})
    feWords := s.feWords.map (fun (e : Nat × FeWord) => (e.1, { e.2 with waiters := e.2.waiters.filter (fun w => !ids.contains w.id) }))
             |>.filter (fun e => e.2 ≠ {}) } : Dev).unpark

/-- The routine on engine `e` takes an exception and ends: its command completes with the exception's status and the engine
is free (R264, R301). -/
def Dev.engineEnd (s : Dev) (e status steps d0 : Nat) : Dev :=
  match (s.eng e).cmd with
  | none => s
  | some c =>
    let s := s.dropEngineWaits e
    let s := (s.setEng e {}).veState e 0
    let s := (s.countSteps c e steps).coilRelease c
    (s.finish c status false 0 0 d0 0).nextLaunch e

/-- An engine's failed wait or operation ends its routine; the steps it had executed are free (R301, R288). -/
def Dev.engineFail (s : Dev) (e status d0 : Nat) : Dev := s.fresh.engineEnd e status (Config.stepsAtEnd s.seed) d0

/-- VE_LAUNCH (R263, R264, R259, R436). -/
def doVeLaunch (c : Cmd) (s : Dev) : Dev :=
  let n := bits c.w4 12 0
  if 4096 < n then s.badFormat c
  else
    let l : Launch := { c := c, routine := bits c.w2 47 0, args := bits c.w3 47 0, argLen := n
                        cands := if c.engine = 63 then List.range 64 else [c.engine], extra := [], coil := none }
    if c.engine < 63 ∧ s.engineOwner c.engine ≠ s.cPart c then (s.foreign (s.cPart c) (some c)).badFormat c
    else if c.engine < 63 ∧ s.flag Reg.VE_STATUS_FAULTED c.engine then s.failSt c Ev.VE_ENGINE_FAULT.status c.engine 0
    else s.launch l

/-- Read bytes for command `c`; a refused read gives zeros and shows at its target. -/
def Dev.readShown (s : Dev) (c : Cmd) (a n : Nat) : List Byte × Dev :=
  ((s.loadFor (s.cPart c) a n).1, s.noteRead (s.cPart c) a n (some c))

/-- One arithmetic operation of the routine that command `k` runs on engine `e` (R53): a saturated INT8 accumulator sets the
engine's VE_INT_SAT flag. -/
def Dev.veOp (s : Dev) (e : Nat) (k : Cmd) : VeOp → Dev
  | .float op src dst a b c d =>
    let n := (fltFmt src).total / 8
    let (x, s) := s.readShown k a n
    let (y, s) := if floatOperands op < 2 then ([], s) else s.readShown k b n
    let (z, s) := if floatOperands op < 3 then ([], s) else s.readShown k c n
    let r := fltResult (fltFmt dst) op (fltOf src (leNat x)) (fltOf src (leNat y)) (fltOf src (leNat z))
    (s.storeFor (s.cPart k) d (leBytes ((fltFmt dst).total / 8) r) (some k)).1
  | .mac acc a b n =>
    let (z, s) := s.readShown k acc 4
    let (x, s) := s.readShown k a n
    let (y, s) := s.readShown k b n
    let (r, sat) := macs (toSigned 32 (leNat z)) ((x.zip y).map (fun q => (q.1.toInt, q.2.toInt)))
    let s := (s.storeFor (s.cPart k) acc (leBytes 4 (BitVec.ofInt 32 r).toNat) (some k)).1
    if sat then (s.wr Reg.VE_STATUS_INT_SAT e 1).reportFor Ev.VE_INT_SAT e (some k) else s

/-- The arithmetic a routine did before it ended, in its order. -/
def Dev.veOps (s : Dev) (e : Nat) (k : Cmd) (ops : List VeOp) : Dev := ops.foldl (fun s o => s.veOp e k o) s

/-- VE_RETURN (R264), of an engine that runs: the operand of the return becomes RESULT0, the steps RESULT1. -/
def doVeReturn (e : Nat) (word : Word) (steps : Nat) (ops : List VeOp) (s : Dev) : Dev :=
  match (if s.engineRuns e then (s.eng e).cmd else none) with
  | none => s
  | some c =>
    let s := s.veOps e c ops
    let s := (s.setEng e {}).veState e 0
    let s := (s.countSteps c e steps).coilRelease c
    (s.finishR c word.toNat steps).nextLaunch e

/-- VE_EXCEPTION (R264, R301). -/
def doVeException (e status steps : Nat) (ops : List VeOp) (s : Dev) : Dev :=
  match (if s.engineRuns e then (s.eng e).cmd else none) with
  | none => s
  | some c => (s.veOps e c ops).engineEnd e status steps e

/-- VE_ENGINE_FAULT (R436): the routine ends, the engine is withdrawn until reset, and its local memory reads zero. -/
def doVeEngineFault (e : Nat) (s : Dev) : Dev :=
  let s := s.report Ev.VE_ENGINE_FAULT e
  let s := s.wr Reg.VE_STATUS_FAULTED e 1
  let named := s.launches.filter (fun l => l.cands == [e])
  let s := { s with launches := s.launches.filter (fun l => l.cands != [e]) }
  let s := named.foldl (fun s l => (s.coilRelease l.c).failSt l.c Ev.VE_ENGINE_FAULT.status e 0) s
  let s := { s with mem := NMap.clearRange s.mem (veBase e) (veBase e + 0x200000) }
  s.engineFail e Ev.VE_ENGINE_FAULT.status e

/-- VE_LAUNCH. -/
def execVeLaunch (c : Cmd) (s : State) : Host.Outcome State Fault Refusal := s.on (doVeLaunch c)
/-- VE_RETURN. -/
def execVeReturn (e : Nat) (word : Word) (x : Executed) (s : State) : Host.Outcome State Fault Refusal :=
  s.on (doVeReturn e word x.steps x.ops)
/-- VE_EXCEPTION. -/
def execVeException (e status : Nat) (x : Executed) (s : State) : Host.Outcome State Fault Refusal :=
  s.on (doVeException e status x.steps x.ops)
/-- VE_ENGINE_FAULT. -/
def execVeEngineFault (e : Nat) (s : State) : Host.Outcome State Fault Refusal := s.on (doVeEngineFault e)

end Sys2Proof.Machine
end

