-- ==== Sys2Proof/Machine/Sync.lean ====
section
/-! DEFINITION. Knots, and waits as they begin and leave (spec/12). -/
namespace Sys2Proof.Machine

/-! Knots (R285 to R289, R297) -/

/-- A knot ID that exists (R285). -/
def knotOk (k : Nat) : Bool := decide (k % 64 ≤ 47) && decide (k / 64 ≤ 83)

/-- Knot `k`. -/
def Dev.knot (s : Dev) (k : Nat) : Knot := NMap.get {} s.knots k

/-- Replace knot `k`. -/
def Dev.setKnot (s : Dev) (k : Nat) (v : Knot) : Dev := { s with knots := NMap.set {} s.knots k v }

/-- The partition of a knot: the owner of its host (R285). -/
def Dev.knotPart (s : Dev) (k : Nat) : Nat := s.engineOwner (k / 64)

/-- The partition an agent acts for (R351). -/
def Dev.agentPart (s : Dev) : Agent → Nat
  | .queue n => s.qPart n
  | .ve n => s.engineOwner n
  | .cc n => s.engineOwner (64 + n)
  | .dma _ => 0
  | .peer _ => 0
  | .reg p => p

/-- A waiter record (R306). -/
def waiterRec (a : Agent) (part : Nat) (consume : Bool) (v : Nat) : Nat :=
  a.code % 2 ^ 19 + part % 64 * 2 ^ 19 + b2n consume * 2 ^ 25 + v % 2 ^ 32 * 2 ^ 26

/-- Write one record into the event log (R306). -/
def Dev.syLog (s : Dev) (e : SyEvent) : Dev :=
  let h := s.rd Reg.SY_STATUS_EV_HEAD 0
  let s := { s with syEvents := NMap.set {} s.syEvents h { e with time := s.now } }
  let s := if h = 15 then s.wr Reg.SY_STATUS_EV_WRAPPED 0 1 else s
  s.wr Reg.SY_STATUS_EV_HEAD 0 ((h + 1) % 16)

/-- Misuse of a knot (R288): the event, its counter, and its record; `who` is the command that it comes from (R276). -/
def Dev.knotMisuse (s : Dev) (e : Event) (typ k part amount : Nat) (a : Agent) (who : Option Cmd) : Dev :=
  let owner := s.knotPart k
  let first := match (s.knot k).waiters with
    | [] => 0
    | w :: _ => waiterRec w.agent w.part w.consume w.threshold
  let s := if typ = 1 then s.bump Reg.SY_PART_UNDERFLOWS owner 1 else s
  (s.reportAs e 0 owner k amount who).syLog
    { typ := typ, part := owner, kind := 0, object := k, agent := waiterRec a part false amount
      agent2 := if typ = 1 then first else 0 }

/-- The value of knot `k` becomes `v` through agent `a`, by command `who` if by one's (R276, R297, R305). -/
def Dev.knotPut (s : Dev) (k v : Nat) (a : Agent) (part : Nat) (who : Option Cmd) : Dev :=
  let n := s.knot k
  if v = n.val then s
  else
    let s := (s.setKnot k { n with val := v, high := decide (2 ^ 31 ≤ v), last := some a, lastPart := part, lastTime := s.now }).bump
      Reg.SY_SIGNALS 0 1
    if n.val < 2 ^ 31 ∧ 2 ^ 31 ≤ v then
      (s.reportAs Ev.SY_KNOT_HIGH 0 (s.knotPart k) k v who).syLog
        { typ := 6, part := s.knotPart k, kind := 0, object := k, agent := waiterRec a part false v }
    else s

/-- Serve waiters in arrival order (R287): `held` says a CONSUME waiter ahead is not met; the waiters that stay come
back. -/
def Dev.serveFrom (k : Nat) : List Waiter → Bool → Dev → Dev × List Waiter
  | [], _, s => (s, [])
  | w :: r, held, s =>
    if (s.knot k).val < w.threshold ∨ (w.consume ∧ held) then
      let (s, r) := Dev.serveFrom k r (held || w.consume) s
      (s, w :: r)
    else
      let s := if w.consume then s.knotPut k ((s.knot k).val - w.threshold) w.agent w.part none else s
      Dev.serveFrom k r held (s.waitServed w.id)

/-- Serve the waiters of knot `k`. -/
def Dev.serveKnot (s : Dev) (k : Nat) : Dev :=
  let (s, r) := Dev.serveFrom k (s.knot k).waiters false s
  s.setKnot k { s.knot k with waiters := r }

/-- Why a knot refuses any operation of `part` (R285, R288): the status, 0 for none. -/
def Dev.knotDenied (s : Dev) (k part amount : Nat) (a : Agent) (who : Option Cmd) : Dev × Nat :=
  if !knotOk k then (s, stBadKnot)
  else if s.knotPart k ≠ part then (s.knotMisuse Ev.SY_FOREIGN 5 k part amount a who, Ev.SY_FOREIGN.status)
  else (s, 0)

/-- ADD (R287, R288): the state and the status the issuer gets. -/
def Dev.knotAddOp (s : Dev) (k n part : Nat) (a : Agent) (who : Option Cmd) : Dev × Nat :=
  let (s, st) := s.knotDenied k part n a who
  if st ≠ 0 then (s, st)
  else if 2 ^ 32 - 1 < (s.knot k).val + n then (s.knotMisuse Ev.SY_OVERFLOW 2 k part n a who, Ev.SY_OVERFLOW.status)
  else ((s.knotPut k ((s.knot k).val + n) a part who).serveKnot k, 0)

/-- SUB (R287, R288). -/
def Dev.knotSubOp (s : Dev) (k n part : Nat) (a : Agent) (who : Option Cmd) : Dev × Nat :=
  let (s, st) := s.knotDenied k part n a who
  if st ≠ 0 then (s, st)
  else if (s.knot k).val < n then (s.knotMisuse Ev.SY_UNDERFLOW 1 k part n a who, Ev.SY_UNDERFLOW.status)
  else ((s.knotPut k ((s.knot k).val - n) a part who).serveKnot k, 0)

/-- SET (R287). -/
def Dev.knotSetOp (s : Dev) (k v part : Nat) (a : Agent) (who : Option Cmd) : Dev × Nat :=
  let (s, st) := s.knotDenied k part v a who
  if st ≠ 0 then (s, st) else ((s.knotPut k (v % 2 ^ 32) a part who).serveKnot k, 0)

/-- CONFIG (R287): EXTERNAL becomes `e`. -/
def Dev.knotConfigOp (s : Dev) (k : Nat) (e : Bool) (part : Nat) (a : Agent) (who : Option Cmd) : Dev × Nat :=
  let (s, st) := s.knotDenied k part (b2n e) a who
  if st ≠ 0 then (s, st) else (s.setKnot k { s.knot k with external := e }, 0)

/-- A local signal by code (R293): 0 ADD, 1 SUB, 2 SET, 3 CONFIG. -/
def Dev.knotOp (s : Dev) (op k amount part : Nat) (a : Agent) (who : Option Cmd) : Dev × Nat :=
  match op with
  | 0 => s.knotAddOp k amount part a who
  | 1 => s.knotSubOp k amount part a who
  | 2 => s.knotSetOp k amount part a who
  | _ => s.knotConfigOp k (amount % 2 == 1) part a who

/-! Waits (R281, R290, R292, R300) -/

/-- Register a wait in progress: its time runs from now, its limit is the command's or the partition's (R300). -/
def Dev.startWait (s : Dev) (obj : WaitObj) (a : Agent) (part limit : Nat) (c : Option Cmd) : Dev :=
  { s with
    waits := s.waits ++ [{ id := s.nextWait, obj := obj, agent := a, part := part, start := s.now
                           limit := if limit = 0 then s.rd Reg.SY_PART_TMO_DEFAULT part else limit, c := c }]
    nextWait := s.nextWait + 1 }

/-- Register a waiter on knot `k` and examine it against the value it finds (R287, R289). -/
def Dev.knotWaitOn (s : Dev) (k v : Nat) (consume : Bool) (a : Agent) (part limit : Nat) (c : Option Cmd) : Dev :=
  let id := s.nextWait
  let s := (s.startWait (.knot k) a part limit c).bump Reg.SY_WAITS 0 1
  let n := s.knot k
  if v = 0 then s.waitServed id
  else
    (s.setKnot k { n with waiters := n.waiters ++ [{ id := id, agent := a, part := part, threshold := v, consume := consume }] }).serveKnot k

/-! Failures (R300 to R302) -/

/-- Remove a wait from the waits and from the waiter list of its object (R301). -/
def Dev.dropWait (s : Dev) (w : Wait) : Dev :=
  let s := { s with waits := s.waits.filter (fun x => x.id ≠ w.id) }
  match w.obj with
  | .knot k => s.setKnot k { s.knot k with waiters := (s.knot k).waiters.filter (fun x => x.id ≠ w.id) }
  | .word a => ({ s.setFe a { s.fe a with waiters := (s.fe a).waiters.filter (fun x => x.id ≠ w.id) } with
                  feParked := s.feParked.filter (fun x => x.w.id ≠ w.id) } : Dev).unpark
  | .patch _ _ => s

end Sys2Proof.Machine
end

