-- ==== Sys2Proof/Machine/Patches.lean ====
section
/-! DEFINITION. Accumulator patches: opening, clearing, closing, retrieving, adding and splicing (spec/05, R110 to R115). -/
namespace Sys2Proof.Machine

/-! Where a patch lives: on its tile, or in the save area of a partition that does not hold the tile (R362, R363) -/

/-- A patch site. -/
inductive Site where
  | live (t : Nat)
  | saved (t p : Nat)
  deriving DecidableEq, Repr

/-- The tile of a site. -/
def Site.tile : Site → Nat
  | .live t => t
  | .saved t _ => t

/-- The saved record of partition `p` on tile `t`. -/
def Dev.savedOf (s : Dev) (t p : Nat) : Option Saved := (s.tile t).saved.find? (fun x => x.part = p)

/-- Where the patches of partition `p` on tile `t` live. -/
def Dev.siteOf (s : Dev) (t p : Nat) : Site :=
  if (s.tile t).shared ∧ s.holder t ≠ p ∧ (s.savedOf t p).isSome then .saved t p else .live t

/-- Descriptor `d` at a site. -/
def Dev.siteDesc (s : Dev) (x : Site) (d : Nat) : Nat × Nat :=
  match x with
  | .live t => s.desc t d
  | .saved t p => match s.savedOf t p with
    | some r => NMap.get (0, 0) r.desc d
    | none => (0, 0)

/-- Replace descriptor `d` at a site. -/
def Dev.setSiteDesc (s : Dev) (x : Site) (d : Nat) (v : Nat × Nat) : Dev :=
  match x with
  | .live t => s.setDesc t d v
  | .saved t p => s.modTile t (fun y => { y with saved := y.saved.map (fun r =>
      if r.part = p then { r with desc := NMap.set (0, 0) r.desc d v } else r) })

/-- Address of block 0 at a site (R119, R360). -/
def Dev.siteBase (s : Dev) : Site → Nat
  | .live t => acBase t
  | .saved t p => s.saveBase p t

/-- Address of the accumulator of row `r`, column `j` of a patch (R120). -/
def Dev.accAddr (s : Dev) (x : Site) (d : Nat × Nat) (r j : Nat) : Nat :=
  s.siteBase x + dBase d * 1024 + (r * 128 + j) * accWidth (dFmt d)

/-- An accumulator's value. -/
def Dev.accRead (s : Dev) (x : Site) (d : Nat × Nat) (r j : Nat) : Int :=
  toSigned (accBits (dFmt d)) (s.le (s.accAddr x d r j) (accWidth (dFmt d)))

/-- A saturating addition happened in descriptor `i`, for the command `who` if one of this module (R46, R128). -/
def Dev.noteSat (s : Dev) (who : Option Cmd) (x : Site) (i : Nat) : Dev :=
  let d := s.siteDesc x i
  let s := s.setSiteDesc x i (dSetBit d 11)
  match x with
  | .live t => (s.bump Reg.AC_SAT_EVENTS t 1).reportAs Ev.AC_SAT t (dOwner d) i 0 who
  | .saved _ _ => s

/-- Add `n` to one accumulator (R46, R47, R128). -/
def Dev.accAddTo (s : Dev) (who : Option Cmd) (x : Site) (i r j : Nat) (n : Int) : Dev :=
  let d := s.siteDesc x i
  let (v, sat) := accAdd (dFmt d) (s.accRead x d r j) n
  let s := s.putLe (s.accAddr x d r j) (accWidth (dFmt d)) (ofSigned (accBits (dFmt d)) v)
  if sat then s.noteSat who x i else s

/-! Open, clear, close (R123) -/

/-- Whether a descriptor is open and belongs to partition `p`. -/
def patchOf (d : Nat × Nat) (p : Nat) : Bool := dValid d && dOwner d == p

/-- Zero the accumulators of a patch. -/
def Dev.zeroPatch (s : Dev) (t : Nat) (d : Nat × Nat) : Dev := s.zero (acBase t + dBase d * 1024) (dBlocks d * 1024)

/-- PATCH_OPEN as the tile sequencer executes it: a refusal, or the descriptor set up and its accumulators zero. -/
def Dev.openPatch (s : Dev) (t : Nat) (c : Cmd) : Dev :=
  let i := bits c.w2 6 0
  let fmt := bits c.w2 8 7
  let rows := bits c.w2 14 9
  let base := bits c.w2 26 15
  if fmt = 3 then s.badFormat c
  else
    let d := mkDesc fmt rows base (s.cPart c)
    if dValid (s.desc t i) ∨ 4096 < base + dBlocks d ∨ s.meetsPatch t base (dBlocks d) 128 ∨ s.meetsPpb t base (dBlocks d) then
      s.failEv c Ev.AC_OVERLAP t i 0
    else ((s.setDesc t i d).zeroPatch t d).finishOk c

/-- PATCH_CLEAR. -/
def Dev.clearPatch (s : Dev) (t : Nat) (c : Cmd) : Dev :=
  let i := bits c.w2 6 0
  let d := s.desc t i
  if !patchOf d (s.cPart c) then s.failEv c Ev.AC_BAD_PATCH t i 0
  else ((s.setDesc t i (mkDesc (dFmt d) (dRows d - 1) (dBase d) (dOwner d))).zeroPatch t d).finishOk c

/-- PATCH_CLOSE. -/
def Dev.closePatch (s : Dev) (t : Nat) (c : Cmd) : Dev :=
  let i := bits c.w2 6 0
  let d := s.desc t i
  if !patchOf d (s.cPart c) then s.failEv c Ev.AC_BAD_PATCH t i 0
  else (s.setDesc t i (d.1 - 1, d.2)).finishOk c

/-! Steps of static entries (R110 to R113) -/

/-- The refusal of a static entry at its use (R43, R110, R115): the event and the block instance's page, if any. -/
def entryRefused (w : Word) (t : Nat) : Option (Event × Nat) :=
  if !afmtOk (seAfmt w) ∨ (seSym w ∧ seAfmt w = 1) then some (Ev.QM_BAD_FORMAT, 0)
  else if s16Reserved (seScale w) then some (Ev.QS_SCALE_RESERVED, t)
  else if 2 ^ seAfmt w - 1 < seZp w then some (Ev.QS_ZP_RANGE, t)
  else none

/-- The widened entry of a step (R112): the exact range of the old entry and the step's extremes. -/
def widened (w : Word) (lo hi : Int) : Scale :=
  let b := seAfmt w
  let sc : Int := (s16Val (seScale w) : Nat)
  scaleOf (seSym w) b (minOf (sc * (0 - (seZp w : Int))) [lo]) (maxOf (sc * ((2 ^ b - 1 : Nat) - (seZp w : Int))) [hi])

/-- A step has ended: its counts are copied, and where the clip fraction exceeds the threshold a widening falls due (R111,
R112). The answer says whether that widening needs the clamp of R104. -/
def Dev.endStep (s : Dev) (t entry : Nat) (w : Word) (clips elems : Nat) (lo hi : Int) : Dev × Bool :=
  let s := s.modTile t (fun x => { x with entryClips := NMap.set 0 x.entryClips entry clips
                                          entryElems := NMap.set 0 x.entryElems entry elems })
  if clipExceeds clips elems (s.rd Reg.QS_CTRL_CLIP_THR t) ∧ s.flag Reg.QS_CTRL_ADAPT_EN t ∧ seAdapt w then
    (s.modTile t (fun x => { x with widen := x.widen ++ [{ entry := entry, word := w, clips := clips, elems := elems, lo := lo, hi := hi }] }),
     (widened w lo hi).clamp)
  else (s, false)

/-- Whether a widening of `entry` is due: the next step on it waits (R114). -/
def Dev.widenDue (s : Dev) (t entry : Nat) : Bool := (s.tile t).widen.any (fun x => x.entry = entry)

/-! Retrieval (R115, R130) -/

/-- Bytes of one row of a retrieval, by OFMT: `b` is the A-code width. -/
def rowBytes (ofmt fmt b : Nat) : Nat :=
  match ofmt with
  | 0 => 128 * accWidth fmt
  | 1 => 512
  | 2 => 256
  | 3 => 256
  | 4 => 128
  | 5 => 128
  | _ => (128 * codeBits b + 7) / 8

/-- One row converted: its bytes, elements saturated on conversion, and elements clamped (R48 to R50). -/
def Dev.retrieveRow (s : Dev) (t : Nat) (d : Nat × Nat) (ofmt : Nat) (e : Word) (r : Nat) : List Byte × Nat × Nat :=
  if ofmt = 0 then (s.bytes (s.accAddr (.live t) d r 0) (128 * accWidth (dFmt d)), 0, 0)
  else
    let vs := (List.range 128).map (fun j => s.accRead (.live t) d r j)
    if ofmt = 6 then
      let qs := vs.map (requant (s16Val (seScale e)) (seZp e) (seAfmt e))
      (packCodes (seAfmt e) (qs.map (fun q => q.1)), 0, qs.countP (fun q => q.2))
    else
      let f := ofmtFloat ofmt
      let cs := vs.map (toFloat f)
      ((cs.map (fun c => leBytes (f.total / 8) c.1)).flatten, cs.countP (fun c => c.2), 0)

/-- What a retrieval has gathered: rows written, conversions saturated, elements clamped, extremes, and a refused write. -/
structure Retrieval where
  sat : Nat
  clips : Nat
  lo : Int
  hi : Int
  stop : Option (Refuse × Nat × Nat)
  rows : Nat
  deriving DecidableEq, Repr

/-- Write the rows of a retrieval in order, and for OFMT 6 each row's scale record, until a write is refused (R130). -/
def Dev.retrieveRows (s : Dev) (t p : Nat) (d : Nat × Nat) (c : Cmd) (e : Word) : List Nat → Retrieval → Dev × Retrieval
  | [], a => (s, a)
  | r :: rs, a =>
    let ofmt := bits c.w2 9 7
    let (bs, sat, cl) := s.retrieveRow t d ofmt e r
    let vs := if ofmt = 6 then (List.range 128).map (fun j => s.accRead (.live t) d r j * (2 ^ 93 : Nat)) else []
    let a := { a with sat := a.sat + sat, clips := a.clips + cl, lo := minOf a.lo vs, hi := maxOf a.hi vs, rows := a.rows + 1 }
    let addr := bits c.w3 47 0 + r * bits c.w4 31 0
    match s.storeFor p addr bs (some c) with
    | (s, ref) =>
      if refuseStatus ref ≠ 0 then (s, { a with stop := some (ref, addr, r) })
      else if ofmt = 6 then
        let ta := bits c.w5 47 0 + 4 * r
        match s.storeFor p ta (leBytes 4 (seScale e + seZp e * 2 ^ 16)) (some c) with
        | (s, ref) =>
          if refuseStatus ref ≠ 0 then (s, { a with stop := some (ref, ta, r) })
          else Dev.retrieveRows s t p d c e rs a
      else Dev.retrieveRows s t p d c e rs a

/-- A destination lies in a hole or in memory of another partition (R130, R277). -/
def Dev.destBad (s : Dev) (p a n : Nat) : Bool :=
  match s.probe p a n with
  | .hole => true
  | .foreign => true
  | _ => false

/-- PATCH_RETRIEVE on an IDLE patch, which is RETRIEVING while its rows are written: a write into its own blocks is refused
(R126, R130). A retrieval that a refused write stops has still ended its step (R115): DEDUCED, log entry 22. -/
def Dev.retrievePatch (s : Dev) (t : Nat) (c : Cmd) : Dev :=
  let i := bits c.w2 6 0
  let ofmt := bits c.w2 9 7
  let d := s.desc t i
  let p := s.cPart c
  let en := bits c.w2 15 10
  let e := NMap.get 0 (s.tile t).static en
  let tsv := bits c.w5 47 0
  if ofmt = 7 ∨ (ofmt = 6) ≠ (tsv ≠ 0) then s.badFormat c
  else if !patchOf d p then s.failEv c Ev.AC_BAD_PATCH t i 0
  else if dFmt d ≠ 0 ∧ ofmt ≠ 0 then s.badFormat c
  else match (if ofmt = 6 then entryRefused e t else none) with
  | some (ev, inst) => s.failEv c ev inst en 0
  | none =>
    let n := rowBytes ofmt (dFmt d) (seAfmt e)
    let rows := List.range (dRows d)
    let bad := rows.find? (fun r => s.destBad p (bits c.w3 47 0 + r * bits c.w4 31 0) n ||
      (ofmt == 6 && s.destBad p (tsv + 4 * r) 4))
    match bad with
    | some r =>
      let a := bits c.w3 47 0 + r * bits c.w4 31 0
      let x : Nat × Nat := if s.destBad p a n then (a, n) else (tsv + 4 * r, 4)
      (s.noteRefused p (s.probe p x.1 x.2) (some c)).failEv c Ev.DM_ADDR_FAULT 0 x.1 r
    | none =>
      let (s, a) := (s.setDesc t i (dSetState d 2)).retrieveRows t p d c e rows ⟨0, 0, 0, 0, none, 0⟩
      let s := s.setDesc t i (dSetState (s.desc t i) 0)
      let s := if a.sat = 0 then s else
        ((s.setDesc t i (dSetBit (s.desc t i) 12)).bump Reg.AC_CONV_SAT_EVENTS t a.sat).reportC c Ev.AC_CONV_SAT t i 0
      let (s, clamp) := if ofmt = 6 then
          (s.bump Reg.QS_CLIPS t a.clips).endStep t en e a.clips (a.rows * 128) a.lo a.hi
        else (s, false)
      match a.stop with
      | some (ref, addr, r) => s.failSt c (refuseStatus ref) addr r
      | none =>
        let s := s.bump Reg.AC_RETRIEVALS t 1
        if dIncomplete d then s.finish c Ev.AC_INCOMPLETE.status true 0 0 i 0
        else if dSat d then s.finish c Ev.AC_SAT.status true 0 0 i 0
        else if a.sat ≠ 0 then s.finish c Ev.AC_CONV_SAT.status true 0 0 i 0
        else if clamp then s.finish c Ev.QS_SCALE_CLAMP.status true 0 0 i 0
        else s.finishOk c

/-! Splices (R133 to R135) -/

/-- A region of a splice (R133, R326): rows r0 to r1 and columns c0 to c1. -/
structure Region4 where
  r0 : Nat
  r1 : Nat
  c0 : Nat
  c1 : Nat
  deriving DecidableEq, Repr

/-- The region in bits [36:11] of a REGION field. -/
def regionField (w : Nat) : Region4 := ⟨nbits w 16 11, nbits w 22 17, nbits w 29 23, nbits w 36 30⟩

/-- The accumulators of a region in row-major order. -/
def Region4.cells (g : Region4) : List (Nat × Nat) :=
  ((List.range (g.r1 + 1 - g.r0)).map (fun r => (List.range (g.c1 + 1 - g.c0)).map (fun j => (g.r0 + r, g.c0 + j)))).flatten

/-- The source tests of R134. -/
def Dev.spliceSrc (s : Dev) (x : Site) (i p : Nat) (g : Region4) (same : Bool) : Option Event :=
  let d := s.siteDesc x i
  if !patchOf d p ∨ same ∨ dRows d ≤ g.r1 then some Ev.AC_BAD_PATCH
  else if dFmt d ≠ 0 then some Ev.AC_SPLICE_FORMAT else none

/-- The destination tests of R134. -/
def Dev.spliceDst (s : Dev) (x : Site) (i p : Nat) (g : Region4) (narrow : Bool) : Option Event :=
  let d := s.siteDesc x i
  if !patchOf d p ∨ dRows d ≤ g.r1 ∨ g.r1 < g.r0 ∨ g.c1 < g.c0 then some Ev.AC_BAD_PATCH
  else if dFmt d ≠ 0 then some Ev.AC_SPLICE_FORMAT
  else if narrow ∧ ¬s.flag Reg.AC_CTRL_NARROW_ACCEPT x.tile then some Ev.AC_NARROW_REFUSED
  else none

/-- The lanes of a region of a patch. -/
def Dev.laneValues (s : Dev) (x : Site) (i : Nat) (g : Region4) : List Int :=
  let d := s.siteDesc x i
  g.cells.map (fun c => s.accRead x d c.1 c.2)

/-- Add lanes from lane number `k` of a region on, and carry flags (R133, R134): bits 11, 13 and 14 as `flags` says. -/
def Dev.addLanes (s : Dev) (who : Option Cmd) (x : Site) (i : Nat) (g : Region4) (k : Nat) (vs : List Int) (narrow : Bool) (flags : List Nat) : Dev :=
  let cs := (g.cells.drop k).zip vs
  let s := cs.foldl (fun s c => s.accAddTo who x i c.1.1 c.1.2 c.2) s
  let s := s.setSiteDesc x i ((if narrow then flags ++ [14] else flags).foldl dSetBit (s.siteDesc x i))
  match x with
  | .live t => s.bump (if narrow then Reg.AC_NARROW_LANES else Reg.AC_SPLICE_LANES) t cs.length
  | .saved _ _ => s

/-- Every lane of a splice has been added: SPLICES counts it once, saturating (R122, R133). -/
def Dev.countSplice (s : Dev) (x : Site) (i : Nat) : Dev :=
  let d := s.siteDesc x i
  s.setSiteDesc x i (d.1, dAdds d + min (dSplices d + 1) (2 ^ 32 - 1) * 2 ^ 32)

/-- The flags a source patch carries into a destination (R134). -/
def srcFlags (d : Nat × Nat) : List Nat := [11, 13, 14].filter (fun b => d.1.testBit b)

/-- SPLICE_LOCAL on an IDLE source patch (R133, R134, R263, R363). -/
def Dev.spliceLocalOp (s : Dev) (c : Cmd) : Dev :=
  let t := c.tile
  let p := s.cPart c
  let st := bits c.w2 3 0
  let si := bits c.w2 10 4
  let w := bits c.w3 36 0
  let di := nbits w 10 4
  let g := regionField w
  let xs := Site.live st
  let xd := s.siteOf t p
  if nbits w 3 0 ≠ t then s.badFormat c
  else match s.spliceSrc xs si p g (xs = xd ∧ si = di) with
  | some e => s.failEv c e st si 0
  | none => match s.spliceDst xd di p g false with
    | some e => s.failEv c e t di 0
    | none =>
      ((s.addLanes (some c) xd di g 0 (s.laneValues xs si g) false (srcFlags (s.siteDesc xs si))).countSplice xd di).finishOk c

/-! STATE (R124) -/

/-- Something begins adding into descriptor `i`: STATE becomes ACCUM. -/
def Dev.beginAdd (s : Dev) (t i : Nat) : Dev :=
  let s := s.modTile t (fun x => { x with adding := NMap.modify 0 x.adding i (fun n => n + 1) })
  s.setDesc t i (dSetState (s.desc t i) 1)

/-- Something has added its last addend into descriptor `i`: with nothing else adding, STATE returns to IDLE. -/
def Dev.endAdd (s : Dev) (t i : Nat) : Dev :=
  let s := s.modTile t (fun x => { x with adding := NMap.modify 0 x.adding i (fun n => n - 1) })
  if NMap.get 0 (s.tile t).adding i = 0 ∧ dState (s.desc t i) = 1 then s.setDesc t i (dSetState (s.desc t i) 0) else s

/-- Addends of partition `p` for patch `i` are withheld, for the command `who` if one of this module: INCOMPLETE (R129). -/
def Dev.markIncomplete (s : Dev) (t i p : Nat) (who : Option Cmd) : Dev :=
  if patchOf (s.desc t i) p then (s.setDesc t i (dSetBit (s.desc t i) 13)).reportAs Ev.AC_INCOMPLETE t p i 0 who else s

end Sys2Proof.Machine
end

