-- ==== Sys2Proof/Machine/TileRun.lean ====
section
/-! DEFINITION. The tile sequencer's parts: EPOCH operands, banks and their loads, commands in progress, and a tile going out
of service (R58 to R100, R261, R262). -/
namespace Sys2Proof

/-! Operands of an EPOCH (R261) -/

/-- ACT_ADDR. -/
def Cmd.actAddr (c : Cmd) : Nat := bits c.w2 47 0
/-- Rows of an EPOCH. -/
def Cmd.rows (c : Cmd) : Nat := bits c.w3 12 0 + 1
/-- ROW_STRIDE. -/
def Cmd.stride (c : Cmd) : Nat := bits c.w3 47 16
/-- PPB_BASE. -/
def Cmd.ppbBase (c : Cmd) : Nat := bits c.w3 59 48
/-- ROW_LEN. -/
def Cmd.rowLen (c : Cmd) : Nat := bits c.w4 31 0
/-- SLICE_OFF. -/
def Cmd.sliceOff (c : Cmd) : Nat := bits c.w4 63 32
/-- WT_ADDR. -/
def Cmd.wtAddr (c : Cmd) : Nat := bits c.w5 47 0
/-- WFMT. -/
def Cmd.wfmt (c : Cmd) : Nat := bits c.w5 49 48
/-- GSIZE. -/
def Cmd.gsize (c : Cmd) : Nat := bits c.w5 51 50
/-- LOAD. -/
def Cmd.load (c : Cmd) : Bool := bit c.w5 52
/-- RELEASE. -/
def Cmd.release (c : Cmd) : Bool := bit c.w5 53
/-- SCALE_ADDR. -/
def Cmd.scaleAddr (c : Cmd) : Nat := bits c.w6 47 0
/-- AFMT. -/
def Cmd.afmt (c : Cmd) : Nat := bits c.w6 52 48
/-- ACCFMT. -/
def Cmd.accfmt (c : Cmd) : Nat := bits c.w6 54 53
/-- INFMT. -/
def Cmd.infmt (c : Cmd) : Nat := bits c.w6 56 55
/-- PMODE: 0 DYNAMIC, 1 IMPORTED, 2 STATIC. -/
def Cmd.pmode (c : Cmd) : Nat := bits c.w6 58 57
/-- SYM. -/
def Cmd.sym (c : Cmd) : Bool := bit c.w6 59
/-- TSV_ADDR. -/
def Cmd.tsv (c : Cmd) : Nat := bits c.w7 47 0
/-- EXPORT. -/
def Cmd.exports (c : Cmd) : Bool := bit c.w7 48
/-- STATIC_IDX. -/
def Cmd.staticIdx (c : Cmd) : Nat := bits c.w7 54 49
/-- PATCH_FIRST. -/
def Cmd.patchFirst (c : Cmd) : Nat := bits c.w7 61 55
/-- Whether the weights run as a pass pair (R89). -/
def Cmd.isPair (c : Cmd) : Bool := c.wfmt == 2
/-- Activation slots of the command: planes of every row, both passes of a pair. -/
def Cmd.slots (c : Cmd) : Nat := c.rows * c.afmt * (if c.isPair then 2 else 1)
/-- The descriptor row `r` of the command goes to. -/
def Cmd.patchFor (c : Cmd) (r : Nat) : Nat := (c.patchFirst + r / 64) % 128
/-- Weight groups of a column (R59). -/
def groupCount (gsize : Nat) : Nat := 8 / 2 ^ gsize

end Sys2Proof

namespace Sys2Proof.Machine

/-- A field combination that R52, R100, R101, R103, R476 or the SLICE_OFF rule of R261 refuses. -/
def epochBad (c : Cmd) : Bool :=
  !afmtOk c.afmt || c.wfmt == 3 || c.gsize == 3 || c.accfmt == 3 || c.pmode == 3 ||
  (c.infmt == 3 && c.pmode != 1) || (c.pmode == 0 && c.sym && c.afmt == 1) ||
  (c.pmode == 1 && (c.tsv == 0 || c.exports)) || (c.pmode != 1 && (c.tsv != 0) != c.exports) ||
  c.sliceOff % (32 * 2 ^ c.gsize) != 0 || decide (c.rowLen < c.sliceOff + 256)

/-! Slots (R61, R62) -/

/-- Slots of tile `t` are spent: what the passing time counts later is reduced by them. -/
def Dev.useSlots (s : Dev) (t : Nat) (f : Field) (n : Nat) : Dev :=
  (s.bump f t n).modTile t (fun x => { x with debt := x.debt + n })

/-! Banks (R58, R82, R88) -/

/-- Whether bank B is the active bank of tile `t`. -/
def Dev.activeB (s : Dev) (t : Nat) : Bool := s.flag Reg.PT_STATUS_ACTIVE_BANK t

/-- A bank of a tile. -/
def Tile.bank (x : Tile) (b : Bool) : Bank := if b then x.bankB else x.bankA

/-- Replace a bank of a tile. -/
def Tile.setBank (x : Tile) (b : Bool) (v : Bank) : Tile := if b then { x with bankB := v } else { x with bankA := v }

/-- The active bank. -/
def Dev.active (s : Dev) (t : Nat) : Bank := (s.tile t).bank (s.activeB t)

/-- The idle bank. -/
def Dev.idle (s : Dev) (t : Nat) : Bank := (s.tile t).bank (!s.activeB t)

/-- Show IDLE_READY (R93). -/
def Dev.showIdle (s : Dev) (t : Nat) : Dev := s.wr Reg.PT_STATUS_IDLE_READY t (b2n (s.idle t).loaded)

/-- The bank, or level image, that holds load `key` (R75, R99). -/
def Tile.byKey (x : Tile) (key : Nat) : Option Bank :=
  ([x.bankA, x.bankB] ++ x.images).find? (fun b => b.loaded && b.key == key)

/-- Whether a bank may be made active for load `key`: it holds that load, under the map in force or a later one (R166). -/
def Tile.bankGood (x : Tile) (b : Bank) (key : Nat) : Bool := b.loaded && b.key == key && decide (x.map ≤ b.map)

/-- Images that a row or a command in progress still needs (R75, R99). -/
def Tile.prune (x : Tile) : Tile :=
  { x with images := x.images.filter (fun b => x.rows.any (fun r => r.key == b.key) || x.runs.any (fun r => 2 * r.target == b.key / 2 * 2)) }

/-! Replay and recomputation requests (R72, R75, R76) -/

/-- Whether a symbol is a replay of one segment. -/
def Sample.isReplay : Sample → Bool
  | .replay _ _ _ => true
  | .colsumReplay _ _ => true
  | _ => false

/-- Replay requests outstanding: those that wait for their block and those sent and not yet checked again (R72). -/
def Tile.outstanding (x : Tile) : Nat := x.replayQ.length + x.air.countP Sample.isReplay

/-- Flags and recomputations that waited take the places that are free: 16 replay requests outstanding (R72) and 8 queued
recomputations (R75). -/
def Tile.fillPlaces (x : Tile) : Tile :=
  { x with replayQ := x.replayQ ++ x.replayWait.take (16 - x.outstanding), replayWait := x.replayWait.drop (16 - x.outstanding)
           recompQ := x.recompQ ++ x.recompWait.take (8 - x.recompQ.length), recompWait := x.recompWait.drop (8 - x.recompQ.length) }

/-- A segment is to be sent again, in the order of the flags (R71, R72). -/
def Tile.askReplay (x : Tile) (q : Sample) : Tile := { x with replayWait := x.replayWait ++ [q] }.fillPlaces

/-- A late flag is to be recomputed (R75). -/
def Tile.askRecomp (x : Tile) (q : Sample) : Tile :=
  { x with lateFlags := x.lateFlags + 1, recompWait := x.recompWait ++ [q] }.fillPlaces

/-- Drop symbols that no longer count, wherever they wait. -/
def Tile.keepSamples (x : Tile) (keep : Sample → Bool) : Tile :=
  { x with replayQ := x.replayQ.filter keep, replayWait := x.replayWait.filter keep
           recompQ := x.recompQ.filter keep, recompWait := x.recompWait.filter keep }.fillPlaces

/-- Whether every plane of a row has been resolved. -/
def Row.resolved (r : Row) : Bool := (List.range (8 * r.width)).all (fun k => !(NMap.get [] r.dec k).isEmpty)

/-- Whether the buffer of held rows is full (R76): rows that are resolved and not yet added. It takes at least the 8,000 rows
that 1.0 µs at 8.0 GBd and A1 hold; how many more is free (log entry 63). -/
def Tile.heldFull (x : Tile) : Bool := decide (Config.heldExtra + 8000 ≤ x.rows.countP Row.resolved)

/-- Whether the island starts no new row because of R72 or R76. -/
def Tile.replayStop (x : Tile) : Bool := decide (16 ≤ x.outstanding) || x.heldFull

/-! Commands in progress -/

/-- The first command that still sends rows. -/
def Tile.current (x : Tile) : Option Run := x.runs.find? (fun r => !r.ended)

/-- Whether the pass of a run is the high one. -/
def Run.hiNow (r : Run) : Bool := if r.pass = 0 then r.firstHi else !r.firstHi

/-- The load that the pass in progress of a run needs. -/
def Run.key (r : Run) : Nat := 2 * r.target + b2n (r.c.isPair && r.hiNow)

/-- The load of a run's other pass. -/
def Run.otherKey (r : Run) : Nat := 2 * r.target + b2n (!r.hiNow)

/-- Change a run. -/
def Tile.modRun (x : Tile) (id : Nat) (f : Run → Run) : Tile :=
  { x with runs := x.runs.map (fun r => if r.id = id then f r else r) }

/-- The partition whose PF counters a run's work counts on. -/
def Dev.runPart (s : Dev) (r : Run) : Nat := s.cPart r.c

/-- The slots of a command exceed a time in nanoseconds at the tile's rate (R271, R361). -/
def Dev.longerThan (s : Dev) (t : Nat) (c : Cmd) (ns : Nat) : Bool := decide (ns * s.slotsPerNs t < c.slots)

/-- Rows of an EPOCH from `limit` on are withheld because of an exhaustion, a second disagreement or the tile's loss: their
patches are INCOMPLETE (R129, R433). -/
def Dev.withhold (s : Dev) (t : Nat) (c : Cmd) (limit : Nat) : Dev :=
  ((List.range ((c.rows + 63) / 64)).filter (fun k => decide (limit / 64 ≤ k) && decide (limit < c.rows))).foldl
    (fun s k => s.markIncomplete t ((c.patchFirst + k) % 128) (s.cPart c) (some c)) s

/-- Cut a run to `limit` rows with a status, none of a first pass: rows from there on that have not started are dropped, and
those in progress are finished and checked but add nothing (R79, R433). -/
def Dev.cutRun (s : Dev) (t id limit status : Nat) (incomplete : Bool) : Dev :=
  match (s.tile t).runs.find? (fun r => r.id = id) with
  | none => s
  | some r =>
    let limit := if r.c.isPair ∧ r.pass = 0 then 0 else min limit r.limit
    if r.limit ≤ limit then s.modTile t (fun x => x.modRun id (fun r => { r with ended := true }))
    else
      let gone := fun (x : Row) => decide (x.run = id) && decide (limit ≤ x.idx)
      let s := s.modTile t (fun x => { x with
        rows := x.rows.map (fun y => if gone y then { y with void := true } else y)
        packedRows := x.packedRows.filter (fun y => !gone y) })
      let s := s.modTile t (fun x => x.modRun id (fun r => { r with
        limit := limit, packed := min r.packed limit, started := min r.started limit, ended := true
        status := if r.status = 0 ∨ r.executed then status else r.status
        executed := if r.status = 0 ∨ r.executed then false else r.executed
        detail := if r.status = 0 ∨ r.executed then limit else r.detail }))
      if incomplete then s.withhold t r.c limit else s

/-- Whether a command has nothing left to do on the tile: every row it still adds has been added and none is in progress. -/
def Tile.runOver (x : Tile) (r : Run) : Bool := r.ended && decide (r.limit ≤ r.added) && !x.rows.any (fun y => decide (y.run = r.id))

/-- Complete the commands whose every row has been added, void rows being over: STATE returns, the pass-pair buffer is
released (R79, R124, R127, R267). -/
def Dev.settle (s : Dev) (t : Nat) : Dev :=
  let s := s.modTile t (fun x => { x with rows := x.rows.filter (fun y => !(y.void && y.resolved)) })
  let x := s.tile t
  let done := x.runs.filter x.runOver
  let s := done.foldl (fun s r =>
    let s := r.touched.foldl (fun s i => s.endAdd t i) s
    let s := if r.c.isPair then
        (s.modTile t (fun x => { x with ppbActive := false, ppbBlocks := 0 })).wr Reg.PT_STATUS_I8_PAIR t 0
      else s
    if r.status = 0 then s.finishOk r.c else s.finish r.c r.status r.executed 0 0 t (if r.executed then 0 else r.detail)) s
  s.modTile t (fun x => ({ x with runs := x.runs.filter (fun r => !x.runOver r) } : Tile).prune)

/-! Out of service (R79, R433, R434) -/

/-- Commands that wait on a patch leave its waits. -/
def Dev.dropPatchWaits (s : Dev) (cs : List Cmd) : Dev :=
  { s with waits := s.waits.filter (fun w => match w.obj, w.c with
      | .patch _ _, some c => !cs.contains c
      | _, _ => true) }

/-- A tile goes out of service, whatever the cause; the commands of partitions that do not hold a shared tile complete too
(R363). -/
def Dev.goOut (s : Dev) (t : Nat) : Dev :=
  if s.svc t = 4 then s
  else
    let s := s.wr Reg.PT_STATUS_SVC t 4
    let s := (s.report Ev.PT_OUT_OF_SERVICE t).wr Reg.PT_OOS_TIME_TIME t s.now
    let s := s.degrade .tile true
    let s := (s.tile t).runs.foldl (fun s r =>
      if r.ended then s else s.cutRun t r.id r.started Ev.PT_OUT_OF_SERVICE.status true) s
    let waiting := (s.tile t).waiting
    let s := (s.modTile t (fun x => { x with waiting := [] })).dropPatchWaits (waiting.map (fun w => w.2))
    let s := waiting.foldl (fun s w => s.finish w.2 Ev.PT_OUT_OF_SERVICE.status false 0 0 t 0) s
    let epochs := (s.tile t).held.filter (fun h => h.op = 0x10)
    let s := epochs.foldl (fun s h => s.withhold t h.c 0) s
    let s := s.modTile t (fun x => { x with held := x.held.filter (fun h => h.op ≠ 0x10), persist := 0,
                                              passed := false, epochActive := false })
    let s := epochs.foldl (fun s h => s.finish h.c Ev.PT_OUT_OF_SERVICE.status false 0 0 t 0) s
    (s.settle t).calTrigger t 3

/-! Loading a bank (R81, R87, R97, R180) -/

/-- What an image fetch gave: levels, scales and negative zeros, or the event, or the refused read with its address, that
refuses the command. -/
inductive Image where
  | ok (levels : List Int) (scales : List Nat) (negz : Nat)
  | event (e : Event) (inst d0 : Nat)
  | refused (r : Refuse) (d0 : Nat)
  deriving DecidableEq, Repr

/-- The address in DETAIL0 of a refused read: the data unit of an uncorrectable error, else where the read began. -/
def refuseAddr (r : Refuse) (a : Nat) : Nat := match r with | .uncorr u => u * 64 | _ => a

/-- Read the weight and scale images a command names (R36, R97), for one pass, under the map `m` the load is made with (R166,
R180). -/
def Dev.readImages (s : Dev) (t : Nat) (c : Cmd) (hi : Bool) (m : SpareMap) : Image :=
  let p := s.cPart c
  let wb := weightBytes c.wfmt
  let g := groupCount c.gsize
  let (w, rw) := s.loadFor p c.wtAddr (128 * wb)
  let (sc, rs) := s.loadFor p c.scaleAddr (256 * g)
  if refuseStatus rw ≠ 0 then .refused rw (refuseAddr rw c.wtAddr)
  else if refuseStatus rs ≠ 0 then .refused rs (refuseAddr rs c.scaleAddr)
  else
    let cols := (List.range 128).map (fun j => (w.drop (j * wb)).take wb)
    let code := fun (i : Nat) (col : List Byte) =>
      if c.wfmt = 2 then (col.getD i 0).toNat else nbits (col.getD (i / 2) 0).toNat (4 * (i % 2) + 3) (4 * (i % 2))
    let codes := (List.range 256).map (fun i => cols.map (code i))
    let badCol := (List.range 128).find? (fun j => m.colMasked j && (codes.any (fun r => r.getD j 0 != 0)))
    let badRow := (List.range 256).find? (fun i => m.rowMasked i && (codes.getD i []).any (fun v => v != 0))
    let scales := (List.range 1024).map (fun k =>
      if k % 8 < g then leNat ((sc.drop (2 * (k / 8 * g + k % 8))).take 2) else 0)
    match badCol, badRow with
    | some j, _ => .event Ev.PM_COL_MASKED 0 j
    | none, some i => .event Ev.PM_ROW_MASKED 0 i
    | none, none =>
      if scales.any s16Reserved then .event Ev.QS_SCALE_RESERVED t 0
      else .ok ((codes.map (fun r => withChecks (r.map (levelOf c.wfmt hi)))).flatten) scales
             (if c.wfmt = 0 then (codes.map (fun r => r.countP (fun v => v == 8))).sum else 0)

/-- A command's image, scale record or static entry was refused (R43, R108, R110, R180, R438): it completes and does not
start. -/
def Dev.failImage (s : Dev) (c : Cmd) (i : Image) : Dev :=
  match i with
  | .ok _ _ _ => s
  | .event e inst d0 => s.failEv c e inst d0 0
  | .refused r d0 => (s.noteRefused (s.cPart c) r (some c)).failSt c (refuseStatus r) d0 0

/-- What a command in progress needs was refused (R43, R180, R438): it is reported, and no further row of it is added. -/
def Dev.cutImage (s : Dev) (t : Nat) (r : Run) (i : Image) : Dev :=
  match i with
  | .ok _ _ _ => s
  | .event e inst d0 => (s.reportC r.c e inst d0 0).cutRun t r.id 0 e.status false
  | .refused q _ => (s.noteRefused (s.runPart r) q (some r.c)).cutRun t r.id 0 (refuseStatus q) false

/-- A load of bank `b` starts (R81): the bank holds nothing until it completes. Any calibration load is abandoned (R171). -/
def Dev.putLoad (s : Dev) (t : Nat) (l : Load) : Dev :=
  let x := s.tile t
  let old := x.bank l.bankB
  let active := l.bankB == s.activeB t
  let x := { x with loads := (x.loads.filter (fun (m : Load) => !(m.cal && !m.sent) && m.bankB != l.bankB)) ++ [l]
                    colsumSeen := x.colsumSeen.clearRange (8 * b2n l.bankB) (8 * b2n l.bankB + 8)
                    colsumTries := x.colsumTries.clearRange (8 * b2n l.bankB) (8 * b2n l.bankB + 8)
                    epochActive := x.epochActive && !active }
  ((s.setTile t (x.setBank l.bankB { old with loaded := false, verified := false }))).showIdle t

/-- Start the load of a command's pass into bank `b`: the state, and the refusal its images met. A load of the active bank ends in
no swap, so it keeps the map in force (R176, log entry 64). -/
def Dev.startLoad (s : Dev) (t : Nat) (b : Bool) (img : Cmd) (target : Nat) (hi : Bool) : Dev × Option Image :=
  let x := s.tile t
  let here := b == s.activeB t
  match s.readImages t img hi (if here then x.subs else x.nextSubs) with
  | .ok lv sc nz =>
    let p := s.cPart img
    let s := (s.noteRead p img.wtAddr (128 * weightBytes img.wfmt) (some img)).noteRead p img.scaleAddr (256 * groupCount img.gsize) (some img)
    let s := s.bump Reg.PT_NEGZERO t nz
    (s.putLoad t { bankB := b, key := 2 * target + b2n hi, levels := lv, scales := sc, wfmt := img.wfmt, gsize := img.gsize
                   map := if here then x.map else x.mapNext, visit := if here then (x.bank b).visit else s.loadVisit t b
                   tries := 0, sent := false, cal := false, owner := some img }, none)
  | i => (s, some i)

/-- Whether the DACs and a bank are free for a real load: no other real load runs, and the bank's last load has been
verified. -/
def Tile.canLoad (x : Tile) (b : Bool) : Bool := x.loads.all (fun m => m.cal || (m.sent && m.bankB != b))

/-- The outgoing or overwritten bank is kept as a level image while its rows are unresolved, and pending replays of its rows
become recomputations (R75, R85), which are no late flags (log entry 22). -/
def Dev.keepImage (s : Dev) (t : Nat) (old : Bank) : Dev :=
  s.modTile t (fun x =>
    let late := fun (y : Sample) => match y with
      | .replay tag _ _ => x.rows.any (fun r => decide (r.tag = tag) && r.key == old.key)
      | .colsumReplay b _ => x.loads.any (fun (m : Load) => m.bankB == b && m.key == old.key)
      | _ => false
    let ask := x.replayQ ++ x.replayWait
    (({ x with images := x.images.filter (fun b => b.key != old.key) ++ (if old.loaded then [old] else [])
               recompWait := x.recompWait ++ ask.filter late
               replayQ := [], replayWait := ask.filter (fun y => !late y)
               lateFlags := 0 } : Tile).fillPlaces).prune)

end Sys2Proof.Machine
end

