-- ==== Sys2Proof/Machine/Tile.lean ====
section
/-! DEFINITION. The tile sequencer: receiving tile commands, checking and starting EPOCHs, patch commands and their waits,
loading ahead, preemption (R123 to R127, R261 to R266, R271). -/
namespace Sys2Proof.Machine

/-! Checks when an EPOCH is about to start (R98, R108, R110, R125, R127) -/

/-- Rows of a command in its run of 64 number `k`. -/
def runRows (c : Cmd) (k : Nat) : Nat := min 64 (c.rows - 64 * k)

/-- The patch check of R125. -/
def Dev.patchCheck (s : Dev) (t : Nat) (c : Cmd) : Option (Event × Nat × Nat) :=
  ((List.range ((c.rows + 63) / 64)).map (fun k =>
    let i := (c.patchFirst + k) % 128
    let d := s.desc t i
    if !patchOf d (s.cPart c) ∨ dRows d < runRows c k then some (Ev.AC_BAD_PATCH, t, i)
    else if dFmt d ≠ c.accfmt then some (Ev.QM_BAD_FORMAT, 0, c.queue)
    else none)).findSome? id

/-- Blocks of a pass-pair buffer (R127). -/
def ppbBlocksOf (c : Cmd) : Nat := c.rows * (groupCount c.gsize / 2)

/-- A scale record a row imports is refused (R108). -/
def recordBad (b rec : Nat) : Option Event :=
  if s16Reserved (rec % 65536) then some Ev.QS_SCALE_RESERVED
  else if 2 ^ b - 1 < rec / 65536 then some Ev.QS_ZP_RANGE else none

/-- The check of a STATIC command's entry word (R110): the entry's own tests come before the comparison of AFMT (log entry
22). -/
def entryCheck (t : Nat) (c : Cmd) (e : Word) : Option Image :=
  match entryRefused e t with
  | some (ev, inst) => some (.event ev inst (if ev = Ev.QM_BAD_FORMAT then c.queue else c.staticIdx))
  | none => if seAfmt e ≠ c.afmt then some (.event Ev.QM_BAD_FORMAT 0 c.queue) else none

/-- The check of the scale record that row `r` of an IMPORTED command reads (R108, R438). -/
def Dev.recordCheck (s : Dev) (t : Nat) (c : Cmd) (r : Nat) : Option Image :=
  match s.loadFor (s.cPart c) (c.tsv + 4 * r) 4 with
  | (b, ref) =>
    if refuseStatus ref ≠ 0 then some (.refused ref (refuseAddr ref (c.tsv + 4 * r)))
    else (recordBad c.afmt (leNat b)).map (fun e => .event e t r)

/-- The scale check of R108 and R110: every record of an IMPORTED command is read before its first row (log entry 22). -/
def Dev.scaleCheck (s : Dev) (t : Nat) (c : Cmd) : Option Image :=
  if c.pmode = 2 then entryCheck t c (NMap.get 0 (s.tile t).static c.staticIdx)
  else if c.pmode = 1 then (List.range c.rows).findSome? (s.recordCheck t c)
  else none

/-- Everything an EPOCH that is about to start is checked for, and what refuses it. -/
def Dev.startCheck (s : Dev) (t : Nat) (c : Cmd) : Option Image :=
  match s.patchCheck t c with
  | some (e, inst, d0) => some (.event e inst d0)
  | none =>
    if c.isPair ∧ (4096 < c.ppbBase + ppbBlocksOf c ∨ s.meetsPatch t c.ppbBase (ppbBlocksOf c) 128) then
      some (.event Ev.AC_OVERLAP t c.ppbBase)
    else s.scaleCheck t c

/-! Starting -/

/-- A new bank epoch starts on the active bank (R83, R86). -/
def Dev.epochBegins (s : Dev) (t : Nat) : Dev :=
  if (s.tile t).epochActive then s
  else s.modTile t (fun x => { x with epochActive := true, epochStart := s.mono, bursts := 0, lateFlags := 0 })

/-- The pass of a pair that runs first: the one a bank already holds, the active bank before the idle one, else the high
pass (R89). -/
def Dev.pairFirstHi (s : Dev) (t target : Nat) : Bool :=
  let has := fun (b : Bank) (k : Nat) => b.loaded && b.key == k
  let lo := 2 * target
  if has (s.active t) (lo + 1) then true else if has (s.active t) lo then false
  else if has (s.idle t) (lo + 1) then true else if has (s.idle t) lo then false else true

/-- The load the head EPOCH needs first. -/
def Dev.heldKey (s : Dev) (t : Nat) (h : Held) : Nat :=
  2 * h.target + b2n (h.img.isPair && s.pairFirstHi t h.target)

/-- The scale records an IMPORTED command reads, row by row (R108). -/
def Dev.recordsOf (s : Dev) (c : Cmd) : List Nat :=
  if c.pmode = 1 then (List.range c.rows).map (fun r => leNat (s.loadFor (s.cPart c) (c.tsv + 4 * r) 4).1) else []

/-- The head EPOCH becomes a command in progress on the active bank. -/
def Dev.startRun (s : Dev) (t : Nat) (h : Held) : Dev :=
  let s := s.epochBegins t
  let r : Run := { id := h.seq, c := h.c, target := h.target, img := h.img, firstHi := (s.active t).key % 2 == 1, limit := h.c.rows
                   recs := s.recordsOf h.c }
  let s := if h.c.pmode = 1 then s.noteRead (s.cPart h.c) h.c.tsv (4 * h.c.rows) (some h.c) else s
  let s := s.modTile t (fun x => { x with held := x.held.erase h, runs := x.runs ++ [r] })
  if h.c.isPair then
    (s.modTile t (fun x => { x with ppbActive := true, ppbBase := h.c.ppbBase, ppbBlocks := ppbBlocksOf h.c })).wr Reg.PT_STATUS_I8_PAIR t 1
  else s

/-! Loading ahead (R81, R88, R262, R271) -/

/-- The hold whose images load number `seq` reads. -/
def Tile.holdOn (x : Tile) (seq : Nat) : Option Hold := x.holds.find? (fun k => k.seq == seq)

/-- The bank that a pass of a hold's images was last loaded into. -/
def Hold.bankOf (k : Hold) (hi : Bool) : Option Bool := if hi then k.hi else k.lo

/-- A load has completed: the hold it serves is on that bank (R261). -/
def Hold.moved (k : Hold) (l : Load) : Hold :=
  if l.cal ∨ k.seq ≠ l.key / 2 then k else if l.key % 2 = 1 then { k with hi := some l.bankB } else { k with lo := some l.bankB }

/-- A pass of a command that needs a bank: the images, the load number, whether it is the high pass, and for a LOAD = 0 EPOCH
whose queue's bank has been overwritten the bank it is loaded into again (R262). -/
structure Need where
  img : Cmd
  target : Nat
  hi : Bool
  h : Option Held
  into : Option Bool := none
  deriving DecidableEq, Repr

/-- The key of a need. -/
def Need.key (n : Need) : Nat := 2 * n.target + b2n n.hi

/-- What the tile needs in its banks, in order: the command in progress, then the held EPOCHs. A pass pair holds both
banks. -/
def Dev.needs (s : Dev) (t : Nat) : List Need :=
  let x := s.tile t
  let ofRun := fun (r : Run) =>
    let n : Need := ⟨r.img, r.target, r.c.isPair && r.hiNow, none, none⟩
    if r.c.isPair ∧ r.pass = 0 then [n, ⟨r.img, r.target, !r.hiNow, none, none⟩] else [n]
  let again := fun (h : Held) (hi : Bool) => if h.c.load then none else (x.holdOn h.target).bind (fun k => k.bankOf hi)
  let live := x.runs.filter (fun r => !r.ended)
  let runs := (live.map ofRun).flatten
  if live.any (fun r => r.c.isPair) then runs
  else
    let es := x.held.filter (fun h => h.op = 0x10)
    runs ++ (es.map (fun h =>
      if h.img.isPair then
        let f := s.pairFirstHi t h.target
        [⟨h.img, h.target, f, some h, again h f⟩, ⟨h.img, h.target, !f, none, none⟩]
      else [⟨h.img, h.target, false, some h, again h false⟩])).flatten

/-- Whether a need is that of the head of the sequencer. -/
def Tile.isHead (x : Tile) (n : Need) : Bool := n.h.isSome && n.h == x.held.head?

/-- Whether a need is that of an urgent EPOCH at the head of a preemptible tile (R271). -/
def Dev.urgentNeed (s : Dev) (t : Nat) (n : Need) : Bool :=
  (s.rd Reg.QM_TILE_PREEMPT_BITS 0).testBit t && (s.tile t).isHead n && n.h.any (fun h => s.qClass h.c.queue == 0)

/-- The bank that a need is loaded into: its own again (R262); for an urgent EPOCH the one whose epoch has just ended, unless the
load of the idle bank is incomplete (R271); else the idle bank (R262). -/
def Dev.needBank (s : Dev) (t : Nat) (n : Need) : Bool :=
  let x := s.tile t
  let act := s.activeB t
  match n.into with
  | some b => b
  | none =>
    let incomplete := x.loads.any (fun (m : Load) => !m.sent && !m.cal && m.bankB != act)
    if s.urgentNeed t n && x.epochActive && !incomplete then act else !act

/-- Whether a need may be loaded now: the active bank only for the head, and the active bank and an urgent load only at an epoch
boundary (R262, R271). -/
def Dev.needDue (s : Dev) (t : Nat) (n : Need) : Bool :=
  let x := s.tile t
  let boundary := x.runs.all (fun r => r.ended)
  if s.needBank t n == s.activeB t then boundary && x.isHead n else boundary || !s.urgentNeed t n

/-- Load what is needed next, where a bank and the DACs are free. The refusal of an image fails the command at the head; that
of a command further back shows when it comes there. -/
def Dev.loadAhead (s : Dev) (t : Nat) : Dev :=
  let x := s.tile t
  let act := s.active t
  let ns := (s.needs t).dropWhile (fun n => x.bankGood act n.key)
  match ns with
  | [] => s
  | n :: _ =>
    let b := s.needBank t n
    if x.bankGood (x.bank (!s.activeB t)) n.key || x.loads.any (fun m => m.key == n.key && !m.sent && !m.cal) || !s.needDue t n then s
    else
      let s := if s.urgentNeed t n then
          s.modTile t (fun x => { x with loads := x.loads.filter (fun (m : Load) => m.sent || m.cal) }) else s
      if !(s.tile t).canLoad b then s
      else
        let s := if b = s.activeB t then s.keepImage t (s.active t) else s
        match s.startLoad t b n.img n.target n.hi with
        | (s, none) => s
        | (s, some i) =>
          match n.h with
          | some h =>
            if x.held.head? = some h ∧ x.runs.all (fun r => r.ended) then
              (s.modTile t (fun x => { x with held := x.held.erase h })).failImage h.c i
            else s
          | none =>
            match x.current with
            | some r => (s.cutImage t r i).settle t
            | none => s

/-! The sequencer (R265) -/

/-- The patch a patch command works on: tile and descriptor. -/
def patchTarget (h : Held) : Nat × Nat :=
  if h.op = 0x15 then (bits h.c.w2 3 0, bits h.c.w2 10 4) else (h.c.tile, bits h.c.w2 6 0)

/-- Whether a command waits on a patch. -/
def Dev.waitsPatch (s : Dev) (c : Cmd) : Bool :=
  s.waits.any (fun w => decide (w.c = some c) && match w.obj with | .patch _ _ => true | _ => false)

/-- The wait limit of a queue's unit waits is its partition's default (R300). -/
def Dev.waitPatch (s : Dev) (c : Cmd) (o : Nat × Nat) : Dev :=
  s.startWait (.patch o.1 o.2) (.queue c.queue) (s.cPart c) 0 (some c)

/-- Execute a patch command. -/
def Dev.patchCommand (s : Dev) (t : Nat) (h : Held) : Dev :=
  if h.op = 0x11 then s.openPatch t h.c
  else if h.op = 0x12 then s.clearPatch t h.c
  else if h.op = 0x13 then s.retrievePatch t h.c
  else if h.op = 0x14 then s.closePatch t h.c
  else s.spliceLocalOp h.c

/-- The head of the sequencer, if it can do anything now: the state after it, or none. -/
def Dev.headStep (s : Dev) (t : Nat) : Option Dev :=
  let x := s.tile t
  match x.held with
  | [] => none
  | h :: _ =>
    let pop := s.modTile t (fun x => { x with held := x.held.erase h })
    if x.dead ∧ h.op ≠ 0x10 then some (pop.failSt h.c Ev.PT_OUT_OF_SERVICE.status t 0)
    else if s.seqStopped t then none
    else if h.op = 0x10 then
      if s.svc t = 4 then some (pop.finish h.c Ev.PT_OUT_OF_SERVICE.status false 0 0 t 0)
      else if !s.inService t || !s.flag Reg.PT_CTRL_TILE_EN t || x.runs.any (fun r => !r.ended) || (h.c.isPair && x.ppbActive) ||
          (h.c.pmode == 2 && s.widenDue t h.c.staticIdx) then none
      else match s.startCheck t h.c with
      | some i => some (pop.failImage h.c i)
      | none => if x.bankGood (s.active t) (s.heldKey t h) then some (s.startRun t h) else none
    else
      let o := patchTarget h
      if s.waitsPatch h.c then none
      else if h.op ≠ 0x11 ∧ dValid (s.desc o.1 o.2) ∧ dState (s.desc o.1 o.2) ≠ 0 then some (s.waitPatch h.c o)
      else if !x.runs.isEmpty || (h.op == 0x13 && bits h.c.w2 9 7 == 6 && s.widenDue t (bits h.c.w2 15 10)) then none
      else some (pop.patchCommand t h)

/-- Run the sequencer as far as it goes, then load ahead. -/
def Dev.advanceN : Nat → Dev → Nat → Dev
  | 0, s, t => s.loadAhead t
  | n + 1, s, t =>
    match s.headStep t with
    | some s => Dev.advanceN n s t
    | none =>
      let s' := s.loadAhead t
      if (s'.tile t).held.length < (s.tile t).held.length then Dev.advanceN n s' t else s'

/-- The sequencer of tile `t` goes on. -/
def Dev.advance (s : Dev) (t : Nat) : Dev := Dev.advanceN (2 * (s.tile t).held.length + 2) s t

/-- A tile goes out of service and its sequencer goes on with the commands that still execute (R79, R434). -/
def Dev.outOfService (s : Dev) (t : Nat) : Dev := (s.goOut t).advance t

/-- An urgent tile command takes a preemptible tile at an epoch boundary (R271): the urgent commands go ahead of the others,
in their order. -/
def Dev.preempt (s : Dev) (t : Nat) : Dev :=
  let x := s.tile t
  let urgent := fun (h : Held) => s.qClass h.c.queue == 0
  if !(s.rd Reg.QM_TILE_PREEMPT_BITS 0).testBit t || x.runs.any (fun r => !r.ended) then s
  else
    let order := x.held.filter urgent ++ x.held.filter (fun h => !urgent h)
    if order = x.held then s
    else
      let s := s.modTile t (fun x => { x with held := order })
      if (x.held.takeWhile (fun h => !urgent h)).any (fun h => h.op == 0x10) then s.bump Reg.QM_PREEMPTIONS 0 1 else s

/-! Receiving tile commands (R259, R261, R359, R361, R434) -/

/-- The hold of a queue on a tile. -/
def Tile.holdOf (x : Tile) (q : Nat) : Option Hold := x.holds.find? (fun h => h.queue = q)

/-- An EPOCH reaches its tile: what refuses it before it is held, as event, instance and detail or a status. -/
def Dev.epochRefused (s : Dev) (t : Nat) (c : Cmd) : Option Dev :=
  if epochBad c then some (s.badFormat c)
  else if c.pmode = 0 ∧ 65536 < c.rowLen then some (s.failEv c Ev.QS_ROW_TOO_LONG t t 0)
  else if c.pmode = 0 ∧ ¬s.flag Reg.QS_ROWBUF_EN t then some (s.failEv c Ev.QS_NO_ROWBUF t t 0)
  else if ((s.rd Reg.QM_TILE_PREEMPT_BITS 0).testBit t && s.longerThan t c (s.rd Reg.QM_EPOCH_CAP_CAP_NS 0)) ||
      ((s.tile t).shared && s.longerThan t c (s.rd Reg.PA_TILE_CFG_QUANTUM_US t * 1000)) then
    some (s.failEv c Ev.QM_EPOCH_LONG 0 c.queue 0)
  else if c.load then none
  else match (s.tile t).holdOf c.queue with
  | none => some (s.failEv c Ev.QM_NO_BANK 0 c.queue 0)
  | some h => if h.c.wfmt ≠ c.wfmt ∨ h.c.gsize ≠ c.gsize then some (s.badFormat c) else none

/-- A tile command of a partition that holds the tile reaches the tile sequencer. -/
def Dev.toTile (s : Dev) (op : Nat) (c : Cmd) : Dev :=
  let t := c.tile
  let s := s.modTile t (fun x => { x with lastCmd := s.mono })
  let n := (s.tile t).nextSeq
  if op = 0x10 then
    if s.svc t = 4 then s.finish c Ev.PT_OUT_OF_SERVICE.status false 0 0 t 0
    else match s.epochRefused t c with
    | some s => s
    | none =>
      let hold : Hold := if c.load then { queue := c.queue, seq := n, c := c } else ((s.tile t).holdOf c.queue).getD { queue := c.queue, seq := n, c := c }
      let h : Held := { op := op, c := c, seq := n, target := hold.seq, img := hold.c }
      let s := s.modTile t (fun x => { x with
        nextSeq := n + 1, released := false, held := x.held ++ [h]
        holds := x.holds.filter (fun k => k.queue ≠ c.queue) ++ [hold] })
      (s.preempt t).advance t
  else
    let h : Held := { op := op, c := c, seq := n, target := 0, img := c }
    let s := s.modTile t (fun x => { x with nextSeq := n + 1, held := x.held ++ [h] })
    (s.preempt t).advance t

/-- A tile command is dispatched (R359, R360): it reaches its tile, is denied, or is held until its partition holds the
tile. Of a tile out of service only the holder's commands reach it (R363). -/
def Dev.tileCommand (op : Nat) (c : Cmd) (s : Dev) : Dev :=
  match s.gate c.tile (s.cPart c) with
  | .deny st => s.failSt c st c.tile 0
  | .hold =>
    if s.svc c.tile = 4 then s.finish c Ev.PT_OUT_OF_SERVICE.status false 0 0 c.tile 0
    else s.modTile c.tile (fun x => { x with waiting := x.waiting ++ [(op, c)] })
  | .pass => s.toTile op c

/-- SPLICE_LOCAL into the save area: it waits for its source patch like any other (R123, R133, R363). -/
def Dev.savedSplice (s : Dev) (c : Cmd) : Dev :=
  let o : Nat × Nat := (bits c.w2 3 0, bits c.w2 10 4)
  if dValid (s.desc o.1 o.2) ∧ dState (s.desc o.1 o.2) ≠ 0 then
    (s.modTile c.tile (fun x => { x with waiting := x.waiting ++ [(0x15, c)] })).waitPatch c o
  else s.spliceLocalOp c

/-- A patch that a command waited on is IDLE: the command goes on, in its tile's sequencer or into the save area. -/
def Dev.patchFree (s : Dev) (c : Cmd) : Dev :=
  if (s.tile c.tile).waiting.contains (0x15, c) ∧ (s.savedOf c.tile (s.cPart c)).isSome then
    (s.modTile c.tile (fun x => { x with waiting := x.waiting.erase (0x15, c) })).savedSplice c
  else s.advance c.tile

/-- EPOCH (R261). -/
def doEpoch (c : Cmd) (s : Dev) : Dev := s.tileCommand 0x10 c
/-- PATCH_OPEN (R123). -/
def doPatchOpen (c : Cmd) (s : Dev) : Dev := s.tileCommand 0x11 c
/-- PATCH_CLEAR (R123). -/
def doPatchClear (c : Cmd) (s : Dev) : Dev := s.tileCommand 0x12 c
/-- PATCH_RETRIEVE (R123, R130). -/
def doPatchRetrieve (c : Cmd) (s : Dev) : Dev := s.tileCommand 0x13 c
/-- PATCH_CLOSE (R123). -/
def doPatchClose (c : Cmd) (s : Dev) : Dev := s.tileCommand 0x14 c
/-- SPLICE_LOCAL (R133). -/
def doSpliceLocal (c : Cmd) (s : Dev) : Dev :=
  -- into a patch of a partition that does not hold the tile, the splice is applied in its save area (R363)
  match s.gate c.tile (s.cPart c) with
  | .hold => if (s.savedOf c.tile (s.cPart c)).isSome then s.savedSplice c else s.tileCommand 0x15 c
  | _ => s.tileCommand 0x15 c

/-- PATCH_STATE_IDLE (R123, R124): commands that waited on the patch proceed. -/
def doPatchStateIdle (t d : Nat) (s : Dev) : Dev :=
  if dState (s.desc t d) ≠ 0 then s
  else
    let ws := s.waits.filter (fun w => decide (w.obj = .patch t d))
    let s := { s with waits := s.waits.filter (fun w => decide (w.obj ≠ .patch t d)) }
    ws.foldl (fun s w => match w.c with | some c => s.patchFree c | none => s) s

/-- BANK_IDLE_RELEASE (R266). -/
def doBankIdleRelease (t : Nat) (s : Dev) : Dev :=
  let x := s.tile t
  if x.released || !x.epochActive || !x.runs.isEmpty || !x.held.isEmpty || decide (x.lastEpochEnd < x.lastCmd) then s
  else (s.reachLocal (x.lastEpochEnd + s.rd Reg.QM_CTRL_IDLE_REL 0 * 16000)).modTile t (fun x => { x with released := true })

/-- EPOCH. -/
def execEpoch (c : Cmd) (s : State) : Host.Outcome State Fault Refusal := s.on (doEpoch c)
/-- PATCH_OPEN. -/
def execPatchOpen (c : Cmd) (s : State) : Host.Outcome State Fault Refusal := s.on (doPatchOpen c)
/-- PATCH_CLEAR. -/
def execPatchClear (c : Cmd) (s : State) : Host.Outcome State Fault Refusal := s.on (doPatchClear c)
/-- PATCH_RETRIEVE. -/
def execPatchRetrieve (c : Cmd) (s : State) : Host.Outcome State Fault Refusal := s.on (doPatchRetrieve c)
/-- PATCH_CLOSE. -/
def execPatchClose (c : Cmd) (s : State) : Host.Outcome State Fault Refusal := s.on (doPatchClose c)
/-- SPLICE_LOCAL. -/
def execSpliceLocal (c : Cmd) (s : State) : Host.Outcome State Fault Refusal := s.on (doSpliceLocal c)
/-- BANK_IDLE_RELEASE. -/
def execBankIdleRelease (t : Nat) (s : State) : Host.Outcome State Fault Refusal := s.on (doBankIdleRelease t)

end Sys2Proof.Machine
end

