-- ==== Sys2Proof/Machine/CalEnd.lean ====
section
/-! DEFINITION. Calibration runs at bank swaps: visits, staging, commits, results, and substitution requests (R166, R172 to
R182). -/
namespace Sys2Proof.Machine

/-- What the free measurement number `n` says, bit by bit: which of 148 columns, of 272 rows and, for each rate, of 1,168 slices
fail to qualify. -/
def findings (n : Nat) : Findings :=
  { cols := bitsSet 148 n, rows := bitsSet 272 (n / 2 ^ 148)
    slices := (List.range 3).map (fun r => bitsSet 1168 (n / 2 ^ (420 + 1168 * r))) }

/-- The findings on what a run has visited: slices below `slices`, columns below `cols`, and rows once a column visit has ended
(R172, R173). -/
def Findings.upTo (f : Findings) (slices cols : Nat) : Findings :=
  { cols := f.cols.filter (fun c => decide (c < cols)), rows := if cols = 0 then [] else f.rows
    slices := f.slices.map (fun l => l.filter (fun k => decide (k % 146 < slices))) }

/-! The map in force (R166, R176, R183) -/

/-- The fields that show the map in force: its masks, and the spares that serve logical elements. -/
def Dev.showMap (s : Dev) (t : Nat) : Dev :=
  let m := s.subs t
  let r := s.rateOf t
  let n := fun (l : List Bool) => l.countP id
  let rows := (List.range 256).map (fun k => decide (32 ≤ m.rowPhys (k / 32) (k % 32)) && !m.rowMasked k)
  let slices := (List.range 1152).map (fun k => decide (144 ≤ m.slicePhys r (k / 144) (k % 144)) && !m.colMasked (k % 144))
  let cols := (List.range 144).map (fun j => decide (144 ≤ m.colPhys j) && !m.colMasked j)
  let s := ((s.wr Reg.PM_CAL_TILE_COL_SUBS t (n cols)).wr Reg.PM_CAL_TILE_ROW_SUBS t (n rows)).wr Reg.PM_CAL_TILE_SLICE_SUBS t (n slices)
  let s := s.wr Reg.PM_CAL_TILE_MASKED_COLS t (n ((List.range 128).map m.colMasked))
  let s := s.wr Reg.PM_CAL_TILE_MASKED_ROWS t (n ((List.range 256).map m.rowMasked))
  let s := (s.wr Reg.PM_CAL_COLMASK_LO t m.maskCols).wr Reg.PM_CAL_COLMASK_HI t (m.maskCols / 2 ^ 64)
  (List.range 8).foldl (fun s g => s.wr Reg.PM_CAL_ROWMASK (t + 16 * g) (NMap.get 0 m.maskRows g)) s

/-- A map comes into force: what changed is counted and reported (R179, R180, R183, R184), and unresolved following errors end
whose choice has committed or whose ring has left use (R179). -/
def Dev.putMap (s : Dev) (t num : Nat) (m : SpareMap) : Dev :=
  let old := s.subs t
  let s := s.modTile t (fun x => { x with
    subs := m, mapDirty := x.mapDirty || decide (old.perms < m.perms)
    reqs := x.reqs.filter (fun q => decide (num < q.map) && m.ringInUse q.row q.col) })
  let s := (s.bump Reg.PM_CAL_PERM t (m.perms - old.perms)).bump Reg.PM_CAL_COMMITS t (m.perms + m.nQual - (old.perms + old.nQual))
  let s := if old.nSub < m.nSub then s.report Ev.PM_SPARE_SUB 0 else s
  let s := if old.nCol < m.nCol then s.report Ev.PM_COL_MASKED 0 else s
  let s := if old.nRow < m.nRow then s.report Ev.PM_ROW_MASKED 0 else s
  s.showMap t

/-- A map change is staged (R176): loads that begin from now on use the new map. -/
def Dev.stage (s : Dev) (t : Nat) (m : SpareMap) (r : Option RunResult) : Dev :=
  s.modTile t (fun x => { x with mapNext := x.mapNext + 1, stages := x.stages ++ [{ num := x.mapNext + 1, map := m, result := r }] })

/-- A visit's shadow or a visit's end is staged: the map's permanent part stays as it is. -/
def Dev.stageVisit (s : Dev) (t : Nat) : Dev := s.modTile t (fun x => { x with mapNext := x.mapNext + 1 })

/-- A mark on an element that serves nothing: it takes no part in any map, so it holds at once (R179). -/
def Dev.markSpare (s : Dev) (t : Nat) (f : SpareMap → SpareMap) : Dev :=
  let s := s.modTile t (fun x => { x with stages := x.stages.map (fun g => { g with map := f g.map }) })
  s.putMap t (s.tile t).map (f (s.subs t))

/-! Requests from faults (R155, R179, R180, R212) -/

/-- A following error or an acquisition timeout of a ring: the first choice available is staged, and the error is unresolved until
it has committed. A ring of a spare is marked unusable at once. -/
def Dev.requestSub (s : Dev) (t bank row col : Nat) : Dev :=
  if !(s.subs t).ringInUse row col then s.markSpare t (fun m => m.resolveRing row col)
  else
    let m := (s.tile t).nextSubs
    let s := if m.ringInUse row col then s.stage t (m.resolveRing row col) none else s
    s.modTile t (fun x => { x with reqs := x.reqs ++ [{ bank := bank, row := row, col := col, map := x.mapNext }] })

/-- The LINE_LOST bit of a quadrant (R183). -/
def lineLostBit (q : Nat) : Field :=
  if q = 0 then Reg.PM_CAL_QUAD_LINE_LOST0 else if q = 1 then Reg.PM_CAL_QUAD_LINE_LOST1
  else if q = 2 then Reg.PM_CAL_QUAD_LINE_LOST2 else Reg.PM_CAL_QUAD_LINE_LOST3

/-- Whether every segment of a tile that uses line `l` has a spare row for it. -/
def SpareMap.spansLine (m : SpareMap) (l : Nat) : Bool :=
  (List.range 8).all (fun g => (m.rowUser g l).isNone || !(m.freeRows g).isEmpty)

/-- What a lost line makes of a tile's map: a spare row in every segment, or, beyond spares, the mask of its row in every
segment. A row that serves nothing is marked unusable. -/
def SpareMap.loseLine (m : SpareMap) (l : Nat) (beyond : Bool) : SpareMap :=
  (List.range 8).foldl (fun (m : SpareMap) g =>
    if beyond then
      match m.rowUser g l with
      | some i => (m.markRow (34 * g + l)).maskRow (32 * g + i)
      | none => m.markRow (34 * g + l)
    else m.resolveRow (34 * g + l)) m

/-- A comb line of quadrant `q` is lost (R179, R180, R212): a row fault on every segment bus of its four tiles, staged in each. -/
def Dev.requestLine (s : Dev) (q l : Nat) : Dev :=
  let tiles := (List.range 4).map (fun i => 4 * q + i)
  let beyond := tiles.any (fun t => !(s.tile t).nextSubs.spansLine l)
  let s := if beyond then (s.report Ev.PM_LINE_LOST 0).wr (lineLostBit q) 0 1 else s
  tiles.foldl (fun s t => s.stage t ((s.tile t).nextSubs.loseLine l beyond) none) s

/-! The end of a run (R176 to R178) -/

/-- The tile returns to IN_SERVICE when an urgent run ends, and the persistence count starts (R78, R474, R475). -/
def Dev.urgentEnds (s : Dev) (t : Nat) : Dev :=
  let s := if s.svc t = 3 then s.wr Reg.PT_STATUS_SVC t 2
    else if s.svc t = 5 then s.modTile t (fun x => { x with svcBack := if x.svcBack = 3 then 2 else x.svcBack }) else s
  s.modTile t (fun x => { x with persist := if x.persist = 0 then 4 else x.persist })

/-- What follows the pass of a run (R168, R177, R478). -/
def Dev.calPass (s : Dev) (t : Nat) : Dev :=
  let k := (s.tile t).cal
  let trig := s.rd Reg.PM_CAL_TILE_TRIGGER t
  let s := ((s.bump Reg.PM_CAL_PASSES t 1).wr Reg.PM_CAL_PASS_TIME t s.now).wr Reg.PM_CAL_TILE_CONSEC_FAILS t 0
  let s := (s.wr Reg.PM_CAL_TILE_FAIL_REASON t 0).wrS Reg.PM_CAL_RUN_TEMP t (est (k.temp + s.rdS Reg.HM_TEMP_QTEMP t) 2)
  let s := (s.modTile t (fun x => { x with passed := true })).modRings t (fun x => { x with pointDue := true })
  if trig = 0 ∧ s.svc t = 1 then s.enterService t else s

/-- What follows the failure of a run (R177). -/
def Dev.calFail (s : Dev) (t reason : Nat) : Dev :=
  let trig := s.rd Reg.PM_CAL_TILE_TRIGGER t
  let n := min (s.rd Reg.PM_CAL_TILE_CONSEC_FAILS t + 1) 3
  let s := ((s.bump Reg.PM_CAL_FAILS t 1).wr Reg.PM_CAL_TILE_CONSEC_FAILS t n).wr Reg.PM_CAL_TILE_FAIL_REASON t reason
  let s := (s.report Ev.PM_CAL_FAIL 0).modTile t (fun x => { x with passed := false })
  if n = 3 ∨ reason = 4 then
    if s.svc t = 4 then s.calStart t trig else (s.goOut t)
  else s.calStart t trig

/-- A run ends with the result staged for it (R176 to R178): the PASS bits, then a pass or a fail. -/
def Dev.calEnd (s : Dev) (t : Nat) (r : RunResult) : Dev :=
  let trig := s.rd Reg.PM_CAL_TILE_TRIGGER t
  let on := fun (k : Nat) => b2n (r.rates.getD k false && (s.rateOf t != k || r.reason == 0))
  let s := ((s.wr Reg.PM_CAL_TILE_PASS_80 t (on 0)).wr Reg.PM_CAL_TILE_PASS_60 t (on 1)).wr Reg.PM_CAL_TILE_PASS_40 t (on 2)
  let s := (s.wr Reg.PM_CAL_TILE_RUNNING t 0).wr Reg.PM_CAL_END_TIME t s.now
  let s := if trig = 2 then s.urgentEnds t else s
  let s := if r.reason = 0 then s.calPass t else s.calFail t r.reason
  s.updCal t

/-- The results of a run are staged when its last visit ends (R176, R177). -/
def Dev.stageResults (s : Dev) (t : Nat) : Dev :=
  let f := findings (Config.measure s.seed)
  let (m, check, rates) := (s.tile t).nextSubs.runResult (s.rateOf t) f (Config.pick s.seed)
  let reason := if !s.ringsLocked t then 1 else if check then 4 else 0
  (s.fresh.stage t m (some { reason := reason, rates := rates })).modTile t (fun x => { x with cal := { x.cal with staged := true } })

/-- A run fails before its last visit (R169): what it has found is staged, and it ends at once. Results that wait for their commit
keep their map and end nothing any more. -/
def Dev.calAbort (s : Dev) (t reason : Nat) : Dev :=
  let k := (s.tile t).cal
  if k.staged then
    let r := ((s.tile t).stages.findSome? (fun g => g.result)).getD { reason := 0, rates := [] }
    let s := s.modTile t (fun x => { x with stages := x.stages.map (fun g => { g with result := none }) })
    s.calEnd t { r with reason := if r.reason = 0 then reason else r.reason }
  else
    let f := (findings (Config.measure s.seed)).upTo k.slices (max k.colsA k.colsB)
    let (m, _, rates) := (s.tile t).nextSubs.runResult (s.rateOf t) f (Config.pick s.seed)
    (s.fresh.stage t m none).calEnd t { reason := reason, rates := rates }

/-! Bank swaps (R168, R172, R173, R176) -/

/-- A staged change commits, and with it the run whose results it holds. -/
def Dev.commitStage (s : Dev) (t : Nat) (g : Stage) : Dev :=
  let s := s.putMap t g.num g.map
  match g.result with
  | some r => s.calEnd t r
  | none => s

/-- The staged changes that the incoming bank was loaded under come into force, in the order staged. -/
def Dev.commitStages (s : Dev) (t inMap : Nat) : Dev :=
  let due := (s.tile t).stages.filter (fun g => decide (g.num ≤ inMap))
  let s := s.modTile t (fun x => { x with map := max x.map inMap, stages := x.stages.filter (fun g => !decide (g.num ≤ inMap)) })
  due.foldl (fun s g => s.commitStage t g) s

/-- Every segment that needs symbols has them. -/
def probesDone (need : Nat → Bool) (l : List Nat) (n : Nat) : Bool := (List.range 8).all (fun g => !need g || decide (n ≤ l.getD g 0))

/-- A map change by a visit comes into force: `n` of them are counted (R183). -/
def Dev.visitCommits (s : Dev) (t n : Nat) : Dev := s.bump Reg.PM_CAL_COMMITS t n

/-- The segments in which a slice is visited in use, so that the shadow takes its work (R172). -/
def Dev.shadowed (s : Dev) (t k : Nat) : Nat :=
  let m := s.subs t
  (List.range 8).countP (fun g => m.visitsSlice (s.rateOf t) g k && (m.sliceUser (s.rateOf t) g k).isSome)

/-- A slice visit begins at slice `k`, or where none is left the column visits are staged (R172, R173). -/
def Dev.sliceVisit (s : Dev) (t k : Nat) : Dev :=
  let k' := (s.subs t).nextSlice (s.rateOf t) k
  let s := s.modTile t (fun x => { x with cal := { x.cal with begun := true, slices := k', probes := [] } })
  if k' < 146 then s.visitCommits t (b2n (decide (0 < s.shadowed t k')))
  else (s.modTile t (fun x => { x with cal := { x.cal with colsA := x.subs.nextCol 0, colsB := x.subs.nextCol 0 } })).stageVisit t

/-- A visit ends: it is counted. -/
def Dev.visitDone (s : Dev) (t : Nat) : Dev := s.wr Reg.PM_CAL_TILE_VISITS_DONE t (s.rd Reg.PM_CAL_TILE_VISITS_DONE t + 1)

/-- Whether a column's visit in use makes a map change. -/
def Dev.colChange (s : Dev) (t c : Nat) : Nat := b2n ((s.subs t).colUser c).isSome

/-- The visit of the bank that was active until a swap ends, where every segment has its symbols (R173). -/
def Dev.columnEnds (s : Dev) (t : Nat) (b : Bool) : Dev :=
  let k := (s.tile t).cal
  let c := if b then k.colsB else k.colsA
  if !(if b then k.onB else k.onA) || !probesDone (fun _ => true) (if b then k.probesB else k.probesA) 26624 then s
  else
    let next := (s.subs t).nextCol (c + 1)
    let k := if b then { k with colsB := next, onB := false, probesB := [] } else { k with colsA := next, onA := false, probesA := [] }
    (((s.modTile t (fun x => { x with cal := k })).visitDone t).visitCommits t (s.colChange t c)).stageVisit t

/-- The next visit of the bank that becomes active begins, where the bank was loaded under its map (R173). -/
def Dev.columnBegins (s : Dev) (t : Nat) (b : Bool) : Dev :=
  let k := (s.tile t).cal
  let c := if b then k.colsB else k.colsA
  if (if b then k.onB else k.onA) || decide (148 ≤ c) || decide (((s.tile t).bank b).visit ≠ some c) then s
  else
    let k := if b then { k with onB := true, probesB := [] } else { k with onA := true, probesA := [] }
    (s.modTile t (fun x => { x with cal := k })).visitCommits t (s.colChange t c)

/-- The visits of a run in progress at a swap that makes bank B, or bank A, active. -/
def Dev.visits (s : Dev) (t : Nat) (inB : Bool) : Dev :=
  let k := (s.tile t).cal
  if !k.begun then s.sliceVisit t 0
  else if k.slices < 146 then
    if !probesDone (fun g => (s.subs t).visitsSlice (s.rateOf t) g k.slices) k.probes 1984 then s
    else ((s.visitDone t).visitCommits t (b2n (decide (0 < s.shadowed t k.slices)))).sliceVisit t (k.slices + 1)
  else
    let s := s.columnEnds t !inB
    let k := (s.tile t).cal
    if k.colsA = 148 ∧ k.colsB = 148 then s.stageResults t else s.columnBegins t inB

/-- Calibration at a bank swap or calibration swap (R168, R172, R173, R176): `inB` says bank B becomes active. -/
def Dev.calAtSwap (s : Dev) (t : Nat) (inB : Bool) : Dev :=
  let s := s.commitStages t ((s.tile t).bank inB).map
  if !s.flag Reg.PM_CAL_TILE_RUNNING t || (s.tile t).cal.staged then s else s.visits t inB

/-- The slice map of a new symbol rate comes into force at step 4 of the change, staged choices and all (R176). -/
def Dev.rateSlices (s : Dev) (t rate : Nat) : Dev :=
  let lo := sliceKey rate 0 0
  let hi := sliceKey (rate + 1) 0 0
  let put := fun (x : Tile) => (NMap.range x.nextSubs.slices lo hi).foldl (fun m e => NMap.set 0 m e.1 e.2) (NMap.clearRange x.subs.slices lo hi)
  (s.modTile t (fun x => { x with subs := { x.subs with slices := put x } })).showMap t

/-! REFIN (R169) -/

/-- REFIN leaves its tolerance: every run ends at once with a fail. -/
def Dev.calRefinLost (s : Dev) : Dev :=
  (List.range 16).foldl (fun s t => (if s.flag Reg.PM_CAL_TILE_RUNNING t then s.calAbort t 2 else s).updCal t) s

/-- REFIN is back: runs that waited for it start (R169, R177). -/
def Dev.calRefinBack (s : Dev) : Dev :=
  (List.range 16).foldl (fun s t =>
    (if (s.tile t).cal.waitRefin then
      (s.modTile t (fun x => { x with cal := { x.cal with waitRefin := false } })).calStart t (s.rd Reg.PM_CAL_TILE_TRIGGER t)
    else s).updCal t) s

end Sys2Proof.Machine
end

