-- ==== Sys2Proof/Machine/Rings.lean ====
section
/-! DEFINITION. Ring lock loops, dither, heater modulators, limiters and supervision (spec/06). -/
namespace Sys2Proof.Machine

/-- Ring `r` of tile `t`. -/
def Dev.ring (s : Dev) (t r : Nat) : Ring := NMap.get {} (s.ringTile t).rings r

/-- Change ring `r` of tile `t`. -/
def Dev.modRing (s : Dev) (t r : Nat) (f : Ring → Ring) : Dev :=
  s.modRings t (fun x => { x with rings := NMap.modify {} x.rings r f })

/-- Heater group `g` of a tile. -/
def RingTile.group (x : RingTile) (g : Nat) : HeatGroup := NMap.get {} x.groups g

/-- Change every listed ring of a tile. -/
def RingTile.mapRings (x : RingTile) (f : Nat → Ring → Ring) : RingTile :=
  { x with rings := (x.rings.map (fun e => (e.1, f e.1 e.2))).filter (fun e => decide (e.2 ≠ {})) }

/-- LK_STATUS shows the states of the rings, and FROZEN that FREEZE or DITHER_EN holds them (R161). A tile that reaches
ALL_LOCKED during WARMUP starts its START run (R168). -/
def Dev.showLocks (s : Dev) (t : Nat) : Dev :=
  let was := s.flag Reg.LK_STATUS_ALL_LOCKED t
  let n := fun k => ((s.ringTile t).rings.filter (fun e => e.2.state == k)).length
  let l := n 2
  let s := ((s.wr Reg.LK_STATUS_N_LOCKED t l).wr Reg.LK_STATUS_N_ACQUIRE t (n 1)).wr Reg.LK_STATUS_N_UNLOCKED t (n 3)
  let s := s.wr Reg.LK_STATUS_ALL_LOCKED t (b2n (l == groupsPerTile * 16))
  let s := s.wr Reg.LK_STATUS_FROZEN t (b2n (s.flag Reg.LK_CTRL_FREEZE t || !s.flag Reg.HM_CTRL_DITHER_EN t))
  (if !was && s.flag Reg.LK_STATUS_ALL_LOCKED t && s.bootState == 5 then s.calTrigger t 0 else s).updCal t

/-- Supervision spans of a tile begin afresh (R156, R204). -/
def Dev.freshSpans (s : Dev) (t : Nat) : Dev :=
  s.modRings t (fun x => x.mapRings (fun _ r => { r with good := 0, beyond := 0, heldRun := 0, acq := 0 }))

/-! Dither (R145, R146) -/

/-- The frequency word the calibration store gives a group, between 20 kHz and 200 kHz. -/
def ditherWord (t g : Nat) : Nat := 85899346 + Config.ditherF t g % (858993459 - 85899346 + 1)

/-- The groups after group `g` that share a neighbour boundary with it (R141): of its column the next, and of the next column
those beside it. -/
def groupNeighbours (g : Nat) : List Nat :=
  let k := g % 17
  let col := g % 2516 / 17
  let up := if k < 16 then [g + 1] else []
  let side := if col < 147 then [g + 17] ++ (if k < 16 then [g + 18] else []) ++ (if 0 < k then [g + 16] else []) else []
  up ++ side

/-- Whether two frequency words lie at least 4 kHz apart. -/
def wordsApart (a b : Nat) : Bool := decide (17179870 ≤ a - b) || decide (17179870 ≤ b - a)

/-- The frequency word of a group (R146): the calibration store's, where its words keep 4 kHz between groups that share a
neighbour boundary; four words in turn where they do not. -/
def ditherFreq (t g : Nat) : Nat :=
  if (List.range groupsPerTile).all (fun h => (groupNeighbours h).all (fun n => wordsApart (ditherWord t h) (ditherWord t n))) then
    ditherWord t g
  else 85899346 + 17179870 * (g % 17 % 2 + 2 * (g % 2516 / 17 % 2))

/-- The amplitude of a group. -/
def ditherAmp (t g : Nat) : Nat := Config.ditherA t g % 256

/-- The index of a group's dither at the frame event just reached. -/
def Dev.ditherIdx (s : Dev) (t g : Nat) : Nat :=
  match (s.ringTile t).ditherFrom with
  | none => 0
  | some n => (s.frames - n) * ditherFreq t g % 2 ^ 32 / 2 ^ 22

/-- The dither term of a group at this frame event: zero while DITHER_EN is clear. -/
def Dev.dither (s : Dev) (t g : Nat) : Int :=
  if !s.flag Reg.HM_CTRL_DITHER_EN t then 0
  else match (s.ringTile t).ditherFrom with
  | none => 0
  | some _ => ((ditherAmp t g : Nat) * sine (s.ditherIdx t g) + 16384) / 32768

/-! Heaters on and off (R158, R159) -/

/-- The retained set-point of a ring, in integrator units. -/
def RingTile.point (x : RingTile) (r : Nat) : Nat := x.image.getD r 0 * 4096

/-- R158 runs from step 1: integrators from the image, every ring in ACQUIRE, the ramp from 0, and the legs in turn. With no
valid image the ring search runs first (R160). -/
def Dev.heatStart (s : Dev) (t : Nat) : Dev :=
  let ok := s.flag Reg.LK_STATUS_SP_OK t
  let s := s.modRings t (fun x => { x with
    rings := (List.range (groupsPerTile * 16)).map (fun r =>
      (r, { NMap.get {} x.rings r with state := 1, int := if ok then x.point r else 0 }))
    groups := [], on := true, ramp := if ok then some 0 else none, supervised := false, search := if ok then none else some 0
    legDue := 2 ^ 64 - 1, legFrom := s.mono })
  let s := if ok then s.wr Reg.HM_STATUS_RAMPING t 1 else s.report Ev.LK_SETPOINT_IMAGE t
  s.showLocks t

/-- Every ring of a tile enters OFF; at the next strobe the heaters turn off and their modulators are cleared. -/
def Dev.heatStop (s : Dev) (t : Nat) : Dev :=
  let s := s.modRings t (fun x => { x.mapRings (fun _ r => { applied := r.applied, e1 := r.e1, e2 := r.e2, y := r.y }) with
    groups := [], on := false, ramp := none, supervised := false, search := none, offDue := true })
  (s.wr Reg.HM_STATUS_RAMPING t 0).showLocks t

/-- HM_CTRL.HEAT_EN is set in tile `t`, which leaves OFF for STARTING the first time (R478). While the rail is open or rises,
R202 starts the heaters later. -/
def Dev.heatOn (s : Dev) (t : Nat) : Dev :=
  if s.flag Reg.HM_CTRL_HEAT_EN t then s
  else
    let s := s.wr Reg.HM_CTRL_HEAT_EN t 1
    let s := if s.svc t = 0 then s.wr Reg.PT_STATUS_SVC t 1 else s
    if s.flag Reg.HM_STATUS_RAIL_OPEN t || (NMap.get {} s.rails (quadOf t)).rising then s else s.heatStart t

/-- HM_CTRL.HEAT_EN is cleared in tile `t`. -/
def Dev.heatOff (s : Dev) (t : Nat) : Dev :=
  if s.flag Reg.HM_CTRL_HEAT_EN t then (s.wr Reg.HM_CTRL_HEAT_EN t 0).heatStop t else s

/-- HEAT_EN_SET. -/
def doHeatEnSet (src : Src) (t : Nat) (s : Dev) : Dev := s.own0 src (fun s => s.heatOn t)

/-- HEAT_EN_CLEAR. -/
def doHeatEnClear (src : Src) (t : Nat) (s : Dev) : Dev := s.own0 src (fun s => s.heatOff t)

/-- HEATER_RAMP_END (R158 step 3): after 10,000 frame events RAMPING clears and T_acq supervision starts. -/
def doHeaterRampEnd (t : Nat) (s : Dev) : Dev :=
  if (s.ringTile t).ramp ≠ some 10000 then s
  else (s.modRings t (fun x => { x with ramp := none, supervised := true })).wr Reg.HM_STATUS_RAMPING t 0

/-- The run and calibration temperatures of a tile go into the calibration store (R157, R389). -/
def Dev.keepTemps (s : Dev) (t : Nat) : Dev :=
  let e := (t, s.rd Reg.PM_CAL_RUN_TEMP t, s.rd Reg.HM_TEMP_CAL_TEMP t)
  { s with boot := { s.boot with cal := { s.boot.cal with temps := s.boot.cal.temps.filter (fun x => x.1 != t) ++ [e] } } }

/-- A set-point image comes into force and into the calibration store (R157). -/
def Dev.putImage (s : Dev) (t : Nat) (codes : List Nat) : Dev :=
  let s := s.modRings t (fun x => { x with image := codes })
  let s := (s.wr Reg.LK_STATUS_SP_OK t 1).wr Reg.LK_TABLES_SP_VERSION t (Config.imageVersion s.seed)
  let s := s.fresh.wr Reg.HM_TEMP_CAL_TEMP t (s.rd Reg.HM_TEMP_QTEMP t)
  ({ s with boot := { s.boot with cal := { s.boot.cal with points := NMap.set [] s.boot.cal.points t codes } } } : Dev).keepTemps t

/-- RING_SEARCH_DONE (R160): every ring in ACQUIRE at the code its search chose, R158 from step 3, and a new image. -/
def doRingSearchDone (t : Nat) (codes : List Nat) (s : Dev) : Dev :=
  if (s.ringTile t).search.isNone then s
  else
    let codes := (List.range (groupsPerTile * 16)).map (fun r => min (codes.getD r 0) 0xF000)
    let s := s.putImage t codes
    let s := s.modRings t (fun x => { x with
      rings := (List.range (groupsPerTile * 16)).map (fun r =>
        (r, { NMap.get {} x.rings r with state := 1, int := codes.getD r 0 * 4096 }))
      search := none, supervised := true })
    s.showLocks t

/-- FREEZE (R156). -/
def doFreeze (src : Src) (t : Nat) (on : Bool) (s : Dev) : Dev :=
  s.own0 src (fun s =>
    let was := s.flag Reg.LK_CTRL_FREEZE t
    let s := s.wr Reg.LK_CTRL_FREEZE t (b2n on)
    (if was && !on then s.freshSpans t else s).showLocks t)

/-! Frame events and bitstream periods (R142 to R144) -/

/-- The code before dither that goes to a heater at the strobe: its output; on the ramp of R158 its first output in proportion,
0 until there is one. -/
def rampCode (ramp : Option Nat) (out : Nat) (first : Option Nat) : Int :=
  match ramp with
  | none => (out : Int)
  | some k => est ((first.getD 0 * k : Nat) : Int) 10000

/-- The applied code (R143). -/
def strobeCode (code dither : Int) : Nat := (clampI (code + dither) 0 0xF000).toNat

/-- What the load strobe does to ring `r` of tile `t`: it takes the output due by now, else keeps the one before (R144, R149); a
ring search sweeps its code instead (R160). -/
def Dev.strobeRing (s : Dev) (t : Nat) (x : RingTile) (ramp : Option Nat) (r : Nat) (v : Ring) : Ring :=
  let o := if s.frames < (x.group (r / 16)).due then v.strobed else v.out
  let code := match x.search with
    | some n => ((Config.sweepCode t r n % 0xF001 : Nat) : Int)
    | none => rampCode ramp o v.first
  { v with strobed := o, applied := strobeCode code (s.dither t (r / 16)), e1 := if x.offDue then 0 else v.e1
           e2 := if x.offDue then 0 else v.e2 }

/-- The load strobe of one tile. -/
def Dev.strobe (s : Dev) (t : Nat) : Dev :=
  let x := s.ringTile t
  let s := if s.flag Reg.HM_CTRL_HEAT_EN t then s.bump Reg.HM_STROBES t 1 else s
  if !x.on then
    if x.offDue then s.modRings t (fun x => { x with rings := [], offDue := false }) else s
  else
    let ramp := x.ramp.map (fun k => min (k + 1) 10000)
    s.modRings t (fun x =>
      { x.mapRings (s.strobeRing t x ramp) with ramp := ramp, offDue := false, search := x.search.map (· + 1) })

/-- TILE_MW: the tile's heater power estimated from its applied codes at 1.8 V (R163, R187). -/
def Dev.showPower (s : Dev) (t : Nat) : Dev :=
  let total := ((s.ringTile t).rings.map (fun e => e.2.applied)).sum
  s.wr Reg.HM_POWER_TILE_MW t (est ((total * 81 : Nat) : Int) 6553600).toNat

/-- What a frame event does to leadline unit `u`: a housekeeping group falls due at every 100th (R187), and FRAME triggers, which
arrive after their delays, at every FRAME_DIV-th (R189). -/
def Dev.frameTriggers (s : Dev) (u : Nat) : Dev :=
  let hit := s.frames % s.rd Reg.LL_TRIG_FRAME_DIV u == 0
  let reg := hit && s.flag Reg.LL_CTRL_REG_EN u && s.rd Reg.LL_CTRL_REG_TRIG u == 0
  let inj := hit && s.flag Reg.LL_CTRL_INJ_FRAME u
  let group := s.frames % 100 == 0
  if reg || inj || group then
    s.modUnit u (fun x => { x with
      groupDue := x.groupDue || group
      regAt := if reg then x.regAt ++ [s.mono + 160 * s.rd Reg.LL_TRIG_REG_DELAY u] else x.regAt
      injAt := if inj then x.injAt ++ [s.mono + 160 * s.rd Reg.LL_TRIG_INJ_DELAY u] else x.injAt })
  else s

/-- FRAME_EVENT (R143): the leadline units' occasions, every tile's strobe, then the HEAT_EN clearings that are due (R200). -/
def doFrameEvent (s : Dev) : Dev :=
  let s := (List.range 17).foldl (fun s u => s.frameTriggers u) { s with frames := s.frames + 1 }
  (List.range 16).foldl (fun s t =>
    let s := s.strobe t
    if (s.ringTile t).clearDue then (s.modRings t (fun x => { x with clearDue := false })).heatOff t else s) s

/-- One period of a heater's second-order noise-shaped modulator (R142). -/
def Ring.period (r : Ring) : Ring :=
  let w := (r.applied : Int) + 2 * r.e1 - r.e2
  let y := decide (32768 ≤ w)
  { r with e2 := r.e1, e1 := if y then w - 65536 else w, y := y }

/-- HEATER_BITSTREAM_PERIOD (R142). -/
def doHeaterBitstreamPeriod (t : Nat) (s : Dev) : Dev :=
  s.modRings t (fun x => if x.on || x.offDue then x.mapRings (fun _ r => r.period) else x)

/-! The hotspot limiter (R152) -/

/-- HOTSPOT_LIMITER: a lock period ends. During a system calibration the ceiling stays (R196). -/
def doHotspotLimiter (t : Nat) (s : Dev) : Dev :=
  let was := s.rd Reg.HM_STATUS_TILE_CEIL t
  let s := if was < 0xF000 then s.bump Reg.HM_HOT_PERIODS t 1 else s
  if s.flag Reg.LL_STATUS_SYSCAL_BUSY t then s
  else
    let hot := s.rdS Reg.HM_TEMP_HOTSPOT t
    let limit : Int := (s.rd Reg.HM_HOT_HOT_LIMIT t * 16 : Nat)
    let hyst : Int := (s.rd Reg.HM_HOT_HYST t * 16 : Nat)
    let step := s.rd Reg.HM_HOT_HOT_STEP t
    let ceil := if limit < hot then was - step else if hot < limit - hyst then min (was + step) 0xF000 else was
    let s := (s.wr Reg.HM_STATUS_TILE_CEIL t ceil).wr Reg.HM_STATUS_HOT_ACTIVE t (b2n (decide (ceil < 0xF000)))
    if was = 0xF000 ∧ ceil < 0xF000 then s.report Ev.HM_HOT_ACTIVE t else s

/-! One group's update (R147 to R155) -/

/-- The neighbours of a ring with their places 1 to 8 (R141, R186); absent ones are left out. -/
def neighbours (r : Nat) : List (Nat × Nat) :=
  let (b, row, col) := ringPlace r
  let all : List (Nat × Nat × Nat) := [(1, 0, 0), (2, 0, 1), (3, 0, 2), (4, 1, 0), (5, 1, 2), (6, 2, 0), (7, 2, 1), (8, 2, 2)]
  all.filterMap (fun (k, dr, dc) =>
    if 1 ≤ row + dr ∧ row + dr ≤ 272 ∧ 1 ≤ col + dc ∧ col + dc ≤ 148 then some (k, ringAt b (row + dr - 1) (col + dc - 1)) else none)

/-- The lock error of a conversion (R147), in MHz. -/
def lockError (t r : Nat) (conv : Int) : Int :=
  let c := Config.slope t r
  clampI (rhe (conv * c.1) (c.2 + 1)) (-2047) 2047

/-- The feed-forward term (R150): zero without a valid crosstalk table (R160). -/
def Dev.feedForward (s : Dev) (t r : Nat) : Int :=
  if !s.flag Reg.LK_STATUS_FF_OK t then 0
  else
    let dt := s.rdS Reg.HM_TEMP_QTEMP t - s.rdS Reg.HM_TEMP_CAL_TEMP t
    let near : Int := ((neighbours r).map (fun (k, n) => (Config.crosstalk t r k % 256 : Nat) * ((s.ring t n).strobed : Int))).sum
    Int.neg ((near + toSigned 24 (ofSigned 24 (Config.ambient t r)) * dt) / 1024)

/-- The lock demand (R150). -/
def lockDemand (x kp : Nat) (e ff : Int) : Nat := (clampI (((x / 4096 : Nat) : Int) + (kp : Int) * e / 256 + ff) 0 0xF000).toNat

/-- The group ceiling (R151): the largest c with the demands, each cut to c, within the limit, found bit by bit. -/
def groupCeiling (limit : Nat) (demands : List Nat) : Nat :=
  if demands.sum ≤ limit then 0xF000
  else (List.range 16).foldl (fun c i =>
    let d := c + 2 ^ (15 - i)
    if (demands.map (min d)).sum ≤ limit then d else c) 0

/-- An event of ring `r` is noted in LK_LAST_EVENT (R161). -/
def Dev.lockEvent (s : Dev) (t r typ : Nat) : Dev :=
  let (b, row, col) := ringPlace r
  ((((s.wr Reg.LK_LAST_EVENT_BANK t b).wr Reg.LK_LAST_EVENT_PROW t row).wr Reg.LK_LAST_EVENT_PCOL t col).wr
    Reg.LK_LAST_EVENT_TYPE t typ).wr Reg.LK_LAST_EVENT_TIME t (s.now / 16)

/-- A following error or acquisition timeout (R155). -/
def Dev.followErr (s : Dev) (t r typ : Nat) : Dev :=
  let (b, row, col) := ringPlace r
  let s := ((s.bump Reg.LK_FOLLOW_ERRS t 1).lockEvent t r typ).report Ev.LK_FOLLOW_ERR t
  let s := s.requestSub t b row col
  s.modRings t (fun x => { x with rings := NMap.modify {} x.rings r (fun v => { v with state := 3, int := x.point r, good := 0, beyond := 0, acq := 0 }) })

/-- Supervision of one ring at an update (R147, R153 to R155). -/
def Dev.supervise (s : Dev) (t r : Nat) : Dev :=
  let v := s.ring t r
  let e := v.err.natAbs
  let locked := decide (e ≤ s.rd Reg.LK_PARAM_E_LOCK t)
  let within := decide (e ≤ s.rd Reg.LK_PARAM_E_MAX t)
  -- the limiter's hold
  let s := if v.held then
      let n := v.heldRun + 1
      let lim := decide (s.rd Reg.LK_PARAM_T_LIM t < n * 10)
      let s := (s.bump Reg.LK_HELD_UPDATES t 1).modRing t r (fun v => { v with heldRun := n, limited := v.limited || lim })
      if lim && !v.limited then ((s.bump Reg.LK_LIMITED_RINGS t 1).lockEvent t r 2).report Ev.LK_LIMITED t else s
    else s.modRing t r (fun v => { v with heldRun := 0, limited := false })
  if v.state = 2 then
    if within then s.modRing t r (fun v => { v with beyond := 0, armed := true })
    else
      let s := if v.armed && s.flag Reg.LL_CTRL_INJ_ALARM t then
          let (b, row, col) := ringPlace r
          s.modUnit t (fun u => { u with raised := u.raised ++ [⟨2, b * 2 ^ 17 + row * 2 ^ 8 + col, 0⟩] })
        else s
      let s := s.modRing t r (fun v => { v with armed := false, beyond := v.beyond + 1 })
      if s.rd Reg.LK_PARAM_T_FE t < v.beyond + 1 then s.followErr t r 0 else s
  else
    let n := if locked then v.good + 1 else 0
    if 8 ≤ n then
      let s := s.modRing t r (fun v => { v with state := 2, good := 0, beyond := 0, acq := 0, armed := true })
      if v.state = 3 then (s.bump Reg.LK_RELOCKS t 1).lockEvent t r 3 else s
    else
      let a := if v.state = 1 && (s.ringTile t).supervised then v.acq + 1 else 0
      let s := s.modRing t r (fun v => { v with good := n, acq := a })
      if s.rd Reg.LK_PARAM_T_ACQ t < a then s.followErr t r 1 else s

/-- The rings of a group. -/
def ringsOf (g : Nat) : List Nat := (List.range 16).map (fun i => g * 16 + i)

/-- The demands, ceiling and outputs of a group (R150, R151). -/
def Dev.updateGroup (s : Dev) (t g : Nat) : Dev :=
  let kp := s.rd Reg.LK_GAIN_KP t
  let ki : Int := (s.rd Reg.LK_GAIN_KI t : Nat)
  let demands := (ringsOf g).map (fun r => let v := s.ring t r; lockDemand v.int kp v.err (s.feedForward t r))
  let gceil := groupCeiling (s.rd Reg.HM_GRP_LIMIT_LIMIT t) demands
  let ceil := min gceil (s.rd Reg.HM_STATUS_TILE_CEIL t)
  let s := if gceil < 0xF000 then s.bump Reg.HM_GRP_LIMITED t 1 else s
  let s := ((ringsOf g).zip demands).foldl (fun s (r, d) => s.modRing t r (fun v =>
    if d ≤ ceil then { v with demand := d, out := d, first := some (v.first.getD d), held := false, int := (clampI ((v.int : Int) + ki * v.err) 0 (0xF000 * 4096)).toNat }
    else { v with demand := d, out := ceil, first := some (v.first.getD ceil), held := true })) s
  s.modRings t (fun x => { x with groups := NMap.modify {} x.groups g (fun h => { h with ceil := gceil }) })

/-- The first group of a frame of the lock period (R148): 6 groups in frames that are multiples of 31 below 992, 5 in others. -/
def firstGroup (f : Nat) : Nat := 5 * f + min ((f + 30) / 31) 32

/-- Whether group `g` is the next to be updated from the conversions of frame event `n`, in ascending order (R148). -/
def RingTile.groupNext (x : RingTile) (g n : Nat) : Bool :=
  decide (0 < n) && decide (firstGroup (n % 1000) ≤ g) && decide (g < firstGroup (n % 1000 + 1)) && (x.group g).conv != n &&
  (g == firstGroup (n % 1000) || (x.group (g - 1)).conv == n)

/-- The frame event whose conversions group `g` is updated from (R149): the last one, or the one before. -/
def Dev.convFrame (s : Dev) (t g : Nat) : Option Nat :=
  let x := s.ringTile t
  if x.groupNext g (s.frames - 1) then some (s.frames - 1) else if x.groupNext g s.frames then some s.frames else none

/-- LOCK_GROUP_UPDATE (R148 to R150): the conversions of a group arrive, when the schedule comes to it; what they give acts at
the second frame event after the one that sampled them, or with `late` at the one after that (R144). While the loops are held
the errors are shown and nothing else changes (R156). -/
def doLockGroupUpdate (t g : Nat) (conv : List Int) (late : Bool) (s : Dev) : Dev :=
  let x := s.ringTile t
  match s.convFrame t g with
  | none => s
  | some n => if !x.on || x.search.isSome then s
  else
    let s := s.modRings t (fun x => { x with groups := NMap.modify {} x.groups g (fun h => { h with conv := n }) })
    let s := ((ringsOf g).zip (List.range 16)).foldl (fun s (r, i) => s.modRing t r (fun v => { v with err := lockError t r (conv.getD i 0) })) s
    if s.loopsHeld t then s
    else
      let s := (s.bump Reg.LK_UPDATES t 16).updateGroup t g
      let s := s.modRings t (fun x => { x with groups := NMap.modify {} x.groups g (fun h => { h with due := n + 2 + b2n late }) })
      let s := if late then (s.bump Reg.LK_OVERRUNS t 1).report Ev.LK_OVERRUN t else s
      ((ringsOf g).foldl (fun s r => s.supervise t r) s).showLocks t

/-! The set-point image (R157) -/

/-- SET_POINT_IMAGE_WRITE: after a run has passed, at most once an hour, the integrators of the moment in whole code units.
The tile's slice maps are written with it (R181). A failed write leaves the image in force and the store as they were. -/
def doSetPointImageWrite (t : Nat) (ok : Bool) (s : Dev) : Dev :=
  let x := s.ringTile t
  let last := NMap.get 0 s.boot.pointAt t
  if !x.pointDue || (last != 0 && decide (s.mono < last - 1 + 57600000000000)) then s
  else if !ok then s
  else
    let s := s.putImage t ((List.range (groupsPerTile * 16)).map (fun r => (s.ring t r).int / 4096))
    let s := s.modRings t (fun x => { x with pointDue := false })
    let m : SpareMap := { (NMap.get none s.boot.cal.maps t).getD {} with slices := (s.subs t).slices }
    { s with boot := { s.boot with pointAt := NMap.set 0 s.boot.pointAt t (s.mono + 1)
                                   cal := { s.boot.cal with maps := NMap.set none s.boot.cal.maps t (some m) } } }

/-- CAL_STORE_MAP_WRITE (R181): the maps of a tile that changed are written, or PM_CAL_STORE is reported. -/
def doCalStoreMapWrite (t : Nat) (ok : Bool) (s : Dev) : Dev :=
  if !(s.tile t).mapDirty then s
  else
    let s := s.modTile t (fun x => { x with mapDirty := false })
    if !ok then s.report Ev.PM_CAL_STORE 0
    else
      let q := quadOf t
      let lines := ((List.range 34).filter (fun l => (s.rd Reg.LS_STATUS_LOST q).testBit l)).map (fun l => (q, l))
      let beyond := if s.flag (lineLostBit q) 0 then [(q, 64)] else []
      ({ s with boot := { s.boot with cal := { s.boot.cal with
          maps := NMap.set none s.boot.cal.maps t (some (s.subs t))
          lost := s.boot.cal.lost.filter (fun e => e.1 != q) ++ lines ++ beyond } } } : Dev).keepTemps t

/-- FRAME_EVENT. -/
def execFrameEvent (s : State) : Host.Outcome State Fault Refusal := s.on doFrameEvent
/-- LOCK_GROUP_UPDATE. -/
def execLockGroupUpdate (t g : Nat) (conv : List Int) (late : Bool) (s : State) : Host.Outcome State Fault Refusal := s.on (doLockGroupUpdate t g conv late)
/-- HOTSPOT_LIMITER. -/
def execHotspotLimiter (t : Nat) (s : State) : Host.Outcome State Fault Refusal := s.on (doHotspotLimiter t)
/-- HEAT_EN_SET. -/
def execHeatEnSet (src : Src) (t : Nat) (s : State) : Host.Outcome State Fault Refusal := s.on (fun d => d.at src .HM (doHeatEnSet src t))
/-- HEAT_EN_CLEAR. -/
def execHeatEnClear (src : Src) (t : Nat) (s : State) : Host.Outcome State Fault Refusal := s.on (fun d => d.at src .HM (doHeatEnClear src t))
/-- HEATER_RAMP_END. -/
def execHeaterRampEnd (t : Nat) (s : State) : Host.Outcome State Fault Refusal := s.on (doHeaterRampEnd t)
/-- RING_SEARCH_DONE. -/
def execRingSearchDone (t : Nat) (codes : List Nat) (s : State) : Host.Outcome State Fault Refusal := s.on (doRingSearchDone t codes)
/-- FREEZE. -/
def execFreeze (src : Src) (t : Nat) (on : Bool) (s : State) : Host.Outcome State Fault Refusal := s.on (fun d => d.at src .LK (doFreeze src t on))
/-- HEATER_BITSTREAM_PERIOD. -/
def execHeaterBitstreamPeriod (t : Nat) (s : State) : Host.Outcome State Fault Refusal := s.on (doHeaterBitstreamPeriod t)
/-- SET_POINT_IMAGE_WRITE. -/
def execSetPointImageWrite (t : Nat) (ok : Bool) (s : State) : Host.Outcome State Fault Refusal := s.on (doSetPointImageWrite t ok)
/-- CAL_STORE_MAP_WRITE. -/
def execCalStoreMapWrite (t : Nat) (ok : Bool) (s : State) : Host.Outcome State Fault Refusal := s.on (doCalStoreMapWrite t ok)

end Sys2Proof.Machine
end

