-- ==== Sys2Proof/Machine/TileFlow.lean ====
section
/-! DEFINITION. What happens on a running tile: packing rows, sending planes, the check, replay and recomputation, adding
addends, bank loads and swaps, refresh, and the end of commands (spec/03, spec/04). -/
namespace Sys2Proof.Machine

/-! The activation packer (R101 to R108) -/

/-- What the packer of tile `t` reads: its own row buffers are no other agent's (R106). -/
def Dev.packLoad (s : Dev) (t p a n : Nat) : List Byte × Refuse :=
  match s.probeRead p a n with
  | .rowbuf q => if q = t then (s.bytes a n, .ok) else (List.replicate n 0, .rowbuf q)
  | _ => s.loadFor p a n

/-- The bytes row `r` of a command is formed from: address and length (R103, R261). -/
def rowRange (c : Cmd) (r : Nat) : Nat × Nat :=
  let base := c.actAddr + r * c.stride
  if c.pmode = 0 then (base, c.rowLen * infmtBytes c.infmt)
  else if c.infmt = 3 then (base + c.sliceOff * codeBits c.afmt / 8, 32 * codeBits c.afmt)
  else (base + c.sliceOff * infmtBytes c.infmt, 256 * infmtBytes c.infmt)

/-- A row quantised: its codes, scale and zero point, and what the packer counted. -/
structure Packed where
  codes : List Nat
  s : Nat
  zp : Nat
  clamp : Bool
  clips : Nat
  nonfinite : Nat
  lo : Int
  hi : Int
  raw : List Byte
  deriving DecidableEq, Repr

/-- Quantise the slice of a row under a scale and zero point (R102, R105). -/
def packSlice (c : Cmd) (sc zp : Nat) (clamp : Bool) (xs : List Elem) (raw : List Byte) : Packed :=
  let qs := xs.map (quantise (s16Val sc) zp c.afmt)
  { codes := qs.map (fun q => q.q), s := sc, zp := zp, clamp := clamp, clips := qs.countP (fun q => q.clipped)
    nonfinite := qs.countP (fun q => q.nonfinite), lo := minOf 0 (finites xs), hi := maxOf 0 (finites xs), raw := raw }

/-- Form a row of a command from its bytes, the latched static entry and its scale record (R101, R103, R108, R110). -/
def packRow (c : Cmd) (entry : Word) (rec : Nat) (b : List Byte) : Packed :=
  let sc := if c.pmode = 2 then seScale entry else rec % 65536
  let zp := if c.pmode = 2 then seZp entry else rec / 65536
  if c.pmode = 0 then
    let xs := (List.range c.rowLen).map (elemAt c.infmt b)
    let sc := dynamicScale c.sym c.afmt xs
    packSlice c sc.s sc.zp sc.clamp ((xs.drop c.sliceOff).take 256) b
  else if c.infmt = 3 then
    { codes := (List.range 256).map (codeAt c.afmt b), s := sc, zp := zp, clamp := false, clips := 0, nonfinite := 0, lo := 0, hi := 0
      raw := [] }
  else packSlice c sc zp false ((List.range 256).map (elemAt c.infmt b)) []

/-- A scale clamp: the run completes with QS_SCALE_CLAMP where it would complete with success (R104, R112). -/
def Run.noteClamp (r : Run) : Run := if r.status = 0 then { r with status := Ev.QS_SCALE_CLAMP.status } else r

/-- A non-finite element: the run completes with QS_NONFINITE, before QS_SCALE_CLAMP where both hold (R105; which of the two
comes first is DESIGN CHOICE, log entry 63). -/
def Run.noteNonfinite (r : Run) : Run :=
  { r with nonfinite := true, status := if r.executed then Ev.QS_NONFINITE.status else r.status }

/-- What packing one row counts (R102, R104, R105, R111, R117); a second pass counts nothing again. -/
def Dev.packCounts (s : Dev) (t : Nat) (r : Run) (k : Packed) : Dev :=
  if r.pass = 1 then s
  else
    let c := r.c
    let s := s.bump (if c.pmode = 0 then Reg.QS_ROWS_DYN else if c.pmode = 1 then Reg.QS_ROWS_IMP else Reg.QS_ROWS_STATIC) t 1
    let s := s.bump (if c.pmode = 2 then Reg.QS_CLIPS else Reg.QS_DYN_CLAMPS) t k.clips
    let s := if k.nonfinite = 0 then s else
      let s := s.bump Reg.QS_NONFINITE t k.nonfinite
      let s := if r.nonfinite then s else s.reportC c Ev.QS_NONFINITE t r.packed 0
      s.modTile t (fun x => x.modRun r.id Run.noteNonfinite)
    let s := if k.clamp then
        ((s.bump Reg.QS_SCALE_CLAMP t 1).reportC c Ev.QS_SCALE_CLAMP t r.packed 0).modTile t (fun x => x.modRun r.id Run.noteClamp)
      else s
    s.modTile t (fun x => x.modRun r.id (fun r => { r with
      clips := r.clips + k.clips, elems := r.elems + 256, lo := minOf r.lo [k.lo], hi := maxOf r.hi [k.hi] }))

/-- A DYNAMIC row passes through one of the two row buffers (R106). -/
def Dev.rowBuffer (s : Dev) (t : Nat) (raw : List Byte) : Dev :=
  let b := (s.tile t).rowbuf
  (s.putBytes (stagingBase + s.rd Reg.QS_ROWBUF_BASE t * 4096 + (if b then 262144 else 0)) raw).modTile t (fun x => { x with rowbuf := !b })

/-- The last row of a step has been quantised (R111, R112). -/
def Dev.stepEnd (s : Dev) (t : Nat) (r : Run) : Dev :=
  if r.c.pmode = 2 ∧ r.pass = 0 ∧ r.packed = r.c.rows then
    let (s, clamp) := s.endStep t r.c.staticIdx r.entry r.clips r.elems r.lo r.hi
    if clamp then s.modTile t (fun x => x.modRun r.id Run.noteClamp) else s
  else s

/-- A command stops at the row the packer could not form or export: its status and detail (R267). -/
def Dev.stopRun (s : Dev) (t : Nat) (r : Run) (st d : Nat) : Dev :=
  (((s.cutRun t r.id r.packed st false).modTile t (fun x => x.modRun r.id (fun q => { q with detail := d }))).settle t).advance t

/-- PACKER_ROW (R101 to R108): the next row of the command in progress. A STATIC command's first row latches its entry, which is
checked then (R110). -/
def doPackerRow (t : Nat) (s : Dev) : Dev :=
  match (s.tile t).current with
  | none => s
  | some r =>
    if r.limit ≤ r.packed ∨ ¬s.inService t then s
    else
      let first := r.packed == 0 && r.pass == 0
      let entry := if first then NMap.get 0 (s.tile t).static r.c.staticIdx else r.entry
      match (if first && r.c.pmode == 2 then entryCheck t r.c entry else none) with
      | some i => ((s.cutImage t r i).settle t).advance t
      | none =>
        let a := rowRange r.c r.packed
        let (b, ref) := s.packLoad t (s.runPart r) a.1 a.2
        let s := s.noteRefused (s.runPart r) ref (some r.c)
        if refuseStatus ref ≠ 0 then s.stopRun t r (refuseStatus ref) (refuseAddr ref a.1)
        else
          let k := packRow r.c entry (r.recs.getD r.packed 0) b
          let s := s.packCounts t r k
          let s := if r.c.pmode = 0 then s.rowBuffer t k.raw else s
          let (s, ref) := if r.c.exports ∧ r.pass = 0 then
              s.storeFor (s.cPart r.c) (r.c.tsv + 4 * r.packed) (leBytes 4 (k.s + k.zp * 65536)) (some r.c)
            else (s, .ok)
          if refuseStatus ref ≠ 0 then s.stopRun t r (refuseStatus ref) (r.c.tsv + 4 * r.packed)
          else
            let row : Row := { tag := (s.tile t).nextTag, run := r.id, idx := r.packed, pass := r.pass, width := r.c.afmt, codes := k.codes
                               stok := k.s, zp := k.zp, key := r.key }
            let s := s.modTile t (fun x => ({ x with nextTag := x.nextTag + 1, packedRows := x.packedRows ++ [row] } : Tile).modRun r.id
              (fun r => { r with packed := r.packed + 1, entry := entry }))
            match (s.tile t).runs.find? (fun x => x.id = r.id) with
            | some r => s.stepEnd t r
            | none => s

/-- STATIC_ENTRY_WIDENING (R112 to R114): the widening that is due on an entry. A software write of the entry wins, one at the same
time as one since the step latched it (log entry 63): the widening is discarded. The log holds the entry's ZP field, with SYM
set too (log entry 63). -/
def doStaticEntryWidening (t i : Nat) (written : Option Word) (s : Dev) : Dev :=
  match (s.tile t).widen.find? (fun w => w.entry = i) with
  | none => s
  | some w =>
    let sc := widened w.word w.lo w.hi
    let zp := if seSym w.word then bits w.word 31 16 else sc.zp
    let h := s.rd Reg.QS_STATUS_ALOG_HEAD t
    let now := NMap.get 0 (s.tile t).static i
    let lost := written.isSome || now != w.word
    let rec' : Adapt := { oldScale := seScale w.word, oldZp := bits w.word 31 16, newScale := sc.s, newZp := zp, entry := i
                          discarded := lost, clamp := sc.clamp, clips := min w.clips (2 ^ 32 - 1), elems := min w.elems (2 ^ 32 - 1)
                          time := s.now }
    let s := s.modTile t (fun x => { x with widen := x.widen.erase w, alog := NMap.set {} x.alog h rec' })
    let s := if h = 15 then s.wr Reg.QS_STATUS_ALOG_WRAPPED t 1 else s
    let s := s.wr Reg.QS_STATUS_ALOG_HEAD t ((h + 1) % 16)
    let s := if sc.clamp then (s.bump Reg.QS_SCALE_CLAMP t 1).report Ev.QS_SCALE_CLAMP t else s
    let s : Dev := if lost then
        (s.modTile t (fun x => { x with static := NMap.set 0 x.static i (match written with | some v => staticWord now v | none => now) })).wr
          Reg.PAGE_STATUS_HW_LOST (pageOf .QS t) 1
      else
        let v := BitVec.ofNat 64 (w.word.toNat / 2 ^ 32 * 2 ^ 32 + zp * 2 ^ 16 + sc.s)
        ((s.modTile t (fun x => { x with static := NMap.set 0 x.static i v })).bump Reg.QS_ADAPTS t 1).report Ev.QS_ADAPTED t
    s.advance t

/-! Sending planes (R61, R62, R71, R72, R83) -/

/-- PF counter of bit-MACs by format and width (R454). -/
def macCounter (wfmt afmt : Nat) : Nat := wfmt * 16 + (if afmt = 16 then 8 else afmt - 1)

/-- TILE_ROW_START (R61, R72, R76, R90): the planes of the next packed row take consecutive activation slots. -/
def doTileRowStart (t : Nat) (s : Dev) : Dev :=
  let x := s.tile t
  match x.packedRows, x.current with
  | row :: rest, some r =>
    if !s.inService t || NMap.get 0 s.rate (quadOf t) != 0 || row.run != r.id || !x.bankGood (s.active t) row.key || x.replayStop then s
    else
      let planes := (List.range row.width).map (fun p => Sample.plane row.tag p)
      let s := s.modTile t (fun x => ({ x with packedRows := rest, rows := x.rows ++ [row], air := x.air ++ planes } : Tile).modRun r.id
        (fun r => { r with started := r.started + 1 }))
      let p := s.runPart r
      let s := s.useSlots t Reg.PT_SLOT_ACT row.width
      ((s.pf p 0x30 row.width).pf p (macCounter r.c.wfmt row.width) (32768 * row.width)).addWork r.c { bitMacs := 32768 * row.width }
  | _, _ => s

/-- REPLAY_BLOCK (R71): the oldest replay request gets its 12 slots. -/
def doReplayBlock (t : Nat) (s : Dev) : Dev :=
  match (s.tile t).replayQ with
  | [] => s
  | q :: rest =>
    let s := s.modTile t (fun x => { x with replayQ := rest, air := x.air ++ [q] })
    let s := (s.useSlots t Reg.PT_SLOT_REPLAY 12).bump Reg.PT_REPLAYS t 1
    let s := s.pf (s.holder t) 0x31 1
    match q with
    | .replay tag _ _ =>
      match (s.tile t).rows.find? (fun r => r.tag = tag) with
      | some row => match (s.tile t).runs.find? (fun r => r.id = row.run) with
        | some r => s.addWork r.c { replays := 1 }
        | none => s
      | none => s
    | _ => s

/-- REFRESH_BURST (R83, R85): the next burst of the active bank, after any replay that is pending. A bank that is being loaded
again has none (R87). -/
def doRefreshBurst (t : Nat) (s : Dev) : Dev :=
  let x := s.tile t
  if !x.epochActive || !(s.active t).loaded || s.svc t == 4 || !x.replayQ.isEmpty then s
  else
    let s := s.reachLocal (x.epochStart + (x.bursts + 1) * 80000)
    let n := 36 * s.slotsPerNs t
    let s := (s.useSlots t Reg.PT_SLOT_REFRESH n).modTile t (fun x => { x with bursts := x.bursts + 1 })
    s.calProbe t ((List.range 8).filter (fun g => g != x.bursts % 8)) n

/-- IDLE_BANK_REFRESH (R84): a segment of the idle bank is rewritten; no level changes. -/
def doIdleBankRefresh (t seg : Nat) (s : Dev) : Dev := s.modTile t (fun x => { x with idleSeg := (seg + 1) % 8 })

/-! Checking (R64, R68, R71, R74, R75, R77) -/

/-- The 144 integers of segment `g` among the codes of a symbol. -/
def segOf (codes : List Int) (g : Nat) : List Int := (codes.drop (144 * g)).take 144

/-- Record the most recent flagged group-sample (R93). -/
def Dev.lastFlag (s : Dev) (t seg plane : Nat) (late : Bool) (codes : List Int) : Dev :=
  match flaggedGroups codes with
  | [] => s
  | g :: _ =>
    let x := groupSample codes g
    let s := ((s.wr Reg.PT_LAST_FLAG_SEG t seg).wr Reg.PT_LAST_FLAG_CGRP t g).wr Reg.PT_LAST_FLAG_PLANE t plane
    let s := ((s.wr Reg.PT_LAST_FLAG_OOR t (b2n (x.any outOfRange))).wr Reg.PT_LAST_FLAG_LATE t (b2n late)).wr Reg.PT_LAST_FLAG_S0 t (syn0 x)
    (s.wr Reg.PT_LAST_FLAG_S1 t (syn1 x)).wr Reg.PT_LAST_FLAG_TIME t (s.now / 16)

/-- Count the group-samples of checked segments (R64, R77, R93). -/
def Dev.countCheck (s : Dev) (t p : Nat) (segs : List (List Int)) : Dev :=
  let n := 8 * segs.length
  let f := (segs.map (fun x => (flaggedGroups x).length)).sum
  let s := ((s.bump Reg.PT_GS_CHECKED t n).bump Reg.PT_GS_FLAGGED t f).bump Reg.PT_OOR t ((segs.map oorCount).sum)
  let s := s.modTile t (fun x => { x with winChecked := x.winChecked + n, winFlagged := x.winFlagged + f })
  (s.pf p 0x32 n).pf p 0x33 f

/-- Replay exhaustion (R74): the row and those after it are withheld and the tile goes out of service. The row itself is over. -/
def Dev.exhaust (s : Dev) (t : Nat) (row : Row) : Dev :=
  let who := ((s.tile t).runs.find? (fun r => decide (r.id = row.run))).map (fun r => r.c)
  let s := (s.reportAs Ev.PT_REPLAY_EXHAUSTED t (s.holder t) row.idx 0 who).cutRun t row.run row.idx Ev.PT_REPLAY_EXHAUSTED.status true
  let s := s.modTile t (fun x => ({ x with rows := x.rows.filter (fun y => y.tag ≠ row.tag) } : Tile).keepSamples
    (fun q => match q with | .replay tag _ _ => tag != row.tag | _ => true))
  ((s.goOut t).settle t).advance t

/-- Exhaustion of a column-sum symbol: the commands on the unverified bank are cut where they stand. -/
def Dev.exhaustBank (s : Dev) (t : Nat) (b : Bool) (e : Event) : Dev :=
  let key := ((s.tile t).bank b).key
  let who := ((s.tile t).loads.find? (fun (m : Load) => m.bankB == b)).bind (fun m => m.owner)
  let s := s.reportAs e t (s.holder t) 0 0 who
  let s := (s.tile t).runs.foldl (fun s r => if r.key = key ∨ r.otherKey = key ∧ r.c.isPair then s.cutRun t r.id r.added e.status true else s) s
  let mine := ((s.tile t).held.filter (fun h => decide (h.op = 0x10) && h.target == key / 2)).take 1
  let s := mine.foldl (fun s h => s.withhold t h.c 0) s
  let s := mine.foldl (fun s h => s.finish h.c e.status false 0 0 t 0) s
  let s := s.modTile t (fun x => { x with
    held := x.held.filter (fun h => !mine.contains h), loads := x.loads.filter (fun (m : Load) => m.bankB != b) })
  ((s.goOut t).settle t).advance t

/-- Change a row in progress. -/
def Dev.modRow (s : Dev) (t tag : Nat) (f : Row → Row) : Dev :=
  s.modTile t (fun x => { x with rows := x.rows.map (fun r => if r.tag = tag then f r else r) })

/-- Whether a row's planes were sent through a bank that has since been swapped out (R75). -/
def Dev.isLate (s : Dev) (t : Nat) (row : Row) : Bool := !((s.active t).loaded && (s.active t).key == row.key)

/-- The checked integers of one segment of one plane: kept, or flagged and sent again or recomputed. A segment plane counts as one
late flag, however many of its group-samples are flagged (log entry 63). -/
def Dev.segCheck (s : Dev) (t tag p seg : Nat) (codes : List Int) : Dev :=
  match (s.tile t).rows.find? (fun r => r.tag = tag) with
  | none => s
  | some row =>
    if (flaggedGroups codes).isEmpty then s.modRow t tag (fun r => { r with dec := NMap.insert r.dec (p * 8 + seg) codes })
    else
      let run := (s.tile t).runs.find? (fun r => r.id = row.run)
      let s : Dev := match run with
        | some r => s.addWork r.c { flags := (flaggedGroups codes).length }
        | none => s
      if s.isLate t row then
        if 8 ≤ (s.tile t).lateFlags then s.exhaust t row
        else s.modTile t (fun x => x.askRecomp (.replay tag p seg))
      else if 3 ≤ NMap.get 0 row.tries (p * 8 + seg) then s.exhaust t row
      else
        (s.modRow t tag (fun r => { r with tries := NMap.modify 0 r.tries (p * 8 + seg) (· + 1) })).modTile t
          (fun x => x.askReplay (.replay tag p seg))

/-- Whether the bank whose column-sum symbol is being checked has been swapped out since it was sent (R75). -/
def Dev.colsumLate (s : Dev) (t : Nat) (b : Bool) : Bool :=
  (s.tile t).images.any (fun i => (s.tile t).loads.any (fun (m : Load) => m.bankB == b && m.key == i.key))

/-- The checked integers of one segment of a column-sum symbol (R86), replayed, or recomputed where the flag is late. -/
def Dev.colsumSeg (s : Dev) (t : Nat) (b : Bool) (seg : Nat) (codes : List Int) : Dev :=
  let k := 8 * b2n b + seg
  if !(s.tile t).loads.any (fun (m : Load) => m.bankB == b && m.sent) then s
  else if (flaggedGroups codes).isEmpty then s.modTile t (fun x => { x with colsumSeen := NMap.insert x.colsumSeen k codes })
  else if s.colsumLate t b then
    if 8 ≤ (s.tile t).lateFlags then s.exhaustBank t b Ev.PT_REPLAY_EXHAUSTED
    else s.modTile t (fun x => x.askRecomp (.colsumReplay b seg))
  else if 3 ≤ NMap.get 0 (s.tile t).colsumTries k then s.exhaustBank t b Ev.PT_REPLAY_EXHAUSTED
  else s.modTile t (fun x => ({ x with colsumTries := NMap.modify 0 x.colsumTries k (· + 1) } : Tile).askReplay (.colsumReplay b seg))

/-- The lowest flagged segment of a symbol is the one recorded (R93). -/
def Dev.flagNote (s : Dev) (t plane : Nat) (late : Bool) (segs : List (Nat × List Int)) : Dev :=
  match segs.find? (fun e => !(flaggedGroups e.2).isEmpty) with
  | some e => s.lastFlag t e.1 plane late e.2
  | none => s

/-- After a check or a recomputation: flags that waited take the places that are free, and a row that adds nothing is over once it
is resolved. -/
def Dev.checked (s : Dev) (t : Nat) : Dev :=
  let s := s.modTile t Tile.fillPlaces
  if (s.tile t).rows.any (fun y => y.void && y.resolved) then (s.settle t).advance t else s

/-- A code as a decision slice outputs it: 10 bits in two's complement, saturated (R63). -/
def decided (c : Int) : Int := clampI c (-512) 511

/-- The decided integers of a symbol are checked: of a plane, of a replay, of a bank's column sums or of a replay of these. -/
def Dev.checkSymbol (s : Dev) (t : Nat) (q : Sample) (codes : List Int) : Dev :=
  let all := (List.range 8).map (fun g => (g, segOf codes g))
  let late := fun (tag : Nat) => match (s.tile t).rows.find? (fun r => r.tag = tag) with | some r => s.isLate t r | none => false
  match q with
  | .plane tag p =>
    let s := (s.countCheck t (s.holder t) (all.map (fun e => e.2))).flagNote t p (late tag) all
    all.foldl (fun s e => s.segCheck t tag p e.1 e.2) s
  | .replay tag p seg =>
    let c := segOf codes 0
    ((s.countCheck t (s.holder t) [c]).flagNote t p (late tag) [(seg, c)]).segCheck t tag p seg c
  | .colsum b =>
    let s := (s.countCheck t (s.holder t) (all.map (fun e => e.2))).flagNote t 0 (s.colsumLate t b) all
    all.foldl (fun s e => s.colsumSeg t b e.1 e.2) s
  | .colsumReplay b seg =>
    let c := segOf codes 0
    ((s.countCheck t (s.holder t) [c]).flagNote t 0 (s.colsumLate t b) [(seg, c)]).colsumSeg t b seg c

/-- PLANE_CHECK (R63, R64, R68): the decided codes of the oldest symbol in flight arrive. -/
def doPlaneCheck (t : Nat) (codes : List Int) (s : Dev) : Dev :=
  match (s.tile t).air with
  | [] => s
  | q :: rest => ((s.modTile t (fun x => { x with air := rest })).checkSymbol t q (codes.map decided)).checked t

/-- The exact sums of a segment's columns over the rows a plane lights (R41, R75). -/
def exactSegment (levels : List Int) (codes : List Nat) (p seg : Nat) : List Int :=
  (List.range 144).map (fun (j : Nat) => ((List.range 32).map (fun (r : Nat) =>
    if (codes.getD (32 * seg + r) 0).testBit p then levels.getD ((32 * seg + r) * 144 + j) 0 else 0)).sum)

/-- The column sums the loaded levels give, for one segment. -/
def levelSums (levels : List Int) (seg : Nat) : List Int :=
  (List.range 144).map (fun (j : Nat) => ((List.range 32).map (fun (r : Nat) => levels.getD ((32 * seg + r) * 144 + j) 0)).sum)

/-- A late segment takes the sums its level image gives (R75). -/
def Dev.recompute (s : Dev) (t : Nat) (q : Sample) : Dev :=
  match q with
  | .replay tag p seg =>
    match (s.tile t).rows.find? (fun r => r.tag = tag) with
    | some row => match (s.tile t).byKey row.key with
      | some b => s.modRow t tag (fun r => { r with dec := NMap.insert r.dec (p * 8 + seg) (exactSegment b.levels row.codes p seg) })
      | none => s
    | none => s
  | .colsumReplay b seg =>
    match (s.tile t).loads.find? (fun (l : Load) => l.bankB == b) with
    | some l => s.modTile t (fun x => { x with colsumSeen := NMap.insert x.colsumSeen (8 * b2n b + seg) (levelSums l.levels seg) })
    | none => s
  | _ => s

/-- RECOMPUTATION (R75): the oldest late flag is resolved from the level image. -/
def doRecomputation (t : Nat) (s : Dev) : Dev :=
  match (s.tile t).recompQ with
  | [] => s
  | q :: rest =>
    let s := (s.modTile t (fun x => { x with recompQ := rest })).bump Reg.PT_RECOMPUTES t 1
    ((s.pf (s.holder t) 0x34 1).recompute t q).checked t

/-! Adding (R41, R45, R76, R89, R98, R116) -/

/-- A group partial of a row: the exact sum over its planes and the group's segments (R41). -/
def groupPartial (row : Row) (gsize t j : Nat) : Int :=
  ((List.range (2 ^ gsize)).map (fun (i : Nat) => ((List.range row.width).map (fun (p : Nat) =>
    (NMap.get [] row.dec (p * 8 + (t * 2 ^ gsize + i))).getD j 0 * (2 ^ p : Nat))).sum)).sum

/-- Place of a first-pass partial in the pass-pair buffer (R127). -/
def ppbAddr (t : Nat) (x : Tile) (c : Cmd) (r g j : Nat) : Nat :=
  acBase t + x.ppbBase * 1024 + r * (groupCount c.gsize * 512) + (g * 128 + j) * 4

/-- Store the partials of a first pass row (R89, R127). -/
def Dev.storePartials (s : Dev) (t : Nat) (r : Run) (row : Row) : Dev :=
  let x := s.tile t
  ((List.range (groupCount r.c.gsize)).map (fun g => (List.range 128).map (fun j => (g, j)))).flatten.foldl
    (fun s e => s.putLe (ppbAddr t x r.c row.idx e.1 e.2) 4 (ofSigned 32 (groupPartial row r.c.gsize e.1 e.2))) s

/-- The corrected group partials of a row, by group and column (R35, R116). -/
def Dev.corrected (s : Dev) (t : Nat) (r : Run) (row : Row) (b : Bank) (g j : Nat) : Int :=
  let x := s.tile t
  let cs := b.csum.getD (j * 8 + g) 0
  let v := groupPartial row r.c.gsize g j
  if r.c.isPair then
    let first := toSigned 32 (s.le (ppbAddr t x r.c row.idx g j) 4)
    let csFirst := match x.byKey r.otherKey with | some o => o.csum.getD (j * 8 + g) 0 | none => 0
    if r.hiNow then 16 * v + first - row.zp * (16 * cs + csFirst) else 16 * first + v - row.zp * (16 * csFirst + cs)
  else v - row.zp * cs

/-- Add every addend of a row into its patch (R45 to R47, R124, R125). -/
def Dev.addRow (s : Dev) (t : Nat) (r : Run) (row : Row) (b : Bank) : Dev :=
  let c := r.c
  let i := c.patchFor row.idx
  let s := if r.touched.contains i then s else
    let s := (s.beginAdd t i).modTile t (fun x => x.modRun r.id (fun r => { r with touched := r.touched ++ [i] }))
    let d := s.desc t i
    s.setDesc t i (d.1, dSplices d * 2 ^ 32 + min (dAdds d + 1) (2 ^ 32 - 1))
  let cells := ((List.range (groupCount c.gsize)).map (fun g => (List.range 128).map (fun j => (g, j)))).flatten
  let ns := cells.map (fun e =>
    let g' := s.corrected t r row b e.1 e.2
    (e.2, if c.accfmt = 0 then addend g' (b.scales.getD (e.2 * 8 + e.1) 0) row.stok (c.wfmt == 0) else g'))
  let s := ns.foldl (fun s e => s.accAddTo (some c) (.live t) i (row.idx % 64) e.1 e.2) s
  s.bump Reg.AC_ADDENDS t ns.length

/-- The oldest row that may be added: its planes are resolved, its bank is verified, and no earlier row of its command
waits (R76, R87). -/
def Tile.readyRow (x : Tile) : Option (Row × Run × Bank) :=
  x.rows.findSome? (fun row =>
    match x.runs.find? (fun r => r.id = row.run), x.byKey row.key with
    | some r, some b =>
      let turn := if r.c.isPair then (if row.pass = 0 then row.idx == r.stored else row.idx == r.added && decide (row.idx < r.stored))
        else row.idx == r.added
      if row.resolved && !row.void && b.verified && turn then some (row, r, b) else none
    | _, _ => none)

/-- ROW_ADDENDS_ADD (R76). The first pass of a pair leaves its partials in the pass-pair buffer. -/
def doRowAddendsAdd (t : Nat) (s : Dev) : Dev :=
  match (s.tile t).readyRow with
  | none => s
  | some (row, r, b) =>
    let first := r.c.isPair && row.pass == 0
    let s := s.modTile t (fun x => ({ x with rows := x.rows.filter (fun y => y.tag ≠ row.tag) } : Tile).modRun r.id
      (fun r => if first then { r with stored := r.stored + 1 } else { r with added := r.added + 1 }))
    if first then s.storePartials t r row
    else ((s.addRow t r row b).settle t).advance t

/-! Loads and swaps (R81 to R89) -/

/-- BANK_LOAD_COMPLETE (R81, R86, R261): the bank holds its levels and scales, its queue holds it, and the column-sum symbol is sent
through it. -/
def doBankLoadComplete (t : Nat) (s : Dev) : Dev :=
  match (s.tile t).loads.find? (fun l => !l.sent) with
  | none => s
  | some l =>
    let old := (s.tile t).bank l.bankB
    let b : Bank := { old with loaded := true, verified := false, levels := l.levels, scales := l.scales, wfmt := l.wfmt, gsize := l.gsize
                               key := l.key, map := l.map, visit := l.visit }
    let s := s.modTile t (fun x => ({ x with
      loads := x.loads.map (fun (m : Load) => if m.bankB = l.bankB then { m with sent := true } else m)
      holds := x.holds.map (fun k => k.moved l)
      air := x.air ++ [.colsum l.bankB] } : Tile).setBank l.bankB b)
    let s := (s.useSlots t Reg.PT_SLOT_COLSUM 1).showIdle t
    let s : Dev := match l.owner with
      | some c => s.pf (s.cPart c) 0x35 1
      | none => s
    s.advance t

/-- The group column sums of decided column sums, by column and group (R116). -/
def groupSums (seen : NMap (List Int)) (b : Bool) (gsize : Nat) : List Int :=
  (List.range 1024).map (fun (k : Nat) =>
    if k % 8 < groupCount gsize then
      ((List.range (2 ^ gsize)).map (fun (i : Nat) => (NMap.get [] seen (8 * b2n b + (k % 8 * 2 ^ gsize + i))).getD (k / 8) 0)).sum
    else 0)

/-- A bank is verified (R86): its column sums go to QSn, and rows that waited for it may be added. -/
def Dev.verify (s : Dev) (t : Nat) (l : Load) : Dev :=
  let sums := groupSums (s.tile t).colsumSeen l.bankB l.gsize
  let ok := fun (b : Bank) => if b.loaded && b.key == l.key then { b with verified := true, csum := sums, csumValid := true } else b
  let s := s.modTile t (fun x => { x with
    bankA := ok x.bankA, bankB := ok x.bankB, images := x.images.map ok
    loads := x.loads.filter (fun (m : Load) => m.bankB != l.bankB)
    colsumSeen := x.colsumSeen.clearRange (8 * b2n l.bankB) (8 * b2n l.bankB + 8) })
  s.advance t

/-- A first disagreement (R87): the planes of the epoch are discarded, the bank is loaded again, and every row of the bank
epoch is sent again from its first. Rows sent again latch their entry's word again and count from 0 in their step, and the
levels' negative zeros are not counted again (log entry 63). The epoch stays the one it was, with its refresh schedule. -/
def Dev.reload (s : Dev) (t : Nat) (l : Load) : Dev :=
  let back := fun (r : Run) => r.c.isPair && r.pass == 1 && r.otherKey == l.key
  let gone := fun (y : Row) => y.key == l.key || (s.tile t).runs.any (fun r => decide (r.id = y.run) && back r)
  let tags := ((s.tile t).rows.filter gone).map (fun r => r.tag)
  let keep := fun (q : Sample) => match q with
    | .plane tag _ => !tags.contains tag
    | .replay tag _ _ => !tags.contains tag
    | .colsum b => b != l.bankB
    | .colsumReplay b _ => b != l.bankB
  let again := fun (r : Run) => { r with packed := 0, started := 0, ended := false, clips := 0, elems := 0, lo := 0, hi := 0 }
  let s := s.modTile t (fun x => { x with
    rows := x.rows.filter (fun y => !gone y), packedRows := x.packedRows.filter (fun y => !gone y)
    air := x.air.filter keep
    images := x.images.filter (fun b => b.key != l.key)
    runs := x.runs.map (fun r => if back r then { again r with pass := 0, stored := 0 } else if r.key = l.key then again r else r) })
  let s := s.modTile t (fun x => x.keepSamples keep)
  let was := (s.tile t).epochActive
  (s.putLoad t { l with tries := l.tries + 1, sent := false }).modTile t (fun x => { x with epochActive := was })

/-- COLUMN_SUM_CHECK (R86, R87). -/
def doColumnSumCheck (t : Nat) (s : Dev) : Dev :=
  let x := s.tile t
  match x.loads.find? (fun l => l.sent && (List.range 8).all (fun g => !(NMap.get [] x.colsumSeen (8 * b2n l.bankB + g)).isEmpty)) with
  | none => s
  | some l =>
    if (List.range 8).all (fun g => NMap.get [] x.colsumSeen (8 * b2n l.bankB + g) == levelSums l.levels g) then s.verify t l
    else
      let s := s.bump Reg.PT_LOAD_MISMATCH t 1
      if l.tries = 0 then s.reload t l else s.exhaustBank t l.bankB Ev.PT_LOAD_MISMATCH

/-- The idle bank becomes active (R88, R93, R99): the outgoing bank stays as a level image while its rows are unresolved. -/
def Dev.swapBanks (s : Dev) (t : Nat) : Dev :=
  let old := s.active t
  let inB := !s.activeB t
  let s := s.keepImage t old
  let s := (s.wr Reg.PT_STATUS_ACTIVE_BANK t (b2n inB)).wr Reg.QS_STATUS_SRF_BANK_ACTIVE t (b2n inB)
  let s := (s.bump Reg.PT_SWAPS t 1).modTile t (fun x => { x with
    epochActive := true, epochStart := s.mono, bursts := 0, lateFlags := 0 })
  (s.showIdle t).calAtSwap t inB

/-- The head EPOCH, when it could start but for its bank: no earlier command sends rows and every check passes. -/
def Dev.headReady (s : Dev) (t : Nat) : Option Held :=
  let x := s.tile t
  match x.held.head? with
  | none => none
  | some h =>
    if h.op ≠ 0x10 || s.seqStopped t || !s.flag Reg.PT_CTRL_TILE_EN t || x.runs.any (fun r => !r.ended) || (h.c.isPair && x.ppbActive) ||
        (h.c.pmode == 2 && s.widenDue t h.c.staticIdx) || (s.startCheck t h.c).isSome then none
    else some h

/-- The head EPOCH, when it could start but for a swap. -/
def Dev.headWantsSwap (s : Dev) (t : Nat) : Option Held :=
  match s.headReady t with
  | none => none
  | some h => if (s.tile t).bankGood (s.idle t) (s.heldKey t h) && (h.c.load || (s.idle t).verified) then some h else none

/-! What the slots in between are (R62, R72, R76, R87, R88, R262, R271) -/

/-- The load that the next rows of a tile need, where rows are ready: of the command in progress, or of the head EPOCH. -/
def Dev.wantedKey (s : Dev) (t : Nat) : Option Nat :=
  match (s.tile t).current with
  | some r =>
    if r.started < r.limit then some r.key
    else if r.c.isPair ∧ r.pass = 0 then some r.otherKey else none
  | none => (s.headReady t).map (s.heldKey t)

/-- Whether a load is wanted that neither bank holds, so that the tile waits for it. -/
def Dev.loadWait (s : Dev) (t : Nat) : Bool :=
  match s.wantedKey t with
  | some k => !(s.tile t).bankGood (s.active t) k && !(s.tile t).bankGood (s.idle t) k
  | none => false

/-- The counter of the slots in which a tile sends nothing of its own: replay slots while R72 or R76 stops its rows, load-wait
slots while its rows wait for a bank's load, idle slots else; all are idle in a tile that runs no rows (R62, R90). -/
def Dev.gapKind (s : Dev) (t : Nat) : Field :=
  if !s.inService t then Reg.PT_SLOT_IDLE
  else if !(s.tile t).packedRows.isEmpty && (s.tile t).replayStop then Reg.PT_SLOT_REPLAY
  else if s.loadWait t then Reg.PT_SLOT_LOADWAIT
  else Reg.PT_SLOT_IDLE

/-- BANK_SWAP (R88, R89, R98, R262). -/
def doBankSwap (t : Nat) (s : Dev) : Dev :=
  let x := s.tile t
  if !s.inService t then s
  else match x.current with
  | some r =>
    if r.c.isPair ∧ r.pass = 0 ∧ r.started = r.c.rows ∧ x.bankGood (s.idle t) r.otherKey then
      -- the second pass of a pair, or the end of a pair whose images differ
      let same := match x.byKey r.key with | some b => b.scales == (s.idle t).scales | none => true
      if same then
        let s := s.modTile t (fun x => x.modRun r.id (fun r => { r with pass := 1, packed := 0, started := 0 }))
        (s.swapBanks t).advance t
      else
        let s := (s.reportC r.c Ev.QS_SCALE_MISMATCH t 0 0).cutRun t r.id 0 Ev.QS_SCALE_MISMATCH.status false
        (s.settle t).advance t
    else if x.bankGood (s.idle t) r.key then (s.swapBanks t).advance t
    else s
  | none =>
    match s.headWantsSwap t with
    | some h => ((s.swapBanks t).startRun t h).advance t
    | none => s

/-- EPOCH_COMMAND_END (R262, R266, R271): the command's last row has been sent. -/
def doEpochCommandEnd (t : Nat) (s : Dev) : Dev :=
  match (s.tile t).current with
  | none => s
  | some r =>
    if r.started < r.limit ∨ (r.c.isPair ∧ r.pass = 0) then s
    else
      let s := s.modTile t (fun x => ({ x with lastEpochEnd := s.mono, released := r.c.release } : Tile).modRun r.id (fun r => { r with ended := true }))
      ((s.settle t).preempt t).advance t

/-- PACKER_ROW. -/
def execPackerRow (t : Nat) (s : State) : Host.Outcome State Fault Refusal := s.on (doPackerRow t)
/-- STATIC_ENTRY_WIDENING. -/
def execStaticEntryWidening (t i : Nat) (w : Option Word) (s : State) : Host.Outcome State Fault Refusal := s.on (doStaticEntryWidening t i w)
/-- TILE_ROW_START. -/
def execTileRowStart (t : Nat) (s : State) : Host.Outcome State Fault Refusal := s.on (doTileRowStart t)
/-- PLANE_CHECK. -/
def execPlaneCheck (t : Nat) (codes : List Int) (s : State) : Host.Outcome State Fault Refusal := s.on (doPlaneCheck t codes)
/-- REPLAY_BLOCK. -/
def execReplayBlock (t : Nat) (s : State) : Host.Outcome State Fault Refusal := s.on (doReplayBlock t)
/-- RECOMPUTATION. -/
def execRecomputation (t : Nat) (s : State) : Host.Outcome State Fault Refusal := s.on (doRecomputation t)
/-- ROW_ADDENDS_ADD. -/
def execRowAddendsAdd (t : Nat) (s : State) : Host.Outcome State Fault Refusal := s.on (doRowAddendsAdd t)
/-- BANK_LOAD_COMPLETE. -/
def execBankLoadComplete (t : Nat) (s : State) : Host.Outcome State Fault Refusal := s.on (doBankLoadComplete t)
/-- COLUMN_SUM_CHECK. -/
def execColumnSumCheck (t : Nat) (s : State) : Host.Outcome State Fault Refusal := s.on (doColumnSumCheck t)
/-- BANK_SWAP. -/
def execBankSwap (t : Nat) (s : State) : Host.Outcome State Fault Refusal := s.on (doBankSwap t)
/-- REFRESH_BURST. -/
def execRefreshBurst (t : Nat) (s : State) : Host.Outcome State Fault Refusal := s.on (doRefreshBurst t)
/-- IDLE_BANK_REFRESH. -/
def execIdleBankRefresh (t seg : Nat) (s : State) : Host.Outcome State Fault Refusal := s.on (doIdleBankRefresh t seg)
/-- EPOCH_COMMAND_END. -/
def execEpochCommandEnd (t : Nat) (s : State) : Host.Outcome State Fault Refusal := s.on (doEpochCommandEnd t)

end Sys2Proof.Machine
end

