-- ==== Sys2Proof/Machine/TileSvc.lean ====
section
/-! DEFINITION. A tile's service: supervision windows, symbol-rate changes, enabling, return to service, calibration triggers
and loads, and a sequencer's fault (spec/03, spec/07, R434). -/
namespace Sys2Proof.Machine

/-- The tiles of a quadrant. -/
def quadTiles (q : Nat) : List Nat := (List.range 4).map (fun i => 4 * q + i)

/-- A write to a PT page (R93, R354): partition 0, or the partition that owns or holds the tile. -/
def Dev.mayPt (s : Dev) (src : Src) (t : Nat) : Bool := srcPart src == 0 || srcPart src == s.holder t

/-! Supervision (R77, R78, R474, R475) -/

/-- SUPERVISION_WINDOW_CLOSE: a 1 ms period ends, and the window closes if its count has reached 2^24. -/
def doSupervisionWindowClose (t : Nat) (s : Dev) : Dev :=
  let x := s.tile t
  if x.winChecked < 2 ^ 24 then s
  else
    let s := s.reach ((s.now + 15999999) / 16000000 * 16000000)
    let s := (s.wr Reg.PT_SUP_WIN_CHECKED t x.winChecked).wr Reg.PT_SUP_WIN_FLAGGED t x.winFlagged
    let s := s.modTile t (fun x => { x with winChecked := 0, winFlagged := 0 })
    if s.svc t ≠ 2 ∧ s.svc t ≠ 3 ∧ s.svc t ≠ 5 then s
    else if rateOut x.winFlagged x.winChecked then s.outOfService t
    else if rateHigh x.winFlagged x.winChecked then
      let s := (s.report Ev.PT_RATE_HIGH t).showUrgent t 2 |>.calTrigger t 2
      if x.persist = 0 then s
      else
        let s := s.modTile t (fun y => { y with persist := x.persist - 1 })
        if x.persist = 1 then (s.report Ev.PT_RATE_PERSIST t).outOfService t else s
    else s.modTile t (fun x => { x with persist := 0 })

/-! Symbol rate (R90) -/

/-- A rate change of quadrant `q` starts at step 1. -/
def Dev.rateStart (s : Dev) (q : Nat) : Dev :=
  let s := { s with rate := NMap.set 0 s.rate q 1 }
  (quadTiles q).foldl (fun s t =>
    if s.inService t then (s.modTile t (fun x => { x with svcBack := s.svc t })).wr Reg.PT_STATUS_SVC t 5 else s) s

/-- QRATE (R90, R93, R354): only partition 0 writes it, and a write of 3 is ignored. -/
def doQrate (src : Src) (q r : Nat) (s : Dev) : Dev :=
  if srcPart src ≠ 0 then (if s.mayPt src (4 * q) then s else s.foreign (srcPart src))
  else if 3 ≤ r then s
  else
    let s := s.setBy src Reg.PT_CTRL_QRATE (4 * q) r
    let s := (quadTiles q).foldl (fun s t => s.wr Reg.PT_CTRL_QRATE t r) s
    if NMap.get 0 s.rate q ≠ 0 ∨ r = s.rateOf (4 * q) then s else s.rateStart q

/-- RATE_CHANGE_DRAINED: steps 2 and 3 are over, and step 4 retunes to the QRATE in force. Until rows and checks are done on
all four tiles the event has no occasion. -/
def doRateChangeDrained (q : Nat) (s : Dev) : Dev :=
  let busy := (quadTiles q).any (fun t => let x := s.tile t
    !x.rows.isEmpty || !x.air.isEmpty || !x.replayQ.isEmpty || !x.recompQ.isEmpty || !x.replayWait.isEmpty || !x.recompWait.isEmpty)
  if NMap.get 0 s.rate q ≠ 1 ∨ busy then s
  else { s with rate := NMap.set 0 s.rate q (2 + s.rd Reg.PT_CTRL_QRATE (4 * q)) }

/-- The active bank of a tile is measured again after a rate change (R90 step 5): a load of it that awaits its comparison is
measured anew, and one still being written is measured when it is complete. -/
def Dev.remeasure (s : Dev) (t : Nat) : Dev :=
  let b := s.active t
  let at' := s.activeB t
  let old := (s.tile t).loads.find? (fun (l : Load) => l.bankB == at')
  if !b.loaded || (match old with | some l => !l.sent | none => false) then s
  else
    let l : Load := old.getD { bankB := at', key := b.key, levels := b.levels, scales := b.scales, wfmt := b.wfmt, gsize := b.gsize
                               map := b.map, visit := b.visit, tries := 0, sent := true, cal := false
                               owner := ((s.tile t).runs.head?.map (fun r => r.c)) }
    let k := 8 * b2n at'
    let s := s.modTile t (fun x => ({ x with loads := x.loads.filter (fun (m : Load) => m.bankB != at') ++ [l], air := x.air ++ [.colsum at']
                                             epochStart := s.mono, bursts := 0, lateFlags := 0
                                             colsumSeen := x.colsumSeen.clearRange k (k + 8)
                                             colsumTries := x.colsumTries.clearRange k (k + 8) } : Tile).setBank at'
                      { b with verified := false })
    let s := s.useSlots t Reg.PT_SLOT_COLSUM 1
    match l.owner with
    | some c => s.pf (s.cPart c) 0x35 1
    | none => s

/-- RATE_CHANGE_LOCKED: step 5. Rows resume, or a new change begins where QRATE has moved on (R90, R169, R176). -/
def doRateChangeLocked (q : Nat) (s : Dev) : Dev :=
  let r := NMap.get 0 s.rate q
  if r < 2 then s
  else
    let s := { s with rate := NMap.set 0 s.rate q 0 }
    let s := (quadTiles q).foldl (fun s t =>
      let s := (s.wr Reg.PT_STATUS_QRATE_NOW t (r - 2)).rateSlices t (r - 2)
      let s := if s.svc t = 5 then s.wr Reg.PT_STATUS_SVC t (s.tile t).svcBack else s
      let s := if s.flag Reg.PM_CAL_TILE_RUNNING t then s.calRestart t (s.rd Reg.PM_CAL_TILE_TRIGGER t) else s
      ((s.updCal t).remeasure t).advance t) s
    if s.rd Reg.PT_CTRL_QRATE (4 * q) ≠ r - 2 then s.rateStart q else s

/-! Enabling and returning (R80, R93, R414, R478) -/

/-- TILE_EN (R93). -/
def doTileEn (src : Src) (t : Nat) (on : Bool) (s : Dev) : Dev :=
  if !s.mayPt src t then s.foreign (srcPart src)
  else
    let s := s.setBy src Reg.PT_CTRL_TILE_EN t (b2n on)
    if on then (s.modTile t (fun x => { x with everOn := true })).advance t else s

/-- RETURN (R80): discarded before a full run of the tile has passed since it went out of service. A stopped sequencer runs
again. -/
def doReturn (src : Src) (t : Nat) (s : Dev) : Dev :=
  if srcPart src ≠ 0 then (if s.mayPt src t then s else s.foreign (srcPart src))
  else if s.svc t ≠ 4 ∨ !(s.tile t).passed then s
  else
    let s := (s.enterService t).modTile t (fun x => { x with epochActive := false, dead := false })
    let s := if (List.range 16).any (fun u => s.svc u == 4) then s else s.degrade .tile false
    s.advance t

/-! Calibration triggers and idle moves (R168, R171, R175) -/

/-- CAL_TRIGGER_EVALUATION (R65, R168, R169): the quadrant temperature is compared with the run temperature, and with what a
run in progress latched. -/
def doCalTriggerEvaluation (t : Nat) (s : Dev) : Dev :=
  let k := (s.tile t).cal
  let s := s.updCal t
  if s.flag Reg.PM_CAL_TILE_RUNNING t then
    if !s.tempMoved t k.temp k.dt then s
    else if 3 ≤ k.restarts then s.calAbort t 3
    else (s.modTile t (fun x => { x with cal := { k with restarts := k.restarts + 1 } })).calRestart t (s.rd Reg.PM_CAL_TILE_TRIGGER t)
  else if s.tempMoved t (s.rdS Reg.PM_CAL_RUN_TEMP t) (s.rd Reg.PM_CAL_CTRL_DT_CAL 0) then s.calTrigger t 1
  else s

/-- REQUEST (R168, R183): each bit set asks for a run of its tile. -/
def doRequest (src : Src) (mask : Nat) (s : Dev) : Dev :=
  if srcPart src ≠ 0 then s.foreign (srcPart src)
  else (bitsSet 16 mask).foldl (fun s t =>
    (s.wr Reg.PM_CAL_CTRL_REQ 0 (putBit (s.rd Reg.PM_CAL_CTRL_REQ 0) t true)).calTrigger t 4) s

/-- An idle period of a tile (R171). -/
def Dev.idlePeriod (s : Dev) (t : Nat) : Bool :=
  let x := s.tile t
  x.runs.isEmpty && x.packedRows.isEmpty && x.loads.all (fun (l : Load) => l.cal || l.sent) &&
  x.held.all (fun h => h.op != 0x10) && (x.released || !x.epochActive)

/-- CALIBRATION_LOAD (R171): level 0 in every ring of the idle bank, in an idle period. -/
def doCalibrationLoad (t : Nat) (s : Dev) : Dev :=
  if !s.idlePeriod t || !(s.tile t).canLoad (!s.activeB t) then s
  else s.putLoad t { bankB := !s.activeB t, key := 0, levels := [], scales := [], wfmt := 0, gsize := 0, map := (s.tile t).mapNext
                     visit := s.loadVisit t (!s.activeB t), tries := 0, sent := false, cal := true, owner := none }

/-- CALIBRATION_SWAP (R171): the bank of a calibration load becomes active, in an idle period. -/
def doCalibrationSwap (t : Nat) (s : Dev) : Dev :=
  let b := s.idle t
  if s.idlePeriod t && b.loaded && b.key == 0 && decide ((s.tile t).map ≤ b.map) then
    (s.swapBanks t).modTile t (fun x => { x with epochActive := false })
  else s

/-- PM_CAL_LATE (R175): once a run, 1 s after it started. -/
def doPmCalLate (t : Nat) (s : Dev) : Dev :=
  let k := (s.tile t).cal
  if !s.flag Reg.PM_CAL_TILE_RUNNING t || k.late then s
  else ((s.reachLocal (k.start + 16 * 10 ^ 9)).modTile t (fun x => { x with cal := { k with late := true } })).report Ev.PM_CAL_LATE 0

/-- SEQUENCER_CC_FAULT (R434): the tile of core `n` goes out of service and its patch commands complete. -/
def doSequencerCcFault (n : Nat) (s : Dev) : Dev :=
  if 16 ≤ n then s
  else ((s.coreException n).modTile n (fun x => { x with dead := true })).outOfService n

/-- SUPERVISION_WINDOW_CLOSE. -/
def execSupervisionWindowClose (t : Nat) (s : State) : Host.Outcome State Fault Refusal := s.on (doSupervisionWindowClose t)
/-- QRATE. -/
def execQrate (src : Src) (q r : Nat) (s : State) : Host.Outcome State Fault Refusal := s.on (fun d => d.at src .PT (doQrate src q r))
/-- RATE_CHANGE_DRAINED. -/
def execRateChangeDrained (q : Nat) (s : State) : Host.Outcome State Fault Refusal := s.on (doRateChangeDrained q)
/-- RATE_CHANGE_LOCKED. -/
def execRateChangeLocked (q : Nat) (s : State) : Host.Outcome State Fault Refusal := s.on (doRateChangeLocked q)
/-- TILE_EN. -/
def execTileEn (src : Src) (t : Nat) (on : Bool) (s : State) : Host.Outcome State Fault Refusal := s.on (fun d => d.at src .PT (doTileEn src t on))
/-- RETURN. -/
def execReturnSet (src : Src) (t : Nat) (s : State) : Host.Outcome State Fault Refusal := s.on (fun d => d.at src .PT (doReturn src t))
/-- CAL_TRIGGER_EVALUATION. -/
def execCalTriggerEvaluation (t : Nat) (s : State) : Host.Outcome State Fault Refusal := s.on (doCalTriggerEvaluation t)
/-- REQUEST. -/
def execRequest (src : Src) (mask : Nat) (s : State) : Host.Outcome State Fault Refusal := s.on (fun d => d.at src .PM (doRequest src mask))
/-- CALIBRATION_LOAD. -/
def execCalibrationLoad (t : Nat) (s : State) : Host.Outcome State Fault Refusal := s.on (doCalibrationLoad t)
/-- CALIBRATION_SWAP. -/
def execCalibrationSwap (t : Nat) (s : State) : Host.Outcome State Fault Refusal := s.on (doCalibrationSwap t)
/-- PM_CAL_LATE. -/
def execPmCalLate (t : Nat) (s : State) : Host.Outcome State Fault Refusal := s.on (doPmCalLate t)
/-- SEQUENCER_CC_FAULT. -/
def execSequencerCcFault (n : Nat) (s : State) : Host.Outcome State Fault Refusal := s.on (doSequencerCcFault n)

end Sys2Proof.Machine
end

