-- ==== Sys2Proof/Machine/Legs.lean ====
section
/-! DEFINITION. Heater power legs, trips and quadrant rails (R198 to R203). -/
namespace Sys2Proof.Machine

/-- The heater rail of quadrant `q`. -/
def Dev.rail (s : Dev) (q : Nat) : Rail := NMap.get {} s.rails q

/-- Change the heater rail of quadrant `q`. -/
def Dev.modRail (s : Dev) (q : Nat) (f : Rail → Rail) : Dev := { s with rails := NMap.set {} s.rails q (f (s.rail q)) }

/-- The QUAD cause of DEGRADED: a comb is not AT_TARGET, or a quadrant heater rail is open (R372). -/
def Dev.updQuad (s : Dev) : Dev :=
  s.degrade .quad ((List.range 4).any (fun q => !s.flag Reg.LS_STATUS_AT_TARGET q || s.flag Reg.HM_STATUS_RAIL_OPEN (4 * q)))

/-- A leg's switch closes and its blanking runs from now, for the length in force (R199). -/
def Dev.legClose (s : Dev) (t leg : Nat) : Dev :=
  s.modRings t (fun x => { x with legOn := putBit x.legOn leg true, legDue := putBit x.legDue leg false
                                  blank := NMap.set 0 x.blank leg (s.mono + 160 * s.rd Reg.HM_LEG_CFG_BLANK t + 1) })

/-- LEG_ENABLE (R198): leg L at L × 100 ns after HEAT_EN is set or the rail closes. A tripped leg stays open. -/
def doLegEnable (t leg : Nat) (s : Dev) : Dev :=
  let x := s.ringTile t
  if !x.legDue.testBit leg || s.flag Reg.HM_STATUS_RAIL_OPEN t || (s.rail (quadOf t)).rising then s
  else
    let s := s.reachLocal (x.legFrom + 1600 * leg)
    if (s.rd Reg.HM_LEG_STATE t).testBit leg then s.modRings t (fun x => { x with legDue := putBit x.legDue leg false })
    else s.legClose t leg

/-- LEG_HINT (R199): counted, and the injected trigger of the tile's leadline unit raised. -/
def doLegHint (t leg : Nat) (s : Dev) : Dev :=
  if (s.ringTile t).hintSpent.testBit leg then s
  else
    let s := (s.bump Reg.HM_LEG_HINTS t 1).modRings t (fun x => { x with hintSpent := putBit x.hintSpent leg true })
    if s.flag Reg.LL_CTRL_INJ_HINT t then s.modUnit t (fun x => { x with raised := x.raised ++ [⟨3, 0, leg⟩] }) else s

/-- HINT_COMPARATOR_REARM (R199). -/
def doHintComparatorRearm (t leg : Nat) (s : Dev) : Dev := s.modRings t (fun x => { x with hintSpent := putBit x.hintSpent leg false })

/-- The quadrant heater rail opens (R201): every leg is off, the four tiles go out of service, and their rings are in OFF.
The clearing of HEAT_EN is left out for a trip whose window still runs; one whose window has passed keeps it. -/
def Dev.railOpens (s : Dev) (q : Nat) : Dev :=
  let past := (s.rail q).trips.filter (fun e => decide (e.1 + 16000 < s.mono))
  let s := s.modRail q (fun r => { r with openAt := s.mono, rising := false, trips := [] })
  let s := past.foldl (fun s e => (s.modRings e.2.1 (fun x => { x with clearDue := true })).report Ev.HM_LEG_TRIP e.2.1) s
  let s := (quadTiles q).foldl (fun s t =>
    let s := s.modRings t (fun x => { x with legOn := 0, legDue := 0, blank := [] })
    let s := (s.wr Reg.HM_STATUS_RAIL_OPEN t 1).bump Reg.HM_QUAD_TRIPS t 1
    let s := s.report Ev.HM_QUAD_TRIP t
    let s := if (s.ringTile t).on then s.heatStop t else s
    s.outOfService t) s
  s.updQuad

/-- A leg trips (R199 to R201). A trip that follows an open rail has no further effect. -/
def Dev.trip (s : Dev) (t leg : Nat) (hard inBlank : Bool) : Dev :=
  let q := quadOf t
  let x := s.ringTile t
  if s.flag Reg.HM_STATUS_RAIL_OPEN t || !x.legOn.testBit leg then s
  else
    let second := (s.rail q).trips.any (fun e => decide (s.mono ≤ e.1 + 16000))
    let s := s.modRings t (fun x => { x with legOn := putBit x.legOn leg false, blank := NMap.set 0 x.blank leg 0 })
    let s := (s.wr Reg.HM_LEG_STATE t (putBit (s.rd Reg.HM_LEG_STATE t) leg true)).bump Reg.HM_LEG_TRIPS t 1
    let s := ((s.wr Reg.HM_LEG_LAST_LEG t leg).wr Reg.HM_LEG_LAST_HARD t (b2n hard)).wr Reg.HM_LEG_LAST_IN_BLANK t (b2n inBlank)
    let s := (s.wr Reg.HM_LEG_LAST_QUAD t (b2n second)).wr Reg.HM_LEG_LAST_TIME t (s.now / 16)
    if second then s.railOpens q
    else (s.modRail q (fun r => { r with trips := r.trips ++ [(s.mono, t, leg)] })).outOfService t

/-- LEG_TRIP: the hard comparator always acts, the soft one outside blanking. -/
def doLegTrip (t leg : Nat) (hard : Bool) (s : Dev) : Dev :=
  let inBlank := decide (s.mono < NMap.get 0 (s.ringTile t).blank leg - 1)
  if hard || !inBlank then s.trip t leg hard inBlank else s

/-- LEG_BLANKING_END: `above` says the current is still above soft. -/
def doLegBlankingEnd (t leg : Nat) (above : Bool) (s : Dev) : Dev :=
  let e := NMap.get 0 (s.ringTile t).blank leg
  if e = 0 then s
  else
    let s := (s.reachLocal (e - 1)).modRings t (fun x => { x with blank := NMap.set 0 x.blank leg 0 })
    if above then s.trip t leg false false else s

/-- LEG_TRIP_WINDOW_END (R200): no second trip came, so HEAT_EN clears at the next frame event and HM_LEG_TRIP is reported. -/
def doLegTripWindowEnd (t : Nat) (s : Dev) : Dev :=
  let q := quadOf t
  match (s.rail q).trips.find? (fun e => e.2.1 = t) with
  | none => s
  | some e =>
    let s := (s.reachLocal (e.1 + 16000)).modRail q (fun r => { r with trips := r.trips.erase e })
    ((s.modRings t (fun x => { x with clearDue := true })).outOfService t).report Ev.HM_LEG_TRIP t

/-- HM_LEG_REARM (R200, R203). -/
def doHmLegRearm (src : Src) (t : Nat) (mask : Word) (s : Dev) : Dev :=
  s.own0 src (fun s =>
    let isOpen := s.flag Reg.HM_STATUS_RAIL_OPEN t
    let legs := bitsSet 64 (mask.toNat &&& s.rd Reg.HM_LEG_STATE t)
    if mask = 0 then s
    else if !isOpen && s.flag Reg.HM_CTRL_HEAT_EN t then s.report Ev.HM_REARM_REFUSED t
    else
      let s := legs.foldl (fun s l => s.wr Reg.HM_LEG_STATE t (putBit (s.rd Reg.HM_LEG_STATE t) l false)) s
      if isOpen then s else legs.foldl (fun s l => s.legClose t l) s)

/-- CLOSE (R202): honoured in HM4k only. -/
def doClose (src : Src) (t : Nat) (s : Dev) : Dev :=
  s.own0 src (fun s =>
    let q := quadOf t
    if t % 4 ≠ 0 then s
    else if s.flag Reg.HM_STATUS_RAIL_OPEN t && (quadTiles q).all (fun u => s.rd Reg.HM_LEG_STATE u == 0) &&
        decide ((s.rail q).openAt + 160000000 ≤ s.mono) && decide (s.rd Reg.HM_RAIL_RAIL_MV t < 100) then
      let s := s.modRail q (fun r => { r with rising := true })
      ((quadTiles q).foldl (fun s u => s.wr Reg.HM_STATUS_RAIL_OPEN u 0) s).updQuad
    else s.report Ev.HM_RAIL_REFUSED t)

/-- RAIL_RISEN (R202): the legs are enabled in turn, and R158 runs from step 1 for each tile whose HEAT_EN is set. -/
def doRailRisen (q : Nat) (s : Dev) : Dev :=
  if !(s.rail q).rising then s
  else
    let s := s.modRail q (fun r => { r with rising := false })
    (quadTiles q).foldl (fun s t =>
      let s := s.modRings t (fun x => { x with legDue := 2 ^ 64 - 1, legFrom := s.mono })
      if s.flag Reg.HM_CTRL_HEAT_EN t then s.heatStart t else s) s

/-- LEG_HINT. -/
def execLegHint (t leg : Nat) (s : State) : Host.Outcome State Fault Refusal := s.on (doLegHint t leg)
/-- LEG_TRIP. -/
def execLegTrip (t leg : Nat) (hard : Bool) (s : State) : Host.Outcome State Fault Refusal := s.on (doLegTrip t leg hard)
/-- LEG_BLANKING_END. -/
def execLegBlankingEnd (t leg : Nat) (above : Bool) (s : State) : Host.Outcome State Fault Refusal := s.on (doLegBlankingEnd t leg above)
/-- LEG_TRIP_WINDOW_END. -/
def execLegTripWindowEnd (t : Nat) (s : State) : Host.Outcome State Fault Refusal := s.on (doLegTripWindowEnd t)
/-- HM_LEG_REARM. -/
def execHmLegRearm (src : Src) (t : Nat) (mask : Word) (s : State) : Host.Outcome State Fault Refusal := s.on (fun d => d.at src .HM (doHmLegRearm src t mask))
/-- CLOSE. -/
def execClose (src : Src) (t : Nat) (s : State) : Host.Outcome State Fault Refusal := s.on (fun d => d.at src .HM (doClose src t))
/-- RAIL_RISEN. -/
def execRailRisen (q : Nat) (s : State) : Host.Outcome State Fault Refusal := s.on (doRailRisen q)
/-- LEG_ENABLE. -/
def execLegEnable (t leg : Nat) (s : State) : Host.Outcome State Fault Refusal := s.on (doLegEnable t leg)
/-- HINT_COMPARATOR_REARM. -/
def execHintComparatorRearm (t leg : Nat) (s : State) : Host.Outcome State Fault Refusal := s.on (doHintComparatorRearm t leg)

end Sys2Proof.Machine
end

