-- ==== Sys2Proof/Machine/Leadline.lean ====
section
/-! DEFINITION. The leadline units: regular passes, injections, housekeeping, the REFIN monitor and system calibration
(R185 to R197). -/
namespace Sys2Proof.Machine

/-! Channels and readings (R186, R188, R195) -/

/-- CLASS of a list entry. -/
def entryClass (e : Nat) : Nat := e % 16
/-- FIRST of a list entry. -/
def entryFirst (e : Nat) : Nat := nbits e 21 4
/-- Indices of a list entry. -/
def entryCount (e : Nat) : Nat := nbits e 31 22 + 1

/-- Whether a channel exists in unit `u`, with `ring` the reference of class ALARM. -/
def channelOk (u ring cls idx : Nat) : Bool :=
  match cls with
  | 0 => decide (u < 16) && decide (idx / 2 ^ 17 < 2) && decide (idx / 256 % 512 ≤ 271) && decide (idx % 256 ≤ 147)
  | 1 => decide (u < 16) && decide (idx < 64)
  | 2 => if u < 16 then decide (idx < 4) else decide (idx < 11)
  | 3 => decide (idx < 32)
  | 4 => decide (idx < 3)
  | 5 => decide (u < 16) && (idx == 0 || (neighbours (ringAt (ring / 2 ^ 17) (ring / 256 % 512) (ring % 256))).any (fun n => n.1 == idx))
  | _ => false

/-- The indices an entry converts, ascending (R188). -/
def entryIndices (u ring e : Nat) : List Nat :=
  ((List.range (entryCount e)).map (fun i => entryFirst e + i)).filter (channelOk u ring (entryClass e))

/-- Offset and gain in force of converter `c` of unit `u`: the factory ones until a system calibration (R195). -/
def Dev.coef (s : Dev) (u c : Nat) : Int × Nat :=
  let v := NMap.get (0, 0) (s.unit u).coefs c
  if v.2 = 0 then ((Config.factoryCoef u c).1, (Config.factoryCoef u c).2 % 65536) else v

/-- The corrected reading, in 1/16 LSB (R195). -/
def Dev.reading (s : Dev) (u c : Nat) (code : Int) : Int :=
  let k := s.coef u c
  rhe ((code * 16 - k.1) * (k.2 : Int)) 32768

/-! The result ring (R193) -/

/-- Records of a unit's ring. -/
def Dev.ringRecords (s : Dev) (u : Nat) : Nat := 2 ^ s.rd Reg.LL_RING_SIZE_LOG2 u / 8

/-- Free records: one stays unused, so that a full ring differs from an empty one. -/
def Dev.ringRoom (s : Dev) (u : Nat) : Nat :=
  let n := s.ringRecords u
  n - 1 - (s.rd Reg.LL_RING_HEAD_RECORD u + n - s.rd Reg.LL_RING_TAIL_RECORD u % n) % n

/-- Write one record at LL_RING_HEAD. -/
def Dev.ringPut (s : Dev) (u v : Nat) : Dev :=
  let h := s.rd Reg.LL_RING_HEAD_RECORD u
  ((s.storeFor 0 (s.rd Reg.LL_RING_BASE_BASE u * 4096 + h * 8) (leBytes 8 v)).1).wr Reg.LL_RING_HEAD_RECORD u ((h + 1) % s.ringRecords u)

/-- The records of a completed entry. -/
def Dev.entryRecords (s : Dev) (u e : Nat) : List Nat :=
  let x := s.unit u
  let pass := (Config.firstPass u + x.passes - 1) % 2 ^ 21
  ((entryIndices u 0 e).zip x.buf).map (fun (i, v) =>
    ofSigned 20 v + entryClass e * 2 ^ 20 + i * 2 ^ 24 + b2n x.repeating * 2 ^ 42 + pass * 2 ^ 43)

/-! The regular sequence (R188 to R194) -/

/-- REG_STATE of unit `u`. -/
def Dev.regState (s : Dev) (u : Nat) : Nat := s.rd Reg.LL_STATUS_REG_STATE u

/-- Entry `e` is the one in progress or due, as CUR_ENTRY shows in its 12 bits. -/
def Dev.atEntry (s : Dev) (u e : Nat) : Dev := (s.modUnit u (fun x => { x with cur := e })).wr Reg.LL_STATUS_CUR_ENTRY u e

/-- The pass ends or stops. -/
def Dev.passOver (s : Dev) (u : Nat) : Dev :=
  ((s.modUnit u (fun x => { x with sets := 0, buf := [], repeating := false, startDue := false })).atEntry u 0).wr
    Reg.LL_STATUS_REG_STATE u (s.rd Reg.LL_CTRL_REG_EN u)

/-- Go on at the entry due: the pass-start record and the entry's records each wait for room (R193); an entry with no
channel completes at once. The fuel is the number of entries left, and one more. -/
def Dev.runEntries : Nat → Nat → Dev → Dev
  | 0, u, s => (s.bump Reg.LL_PASSES u 1).passOver u
  | n + 1, u, s =>
    let cur := (s.unit u).cur
    let x := s.unit u
    let wait := if s.regState u = 3 then s else (s.wr Reg.LL_STATUS_REG_STATE u 3).report Ev.LL_RING_FULL u
    if x.startDue ∧ s.ringRoom u < 1 then wait
    else
      let s := if x.startDue then
          (s.ringPut u (0xF * 2 ^ 20 + s.rd Reg.LL_PASS_TIME u / 16 % 2 ^ 40 * 2 ^ 24)).modUnit u (fun x => { x with startDue := false })
        else s
      if s.rd Reg.LL_LEN_REG_LEN u ≤ cur then (s.bump Reg.LL_PASSES u 1).passOver u
      else
        let ch := entryIndices u 0 (NMap.get 0 (s.unit u).list cur)
        if ch.isEmpty then Dev.runEntries n u (s.atEntry u (cur + 1))
        else if s.ringRoom u < ch.length then (if s.regState u = 3 then s else (s.wr Reg.LL_STATUS_REG_STATE u 3).report Ev.LL_RING_FULL u)
        else (s.wr Reg.LL_STATUS_REG_STATE u 2).modUnit u (fun x => { x with sets := 0, buf := [], repeating := false })

/-- Go on at the entry due. -/
def Dev.goOn (s : Dev) (u : Nat) : Dev := Dev.runEntries (s.rd Reg.LL_LEN_REG_LEN u + 1) u s

/-- A regular trigger (R190): a pass starts, or it is counted as missed. -/
def Dev.regTrigger (s : Dev) (u : Nat) : Dev :=
  if s.flag Reg.LL_STATUS_SYSCAL_BUSY u || decide (2 ≤ s.regState u) then (s.bump Reg.LL_TRIG_MISSED u 1).report Ev.LL_TRIG_MISSED u
  else
    let s := (s.wr Reg.LL_PASS_TIME u s.now).atEntry u 0
    let s := s.modUnit u (fun x => { x with startDue := true, passes := x.passes + 1 })
    s.goOn u

/-- LL_REGULAR_TRIGGER: a FRAME or TIMER trigger of an enabled sequence arrives at its time (R189): a FRAME trigger that a frame
event has raised, or the next one of the timer. -/
def doLlRegularTrigger (u trig : Nat) (s : Dev) : Dev :=
  if !s.flag Reg.LL_CTRL_REG_EN u || trig != s.rd Reg.LL_CTRL_REG_TRIG u then s
  else if trig = 0 then
    match (s.unit u).regAt with
    | [] => s
    | a :: r => ((s.reachLocal a).modUnit u (fun x => { x with regAt := r })).regTrigger u
  else if trig = 1 then
    let a := (s.unit u).timerAt + 160 * s.rd Reg.LL_TIMER_PERIOD u
    ((s.reachLocal a).modUnit u (fun x => { x with timerAt := a })).regTrigger u
  else s

/-- REG_GO: the software trigger (R189). -/
def doRegGo (src : Src) (u : Nat) (s : Dev) : Dev :=
  s.own0 src (fun s => if s.flag Reg.LL_CTRL_REG_EN u && s.rd Reg.LL_CTRL_REG_TRIG u == 2 then s.regTrigger u else s)

/-- REG_EN is written (R194): cleared in a pass, the pass stops at the end of its entry, or at the boundary where it waits. The
timer runs from the moment REG_EN is set. -/
def Dev.regEn (s : Dev) (u : Nat) (on : Bool) : Dev :=
  let s := (s.wr Reg.LL_CTRL_REG_EN u (b2n on)).modUnit u (fun x => { x with regAt := [], timerAt := s.mono })
  if on then (if s.regState u = 0 then s.wr Reg.LL_STATUS_REG_STATE u 1 else s)
  else if s.regState u = 2 then s else s.passOver u

/-- LL_RING_TAIL (R193): room is freed, and a waiting pass goes on. -/
def doLlRingTail (src : Src) (u v : Nat) (s : Dev) : Dev :=
  s.own0 src (fun s =>
    let s := s.wr Reg.LL_RING_TAIL_RECORD u v
    if s.regState u = 3 && !s.flag Reg.LL_STATUS_SYSCAL_BUSY u then s.goOn u else s)

/-! Injections (R189, R191) -/

/-- An injection starts: the entry in progress is abandoned, and the injected list of this moment runs. -/
def Dev.injStart (s : Dev) (u : Nat) (g : InjTrig) : Dev :=
  let s := ((s.wr Reg.LL_INJ_CAUSE_CAUSE u g.cause).wr Reg.LL_INJ_CAUSE_TIME u (s.now / 16)).wr Reg.LL_STATUS_INJ_ACTIVE u 1
  let s := if g.cause = 2 then s.wr Reg.LL_INJ_CAUSE_RING u g.ring else if g.cause = 3 then s.wr Reg.LL_INJ_CAUSE_LEG u g.leg else s
  let ring := s.rd Reg.LL_INJ_CAUSE_RING u
  let x := s.unit u
  let run := (List.range (s.rd Reg.LL_LEN_INJ_LEN u)).map (fun k => k * 2 ^ 32 + NMap.get 0 x.injList k)
  let run := run.filter (fun e => !(entryIndices u ring (e % 2 ^ 32)).isEmpty)
  let again := x.repeating || s.regState u == 2
  s.modUnit u (fun x => { x with inj := some g, injRun := run, injSets := 0, injBuf := [], sets := 0, buf := [], repeating := again })

/-- An injected trigger reaches the sequencer (R191, R194). -/
def Dev.injTrigger (s : Dev) (u : Nat) (g : InjTrig) : Dev :=
  let missed := (s.bump Reg.LL_INJ_MISSED u 1).report Ev.LL_INJ_MISSED u
  if s.flag Reg.LL_STATUS_SYSCAL_BUSY u then missed
  else if (s.unit u).inj.isNone ∧ (s.unit u).injPending.isNone then s.injStart u g
  else if (s.unit u).injPending.isNone then
    (s.modUnit u (fun x => { x with injPending := some g })).wr Reg.LL_STATUS_INJ_PENDING u 1
  else missed

/-- INJ_GO: the software trigger, always enabled. -/
def doInjGo (src : Src) (u : Nat) (s : Dev) : Dev := s.own0 src (fun s => s.injTrigger u ⟨0, 0, 0⟩)

/-- INJECTION_START: a lock alarm or leg hint that was raised arrives, or a frame trigger at its time where INJ_FRAME enables
it. -/
def doInjectionStart (u cause ring leg : Nat) (s : Dev) : Dev :=
  let g : InjTrig := ⟨cause, if cause = 2 then ring else 0, if cause = 3 then leg else 0⟩
  if cause = 1 then
    match (s.unit u).injAt with
    | [] => s
    | a :: r =>
      let s := (s.reachLocal a).modUnit u (fun x => { x with injAt := r })
      if s.flag Reg.LL_CTRL_INJ_FRAME u then s.injTrigger u g else s
  else if (s.unit u).raised.contains g then
    (s.modUnit u (fun x => { x with raised := x.raised.erase g })).injTrigger u g
  else s

/-- The pending injection starts (R191), unless a housekeeping group is due, which runs before it (R187). -/
def Dev.injNext (s : Dev) (u : Nat) : Dev :=
  let x := s.unit u
  match x.injPending with
  | none => s
  | some g =>
    if x.inj.isSome || x.groupDue then s
    else ((s.modUnit u (fun x => { x with injPending := none })).wr Reg.LL_STATUS_INJ_PENDING u 0).injStart u g

/-- INJECTION_END (R191): every injected set is converted. -/
def doInjectionEnd (u : Nat) (s : Dev) : Dev :=
  let x := s.unit u
  if x.inj.isNone || decide (x.injSets < x.injRun.length) || s.flag Reg.LL_STATUS_SYSCAL_BUSY u then s
  else
    let s := s.bump Reg.LL_INJECTIONS u 1
    let s := s.modUnit u (fun x => { x with results := x.injBuf, inj := none, injRun := [], injSets := 0, injBuf := [] })
    let s := s.wr Reg.LL_STATUS_INJ_ACTIVE u 0
    if x.injPending.isSome then s.injNext u
    else if s.regState u = 2 && x.repeating then s.bump Reg.LL_REPEATS u 1 else s

/-- LL_SET_CONVERTED (R188, R193): one set of the injection in progress, else of the entry in progress, is converted. -/
def doLlSetConverted (u : Nat) (codes : List Int) (s : Dev) : Dev :=
  let x := s.unit u
  if s.flag Reg.LL_STATUS_SYSCAL_BUSY u then s
  else if x.inj.isSome then
    if x.injRun.length ≤ x.injSets then s
    else
      let w := x.injRun.getD x.injSets 0
      let e := w % 2 ^ 32
      let ring := s.rd Reg.LL_INJ_CAUSE_RING u
      let got := (List.range (min (entryCount e) 8)).foldl (fun m j =>
        let i := entryFirst e + j
        if channelOk u ring (entryClass e) i then
          NMap.set ({} : InjRes) m (w / 2 ^ 32 * 8 + j) { value := s.reading u j (codes.getD j 0), cls := entryClass e, index := i, valid := true }
        else m) x.injBuf
      (s.bump Reg.LL_SETS u 1).modUnit u (fun x => { x with injSets := x.injSets + 1, injBuf := got })
  else if s.regState u ≠ 2 ∨ x.injPending.isSome then s
  else
    let cur := x.cur
    let e := NMap.get 0 x.list cur
    let n := (entryIndices u 0 e).length
    let k := min 8 (n - 8 * x.sets)
    let vs := (List.range k).map (fun j => s.reading u j (codes.getD j 0))
    let s := (s.bump Reg.LL_SETS u 1).modUnit u (fun x => { x with sets := x.sets + 1, buf := x.buf ++ vs })
    if 8 * (x.sets + 1) < n then s
    else
      let s := (s.entryRecords u e).foldl (fun s v => s.ringPut u v) s
      if !s.flag Reg.LL_CTRL_REG_EN u then s.passOver u else (s.atEntry u (cur + 1)).goOn u

/-! Housekeeping and REFIN (R187, R197) -/

/-- A temperature reading in 1/16 °C times 1,024, from its value in 1/16 LSB: T = (V − 0.5 V) ÷ 5 mV/°C at REFIN = 1.25 V. -/
def temp1024 (v : Int) : Int := v * 125 - 1600 * 1024

/-- QTEMP once all four units of a quadrant have completed a group: the mean of 128 sensors, rounded half to even. -/
def Dev.quadTemp (s : Dev) (q : Nat) : Dev :=
  if (quadTiles q).all (fun t => (s.unit t).tempsNew) then
    let v := ((quadTiles q).map (fun t => (s.unit t).temps)).sum
    let s := (quadTiles q).foldl (fun s t => s.modUnit t (fun x => { x with tempsNew := false })) s
    (quadTiles q).foldl (fun s t => (s.wrS Reg.HM_TEMP_QTEMP t (rhe v (1024 * 128))).updCal t) s
  else s

/-- REFIN leaves tolerance or is back in it (R197, R169, R372). -/
def Dev.refinMoves (s : Dev) (ok : Bool) : Dev :=
  let s := (s.wr Reg.LL_REFIN_IN_TOL 16 (b2n ok)).degrade .refin (!ok)
  if ok then s.calRefinBack else (s.report Ev.LL_REFIN_RANGE 16).calRefinLost

/-- The REFIN monitor (R197): `mv` is REFIN in 0.1 mV, `ratio` the ratio of REFIN to the internal reference in 0.001% of its
factory value. -/
def Dev.refinMonitor (s : Dev) (mv ratio : Nat) : Dev :=
  let ref := (s.unit 16).ratioRef
  let d : Int := (ratio : Int) - (ref : Int)
  let ok := decide (12375 ≤ mv) && decide (mv ≤ 12625) && decide (d.natAbs * 1000 ≤ ref)
  let s := (s.wr Reg.LL_REFIN_REFIN 16 mv).wrS Reg.LL_REFIN_DEV 16 (est (d * 100000) ref)
  let x := s.unit 16
  let i := if ok then x.inside + 1 else 0
  let o := if ok then 0 else x.outside + 1
  let s := s.modUnit 16 (fun x => { x with inside := min i 10, outside := min o 2, ratio := ratio })
  if s.refinOk then (if o = 2 then s.refinMoves false else s) else if i = 10 then s.refinMoves true else s

/-- LL_HOUSEKEEPING (R187): the raw codes of 32 TEMP and 8 RAIL channels; for LL16 also REFIN in 0.1 mV and the ratio. A group
runs where one is due, after the injection in progress and before a pending one. -/
def doLlHousekeeping (u : Nat) (readings : List Int) (s : Dev) : Dev :=
  if s.flag Reg.LL_STATUS_SYSCAL_BUSY u || !(s.unit u).groupDue || (s.unit u).inj.isSome then s
  else
    let v := fun i => s.reading u (i % 8) (readings.getD i 0)
    let temps := (List.range 32).map (fun i => temp1024 (v i))
    let mv := fun i => (est (v (32 + i) * 625) 8192).toNat
    let s := (s.bump Reg.LL_SETS u 5).modUnit u (fun x => { x with groupDue := false })
    let s := s.injNext u
    if u < 16 then
      let hot := est (maxOf (temps.getD 0 0) temps) 1024
      let s := (((s.wrS Reg.HM_TEMP_HOTSPOT u hot).wr Reg.HM_RAIL_RAIL_MV u (mv 0)).showPower u).modUnit u (fun x => { x with temps := temps.sum, tempsNew := true })
      s.quadTemp (quadOf u)
    else
      let s := (List.range 8).foldl (fun s i => s.wr Reg.PM_RAIL_MV i (mv i)) s
      s.refinMonitor (readings.getD 40 0).toNat (readings.getD 41 0).toNat

/-! System calibration (R196) -/

/-- A step fails. -/
def Dev.syscalFail (s : Dev) (state : Nat) : Dev :=
  ((s.wr Reg.LL_SYSCAL_STATE 16 state).wr Reg.LL_SYSCAL_LAST_FAIL 16 1).report Ev.LL_SYSCAL_FAIL 16

/-- SYSCAL_BUSY of every unit. -/
def Dev.syscalBusy (s : Dev) (on : Bool) : Dev := (List.range 17).foldl (fun s u => s.wr Reg.LL_STATUS_SYSCAL_BUSY u (b2n on)) s

/-- Whether REFIN lies in its coarse window. -/
def Dev.refinCoarse (s : Dev) : Bool := decide (12375 ≤ s.rd Reg.LL_REFIN_REFIN 16) && decide (s.rd Reg.LL_REFIN_REFIN 16 ≤ 12625)

/-- A sampling step begins. -/
def Dev.syscalBegin (s : Dev) (step : Nat) : Dev :=
  ({ s with syscal := { s.syscal with step := step } } : Dev).syscalBusy true |>.wr Reg.LL_SYSCAL_STATE 16 3

/-- SYSCAL_ZERO. A step written while one runs is ignored. -/
def doSyscalZero (src : Src) (s : Dev) : Dev :=
  s.own0 src (fun s =>
    if s.syscal.step ≠ 0 then s
    else if !s.refinCoarse then s.syscalFail 0
    else s.syscalBegin 1)

/-- SYSCAL_FULL. -/
def doSyscalFull (src : Src) (s : Dev) : Dev :=
  s.own0 src (fun s =>
    let st := s.rd Reg.LL_SYSCAL_STATE 16
    if s.syscal.step ≠ 0 then s
    else if (st ≠ 1 ∧ st ≠ 2) ∨ !s.refinCoarse then s.syscalFail st
    else s.syscalBegin 2)

/-- SYSCAL_COMMIT: the trial coefficients come into force and into the calibration store, and the REFIN ratio is recorded. -/
def doSyscalCommit (src : Src) (s : Dev) : Dev :=
  s.own0 src (fun s =>
    let st := s.rd Reg.LL_SYSCAL_STATE 16
    if s.syscal.step ≠ 0 then s
    else if st ≠ 2 ∨ !s.refinCoarse then s.syscalFail st
    else
      let k := s.syscal
      let all := (List.range 136).map (fun i => (i, k.offsets.getD i 0, k.gains.getD i 0))
      let s := all.foldl (fun s (i, o, g) => s.modUnit (i / 8) (fun x => { x with coefs := NMap.set (0, 0) x.coefs (i % 8) (o, g) })) s
      let s := s.modUnit 16 (fun x => { x with ratioRef := x.ratio })
      let s := (s.wrS Reg.LL_REFIN_DEV 16 0).wr Reg.LL_SYSCAL_STATE 16 0
      let s := s.wr Reg.LL_SYSCAL_LAST_FAIL 16 0
      { s with boot := { s.boot with cal := { s.boot.cal with coefs := some (all.map (fun (i, o, g) => (i, (o, g)))), ratio := (s.unit 16).ratioRef } } })

/-- Passes that wait for ring room look again when a calibration step has ended (R193, R196). -/
def Dev.waitsGoOn (s : Dev) : Dev := (List.range 17).foldl (fun s u => if s.regState u = 3 then s.goOn u else s) s

/-- SYSCAL_STEP_DONE: each converter's 4,096 samples, given by their sum, form the trial coefficients, or the step fails. -/
def doSyscalStepDone (means : List Int) (s : Dev) : Dev :=
  let k := s.syscal
  let sums := (List.range 136).map (fun i => means.getD i 0)
  let off := fun (s : Dev) => (({ s with syscal := { s.syscal with step := 0 } } : Dev).syscalBusy false).waitsGoOn
  if k.step = 1 then
    let s := off s
    if sums.all (fun m => decide (m.natAbs ≤ 20 * 4096)) then
      ({ s with syscal := { s.syscal with offsets := sums.map (fun m => rhe m 256) } } : Dev).wr Reg.LL_SYSCAL_STATE 16 1 |>.wr Reg.LL_SYSCAL_LAST_FAIL 16 0
    else s.syscalFail 0
  else if k.step = 2 then
    let s := off s
    let diffs : List Int := (sums.zip k.offsets).map (fun (m, o) => m - o * 256)
    if diffs.all (fun d => decide ((d - 1536 * 4096).natAbs ≤ 31 * 4096)) then
      ({ s with syscal := { s.syscal with gains := diffs.map (fun d => (rhe (1536 * 32768 * 4096) d.toNat).toNat) } } : Dev).wr Reg.LL_SYSCAL_STATE 16 2
        |>.wr Reg.LL_SYSCAL_LAST_FAIL 16 0
    else s.syscalFail 1
  else s

/-- LL_REGULAR_TRIGGER. -/
def execLlRegularTrigger (u trig : Nat) (s : State) : Host.Outcome State Fault Refusal := s.on (doLlRegularTrigger u trig)
/-- REG_GO. -/
def execRegGo (src : Src) (u : Nat) (s : State) : Host.Outcome State Fault Refusal := s.on (fun d => d.at src .LL (doRegGo src u))
/-- INJ_GO. -/
def execInjGo (src : Src) (u : Nat) (s : State) : Host.Outcome State Fault Refusal := s.on (fun d => d.at src .LL (doInjGo src u))
/-- LL_SET_CONVERTED. -/
def execLlSetConverted (u : Nat) (codes : List Int) (s : State) : Host.Outcome State Fault Refusal := s.on (doLlSetConverted u codes)
/-- LL_RING_TAIL. -/
def execLlRingTail (src : Src) (u v : Nat) (s : State) : Host.Outcome State Fault Refusal := s.on (fun d => d.at src .LL (doLlRingTail src u v))
/-- INJECTION_START. -/
def execInjectionStart (u cause ring leg : Nat) (s : State) : Host.Outcome State Fault Refusal := s.on (doInjectionStart u cause ring leg)
/-- INJECTION_END. -/
def execInjectionEnd (u : Nat) (s : State) : Host.Outcome State Fault Refusal := s.on (doInjectionEnd u)
/-- LL_HOUSEKEEPING. -/
def execLlHousekeeping (u : Nat) (readings : List Int) (s : State) : Host.Outcome State Fault Refusal := s.on (doLlHousekeeping u readings)
/-- SYSCAL_ZERO. -/
def execSyscalZero (src : Src) (s : State) : Host.Outcome State Fault Refusal := s.on (fun d => d.at src .LL (doSyscalZero src))
/-- SYSCAL_FULL. -/
def execSyscalFull (src : Src) (s : State) : Host.Outcome State Fault Refusal := s.on (fun d => d.at src .LL (doSyscalFull src))
/-- SYSCAL_COMMIT. -/
def execSyscalCommit (src : Src) (s : State) : Host.Outcome State Fault Refusal := s.on (fun d => d.at src .LL (doSyscalCommit src))
/-- SYSCAL_STEP_DONE. -/
def execSyscalStepDone (means : List Int) (s : State) : Host.Outcome State Fault Refusal := s.on (doSyscalStepDone means)

end Sys2Proof.Machine
end

