-- ==== Sys2Proof/Machine/Queues.lean ====
section
/-! DEFINITION. The queue manager: doorbells, queue operations, arbitration and fetch, dispatch, completions, and resuming
after a failed WAIT (spec/11, R302). -/
namespace Sys2Proof.Machine

/-- STATE of a queue (R256): 0 DISABLED, 1 ACTIVE, 2 WAITING, 3 DRAINING, 4 ERROR. -/
def Dev.qState (s : Dev) (q : Nat) : Nat := s.rd Reg.QM_Q_STATE_STATE q

/-- Set STATE of a queue. -/
def Dev.setQState (s : Dev) (q v : Nat) : Dev := s.wr Reg.QM_Q_STATE_STATE q v

/-- Entries of a queue's submission ring. -/
def Dev.sqSize (s : Dev) (q : Nat) : Nat := 2 ^ s.rd Reg.QM_Q_CFG_SQ_LOG2 q
/-- Entries of a queue's completion ring. -/
def Dev.cqSize (s : Dev) (q : Nat) : Nat := 2 ^ s.rd Reg.QM_Q_CFG_CQ_LOG2 q

/-- Address of entry `i` of a ring: in module memory, or in host memory (R252, R278). -/
def ringAddr (loc base i : Nat) : Nat := (if loc = 1 then hostBase else 0) + base * 4096 + i * 64

/-- Read an entry of a submission ring; none where the access is refused. -/
def Dev.ringRead (s : Dev) (q i : Nat) : Option (List Byte) :=
  let a := ringAddr (s.rd Reg.QM_Q_SQ_LOC q) (s.rd Reg.QM_Q_SQ_BASE q) i
  match s.probeRead (s.qPart q) a 64 with
  | .ok => some (s.bytes a 64)
  | _ => none

/-- The command an entry of queue `q` holds (R259). -/
def cmdOf (q : Nat) (b : List Byte) : Cmd :=
  let w := fun i => BitVec.ofNat 64 (leNat ((b.drop (8 * i)).take 8))
  { queue := q, w0 := w 0, w1 := w 1, w2 := w 2, w3 := w 3, w4 := w 4, w5 := w 5, w6 := w 6, w7 := w 7 }

/-- Change a queue's slots; INFLIGHT shows their number (R272, R278). -/
def Dev.setSlots (s : Dev) (q : Nat) (f : List Slot → List Slot) : Dev :=
  let s := s.modQueue q (fun x => { x with slots := f x.slots })
  s.wr Reg.QM_Q_STATE_INFLIGHT q (s.queue q).slots.length

/-- A DRAINING queue with nothing left becomes DISABLED (R256). -/
def Dev.drained (s : Dev) (q : Nat) : Dev :=
  if s.qState q = 3 ∧ (s.queue q).slots = [] ∧ (s.queue q).done = [] then s.setQState q 0 else s

/-- A ring access failed (R256, R279): the queue enters ERROR; one that drains stays DRAINING. -/
def Dev.ringFault (s : Dev) (q : Nat) : Dev :=
  let s := if s.qState q = 3 then s else s.setQState q 4
  s.reportP Ev.QM_RING_FAULT 0 (s.qPart q) q 0

/-- Whether a WAIT holds the head of queue `q`: one in progress, or one that failed (R292, R301). -/
def Dev.headHeld (s : Dev) (q : Nat) : Bool :=
  (s.queue q).failedHead || s.waits.any (fun w => decide (w.agent = .queue q) && match w.obj with | .patch _ _ => false | _ => true)

/-! Doorbells (R257, R258) -/

/-- Whether SQ_TAIL `t` is good: inside the ring, and no more than 2^n − 1 entries outstanding (R254, R258). -/
def Dev.tailOk (s : Dev) (q t : Nat) : Bool :=
  let n := s.sqSize q
  let x := s.queue q
  decide (t < n) && decide ((x.sqTail + n - x.repHead) % n + (t + n - x.sqTail) % n ≤ n - 1)

/-- Whether CQ_HEAD `h` lies between the last value and the last written entry (R258). -/
def Dev.headOk (s : Dev) (q h : Nat) : Bool :=
  let n := s.cqSize q
  let x := s.queue q
  decide (h < n) && decide ((h + n - x.cqHead) % n ≤ (s.rd Reg.QM_Q_STATE_CQ_TAIL q + n - x.cqHead) % n)

/-- DOORBELL_WRITE (R256 to R258). -/
def doDoorbellWrite (src : Src) (q : Nat) (w : Word) (s : Dev) : Dev :=
  if s.qState q = 0 ∨ s.qState q = 3 ∨ s.qState q = 4 then s.bump Reg.QM_DB_IGNORED 0 1
  else if srcPart src ≠ s.qPart q then
    (s.bump Reg.QM_DB_FOREIGN 0 1).reportP Ev.QM_DB_FOREIGN 0 (s.qPart q) q 0
  else
    let t := bits w 15 0
    let h := bits w 31 16
    let sv := bit w 32
    let cv := bit w 33
    let okT := !sv || s.tailOk q t
    let okH := !cv || s.headOk q h
    let s := if sv && okT then s.modQueue q (fun x => { x with sqTail := t }) else s
    let s := if cv && okH then s.modQueue q (fun x => { x with cqHead := h }) else s
    if okT && okH then s else (s.setQState q 4).reportP Ev.QM_DB_BAD 0 (s.qPart q) q 0

/-! Queue operations (R253, R256) -/

/-- MSI-X vectors of a partition's function (R416). -/
def vectorCount (p : Nat) : Nat := if p = 0 then 2048 else 64

/-- QUEUE_CREATE (R253, R395, R416). -/
def doQueueCreate (src : Src) (q : Nat) (s : Dev) : Dev :=
  if srcPart src ≠ 0 then s.foreign (srcPart src)
  else if s.qState q ≠ 0 then s
  else if s.rd Reg.QM_Q_CFG_SQ_LOG2 q < 4 ∨ s.rd Reg.QM_Q_CFG_CQ_LOG2 q < 4 ∨ s.rd Reg.QM_Q_CFG_WEIGHT q = 0 then s
  else if vectorCount (s.qPart q) ≤ s.rd Reg.QM_Q_CFG_VECTOR q then s.reportP Ev.QM_BAD_FORMAT 0 (s.qPart q) q 0
  else if s.rd Reg.QM_Q_CFG_DRV_MAJOR q ≠ s.rd Reg.BT_FW_SFW_IF_VER 0 / 256 then
    s.reportP Ev.QM_DRV_MISMATCH 0 (s.qPart q) q 0
  else
    let tested := s.sfwDrv.contains (s.rd Reg.QM_Q_CFG_DRV_MAJOR q * 256 + s.rd Reg.QM_Q_CFG_DRV_MINOR q)
    let s := { s with queues := NMap.set {} s.queues q {} }
    let s := ((((s.setQState q 1).wr Reg.QM_Q_STATE_UNTESTED q (b2n !tested)).wr Reg.QM_Q_STATE_SQ_HEAD q 0).wr
      Reg.QM_Q_STATE_CQ_TAIL q 0).wr Reg.QM_Q_STATE_CQ_PHASE q 1
    let s := s.wr Reg.QM_Q_STATE_INFLIGHT q 0
    if tested then s else s.reportP Ev.QM_UNTESTED_DRV 0 (s.qPart q) q 0

/-- Delete queue `q` (R256). A waiting head and every undispatched entry are discarded; a silent deletion, of a scrub,
discards undispatched entries in any case and writes no entry from then on. -/
def Dev.deleteQueue (s : Dev) (q : Nat) (silent : Bool) : Dev :=
  let held := s.headHeld q
  let ws := s.waits.filter (fun w => decide (w.agent = .queue q) && match w.obj with | .patch _ _ => false | _ => true)
  let s := ws.foldl (fun s w => s.dropWait w) s
  let gone := fun (x : Slot) => ws.any (fun w => w.c = some x.c) && x.dispatched && !x.finished
  let s := s.modQueue q (fun x => { x with failedHead := false, silent := x.silent || silent
                                           done := if silent then [] else x.done })
  let s := s.setSlots q (fun l => l.filter (fun x =>
    !(gone x) && !((held || silent) && !x.dispatched) && !(silent && x.finished)))
  (s.setQState q 3).drained q

/-- QUEUE_DELETE (R256). -/
def doQueueDelete (src : Src) (q : Nat) (s : Dev) : Dev :=
  if srcPart src ≠ 0 then s.foreign (srcPart src)
  else if s.qState q = 0 ∨ s.qState q = 3 then s
  else s.deleteQueue q false

/-- RESET_ERROR (R256): back to ACTIVE, or to WAITING where a WAIT still holds the head. -/
def doResetError (src : Src) (q : Nat) (s : Dev) : Dev :=
  if srcPart src ≠ 0 then s.foreign (srcPart src)
  else if s.qState q ≠ 4 then s
  else s.setQState q (if s.headHeld q then 2 else 1)

/-! Arbitration and fetch (R254, R269, R272) -/

/-- Queues in a state. -/
def Dev.queuesIn (s : Dev) (st : Nat) : List Nat :=
  ((NMap.get [] s.regs Reg.QM_Q_STATE_STATE.id).filter (fun e => e.2 == st)).map (fun e => e.1)

/-- Command slots held, by urgent queues or by the others. -/
def Dev.slotsOf (s : Dev) (urgent : Bool) : Nat :=
  ((s.queues.filter (fun e => (s.qClass e.1 == 0) == urgent)).map (fun e => e.2.slots.length)).sum

/-- Whether a queue has an entry that can be fetched (R254, R272). -/
def Dev.fetchable (s : Dev) (q : Nat) : Bool :=
  let used := s.slotsOf true + s.slotsOf false
  s.rd Reg.QM_Q_STATE_SQ_HEAD q != (s.queue q).sqTail && decide ((s.queue q).slots.length < 64) && decide (used < 4096) &&
  (s.qClass q == 0 || decide (s.slotsOf false < 3840))

/-- The first of `qs` above `last`, or the lowest (round-robin). -/
def nextAfter (last : Nat) (qs : List Nat) : Nat := (qs.find? (fun q => decide (last < q))).getD (qs.headD 0)

/-- The weight of a class (R269). -/
def Dev.classWeight (s : Dev) (c : Nat) : Nat :=
  if c = 1 then s.rd Reg.QM_ARB_W_INT 0 else if c = 2 then s.rd Reg.QM_ARB_W_BULK 0 else s.rd Reg.QM_ARB_W_BG 0

/-- What class `c` may still fetch in this round. -/
def Arb.credit (a : Arb) (c : Nat) : Nat := if c = 1 then a.creditInt else if c = 2 then a.creditBulk else a.creditBg

/-- Set a class's credit. -/
def Arb.setCredit (a : Arb) (c v : Nat) : Arb :=
  if c = 1 then { a with creditInt := v } else if c = 2 then { a with creditBulk := v } else { a with creditBg := v }

/-- The queue a class served last. -/
def Arb.lastOf (a : Arb) (c : Nat) : Nat :=
  if c = 0 then a.lastUrgent else if c = 1 then a.lastInt else if c = 2 then a.lastBulk else a.lastBg

/-- Set the queue a class served last. -/
def Arb.setLast (a : Arb) (c v : Nat) : Arb :=
  if c = 0 then { a with lastUrgent := v } else if c = 1 then { a with lastInt := v }
  else if c = 2 then { a with lastBulk := v } else { a with lastBg := v }

/-- Choose a class by weighted round-robin among the classes with something to fetch (R269 step 2). -/
def Dev.chooseClass (s : Dev) (live : List Nat) : Dev × Nat :=
  let w := live.filter (fun c => s.classWeight c != 0)
  match w with
  | [] => (s, live.headD 3)
  | _ =>
    let a := if w.all (fun c => s.arb.credit c == 0) then w.foldl (fun a c => a.setCredit c (s.classWeight c)) s.arb else s.arb
    let c := ([a.turn, a.turn % 3 + 1, (a.turn + 1) % 3 + 1].find? (fun c => w.contains c && a.credit c != 0)).getD (w.headD 3)
    let a := a.setCredit c (a.credit c - 1)
    ({ s with arb := { a with turn := if a.credit c = 0 then c % 3 + 1 else c } }, c)

/-- Choose a queue by deficit round-robin (R269 step 3). -/
def Dev.chooseQueue (s : Dev) (c : Nat) (qs : List Nat) : Dev × Nat :=
  let last := s.arb.lastOf c
  let stay := qs.contains last && (s.queue last).deficit != 0
  let q := if stay then last else nextAfter last qs
  let s := if stay then s else s.modQueue q (fun x => { x with deficit := s.rd Reg.QM_Q_CFG_WEIGHT q })
  let s := s.modQueue q (fun x => { x with deficit := x.deficit - 1 })
  ({ s with arb := s.arb.setLast c q }, q)

/-- The queue the manager serves next (R269); none where nothing can be fetched. -/
def Dev.arbitrate (s : Dev) : Dev × Option Nat :=
  let qs := (s.queuesIn 1).filter s.fetchable
  let urg := qs.filter (fun q => s.qClass q == 0)
  match urg, qs with
  | _ :: _, _ =>
    let q := nextAfter s.arb.lastUrgent urg
    ({ s with arb := { s.arb with lastUrgent := q } }, some q)
  | [], [] => (s, none)
  | [], _ =>
    let (s, c) := s.chooseClass ([1, 2, 3].filter (fun c => qs.any (fun q => s.qClass q == c)))
    let (s, q) := s.chooseQueue c (qs.filter (fun q => s.qClass q == c))
    (s, some q)

/-- QUEUE_FETCH (R254, R269): one entry of the chosen queue takes a command slot. -/
def doQueueFetch (ringOk : Bool) (s : Dev) : Dev :=
  if !s.flag Reg.QM_CTRL_EN 0 then s
  else
    match s.arbitrate with
    | (s, none) => s
    | (s, some q) =>
      let i := s.rd Reg.QM_Q_STATE_SQ_HEAD q
      match (if ringOk then s.ringRead q i else none) with
      | none => s.ringFault q
      | some b =>
        let slot : Slot := { c := cmdOf q b, index := i, dispatched := false, finished := false, start := 0 }
        let s := s.setSlots q (fun l => l ++ [slot])
        (s.wr Reg.QM_Q_STATE_SQ_HEAD q ((i + 1) % s.sqSize q)).bump Reg.QM_FETCHED 0 1

/-! Dispatch (R265) -/

/-- The opcodes of R260. -/
def opcodeOk (o : Nat) : Bool :=
  decide (o ≤ 2) || (decide (0x10 ≤ o) && decide (o ≤ 0x15)) || (decide (0x20 ≤ o) && decide (o ≤ 0x2B)) ||
  o == 0x30 || o == 0x31 || o == 0x38 || (decide (0x40 ≤ o) && decide (o ≤ 0x43))

/-! Units at a transport bound (R272, R273) -/

/-- The unit that executes a command, as far as the transport's bounds concern it (R260): the context store, a DMA engine, the
queue manager itself for a SIGNAL, the transport. -/
inductive SendUnit where
  | cs | dma (engine : Nat) | qm | gt
  deriving DecidableEq, Repr

/-- The unit of a command that may send messages. -/
def sendUnit (c : Cmd) : Option SendUnit :=
  if 0x20 ≤ c.opcode ∧ c.opcode ≤ 0x2B then some .cs
  else if c.opcode = 0x30 ∨ c.opcode = 0x31 then some (.dma c.engine)
  else if c.opcode = 0x02 ∧ bit c.w2 16 then some .qm
  else if 0x40 ≤ c.opcode ∧ c.opcode ≤ 0x43 then some .gt
  else none

/-- The peer a command names, if it names one: the FNID of a REMOTE command, a remote signal or COIL_MIRROR. -/
def sendPeer (c : Cmd) : Option Nat :=
  if 0x40 ≤ c.opcode ∧ c.opcode ≤ 0x43 then some (bits c.w2 63 48)
  else if c.opcode = 0x02 then some (bits c.w2 47 32)
  else if c.opcode = 0x30 ∨ c.opcode = 0x31 then (if bit c.w6 17 && bit c.w6 16 then some (bits c.w6 47 32) else none)
  else if c.opcode = 0x29 then some (bits c.w3 15 0)
  else none

/-- The unit that sends a message. -/
def Msg.unit (m : Msg) : SendUnit :=
  match m.fin with
  | .cmd c => (sendUnit c).getD .gt
  | .dma _ e => .dma e
  | .coil _ => .cs
  | _ => .gt

/-- Packets to peer `n` not yet acknowledged (GT_PEER.OUTSTANDING). -/
def Dev.outstanding (s : Dev) (n : Nat) : Nat := s.fabric.out.countP (fun o => o.peer = n)

/-- A message with packets to send while the module's bound is reached. -/
def Dev.boundMsg (s : Dev) (m : Msg) : Bool := decide (m.next < m.total) && decide (65536 ≤ s.fabric.out.length)

/-- A message with packets to send while its peer's bound is reached. -/
def Dev.boundPeer (s : Dev) (m : Msg) : Bool := decide (m.next < m.total) && decide (1024 ≤ s.outstanding m.peer)

/-- Whether the unit of a command waits at a transport bound, and so takes no command, or none for that peer (R272, R273). -/
def Dev.unitWaits (s : Dev) (c : Cmd) : Bool :=
  match sendUnit c with
  | none => false
  | some u => s.fabric.msgs.any (fun m => m.unit == u && (s.boundMsg m || (s.boundPeer m && sendPeer c == some m.peer)))

/-- Mark the first undispatched slot dispatched. -/
def dispatchFirst (now : Nat) : List Slot → List Slot
  | [] => []
  | x :: r => if x.dispatched then x :: dispatchFirst now r else { x with dispatched := true, start := now } :: r

/-- COMMAND_DISPATCH (R265): in ring order, nothing behind a WAIT that is in progress or has failed, whatever the queue's state
(R292, R301), a FENCE only after every earlier command completed, nothing to a unit at a transport bound (R273); an unlisted
opcode is refused (R260), and so is a command of a halted firmware (R437). -/
def doCommandDispatch (q : Nat) (s : Dev) : Dev :=
  let l := (s.queue q).slots
  match l.find? (fun x => !x.dispatched) with
  | none => s
  | some x =>
    let before := l.takeWhile (fun y => y.dispatched)
    if s.qState q = 0 ∨ s.qState q = 2 ∨ s.headHeld q ∨ before.any (fun y => y.c.opcode == 1 && !y.finished) ∨
        (x.c.fence ∧ before.any (fun y => !y.finished)) ∨ s.unitWaits x.c then s
    else
      let p := s.qPart q
      let s := s.setSlots q (dispatchFirst s.now)
      let s := if s.flag Reg.TR_PCTRL_CMD_EN p then
        s.trace p 1 (Agent.queue q).code 0 x.c.layer x.c.op
          [q + x.c.id * 2 ^ 16 + x.c.opcode * 2 ^ 32 + x.c.tile * 2 ^ 40 + x.c.engine * 2 ^ 44] else s
      if !opcodeOk x.c.opcode then s.failEv x.c Ev.QM_BAD_OPCODE 0 q 0
      else if s.fwHalted.any (fun f => Config.fwDepends f x.c.opcode) then s.failSt x.c Ev.CC_FW_HALT.status q 0
      else s

/-! Completions (R255, R267) -/

/-- The 64 bytes of a completion entry (R267). -/
def Dev.completionBytes (s : Dev) (q : Nat) (d : Done) (start : Nat) : List Byte :=
  leBytes 8 (d.c.id + s.rd Reg.QM_Q_STATE_SQ_HEAD q * 2 ^ 16 + d.status % 2 ^ 16 * 2 ^ 32 + s.rd Reg.QM_Q_STATE_CQ_PHASE q * 2 ^ 48
    + b2n d.executed * 2 ^ 49) ++ leBytes 8 (d.c.layer + d.c.op * 2 ^ 32) ++ leBytes 8 d.r0 ++ leBytes 8 d.r1 ++
  leBytes 8 start ++ leBytes 8 d.time ++ leBytes 8 d.d0 ++ leBytes 8 d.d1

/-- Remove the first finished slot of a command. -/
def freeSlot (c : Cmd) : List Slot → List Slot
  | [] => []
  | x :: r => if x.c = c ∧ x.finished then r else x :: freeSlot c r

/-- Raise a queue's interrupt: the vector of its partition's function (R255, R416). -/
def Dev.queueIrq (s : Dev) (q : Nat) : Dev :=
  let s := s.modQueue q (fun x => { x with uncovered := 0 })
  { s with msix := s.msix ++ [(s.qPart q, s.rd Reg.QM_Q_CFG_VECTOR q)] }

/-- When the interrupt of a queue's uncovered entries is due (R255), by the COAL_US the last of them was written under (R253). -/
def Queue.irqDue (x : Queue) : Nat := x.uncoveredSince + x.coalUs * 16000

/-- Coalescing after one more entry is visible (R255, R259). The entry takes the values of QM_Q_IRQ in force; an interrupt already
due under older ones is raised first (R253). -/
def Dev.coalesce (s : Dev) (q : Nat) (now : Bool) : Dev :=
  let x := s.queue q
  let s := if 0 < x.uncovered ∧ x.irqDue ≤ s.mono then s.queueIrq q else s
  let n := s.rd Reg.QM_Q_IRQ_COAL_COUNT q
  let u := (s.queue q).uncovered + 1
  if now || n == 0 || decide (n ≤ u) then s.queueIrq q
  else s.modQueue q (fun x => { x with uncovered := u, uncoveredSince := if u = 1 then s.mono else x.uncoveredSince
                                       coalUs := s.rd Reg.QM_Q_IRQ_COAL_US q })

/-- A finished command leaves its slot: QM_COMPLETED and its CMD_END trace record (R255, R449). -/
def Dev.retire (s : Dev) (q : Nat) (d : Done) : Dev :=
  let w := NMap.get {} s.work d.c.key
  let s := { s with work := s.work.erase d.c.key }
  let s := s.modQueue q (fun x => { x with done := x.done.drop 1 })
  let s := (s.setSlots q (freeSlot d.c)).bump Reg.QM_COMPLETED 0 1
  let p := s.qPart q
  let s := if s.flag Reg.TR_PCTRL_CMD_EN p then
    s.trace p 2 (Agent.queue q).code d.status d.c.layer d.c.op
      [w.bitMacs, w.steps, w.bytes, w.replays % 2 ^ 32 + w.flags * 2 ^ 32, q + d.c.id * 2 ^ 16] else s
  s.drained q

/-- COMMAND_COMPLETION (R255): the oldest finished command of the queue. A full ring holds it; a success of a QUIET command,
and any command of a scrubbed queue, leaves no entry. -/
def doCommandCompletion (q : Nat) (ringOk : Bool) (s : Dev) : Dev :=
  let x := s.queue q
  match x.done with
  | [] => s
  | d :: _ =>
    let n := s.cqSize q
    let t := s.rd Reg.QM_Q_STATE_CQ_TAIL q
    if x.silent ∨ (d.c.quiet ∧ d.status = 0) then s.retire q d
    else if (t + 1) % n = x.cqHead then s
    else
      let start := ((x.slots.find? (fun y => decide (y.c = d.c) && y.finished)).map (fun y => y.start)).getD 0
      let a := ringAddr (s.rd Reg.QM_Q_CQ_LOC q) (s.rd Reg.QM_Q_CQ_BASE q) t
      if !ringOk ∨ s.probeWrite (s.qPart q) a 64 ≠ .ok then s.ringFault q
      else
        let s := (s.putBytes a (s.completionBytes q d start)).clearBad a 64
        let s := s.wr Reg.QM_Q_STATE_CQ_TAIL q ((t + 1) % n)
        let s := if t + 1 = n then s.wr Reg.QM_Q_STATE_CQ_PHASE q (1 - s.rd Reg.QM_Q_STATE_CQ_PHASE q) else s
        let s := s.modQueue q (fun x => { x with repHead := s.rd Reg.QM_Q_STATE_SQ_HEAD q })
        (s.coalesce q d.c.irqBit).retire q d

/-- COALESCING_TIMEOUT (R255): COAL_US after the first entry not yet covered. -/
def doCoalescingTimeout (q : Nat) (s : Dev) : Dev :=
  let x := s.queue q
  if x.uncovered = 0 then s
  else (s.reachLocal x.irqDue).queueIrq q

/-- NOP (R260). -/
def doNop (c : Cmd) (s : Dev) : Dev := s.finishOk c

/-! After a failed WAIT (R302) -/

/-- CONTINUE: the head advances past the failed WAIT. -/
def doContinue (src : Src) (q : Nat) (s : Dev) : Dev :=
  if srcPart src ≠ 0 then s.foreign (srcPart src)
  else if !(s.queue q).failedHead then s
  else
    let s := s.modQueue q (fun x => { x with failedHead := false })
    if s.qState q = 2 then s.setQState q 1 else s

/-- Complete the entries from the head to SQ_TAIL with SY_FLUSHED, reading each for its CMD_ID. -/
def Dev.flushRing (q : Nat) : Nat → Dev → Dev
  | 0, s => s
  | n + 1, s =>
    let i := s.rd Reg.QM_Q_STATE_SQ_HEAD q
    if i = (s.queue q).sqTail then s
    else match s.ringRead q i with
    | none => s.ringFault q
    | some b =>
      Dev.flushRing q n (((s.wr Reg.QM_Q_STATE_SQ_HEAD q ((i + 1) % s.sqSize q)).bump Reg.QM_FETCHED 0 1).failSt (cmdOf q b) stFlushed 0 0)

/-- FLUSH: every undispatched entry up to SQ_TAIL completes with SY_FLUSHED. -/
def doFlush (src : Src) (q : Nat) (s : Dev) : Dev :=
  if srcPart src ≠ 0 then s.foreign (srcPart src)
  else if !(s.queue q).failedHead then s
  else
    let s := s.modQueue q (fun x => { x with failedHead := false })
    let s := if s.qState q = 2 then s.setQState q 1 else s
    let s := ((s.queue q).slots.filter (fun x => !x.dispatched)).foldl (fun s x => s.failSt x.c stFlushed 0 0) s
    Dev.flushRing q (s.sqSize q) s

/-- DOORBELL_WRITE. -/
def execDoorbellWrite (src : Src) (q : Nat) (w : Word) (s : State) : Host.Outcome State Fault Refusal := s.on (doDoorbellWrite src q w)
/-- QUEUE_CREATE. -/
def execQueueCreate (src : Src) (q : Nat) (s : State) : Host.Outcome State Fault Refusal := s.on (fun d => d.at src .QM (doQueueCreate src q))
/-- QUEUE_DELETE. -/
def execQueueDelete (src : Src) (q : Nat) (s : State) : Host.Outcome State Fault Refusal := s.on (fun d => d.at src .QM (doQueueDelete src q))
/-- RESET_ERROR. -/
def execResetError (src : Src) (q : Nat) (s : State) : Host.Outcome State Fault Refusal := s.on (fun d => d.at src .QM (doResetError src q))
/-- QUEUE_FETCH. -/
def execQueueFetch (ringOk : Bool) (s : State) : Host.Outcome State Fault Refusal := s.on (doQueueFetch ringOk)
/-- COMMAND_DISPATCH. -/
def execCommandDispatch (q : Nat) (s : State) : Host.Outcome State Fault Refusal := s.on (doCommandDispatch q)
/-- COMMAND_COMPLETION. -/
def execCommandCompletion (q : Nat) (ringOk : Bool) (s : State) : Host.Outcome State Fault Refusal := s.on (doCommandCompletion q ringOk)
/-- COALESCING_TIMEOUT. -/
def execCoalescingTimeout (q : Nat) (s : State) : Host.Outcome State Fault Refusal := s.on (doCoalescingTimeout q)
/-- NOP. -/
def execNop (c : Cmd) (s : State) : Host.Outcome State Fault Refusal := s.on (doNop c)
/-- CONTINUE. -/
def execContinue (src : Src) (q : Nat) (s : State) : Host.Outcome State Fault Refusal := s.on (fun d => d.at src .SY (doContinue src q))
/-- FLUSH. -/
def execFlush (src : Src) (q : Nat) (s : State) : Host.Outcome State Fault Refusal := s.on (fun d => d.at src .SY (doFlush src q))

end Sys2Proof.Machine
end

