-- ==== Sys2Proof/Machine/Partitions.lean ====
section
/-! DEFINITION. Partitions: creation, fabric keys, granules, engines, tile handovers and mailboxes (spec/14). -/
namespace Sys2Proof.Machine

/-- Partition `p`'s own record. -/
def Dev.part (s : Dev) (p : Nat) : Part := NMap.get {} s.parts p

/-- Change partition `p`'s record. -/
def Dev.modPart (s : Dev) (p : Nat) (f : Part → Part) : Dev := { s with parts := NMap.set {} s.parts p (f (s.part p)) }

/-- Whether partition `p` is ACTIVE (R349). -/
def Dev.partActive (s : Dev) (p : Nat) : Bool := (s.rd Reg.PA_STATUS 0).testBit p

/-- Set STATE of a partition; PA_STATUS shows the ACTIVE ones. -/
def Dev.setPartState (s : Dev) (p v : Nat) : Dev :=
  (s.wr Reg.PA_PART_CFG_STATE p v).wr Reg.PA_STATUS 0 (putBit (s.rd Reg.PA_STATUS 0) p (v == 1))

/-- PARTITION_CREATE (R349, R356): a FREE partition becomes ACTIVE, with a memory-key pair of its own. -/
def doPartitionCreate (src : Src) (p : Nat) (s : Dev) : Dev :=
  if srcPart src ≠ 0 then s.foreign (srcPart src)
  else if p = 0 ∨ s.rd Reg.PA_PART_CFG_STATE p ≠ 0 then s
  else
    let s := s.fresh
    (s.setPartState p 1).modPart p (fun _ => { memKey := s.seed })

/-! Fabric keys (R357) -/

/-- FKEY_WORD_WRITE: a word of a key; writing word 3 installs the key. Partition 0's own key is a setting (R384, R400), so
installing it waits for the journal. -/
def doFkeyWordWrite (src : Src) (p keyId word : Nat) (d : Word) (s : Dev) : Dev :=
  if srcPart src ≠ 0 then s.foreign (srcPart src)
  else if !s.partActive p then s
  else
    let s := s.modPart p (fun x => { x with words := NMap.set 0 x.words (keyId * 4 + word) d.toNat })
    if word ≠ 3 then s
    else
      let k : FKey := { keyId := keyId, words := (List.range 4).map (fun i => NMap.get 0 (s.part p).words (keyId * 4 + i)) }
      let s := s.modPart p (fun x => { x with newest := some k })
      if p = 0 then { s with boot := { s.boot with pendingKey := true } } else s

/-- PREVIOUS_KEY_DROP: 100 ms after the switch. -/
def doPreviousKeyDrop (p : Nat) (s : Dev) : Dev :=
  match (s.part p).prev with
  | none => s
  | some _ =>
    let s := s.reachLocal ((s.part p).switched + 100 * 16000000)
    ((s.modPart p (fun x => { x with prev := none })).wr Reg.PA_PART_CFG_KEY_PREV p 0).wr Reg.PA_PART_CFG_PREV_VALID p 0

/-! Granules (R352, R355) -/

/-- Granules of the module. -/
def granuleCount : Nat := 24832

/-- Whether granule `g` meets the coil table's copies (R225, R249). -/
def Dev.holdsTable (s : Dev) (g : Nat) : Bool :=
  let (a, n) := granuleRange g
  let len := 2 ^ s.rd Reg.CS_TABLE_LOG2_SLOTS 0 * 128
  s.flag Reg.CS_STATUS_READY 0 && [s.rd Reg.CS_TABLE0_BASE 0, s.rd Reg.CS_TABLE1_BASE 0].any (fun b =>
    decide (b * 65536 < a + n) && decide (a < b * 65536 + len))

/-- Whether granule `g` meets a save area (R360). -/
def Dev.holdsSave (s : Dev) (g : Nat) : Bool :=
  let (a, n) := granuleRange g
  (NMap.get [] s.regs Reg.PA_SAVE_BASE_BASE.id).any (fun e =>
    decide (e.2 * 4096 < a + n) && decide (a < e.2 * 4096 + 16 * 0x402000))

/-- Start zeroing granule `g` for a new owner. -/
def Dev.startZeroing (s : Dev) (g owner : Nat) : Dev :=
  ({ s with zeroing := NMap.set 0 s.zeroing g (owner + 1) }).wr Reg.PA_MEM_OWNER_ASSIGNED g 0

/-- GRANULE_REASSIGN (R355, R439). -/
def doGranuleReassign (src : Src) (g owner : Nat) (s : Dev) : Dev :=
  if srcPart src ≠ 0 then s.foreign (srcPart src)
  else if granuleCount ≤ g then s
  else if !s.flag Reg.PA_MEM_OWNER_ASSIGNED g ∨ s.rd Reg.PA_MEM_OWNER_OWNER g = owner then s
  else if s.coil.chunks.any (fun e => e.1 == g) ∨ s.holdsTable g ∨ s.holdsSave g ∨ s.deviceLost (granuleRange g).1 then s
  else s.startZeroing g owner

/-- The full/empty words of a range become empty and their waiters leave it (R304): an engine that waited there is woken, its
access now one to memory it does not own. -/
def Dev.scrubFe (s : Dev) (a n : Nat) : Dev :=
  let gone := fun (x : Nat) => decide (a ≤ x) && decide (x < a + n)
  let ws := s.waits.filter (fun w => match w.obj with | .word x => gone x | _ => false)
  let s := { s with feWords := NMap.clearRange s.feWords a (a + n)
                    feParked := s.feParked.filter (fun x => !gone x.addr)
                    waits := s.waits.filter (fun w => match w.obj with | .word x => !gone x | _ => true) }.unpark
  ws.foldl (fun s w => match agentEngine w.agent with
    | some e => { s.wakeEngine e with served := s.served ++ [{ engine := e, addr := (match w.obj with | .word x => x | _ => 0), data := 0 }] }
    | none => s) s

/-- GRANULE_ZEROED (R355): the granule holds zeros and its new owner takes it. -/
def doGranuleZeroed (g : Nat) (s : Dev) : Dev :=
  match NMap.get 0 s.zeroing g with
  | 0 => s
  | o + 1 =>
    let (a, n) := granuleRange g
    let s := ((s.zero a n).clearBad a n).scrubFe a n
    let s := { s with zeroing := s.zeroing.erase g }
    (s.wr Reg.PA_MEM_OWNER_OWNER g o).wr Reg.PA_MEM_OWNER_ASSIGNED g 1

/-! Engines (R304, R352) -/

/-- A waiting queue head is discarded with its knot, without a completion entry (R304, R256): its slot is freed and its queue
goes on. -/
def Dev.discardWait (s : Dev) (w : Wait) : Dev :=
  let s := s.dropWait w
  match w.c with
  | some c =>
    let s := s.setSlots c.queue (fun l => l.eraseP (fun x => decide (x.c = c) && x.dispatched && !x.finished))
    (if s.qState c.queue = 2 then s.setQState c.queue 1 else s).drained c.queue
  | none => s

/-- Every knot of engine `e` returns to 0, without EXTERNAL, HIGH or waiters (R304). -/
def Dev.scrubKnots (s : Dev) (e : Nat) : Dev :=
  let mine := fun (k : Nat) => k / 64 == e
  let s := (s.waits.filter (fun w => match w.obj with | .knot k => mine k | _ => false)).foldl (fun s w => s.discardWait w) s
  { s with knots := s.knots.filter (fun x => !mine x.1) }

/-- Engine `e` passes to partition `p`: its knots are scrubbed and, a vector engine, its local memory zeroed. -/
def Dev.engineTo (s : Dev) (e p : Nat) : Dev :=
  let s := s.scrubKnots e
  let s := if e < 64 then (s.zero (veBase e) 0x200000).scrubFe (veBase e) 0x200000 else s
  { s with engOwner := NMap.set 0 s.engOwner e p }

/-- ENGINE_OWNER_CHANGE (R352, R369): takes effect when the engine has no routine running. -/
def doEngineOwnerChange (e : Nat) (s : Dev) : Dev :=
  let p := s.rd Reg.PA_ENG_OWNER_OWNER e
  if s.engineOwner e = p ∨ (s.eng e).cmd.isSome then s else (s.engineTo e p).nextLaunch e

/-! Tile handovers (R361 to R363) -/

/-- The counters of a tile's PT, QS and AC pages. -/
def tileCounters : List Field :=
  Reg.table.filter (fun f => (f.blk == .PT || f.blk == .QS || f.blk == .AC) && f.acc == .rwh && f.id != Reg.QS_SENT_DATA.id)

/-- A handover point of tile `t` (R361). -/
def Dev.handoverPoint (s : Dev) (t : Nat) : Bool :=
  let x := s.tile t
  x.runs.isEmpty && x.packedRows.isEmpty && x.rows.isEmpty && x.air.isEmpty && x.replayQ.isEmpty && x.recompQ.isEmpty && x.adding.isEmpty &&
  x.replayWait.isEmpty && x.recompWait.isEmpty

/-- Whether a change of OWNER or of mode waits for the handover point (R362). -/
def Dev.cfgPending (s : Dev) (t : Nat) : Bool :=
  (s.tile t).shared != s.flag Reg.PA_TILE_CFG_SHARED t ||
  (!s.flag Reg.PA_TILE_CFG_SHARED t && s.holder t != s.rd Reg.PA_TILE_CFG_OWNER t)

/-- The permitted partitions with a tile command waiting, but for the holder. -/
def Dev.waitingParts (s : Dev) (t : Nat) : List Nat :=
  (List.range 64).filter (fun p => p != s.holder t && s.inShare t p && s.saveOk p && (s.tile t).waiting.any (fun w => s.cPart w.2 == p))

/-- The quantum of the holder has ended (R361). -/
def Dev.quantumOver (s : Dev) (t : Nat) : Bool :=
  decide ((s.tile t).tookAt + s.rd Reg.PA_TILE_CFG_QUANTUM_US t * 16000 ≤ s.mono)

/-- An URGENT tile command of another permitted partition waits on a preemptible tile (R361). -/
def Dev.urgentWaits (s : Dev) (t : Nat) : Bool :=
  (s.rd Reg.QM_TILE_PREEMPT_BITS 0).testBit t &&
  (s.tile t).waiting.any (fun w => s.cPart w.2 != s.holder t && s.inShare t (s.cPart w.2) && s.qClass w.2.queue == 0)

/-- Whether tile `t` passes to another partition at a handover point (R361 to R363). -/
def Dev.handoverDue (s : Dev) (t : Nat) : Bool :=
  s.cfgPending t ||
  ((s.tile t).shared && (!s.inShare t (s.holder t) && (s.rd Reg.PA_TILE_SHARE t != 0 || s.rd Reg.PA_PART_CFG_STATE (s.holder t) == 2) ||
    (!(s.waitingParts t).isEmpty && ((s.tile t).released || s.quantumOver t || s.urgentWaits t))))

/-- The first of `ps` above `h`, else the lowest: ascending order starting after the holder. With none, partition 0. -/
def nextHolder (h : Nat) (ps : List Nat) : Nat := (ps.find? (fun p => decide (h < p))).getD (ps.headD 0)

/-- Save the outgoing partition's state (R362 step 2). -/
def Dev.saveTile (s : Dev) (t p : Nat) : Dev :=
  let x := s.tile t
  let desc := x.desc.filter (fun e => dValid e.2)
  let r : Saved := { part := p, desc := desc, static := x.static, entryClips := x.entryClips, entryElems := x.entryElems
                     widen := x.widen, alog := x.alog, alogHead := s.rd Reg.QS_STATUS_ALOG_HEAD t
                     alogWrapped := s.rd Reg.QS_STATUS_ALOG_WRAPPED t
                     counts := tileCounters.map (fun f => (f.id, s.rd f t)) }
  let s := s.modTile t (fun x => { x with saved := x.saved.filter (fun y => y.part ≠ p) ++ [r] })
  desc.foldl (fun s e =>
    let a := s.saveBase p t + dBase e.2 * 1024
    (s.copy (acBase t + dBase e.2 * 1024) a (dBlocks e.2 * 1024)).clearBad a (dBlocks e.2 * 1024)) s

/-- Breakpoints of core `n` are cleared and it runs (R453). -/
def Dev.coreRuns (s : Dev) (n : Nat) : Dev :=
  let s := { s with brk := NMap.set 0 s.brk n 0 }.setBranchRec n {}
  let s := (List.range 8).foldl (fun s b =>
    ((s.wr Reg.CC_BP_ADDR (win n b) 0).wr Reg.CC_BP_EN (win n b) 0).wr Reg.CC_BP_KIND (win n b) 0) s
  s.wr Reg.CC_STATUS_STATE n 0

/-- Scrub tile `t` (R362 step 3): banks at level 0 under the map in force, scales 0, images and queues flushed, accumulators
and row buffers zero, patches closed, static entries, log, counters and the supervision window cleared, bank holds ended. The
persistence count of R475 ends with the window (log entry 63). -/
def Dev.scrubTile (s : Dev) (t : Nat) : Dev :=
  let s := s.coreRuns t
  let s := s.modTile t (fun x => { x with
    bankA := { map := x.map }, bankB := { map := x.map }, images := [], loads := [], held := [], holds := [], released := false
    epochActive := false, bursts := 0, lateFlags := 0, colsumSeen := [], colsumTries := [], winChecked := 0, winFlagged := 0
    persist := 0, entryClips := [], entryElems := [], widen := [], alog := [], static := [], desc := [], ppbBase := 0
    ppbBlocks := 0, ppbActive := false, adding := [], rowbuf := false })
  let s := s.zero (acBase t) 0x400000
  let s := if s.flag Reg.QS_ROWBUF_EN t then s.zero (stagingBase + s.rd Reg.QS_ROWBUF_BASE t * 4096) 0x80000 else s
  let s := tileCounters.foldl (fun s f => s.wr f t 0) s
  let s := [Reg.PT_SUP_WIN_CHECKED, Reg.PT_SUP_WIN_FLAGGED, Reg.QS_STATUS_ALOG_HEAD, Reg.QS_STATUS_ALOG_WRAPPED,
            Reg.PT_STATUS_I8_PAIR].foldl (fun s f => s.wr f t 0) s
  s.showIdle t

/-- Restore the incoming partition's saved state (R362 step 4). -/
def Dev.restoreTile (s : Dev) (t p : Nat) : Dev :=
  match s.savedOf t p with
  | none => s
  | some r =>
    let s := s.modTile t (fun x => { x with desc := r.desc, static := r.static, entryClips := r.entryClips
                                            entryElems := r.entryElems, widen := r.widen, alog := r.alog
                                            saved := x.saved.filter (fun y => y.part ≠ p) })
    let s := r.desc.foldl (fun s e => s.copy (s.saveBase p t + dBase e.2 * 1024) (acBase t + dBase e.2 * 1024) (dBlocks e.2 * 1024)) s
    let s := tileCounters.foldl (fun s f => s.wr f t (((r.counts.find? (fun c => c.1 = f.id)).map (fun c => c.2)).getD 0)) s
    (s.wr Reg.QS_STATUS_ALOG_HEAD t r.alogHead).wr Reg.QS_STATUS_ALOG_WRAPPED t r.alogWrapped

/-- The tile commands that wait meet the gate again. -/
def Dev.regate (s : Dev) (t : Nat) : Dev :=
  let ws := (s.tile t).waiting
  let s := s.modTile t (fun x => { x with waiting := [] })
  ws.foldl (fun s w => if w.1 = 0x15 then doSpliceLocal w.2 s else s.tileCommand w.1 w.2) s

/-- The scrub of a handover, in which an IN_SERVICE tile reads SCRUB (R362, R478). -/
def Dev.scrubStep (s : Dev) (t : Nat) : Dev :=
  if s.svc t = 2 then ((s.wr Reg.PT_STATUS_SVC t 6).scrubTile t).wr Reg.PT_STATUS_SVC t 2 else s.scrubTile t

/-- The steps of a handover to partition `p` (R362). `save` says whether the outgoing partition's state is kept. -/
def Dev.handover (s : Dev) (t p : Nat) (save shared : Bool) : Dev :=
  let out := s.holder t
  let s := if save then s.saveTile t out else s
  let back := (s.tile t).held.map (fun h => (h.op, h.c))
  let s := s.dropPatchWaits (back.map (fun b => b.2))
  let s := s.scrubStep t
  let s := if shared && !save && !s.inShare t out then s.modTile t (fun x => { x with saved := x.saved.filter (fun y => y.part ≠ out) }) else s
  let s := if s.saveOk p then s.restoreTile t p else s
  let s := (s.wr Reg.PA_TILE_CFG_HOLDER t p).bump Reg.PA_HANDOVERS t 1
  let s := s.modTile t (fun x => { x with tookAt := s.mono, shared := shared, waiting := back ++ x.waiting })
  (s.regate t).advance t

/-- TILE_HANDOVER (R361 to R363). -/
def doTileHandover (t : Nat) (s : Dev) : Dev :=
  if !s.handoverPoint t ∨ !s.handoverDue t then s
  else if !s.flag Reg.PA_TILE_CFG_SHARED t then s.handover t (s.rd Reg.PA_TILE_CFG_OWNER t) false false
  else
    let out := s.holder t
    let save := s.inShare t out && s.saveOk out
    let next := match s.waitingParts t with
      | [] => if s.inShare t out then out else nextHolder out ((List.range 64).filter (s.inShare t))
      | ps => nextHolder out ps
    s.handover t next save true

/-- QUANTUM_EXPIRY (R361): the holder of a shared tile has held it for QUANTUM_US. -/
def doQuantumExpiry (t : Nat) (s : Dev) : Dev :=
  if !(s.tile t).shared then s else s.reachLocal ((s.tile t).tookAt + s.rd Reg.PA_TILE_CFG_QUANTUM_US t * 16000)

/-! Mailboxes (R369) -/

/-- PA_MBOX_REQ: a partition other than 0 sets REQ of its own mailbox. -/
def doPaMboxReq (src : Src) (s : Dev) : Dev :=
  let p := srcPart src
  if p = 0 then s
  else ((s.wr Reg.PA_MBOX_CTRL_REQ p 1).wr Reg.PA_MBOX_CTRL_RSP p 0).reportP Ev.PA_MBOX_REQ 0 0 p 0

/-- PA_MBOX_RSP: partition 0 sets RSP of a mailbox; the partition's interrupt is raised. -/
def doPaMboxRsp (src : Src) (p : Nat) (s : Dev) : Dev :=
  if srcPart src ≠ 0 then s
  else
    let s := (s.wr Reg.PA_MBOX_CTRL_RSP p 1).wr Reg.PA_MBOX_CTRL_REQ p 0
    { s with msix := s.msix ++ [(p, 0)] }

/-- PARTITION_CREATE. -/
def execPartitionCreate (src : Src) (p : Nat) (s : State) : Host.Outcome State Fault Refusal := s.on (fun d => d.at src .PA (doPartitionCreate src p))
/-- FKEY_WORD_WRITE. -/
def execFkeyWordWrite (src : Src) (p keyId word : Nat) (d : Word) (s : State) : Host.Outcome State Fault Refusal := s.on (fun x => x.at src .PA (doFkeyWordWrite src p keyId word d))
/-- PREVIOUS_KEY_DROP. -/
def execPreviousKeyDrop (p : Nat) (s : State) : Host.Outcome State Fault Refusal := s.on (doPreviousKeyDrop p)
/-- GRANULE_REASSIGN. -/
def execGranuleReassign (src : Src) (g owner : Nat) (s : State) : Host.Outcome State Fault Refusal := s.on (fun d => d.at src .PA (doGranuleReassign src g owner))
/-- GRANULE_ZEROED. -/
def execGranuleZeroed (g : Nat) (s : State) : Host.Outcome State Fault Refusal := s.on (doGranuleZeroed g)
/-- ENGINE_OWNER_CHANGE. -/
def execEngineOwnerChange (e : Nat) (s : State) : Host.Outcome State Fault Refusal := s.on (doEngineOwnerChange e)
/-- QUANTUM_EXPIRY. -/
def execQuantumExpiry (t : Nat) (s : State) : Host.Outcome State Fault Refusal := s.on (doQuantumExpiry t)
/-- TILE_HANDOVER. -/
def execTileHandover (t : Nat) (s : State) : Host.Outcome State Fault Refusal := s.on (doTileHandover t)
/-- PA_MBOX_REQ. -/
def execPaMboxReq (src : Src) (s : State) : Host.Outcome State Fault Refusal := s.on (fun d => d.at src .PA (doPaMboxReq src))
/-- PA_MBOX_RSP. -/
def execPaMboxRsp (src : Src) (p : Nat) (s : State) : Host.Outcome State Fault Refusal := s.on (fun d => d.at src .PA (doPaMboxRsp src p))

end Sys2Proof.Machine
end

