-- ==== Sys2Proof/Machine/Fabric.lean ====
section
/-! DEFINITION. The Greuk fabric's sending side: links, routes, packets, messages, and what becomes of packets when a link goes
down (R308 to R318, R323 to R338). -/
namespace Sys2Proof.Machine

/-- Change the fabric. -/
def Dev.fab (s : Dev) (f : Fabric → Fabric) : Dev := { s with fabric := f s.fabric }

/-- The key of a port's lane. -/
def laneKey (port lane : Nat) : Nat := port * 8 + lane

/-- Link `k`. -/
def Dev.link (s : Dev) (k : Nat) : Link := NMap.get {} s.fabric.links k

/-- Change link `k`. -/
def Dev.modLink (s : Dev) (k : Nat) (f : Link → Link) : Dev :=
  s.fab (fun x => { x with links := NMap.set {} x.links k (f (s.link k)) })

/-- Optics of lane `k`. -/
def Dev.optic (s : Dev) (k : Nat) : LaneOptics := NMap.get {} s.optics k

/-- Change the optics of lane `k`. -/
def Dev.modOptic (s : Dev) (k : Nat) (f : LaneOptics → LaneOptics) : Dev :=
  { s with optics := NMap.set {} s.optics k (f (s.optic k)) }

/-- Peer `n`. -/
def Dev.peer (s : Dev) (n : Nat) : Peer := NMap.get {} s.fabric.peers n

/-- Change peer `n`. -/
def Dev.modPeer (s : Dev) (n : Nat) (f : Peer → Peer) : Dev :=
  s.fab (fun x => { x with peers := NMap.set {} x.peers n (f (s.peer n)) })

/-- This module's FNID (R319). -/
def Dev.fnid (s : Dev) : Nat := s.rd Reg.GT_NODE_FNID 0

/-- This module's incarnation (R322). -/
def Dev.incarnation (s : Dev) : Nat := s.rd Reg.BT_BOOT_COUNT_COUNT 0 % 65536

/-- The transport runs in switched mode. -/
def Dev.switched (s : Dev) : Bool := s.flag Reg.GT_CTRL_MODE 0

/-- A port's links are direct ones, one per lane (R308). -/
def Dev.directPort (s : Dev) (port : Nat) : Bool := s.rd Reg.FX_CTRL_MODE port == 3

/-- The lanes a port uses (R308). -/
def Dev.lanesOf (s : Dev) (port : Nat) : List Nat :=
  match s.rd Reg.FX_CTRL_MODE port with
  | 1 => [0, 1, 2, 3]
  | 2 => [0]
  | _ => List.range 8

/-- The link of a lane: its own in direct mode, the port's in switched mode. -/
def Dev.linkOf (s : Dev) (port lane : Nat) : Nat := if s.directPort port then laneKey port lane else laneKey port 0

/-- FOLD of a port (R343): until it is written, its factory value 16 × port. -/
def Dev.fold (s : Dev) (port : Nat) : Nat :=
  let v := s.rd Reg.FX_CTRL_FOLD port
  if v = 512 then 16 * port else v

/-- The module that port `p` reaches on channel `c`, by ring index (R311). -/
def Dev.foldPeer (s : Dev) (p c : Nat) : Nat :=
  let n := s.rd Reg.GT_NODE_RING_N 0
  if n = 0 then 0 else (s.fold p + 2 * n - c % n - s.rd Reg.GT_NODE_RING_INDEX 0 % n) % n

/-- Whether link `k` would join this module to itself: its channel carries no traffic (R311). -/
def Dev.selfLink (s : Dev) (k : Nat) : Bool :=
  let n := s.rd Reg.GT_NODE_RING_N 0
  s.directPort (k / 8) && n != 0 && s.foldPeer (k / 8) (s.optic k).channel == s.rd Reg.GT_NODE_RING_INDEX 0 % n

/-- Whether link `k` carries frames: it is up, and joins this module to another. -/
def Dev.carries (s : Dev) (k : Nat) : Bool := (s.link k).up && !s.selfLink k

/-! Packets (R325 to R327) -/

end Sys2Proof.Machine
namespace Sys2Proof
open Sys2Proof.Machine

/-- The header words of a packet, HOPS read as zero. -/
def Packet.header (p : Packet) : List Nat :=
  [1 + p.typ % 16 * 2 ^ 4 + b2n p.last * 2 ^ 8 + b2n p.ordered * 2 ^ 9 + p.src % 65536 * 2 ^ 16 + p.dst % 65536 * 2 ^ 32
      + p.part % 64 * 2 ^ 48,
   p.psn % 2 ^ 48 + p.idx % 65536 * 2 ^ 48,
   p.queue % 65536 + p.data.length % 8192 * 2 ^ 16 + p.inc % 65536 * 2 ^ 32 + p.keyId % 256 * 2 ^ 48, p.time]

/-- The tag of a packet under a key. -/
def Packet.tagUnder (p : Packet) (k : FKey) : Nat :=
  Config.gcmTag k.words [p.src, p.dst, p.inc, p.psn] (p.header ++ p.ext.map (fun w => w.toNat)) (p.data.map (fun b => b.toNat))

/-- Bytes of a packet (R325). -/
def Packet.size (p : Packet) : Nat := 32 + 8 * p.ext.length + p.data.length + 16

/-- Bytes of a packet's direct-mode frame (R310). -/
def Packet.frameSize (p : Packet) : Nat := p.size + 14 + 4 + 4

/-- Word `i` of a packet's extension. -/
def Packet.word (p : Packet) (i : Nat) : Word := p.ext.getD i 0

end Sys2Proof
namespace Sys2Proof.Machine

/-- The current key of a partition, and the key it accepts under a KEY_ID (R357). -/
def Dev.sendKey (s : Dev) (p : Nat) : Option FKey := (s.part p).cur
def Dev.recvKey (s : Dev) (p id : Nat) : Option FKey :=
  [(s.part p).cur, (s.part p).prev].findSome? (fun k => match k with
    | some k => if k.keyId = id then some k else none
    | none => none)

/-- Stamp and authenticate a packet of this module under a key as it leaves. -/
def Dev.seal (s : Dev) (k : FKey) (p : Packet) : Packet :=
  let q := { p with src := s.fnid, inc := s.incarnation, keyId := k.keyId, time := s.now, hops := 0 }
  { q with tag := q.tagUnder k }

/-- Whether a packet authenticates (R327). -/
def Dev.authentic (s : Dev) (p : Packet) : Bool :=
  match s.recvKey p.part p.keyId with
  | some k => p.tag == p.tagUnder k
  | none => false

/-! Frames on a link (R315, R317) -/

/-- The encapsulation of a packet on plane `port` (R317). -/
def Dev.encap (s : Dev) (port : Nat) (p : Packet) : Encap :=
  let v4 := s.flag Reg.GT_CTRL_IPV4 0
  let addr := fun (n : Nat) => if v4 then s.rd Reg.GT_V4_BASE 0 + n * 32 + port else s.rd Reg.GT_PREFIX 0 * 2 ^ 64 + n * 256 + port
  let sport := 0xC000 + p.psn % 256
  let dport := s.rd Reg.GT_CTRL_UDP_PORT 0
  { srcMac := s.rd Reg.ID_MAC_BASE_MAC 0 + port
    dstMac := (((NMap.get {} s.fabric.gateways port).mac)).getD 0
    vlan := if s.flag Reg.GT_CTRL_VLAN_EN 0 then some (s.rd Reg.GT_CTRL_VID 0 + s.rd Reg.GT_CTRL_PCP 0 * 2 ^ 13) else none
    v4 := v4, srcIp := addr s.fnid, dstIp := addr p.dst, tclass := s.rd Reg.GT_CTRL_DSCP 0 * 4 + 2, flow := sport, hops := 64
    srcPort := sport, dstPort := dport
    sum := (Config.udpSum [addr s.fnid, addr p.dst, sport, dport] (p.header ++ p.ext.map (fun w => w.toNat) ++
      p.data.map (fun b => b.toNat) ++ [p.hops, p.tag])).toNat }

/-- t1 of a time exchange is the SEND_TIME with which its request left (R340). -/
def Dev.noteT1 (s : Dev) : Wire → Dev
  | .packet p => if p.typ = 10 ∧ p.src = s.fnid ∧ bits (p.word 0) 7 0 = 4 then
      s.fab (fun x => { x with time := { x.time with t1 := some p.time } }) else s
  | _ => s

/-- A frame leaves on link `k`. -/
def Dev.emit (s : Dev) (k lseq : Nat) (w : Wire) : Dev :=
  let s := s.noteT1 w
  let port := k / 8
  let l := s.link k
  let e := match w with
    | .packet p => if s.directPort port then none else some (s.encap port p)
    | _ => none
  let f : Sent := { port := port, lane := k % 8, lseq := lseq, ackLseq := l.rxSeq, wire := w, encap := e, time := s.now }
  ((s.modLink k (fun l => { l with lastTx := s.mono })).fab (fun x => { x with net := x.net ++ [f] })).bump Reg.FX_FRAMES_TX port 1

/-- Bytes a link holds for replay. -/
def Link.held (l : Link) : Nat := (l.replay.map (fun r => r.packet.frameSize)).sum

/-- The share of the replay buffer of one link (R315). -/
def replayShare : Nat := 32768

/-- A data frame leaves on a direct link and is kept for replay. -/
def Dev.linkSend (s : Dev) (k : Nat) (p : Packet) : Dev :=
  let n := (s.link k).txSeq
  (s.modLink k (fun l => { l with txSeq := (n + 1) % 65536
                                  replay := l.replay ++ [{ lseq := n, packet := p, first := s.mono, plays := 0 }] })).emit k n (.packet p)

/-- A data packet goes to a link: sent, or queued while the link's share is full. -/
def Dev.linkPut (s : Dev) (k : Nat) (p : Packet) : Dev :=
  if !s.directPort (k / 8) then s.emit k 0 (.packet p)
  else
    let l := s.link k
    if l.txq.isEmpty ∧ l.held + p.frameSize ≤ replayShare then s.linkSend k p
    else s.modLink k (fun l => { l with txq := l.txq ++ [p] })

/-- Packets queued at a link leave while its share has room; an own packet is stamped as it leaves. -/
def Dev.linkDrain (k : Nat) : Nat → Dev → Dev
  | 0, s => s
  | n + 1, s =>
    let l := s.link k
    match l.txq with
    | [] => s
    | p :: r =>
      if replayShare < l.held + p.frameSize then s
      else
        let p := if p.src ≠ s.fnid ∨ p.typ = 9 then p else match s.recvKey p.part p.keyId with
          | some key => s.seal key p
          | none => p
        Dev.linkDrain k n ((s.modLink k (fun l => { l with txq := r })).linkSend k p)

/-- A control frame on a direct link: it takes no LSEQ and no room. -/
def Dev.linkControl (s : Dev) (k : Nat) (w : Wire) : Dev := s.emit k (s.link k).txSeq w

/-! Routes and paths (R323, R324) -/

/-- The route entry of an FNID. -/
def Dev.route (s : Dev) (n : Nat) : Nat := s.rd Reg.GT_ROUTE n

/-- The bits of a routing entry below its reserved ones (R323). -/
def Dev.routeMask (s : Dev) (v : Nat) : Nat := v % 2 ^ (if s.switched then 33 else 45)

/-- Whether an FNID has a VALID entry. -/
def Dev.routed (s : Dev) (n : Nat) : Bool := (s.route n).testBit 0

/-- A link that takes new packets. -/
def Link.open (l : Link) : Bool := l.up && !l.stop && !l.miswired

/-- The lane of a port that carries a channel. -/
def Dev.laneOn (s : Dev) (port c : Nat) : Option Nat := (s.lanesOf port).find? (fun l => (s.optic (laneKey port l)).channel == c)

/-- The open direct link to an FNID, by its route entry. -/
def Dev.directLink (s : Dev) (n : Nat) : Option Nat :=
  let r := s.route n
  if !r.testBit 0 || !r.testBit 1 then none
  else match s.laneOn (nbits r 6 2) (nbits r 10 7) with
    | some l => if (s.link (laneKey (nbits r 6 2) l)).open then some (laneKey (nbits r 6 2) l) else none
    | none => none

/-- A path: its code, the link it starts on, and its links. Codes: 0 the direct link, 1 VIA_A, 2 VIA_B; or the plane. -/
structure Way where
  code : Nat
  link : Nat
  links : Nat
  deriving DecidableEq, Repr

/-- The paths to an FNID whose links are open (R324). -/
def Dev.ways (s : Dev) (n : Nat) : List Way :=
  let r := s.route n
  if !s.routed n then []
  else if s.switched then
    ((List.range 32).filter (fun p => (r / 2).testBit p && (s.link (laneKey p 0)).open &&
      ((NMap.get {} s.fabric.gateways p).mac).isSome && decide ((NMap.get ({} : Path) (s.peer n).paths p).skipUntil ≤ s.mono))).map
        (fun p => { code := p, link := laneKey p 0, links := 1 })
  else
    let via := fun (c v : Nat) => if v = n ∨ v = s.fnid then [] else match s.directLink v with
      | some k => [{ code := c, link := k, links := nbits r 44 43 }]
      | none => ([] : List Way)
    let a := nbits r 26 11
    let b := nbits r 42 27
    (match s.directLink n with | some k => [{ code := 0, link := k, links := 1 }] | none => []) ++ via 1 a ++ (if b = a then [] else via 2 b)

/-- Bytes in flight to a peer on a path. -/
def Dev.inFlight (s : Dev) (n code : Nat) : Nat :=
  ((s.fabric.out.filter (fun o => decide (o.peer = n) && decide (o.path = code) && !o.waiting && o.busyAt.isNone)).map (fun o =>
    match s.fabric.msgs.find? (fun m => m.id = o.msg) with
    | some m => min m.chunk (m.data.length - o.idx * m.chunk) + 64
    | none => 64)).sum

/-- A path that is skipped because its queue or its window is full (R324). -/
def Dev.wayFull (s : Dev) (n : Nat) (w : Way) : Bool :=
  decide (65536 < ((s.link w.link).txq.map Packet.frameSize).sum) ||
  (s.switched && decide ((NMap.get ({} : Path) (s.peer n).paths w.code).window ≤ s.inFlight n w.code))

/-- The next path after the one last taken, in code order. -/
def nextWay (last : Nat) (ws : List Way) : Option Way :=
  match ws.find? (fun w => decide (last < w.code)) with
  | some w => some w
  | none => ws.head?

/-! Sending packets -/

/-- Packet `i` of a message. -/
def Dev.packetOf (s : Dev) (m : Msg) (i : Nat) : Packet :=
  let ext := (List.range m.ext.length).map (fun j =>
    BitVec.ofNat 64 (m.ext.getD j 0 + if j = m.incAt then i * m.step else 0))
  { typ := m.typ, last := i + 1 == m.total, ordered := m.ordered, hops := 0, src := s.fnid, dst := m.peer, part := m.part
    psn := m.base + i, idx := i, queue := m.queue, inc := s.incarnation, keyId := 0, time := 0, ext := ext
    data := (m.data.drop (i * m.chunk)).take m.chunk, tag := 0, ce := false, port := 0, lane := 0 }

/-- Replace a packet in flight. -/
def Dev.setOut (s : Dev) (o : Out) : Dev :=
  s.fab (fun x => { x with out := x.out.map (fun y => if y.msg = o.msg ∧ y.idx = o.idx then o else y) })

/-- Send a packet in flight on a path; its timer starts. -/
def Dev.transmit (s : Dev) (o : Out) (w : Way) : Dev :=
  match s.fabric.msgs.find? (fun m => m.id = o.msg) with
  | none => s
  | some m => match m.key with
    | none => s
    | some k =>
      let p := s.seal k (s.packetOf m o.idx)
      let s := s.setOut { o with path := w.code, links := w.links, timer := s.mono, waiting := false, busyAt := none }
      let s := s.modPeer o.peer (fun x => { x with rr := w.code })
      (s.linkPut w.link p).bump Reg.GT_PKTS_TX 0 1

/-- Send a packet in flight on the next path after `last`; without one it waits, and its timer runs (R440). -/
def Dev.sendAgain (s : Dev) (o : Out) : Dev :=
  let ws := s.ways o.peer
  match nextWay o.path (ws.filter (fun w => !s.wayFull o.peer w)) with
  | some w => s.transmit o w
  | none => s.setOut { o with waiting := true, busyAt := none, timer := s.mono }

/-- Whether a message's next packet may be sent: the bounds of R272 and R330, the order of R332, and the PSN range of R327. -/
def Dev.mayStart (s : Dev) (m : Msg) : Bool :=
  let outs := s.fabric.out
  let mine := fun (o : Out) => decide (o.peer = m.peer) && decide (o.part = m.part) &&
    (s.fabric.msgs.find? (fun y => y.id = o.msg)).any (fun y => y.key == m.key)
  let before := (s.fabric.msgs.filter (fun y => decide (y.id < m.id) && decide (y.peer = m.peer) && decide (y.queue = m.queue) &&
    !y.reply && !m.reply))
  decide (m.next < m.total) && decide (outs.length < 65536) && decide (s.outstanding m.peer < 1024) &&
  (match m.key with
   | some _ => (outs.filter mine).all (fun o => decide (m.base + m.next < o.psn + 1024))
   | none => (s.sendKey m.part).isSome && decide (NMap.get 0 (s.peer m.peer).conns m.part + m.total ≤ 2 ^ 47) &&
       (outs.filter (fun o => decide (o.peer = m.peer) && decide (o.part = m.part) &&
         (s.fabric.msgs.find? (fun y => y.id = o.msg)).any (fun y => y.key == s.sendKey m.part))).all
         (fun o => decide (NMap.get 0 (s.peer m.peer).conns m.part < o.psn + 1024))) &&
  (if m.ordered then before.all (fun y => y.acked == y.total) && m.acked == m.next
   else before.all (fun y => !y.ordered || y.next == y.total))

/-- Change message `id`. -/
def Dev.modMsg (s : Dev) (id : Nat) (f : Msg → Msg) : Dev :=
  s.fab (fun x => { x with msgs := x.msgs.map (fun m => if m.id = id then f m else m) })

/-- A message takes its PSNs and its key as its first packet is sent (R328). -/
def Dev.startMsg (s : Dev) (m : Msg) : Dev :=
  let n := NMap.get 0 (s.peer m.peer).conns m.part
  (s.modPeer m.peer (fun x => { x with conns := NMap.set 0 x.conns m.part (n + m.total) })).modMsg m.id
    (fun x => { x with key := s.sendKey m.part, base := n })

/-- Send the next packet of a message. -/
def Dev.sendNext (s : Dev) (m : Msg) : Dev :=
  let s := if m.key.isSome then s else s.startMsg m
  match s.fabric.msgs.find? (fun x => x.id = m.id) with
  | none => s
  | some m =>
    let n := min m.chunk (m.data.length - m.next * m.chunk)
    let o : Out := { msg := m.id, idx := m.next, peer := m.peer, part := m.part, psn := m.base + m.next, path := (s.peer m.peer).rr
                     links := 1, timer := s.mono }
    let s := s.modMsg m.id (fun x => { x with next := x.next + 1 })
    let s := (s.fab (fun x => { x with out := x.out ++ [o]
                                       coord := ({ x.coord with sentTo := NMap.set 0 x.coord.sentTo m.peer (NMap.get 0 x.coord.sentTo m.peer + n) } : Coord) })).pf m.part 0x3F n
    s.sendAgain o

/-- A message whose next packet can go now: a path is open, or none is left at all. -/
def Dev.ready (s : Dev) (m : Msg) : Bool :=
  s.mayStart m && (let ws := s.ways m.peer; ws.isEmpty || ws.any (fun w => !s.wayFull m.peer w))

/-- Send what can be sent, first in first out. -/
def Dev.pumpN : Nat → Dev → Dev
  | 0, s => s
  | n + 1, s => match s.fabric.msgs.find? s.ready with
    | some m => Dev.pumpN n (s.sendNext m)
    | none => s

/-- Packets that wait for a path are sent where one is open, and then new ones (R440). -/
def Dev.pump (s : Dev) : Dev :=
  if !s.flag Reg.GT_CTRL_EN 0 then s
  else
    let s := (s.fabric.out.filter (fun o => o.waiting)).foldl (fun s o =>
      match nextWay o.path ((s.ways o.peer).filter (fun w => !s.wayFull o.peer w)) with
      | some w => s.transmit o w
      | none => s) s
    Dev.pumpN ((s.fabric.msgs.map (fun m => m.total - m.next)).sum) s

/-- GT_RXBUF: KiB of receive buffer in use. -/
def Dev.showRx (s : Dev) : Dev :=
  s.wr Reg.GT_RXBUF_KIB 0 (((s.fabric.rxq.map (fun e => (e.2.map (fun x => x.1)).sum)).sum + 1023) / 1024)

/-- Hand a message to the transport. -/
def Dev.post (s : Dev) (m : Msg) : Dev :=
  let m := { m with id := s.fabric.nextMsg, total := max 1 ((m.data.length + m.chunk - 1) / m.chunk) }
  (s.fab (fun x => { x with msgs := x.msgs ++ [m], nextMsg := m.id + 1 })).pump

/-- Why the transport refuses a message of partition `p` to an FNID at once, 0 for nothing (R324, R336, R357). -/
def Dev.peerRefused (s : Dev) (p n : Nat) : Nat :=
  if n = s.fnid then stBadPeer
  else if (s.sendKey p).isNone then stNoFkey
  else if !s.routed n then Ev.GT_NO_ROUTE.status
  else if s.rd Reg.GT_PEER_STATE n = 2 then Ev.GT_PEER_FAILED.status
  else 0

/-- Complete a command that the transport refused at once. -/
def Dev.failPeer (s : Dev) (c : Cmd) (st n : Nat) : Dev :=
  if st = Ev.GT_NO_ROUTE.status then s.failEv c Ev.GT_NO_ROUTE 0 n 0 else s.failSt c st n 0

/-- A message of the coordinator or to it (R320): in partition 0, with no answer. -/
def Dev.control (s : Dev) (n op t : Nat) (data : List Byte) : Dev :=
  if s.peerRefused 0 n ≠ 0 then s
  else s.post { id := 0, peer := n, part := 0, queue := 0, typ := 10, ordered := false, reply := true, fin := .none
                ext := [op, t], data := data, total := 1, incAt := 2 }

/-- The packets of a message leave the flight with it. -/
def Dev.dropMsg (s : Dev) (id : Nat) : Dev :=
  s.fab (fun x => { x with msgs := x.msgs.filter (fun m => m.id ≠ id), out := x.out.filter (fun o => o.msg ≠ id) })

/-- The signal of a transfer failed: DM_ERRORS, and DM_LAST_ERR, whose address is free since a signal has none (R280, log entry
64). -/
def Dev.signalFailed (s : Dev) (c : Cmd) (e : Nat) : Dev :=
  let a := Config.signalFault s.seed % 2 ^ 48
  ((({ s with seed := s.seed + 1 } : Dev).bump Reg.DM_ERRORS e 1).wr Reg.DM_LAST_ERR_ADDR e a).wr Reg.DM_LAST_ERR_PART e (s.cPart c)

/-- A message ends with a status: its command completes, or the context store is to be told. Bytes it moved are its command's
work (R449). PSNs it never sent go back while no later message took any. -/
def Dev.endMsg (s : Dev) (m : Msg) (st : Nat) : Dev :=
  let s := s.dropMsg m.id
  let s := if m.key.isSome ∧ m.next < m.total ∧ NMap.get 0 (s.peer m.peer).conns m.part = m.base + m.total then
      s.modPeer m.peer (fun x => { x with conns := NMap.set 0 x.conns m.part (m.base + m.next) }) else s
  match m.fin with
  | .none => s
  | .cmd c =>
    let s := if st = 0 then s.addWork c { bytes := m.data.length } else s
    s.finish c st (st == 0) 0 0 (if st = 0 then 0 else m.peer) 0
  | .dma c e =>
    let s := if st = 0 then s else (s.reportC c Ev.DM_REMOTE_FAIL e m.peer 0).signalFailed c e
    s.finish c st true 0 0 (if st = 0 then 0 else m.peer) 0
  | .read c _ len =>
    let s := if st = 0 then s.addWork c { bytes := len } else s
    s.finish c st (st == 0) 0 0 (if st = 0 then 0 else m.peer) 0
  | .atomic c =>
    let s := if st = 0 then s.addWork c { bytes := 8 } else s
    s.finish c st (st == 0) (m.answer.getD 0) 0 (if st = 0 then 0 else m.peer) 0
  | .coil tag => s.fab (fun x => { x with told := x.told ++ [(tag, st)] })

/-- A message whose packets are all acknowledged, and whose answer has come, ends. -/
def Dev.msgDone (s : Dev) (id : Nat) : Dev :=
  match s.fabric.msgs.find? (fun m => m.id = id) with
  | none => s
  | some m =>
    if m.acked < m.total then s
    else match m.fin with
      | .read _ _ len => if len ≤ m.got then s.endMsg m m.bad else s
      | .atomic _ => if m.answer.isSome then s.endMsg m 0 else s
      | _ => s.endMsg m 0

/-! Link state (R316, R337) -/

/-- Show the links of a port. -/
def Dev.showPort (s : Dev) (port : Nat) : Dev :=
  let bit := fun (f : Nat → Bool) => ((List.range 8).map (fun l => if f l then 2 ^ l else 0)).sum
  let d := s.directPort port
  let s := s.wr Reg.FX_STATUS_UP port (bit (fun l => (s.link (laneKey port l)).up))
  let s := s.wr Reg.FX_STATUS_ANCHOR port (bit (fun l => d && s.flag Reg.FX_CTRL_EN port && decide ((s.optic (laneKey port l)).channel ≤ 5)))
  s.wr Reg.FX_STATUS_RETUNING port (bit (fun l => d && (s.link (laneKey port l)).stop))

/-- An own packet that a link gives back goes at once on the next path (R337). -/
def Dev.handOff (s : Dev) (p : Packet) : Dev :=
  match s.fabric.out.find? (fun o => decide (o.peer = p.dst) && decide (o.part = p.part) && decide (o.psn = p.psn) && o.busyAt.isNone &&
      (s.fabric.msgs.find? (fun m => m.id = o.msg)).any (fun m => (m.key.map (fun k => k.keyId)) == some p.keyId)) with
  | some o => (s.bump Reg.GT_HANDOFFS 0 1).sendAgain o
  | none => s

/-- The packets a link holds are given back: own ones are handed to the transport, relayed ones dropped. -/
def Dev.giveBack (s : Dev) (k : Nat) : Dev :=
  let l := s.link k
  let ps := l.replay.map (fun r => r.packet) ++ l.txq
  let s := s.modLink k (fun l => { l with replay := [], txq := [] })
  let s := (ps.filter (fun p => p.src == s.fnid)).foldl (fun s p => s.handOff p) s
  if ps.any (fun p => p.src != s.fnid) then s.report Ev.FX_RELAY_DROP (k / 8) else s

/-- The route entry of the peer that link `k` reaches shows whether that link is up (R323). -/
def Dev.routeLink (s : Dev) (k : Nat) (up : Bool) : Dev :=
  match (s.link k).peer with
  | none => s
  | some n =>
    let r := s.route n
    if s.switched || s.flag Reg.GT_CTRL_STATIC_ROUTES 0 || !r.testBit 0 || nbits r 10 2 != k / 8 + (s.optic k).channel * 32 then s
    else s.wr Reg.GT_ROUTE n (putBit r 1 up)

/-- Links go down at once (R316, R337): none of them takes the packets that the others give back. -/
def Dev.linksDown (s : Dev) (ks : List Nat) : Dev :=
  let ks := ks.filter (fun k => (s.link k).up)
  if ks.isEmpty then s
  else
    let s := ks.foldl (fun s k =>
      let s := (s.modLink k (fun l => { l with up := false, upSent := 0, upRcvd := 0 })).routeLink k false
      ((s.bump Reg.FX_LINK_DOWNS (k / 8) 1).report Ev.FX_LINK_DOWN (k / 8)).showPort (k / 8)) s
    (ks.foldl (fun s k => s.giveBack k) s).pump

/-- A link goes down (R316, R337). -/
def Dev.linkDown (s : Dev) (k : Nat) : Dev := s.linksDown [k]

/-- A lane has lost its lock: the frames that bring its link up begin anew (R316). -/
def Dev.unlock (s : Dev) (k : Nat) : Dev := s.modLink k (fun l => { l with locked := false, upSent := 0, upRcvd := 0 })

/-- A lane is blanked for a retune, and its link carries no data any more (R219 step 2, R314 steps 1 and 2): packets without link
acknowledgement are handed to the transport. -/
def Dev.retuneOut (s : Dev) (k channel : Nat) : Dev :=
  let j := s.linkOf (k / 8) (k % 8)
  let s := (s.unlock k).modLink j (fun l => { l with stop := true, up := false, upSent := 0, upRcvd := 0 })
  ((s.giveBack j).modOptic k (fun x => { x with blanked := true, tuned := false, target := channel, retuneAt := s.mono })).showPort (k / 8)

/-- A link comes up (R316): its sequences start anew. A retune ends with it (R314 steps 4 and 5), and the route entry of the
peer it now reaches says so. -/
def Dev.linkUp (s : Dev) (k : Nat) : Dev :=
  let l := s.link k
  if l.up || !s.flag Reg.FX_CTRL_EN (k / 8) || s.selfLink k then s
  else
    let s := s.modLink k (fun l => { l with up := true, stop := false, tAct := none, txSeq := 0, rxSeq := 65535, report := s.mono })
    let s := if l.stop ∧ l.tAct.isSome ∧ !s.flag Reg.GT_CTRL_STATIC_ROUTES 0 then
        let c := (s.optic k).channel
        s.wr Reg.GT_ROUTE l.nextPeer <| s.routeMask ((s.route l.nextPeer - nbits (s.route l.nextPeer) 10 0) + 3 + (k / 8) * 4 + c * 128)
      else s.routeLink k true
    (s.showPort (k / 8)).pump

end Sys2Proof.Machine
end

