-- ==== Sys2Proof/Machine/Waits.lean ====
section
/-! DEFINITION. What agents do with knots and full/empty words, waits that end in failure, and WAIT commands (R283 to R303). -/
namespace Sys2Proof.Machine

/-! Exceptions of an agent (R264, R288, R301) -/

/-- The command a tile's sequencer executes: that of the command in progress, else the one at its head. -/
def Dev.coreCmd (s : Dev) (n : Nat) : Option Cmd :=
  match (s.tile n).current with
  | some r => some r.c
  | none => ((s.tile n).held.head?).map (fun h => h.c)

/-- The command of sequencer `n` ends with a failure (R301): rows of an EPOCH that have started are finished and added. -/
def Dev.coreCommandFails (s : Dev) (n status : Nat) : Dev :=
  match (s.tile n).current with
  | some r => ((s.cutRun n r.id r.started status false).settle n).advance n
  | none => match (s.tile n).held with
    | h :: rest => (((s.modTile n (fun x => { x with held := rest })).dropPatchWaits [h.c]).failSt h.c status n 0).advance n
    | [] => s

/-- Engine `e` takes an exception, and what it executed ends with its status (R264, R301): a vector engine's routine, a
sequencer's command. The firmware of CC16 to CC19 executes no command of a queue. -/
def Dev.agentFail (s : Dev) (e status d0 : Nat) : Dev :=
  if e < 64 then s.engineFail e status d0
  else
    let s := (s.dropEngineWaits e).coreException (e - 64)
    if e < 80 then s.coreCommandFails (e - 64) status else s

/-- An engine's operation that is refused makes it take an exception (R288). -/
def Dev.engineGot (r : Dev × Nat) (a : Agent) (k : Nat) : Dev :=
  if r.2 = 0 then r.1
  else match agentEngine a with
  | some e => r.1.agentFail e r.2 k
  | none => r.1

/-- The command an agent acts for: a routine's launch, or a sequencer's command (R276). -/
def Dev.agentCmd (s : Dev) : Agent → Option Cmd
  | .ve n => (s.eng n).cmd
  | .cc n => if n < 16 then s.coreCmd n else none
  | _ => none

/-- Whether an agent can act now: an engine that waits or is stopped makes no transitions (R290, R452). -/
def Dev.agentRuns (s : Dev) (a : Agent) : Bool :=
  match agentEngine a with
  | some e => s.engineRuns e
  | none => true

/-! Operations on knots (R287 to R289) -/

/-- One operation arrives at knot `k`; the SIGNAL it executes completes with its outcome, an engine takes its refusal as an
exception. -/
def Dev.arrive (s : Dev) (k : Nat) (x : KnotArrival) : Dev :=
  match x.cmd with
  | some c =>
    let (s, st) := s.knotOp x.op k x.amount (s.cPart c) (.queue c.queue) (some c)
    if st = 0 then s.finishOk c else s.failSt c st k 0
  | none =>
    if s.agentRuns x.agent then Dev.engineGot (s.knotOp x.op k x.amount (s.agentPart x.agent) x.agent (s.agentCmd x.agent)) x.agent k else s

/-- Operations of one handshake cycle in the order R289 gives: every ADD, then SET, then SUB; where CONFIG stands affects
nothing. -/
def cycleOrder (xs : List KnotArrival) : List KnotArrival :=
  xs.filter (fun x => x.op == 0) ++ xs.filter (fun x => x.op == 2) ++ xs.filter (fun x => x.op == 1) ++
    xs.filter (fun x => x.op != 0 && x.op != 1 && x.op != 2)

/-- Operations that arrive at knot `k` in one handshake cycle (R289). -/
def Dev.arriveAll (s : Dev) (k : Nat) (xs : List KnotArrival) : Dev := (cycleOrder xs).foldl (fun s x => s.arrive k x) s

/-! Full/empty accesses (R283, R284) -/

/-- A full/empty access that must wait (R284): it counts as waiting from now, and takes a waiter entry or is parked until one is
free. -/
def Dev.feWait (s : Dev) (e a part : Nat) (k : FeKind) : Dev :=
  let w : FeWaiter := { id := s.nextWait, engine := e, part := part, kind := k }
  let s := ((s.startWait (.word a) (engineAgent e) part 0 none).bump Reg.SY_FE_WAITS 0 1).veState e 2
  if s.feRoom a then s.feEnter a w else { s with feParked := s.feParked ++ [{ addr := a, w := w }] }

/-- What an engine makes of a full/empty access to a word (R283): none of an engine that waits or is stopped; a word without a
bit is an exception; a refused access reads zero and writes nothing; else `f` is done. -/
def Dev.feGuard (s : Dev) (e a : Nat) (reads : Bool) (f : Dev → Dev) : Dev :=
  let p := s.engineOwner e
  if !s.engineRuns e then s
  else if !feWordOk a then s.agentFail e Ev.DM_ADDR_FAULT.status a
  else match s.probe p a 8 with
    | .ok => f s
    | r =>
      let s := s.noteRefused p r (s.agentCmd (engineAgent e))
      if reads then { s with served := s.served ++ [{ engine := e, addr := a, data := 0 }] } else s

/-- READ_FULL, TAKE and PUT: done, or waiting for the bit (R283). -/
def Dev.feAccess (s : Dev) (e a : Nat) (k : FeKind) : Dev :=
  let reads := match k with | .put _ => false | _ => true
  s.feGuard e a reads (fun s => if k.met (s.fe a).full then (s.feDo a e k).serveWord a else s.feWait e a (s.engineOwner e) k)

/-! Failures (R300 to R303) -/

/-- A wait fails with a status (R301): a queue head stays WAITING behind its failed WAIT, an engine's routine ends, a
command inside a unit completes and does nothing, and its sequencer goes on. -/
def Dev.failWait (s : Dev) (w : Wait) (status : Nat) : Dev :=
  let s := s.dropWait w
  match w.obj, w.c with
  | .patch t _, some c =>
    ((s.modTile c.tile (fun x => { x with held := x.held.eraseP (fun h => h.c = c), waiting := x.waiting.eraseP (fun h => h.2 = c) })).finish
      c status false 0 0 t 0).advance c.tile
  | _, some c => (s.finish c status false 0 0 0 0).modQueue c.queue (fun q => { q with failedHead := true })
  | _, none => match agentEngine w.agent with
    | some e => s.agentFail e status 0
    | none => s

/-- The object field of an event record (R306): kind and object. -/
def WaitObj.code : WaitObj → Nat × Nat
  | .knot k => (0, k)
  | .word a => (1, a)
  | .patch t d => (2, t * 128 + d)

/-- The waiter record of a wait. -/
def Dev.waitRec (s : Dev) (w : Wait) : Nat :=
  let d := match w.obj with
    | .knot k => ((s.knot k).waiters.find? (fun x => x.id = w.id)).map (fun x => (x.consume, x.threshold))
    | _ => none
  match d with
  | some (c, v) => waiterRec w.agent w.part c v
  | none => waiterRec w.agent w.part false 0

/-- A wait runs out of time (R300, R303). -/
def Dev.timeoutWait (s : Dev) (id : Nat) : Dev :=
  match s.waits.find? (fun w => w.id = id) with
  | none => s
  | some w =>
    let (kind, obj) := w.obj.code
    let s := s.reachAfter w.start (w.limit * 16000)
    let s := (s.bump Reg.SY_PART_TIMEOUTS w.part 1).reportAs Ev.SY_WAIT_TIMEOUT 0 w.part obj 0 w.c
    let s := s.syLog { typ := 3, part := w.part, kind := kind, object := obj, agent := s.waitRec w }
    s.failWait w Ev.SY_WAIT_TIMEOUT.status

/-- WAIT (R292, R293): the queue becomes a waiter on its knot. -/
def doWait (c : Cmd) (s : Dev) : Dev :=
  let k := bits c.w2 12 0
  let v := bits c.w3 31 0
  let p := s.cPart c
  if bit c.w2 16 then s.badFormat c
  else
    let (s, st) := s.knotDenied k p v (.queue c.queue) (some c)
    if st ≠ 0 then s.finish c st false 0 0 k 0
    else
      let s := if s.rd Reg.QM_Q_STATE_STATE c.queue = 1 then s.wr Reg.QM_Q_STATE_STATE c.queue 2 else s
      s.knotWaitOn k v (bit c.w2 13) (.queue c.queue) p (bits c.w3 63 32) (some c)

/-- KNOT_ADD (R287), with what arrives in its cycle (R289). -/
def doKnotAdd (a : Agent) (k n : Nat) (same : List KnotArrival) (s : Dev) : Dev := s.arriveAll k ({ agent := a, op := 0, amount := n } :: same)
/-- KNOT_SUB (R287, R289). -/
def doKnotSub (a : Agent) (k n : Nat) (same : List KnotArrival) (s : Dev) : Dev := s.arriveAll k ({ agent := a, op := 1, amount := n } :: same)
/-- KNOT_SET (R287, R289). -/
def doKnotSet (a : Agent) (k v : Nat) (same : List KnotArrival) (s : Dev) : Dev := s.arriveAll k ({ agent := a, op := 2, amount := v } :: same)
/-- KNOT_CONFIG (R287, R289). -/
def doKnotConfig (a : Agent) (k : Nat) (e : Bool) (same : List KnotArrival) (s : Dev) : Dev :=
  s.arriveAll k ({ agent := a, op := 3, amount := b2n e } :: same)

/-- KNOT_WAIT (R290): an engine waits only on a knot of its own host, and has at most one wait. -/
def doKnotWait (e k v : Nat) (consume : Bool) (s : Dev) : Dev :=
  let a := engineAgent e
  let p := s.engineOwner e
  if !s.engineRuns e then s
  else
  let (s, st) := s.knotDenied k p v a (s.agentCmd a)
  if st ≠ 0 then s.agentFail e st k
  else if k / 64 ≠ e then s.agentFail e stBadKnot k
  else (s.veState e 2).knotWaitOn k v consume a p 0 none

/-- READ_FULL (R283). -/
def doReadFull (e a : Nat) (s : Dev) : Dev := s.feAccess e a .readFull
/-- TAKE (R283). -/
def doTake (e a : Nat) (s : Dev) : Dev := s.feAccess e a .take
/-- PUT (R283). -/
def doPut (e a : Nat) (d : Word) (s : Dev) : Dev := s.feAccess e a (.put d)

/-- FILL (R283): writes the word and marks it full, whatever the bit. -/
def doFill (e a : Nat) (d : Word) (s : Dev) : Dev :=
  s.feGuard e a false (fun s => ((s.putLe a 8 d.toNat).setFe a { s.fe a with full := true }).serveWord a)

/-- CLEAR (R283): marks the word empty; the data stays. -/
def doClear (e a : Nat) (s : Dev) : Dev := s.feGuard e a false (fun s => (s.setFe a { s.fe a with full := false }).serveWord a)

/-- SY_KNOT_VAL (R289, R408): the written value, after which the waiters are served, and then what arrives in the same cycle, with
R288 for each. Partition 0 alone reaches the SY page (R354). -/
def doSyKnotVal (src : Src) (k v : Nat) (same : List KnotArrival) (s : Dev) : Dev :=
  if srcPart src ≠ 0 then s.foreign (srcPart src)
  else if !knotOk k then s
  else ((s.knotPut k (v % 2 ^ 32) (.reg 0) 0 none).serveKnot k).arriveAll k same

/-- SY_WAIT_TIMEOUT (R300, R301, R303). -/
def doSyWaitTimeout (id : Nat) (s : Dev) : Dev := s.timeoutWait id

/-- WAIT. -/
def execWait (c : Cmd) (s : State) : Host.Outcome State Fault Refusal := s.on (doWait c)
/-- KNOT_ADD. -/
def execKnotAdd (a : Agent) (k : Nat) (x : KnotOperand Nat) (s : State) : Host.Outcome State Fault Refusal :=
  s.on (doKnotAdd a k x.value x.same)
/-- KNOT_SUB. -/
def execKnotSub (a : Agent) (k : Nat) (x : KnotOperand Nat) (s : State) : Host.Outcome State Fault Refusal :=
  s.on (doKnotSub a k x.value x.same)
/-- KNOT_SET. -/
def execKnotSet (a : Agent) (k : Nat) (x : KnotOperand Nat) (s : State) : Host.Outcome State Fault Refusal :=
  s.on (doKnotSet a k x.value x.same)
/-- KNOT_CONFIG. -/
def execKnotConfig (a : Agent) (k : Nat) (x : KnotOperand Bool) (s : State) : Host.Outcome State Fault Refusal :=
  s.on (doKnotConfig a k x.value x.same)
/-- KNOT_WAIT. -/
def execKnotWait (e k v : Nat) (consume : Bool) (s : State) : Host.Outcome State Fault Refusal := s.on (doKnotWait e k v consume)
/-- READ_FULL. -/
def execReadFull (e a : Nat) (s : State) : Host.Outcome State Fault Refusal := s.on (doReadFull e a)
/-- TAKE. -/
def execTake (e a : Nat) (s : State) : Host.Outcome State Fault Refusal := s.on (doTake e a)
/-- PUT. -/
def execPut (e a : Nat) (d : Word) (s : State) : Host.Outcome State Fault Refusal := s.on (doPut e a d)
/-- FILL. -/
def execFill (e a : Nat) (d : Word) (s : State) : Host.Outcome State Fault Refusal := s.on (doFill e a d)
/-- CLEAR. -/
def execClear (e a : Nat) (s : State) : Host.Outcome State Fault Refusal := s.on (doClear e a)
/-- SY_KNOT_VAL. -/
def execSyKnotVal (src : Src) (k v : Nat) (same : List KnotArrival) (s : State) : Host.Outcome State Fault Refusal :=
  s.on (fun d => d.at src .SY (doSyKnotVal src k v same))
/-- SY_WAIT_TIMEOUT. -/
def execSyWaitTimeout (w : Nat) (s : State) : Host.Outcome State Fault Refusal := s.on (doSyWaitTimeout w)

end Sys2Proof.Machine
end

