-- ==== Sys2Proof/Machine/Dma.lean ====
section
/-! DEFINITION. The DMA engines (R277, R280, R295) and SIGNAL commands (R293, R294, R296). -/
namespace Sys2Proof
/-- INNER: bytes per run (R263). -/
def Cmd.inner (c : Cmd) : Nat := bits c.w4 31 0
/-- OUTER: runs. -/
def Cmd.outer (c : Cmd) : Nat := bits c.w4 63 32
/-- Destination of run `k`. -/
def Cmd.dstRun (c : Cmd) (k : Nat) : Nat := bits c.w3 47 0 + k * bits c.w5 63 32
/-- Source of run `k` of a copy. -/
def Cmd.srcRun (c : Cmd) (k : Nat) : Nat := bits c.w2 47 0 + k * bits c.w5 31 0
/-- SIG_EN (R295). -/
def Cmd.sigEn (c : Cmd) : Bool := bit c.w6 17
/-- Whether a DMA command copies; else it fills. -/
def Cmd.isCopy (c : Cmd) : Bool := c.opcode == 0x30
end Sys2Proof
namespace Sys2Proof.Machine

/-- Ranges of a DMA command that are refused with QM_BAD_FORMAT (R259, R263, R295). -/
def dmaBad (c : Cmd) : Bool :=
  (decide (7 < c.engine) && c.engine != 63) || c.inner == 0 || c.outer == 0 || decide (2 ^ 40 < c.inner * c.outer) ||
  (!c.isCopy && c.inner % 8 != 0) || (c.sigEn && bits c.w6 15 13 != 0)

/-- Transfers in progress on engine `e`. -/
def Dev.dmaActive (s : Dev) (e : Nat) : Nat := s.xfers.countP (fun x => x.engine = e)

/-- Whether engine `e` takes a transfer (R277, R280). -/
def Dev.dmaFree (s : Dev) (e : Nat) : Bool := s.flag Reg.DM_CTRL_EN e && decide (s.dmaActive e < 64)

/-- DM_STATUS of engine `e`. -/
def Dev.showDma (s : Dev) (e : Nat) : Dev :=
  (s.wr Reg.DM_STATUS_ACTIVE e (s.dmaActive e)).wr Reg.DM_STATUS_BUSY e (b2n (s.dmaActive e != 0))

/-- DM_LAST_ERR of engine `e`. -/
def Dev.dmaErrAt (s : Dev) (e a p : Nat) : Dev := (s.wr Reg.DM_LAST_ERR_ADDR e a).wr Reg.DM_LAST_ERR_PART e p

/-- The first range of a transfer that lies outside every region or is not the partition's, with why (R277). -/
def Dev.dmaFault (s : Dev) (c : Cmd) : Option (Nat × Refuse) :=
  let p := s.cPart c
  let bad := fun (a : Nat) => match s.probe p a c.inner with
    | .hole => some (a, Refuse.hole)
    | .foreign => some (a, Refuse.foreign)
    | _ => none
  (List.range c.outer).findSome? (fun k => ((if c.isCopy then bad (c.srcRun k) else none) : Option (Nat × Refuse)).orElse (fun _ => bad (c.dstRun k)))

/-- The address a refusal is recorded with: the data unit of an uncorrectable error, else the run. -/
def refuseAt (a : Nat) : Refuse → Nat
  | .uncorr u => u * 64
  | _ => a

/-- How far a transfer came: bytes written, and the status and address of the refusal that ended it, 0 for none. -/
structure DmaRun where
  bytes : Nat
  status : Nat
  detail : Nat
  deriving DecidableEq, Repr

/-- Move runs `k`, `k` + 1, … in order, each read whole before it is written; a refused run writes nothing and ends the
transfer, and earlier runs stay (R277). -/
def Dev.dmaRuns (c : Cmd) : Nat → Nat → DmaRun → Dev → Dev × DmaRun
  | 0, _, r, s => (s, r)
  | n + 1, k, r, s =>
    let p := s.cPart c
    let (bs, rr) := if c.isCopy then s.loadFor p (c.srcRun k) c.inner
      else (((List.replicate (c.inner / 8) (leBytes 8 c.w2.toNat)).flatten), Refuse.ok)
    let s := s.noteRefused p rr (some c)
    if refuseStatus rr ≠ 0 then (s, { r with status := refuseStatus rr, detail := refuseAt (c.srcRun k) rr })
    else
      let (s, rw) := s.storeFor p (c.dstRun k) bs (some c)
      if refuseStatus rw ≠ 0 then (s, { r with status := refuseStatus rw, detail := refuseAt (c.dstRun k) rw })
      else Dev.dmaRuns c n (k + 1) { r with bytes := r.bytes + c.inner } s

/-- Engine `e` takes a transfer. A fault stops it before its first write (R277). -/
def Dev.dmaStart (s : Dev) (c : Cmd) (e : Nat) : Dev :=
  match s.dmaFault c with
  | some (a, r) =>
    let s := s.noteRefused (s.cPart c) r (some c)
    let s := (s.bump Reg.DM_XFERS e 1).bump Reg.DM_ERRORS e 1
    (s.dmaErrAt e a (s.cPart c)).failEv c Ev.DM_ADDR_FAULT e a 0
  | none =>
    let (s, r) := Dev.dmaRuns c c.outer 0 ⟨0, 0, 0⟩ s
    let x : Xfer := { engine := e, seq := s.nextXfer, c := c, bytes := r.bytes, status := r.status, detail := r.detail }
    ({ s with xfers := s.xfers ++ [x], nextXfer := s.nextXfer + 1 }).showDma e

/-- Give a DMA command to an engine it may take, or let it wait (R280). -/
def Dev.dmaTake (s : Dev) (c : Cmd) : Dev :=
  let free := (if c.engine = 63 then List.range 8 else [c.engine]).filter s.dmaFree
  match free with
  | [] => { s with dmaWait := s.dmaWait ++ [c] }
  | _ => s.fresh.dmaStart c (free.getD (Config.pick s.seed % free.length) 0)

/-- The DMA commands that wait are tried again, oldest first. -/
def Dev.dmaRetry (s : Dev) : Dev := s.dmaWait.foldl (fun s c => s.dmaTake c) { s with dmaWait := [] }

/-- DMA_COPY and DMA_FILL: a signal that names no knot does nothing (R285). -/
def Dev.dmaCommand (s : Dev) (c : Cmd) : Dev :=
  if dmaBad c then s.badFormat c
  else if c.sigEn && !bit c.w6 16 && !knotOk (bits c.w6 12 0) then s.failSt c stBadKnot (bits c.w6 12 0) 0
  else s.dmaTake c

/-- DMA_COPY. -/
def doDmaCopy (c : Cmd) (s : Dev) : Dev := s.dmaCommand c
/-- DMA_FILL. -/
def doDmaFill (c : Cmd) (s : Dev) : Dev := s.dmaCommand c

/-- A SIGNAL message to a peer, ordered behind what its queue sent there (R294). -/
def signalMsg (c : Cmd) (part n w2 amount : Nat) (fin : MsgEnd) : Msg :=
  { id := 0, peer := n, part := part, queue := c.queue, typ := 4, ordered := true, reply := false, fin := fin
    ext := [w2 % 2 ^ 16, amount], data := [], total := 1, incAt := 2 }

/-- The signal of a transfer whose writes are all acknowledged, and its completion (R295). -/
def Dev.dmaSignal (s : Dev) (x : Xfer) : Dev :=
  let c := x.c
  if !c.sigEn then s.finishOk c
  else if bit c.w6 16 then
    let n := bits c.w6 47 32
    match s.peerRefused (s.cPart c) n with
    | 0 => s.post (signalMsg c (s.cPart c) n (bits c.w6 12 0) (bits c.w7 31 0) (.dma c x.engine))
    | st =>
      let s := if st = Ev.GT_NO_ROUTE.status then s.reportC c Ev.GT_NO_ROUTE 0 n 0 else s
      ((s.reportC c Ev.DM_REMOTE_FAIL x.engine n 0).signalFailed c x.engine).finish c st true 0 0 n 0
  else
    let (s, st) := s.knotAddOp (bits c.w6 12 0) (bits c.w7 31 0) (s.cPart c) (.dma x.engine) (some c)
    let s := if st = 0 then s else s.signalFailed c x.engine
    s.finish c st true 0 0 (if st = 0 then 0 else bits c.w6 12 0) 0

/-- The end of a transfer: its counters, its failure or its signal, and the engine is free for one that waits. -/
def Dev.dmaEnd (s : Dev) (x : Xfer) (status : Nat) : Dev :=
  let s := ({ s with xfers := s.xfers.filter (fun y => !(y.engine == x.engine && y.seq == x.seq)) }).showDma x.engine
  let s := (s.bump Reg.DM_BYTES x.engine x.bytes).bump Reg.DM_XFERS x.engine 1
  let s := (s.pf (s.cPart x.c) 0x3C x.bytes).addWork x.c { bytes := x.bytes }
  let s := if status = 0 then s.dmaSignal x
    else
      let s := (s.bump Reg.DM_ERRORS x.engine 1).dmaErrAt x.engine x.detail (s.cPart x.c)
      if status = Ev.DM_DEST_ERROR.status then s.failEv x.c Ev.DM_DEST_ERROR x.engine x.detail 0
      else s.failSt x.c status x.detail 0
  s.dmaRetry

/-- DMA_TRANSFER_COMPLETE (R277, R295): the destination has acknowledged every write, or refused one. -/
def doDmaTransferComplete (e seq result : Nat) (s : Dev) : Dev :=
  match s.xfers.find? (fun x => x.engine = e ∧ x.seq = seq) with
  | none => s
  | some x => s.dmaEnd x (if x.status ≠ 0 then x.status else if result ≠ 0 then Ev.DM_DEST_ERROR.status else 0)

/-- Whether a transfer writes host memory. -/
def Xfer.toHost (x : Xfer) : Bool := (List.range x.c.outer).any (fun k => regionOf (x.c.dstRun k) == .host)

/-- PCIE_COMPLETION_TIMEOUT (R256, R295): the acknowledging read of a transfer to host memory, or a ring access, drew no
completion. -/
def doPcieCompletionTimeout (q e seq : Nat) (s : Dev) : Dev :=
  match s.xfers.find? (fun x => decide (x.engine = e) && decide (x.seq = seq) && x.toHost) with
  | some x => s.dmaEnd x (if x.status ≠ 0 then x.status else Ev.DM_DEST_ERROR.status)
  | none =>
    if s.qState q = 0 ∨ s.qState q = 4 then s
    else if s.rd Reg.QM_Q_SQ_LOC q = 1 ∨ s.rd Reg.QM_Q_CQ_LOC q = 1 then s.ringFault q else s

/-- SIGNAL (R293, R294, R296). -/
def doSignal (c : Cmd) (s : Dev) : Dev :=
  let k := bits c.w2 12 0
  let op := bits c.w2 15 13
  let p := s.cPart c
  if 4 ≤ op then s.badFormat c
  else if bit c.w2 16 then
    let n := bits c.w2 47 32
    match s.peerRefused p n with
    | 0 => s.post (signalMsg c p n (k + op * 2 ^ 13) (bits c.w3 31 0) (.cmd c))
    | st => s.failPeer c st n
  else
    s.arrive k { agent := .queue c.queue, op := op, amount := bits c.w3 31 0, cmd := some c }

/-- DMA_COPY. -/
def execDmaCopy (c : Cmd) (s : State) : Host.Outcome State Fault Refusal := s.on (doDmaCopy c)
/-- DMA_FILL. -/
def execDmaFill (c : Cmd) (s : State) : Host.Outcome State Fault Refusal := s.on (doDmaFill c)
/-- DMA_TRANSFER_COMPLETE. -/
def execDmaTransferComplete (e seq result : Nat) (s : State) : Host.Outcome State Fault Refusal := s.on (doDmaTransferComplete e seq result)
/-- PCIE_COMPLETION_TIMEOUT. -/
def execPcieCompletionTimeout (q e seq : Nat) (s : State) : Host.Outcome State Fault Refusal := s.on (doPcieCompletionTimeout q e seq)
/-- SIGNAL. -/
def execSignal (c : Cmd) (s : State) : Host.Outcome State Fault Refusal := s.on (doSignal c)

end Sys2Proof.Machine
end

