-- ==== Sys2Proof/Machine/Coils.lean ====
section
/-! DEFINITION. The context store: handles, descriptors and the coil table, pools, chunks and frames, placement, and coil data
(spec/10, R225 to R240). -/
namespace Sys2Proof.Machine

/-- Change the context store. -/
def Dev.cs (s : Dev) (f : CoilStore → CoilStore) : Dev := { s with coil := f s.coil }

/-! Statuses reported only in completions (R250) -/

/-- CS_BAD_TYPE. -/
def stBadType : Nat := 0x0941
/-- CS_RANGE. -/
def stRange : Nat := 0x0942
/-- CS_PINNED. -/
def stPinned : Nat := 0x0943
/-- CS_NO_PEER. -/
def stNoPeer : Nat := 0x0944
/-- CS_BAD_POLICY. -/
def stBadPolicy : Nat := 0x0945
/-- CS_DISABLED. -/
def stDisabled : Nat := 0x0946

/-! Generations and handles (R225, R226) -/

/-- The generation every slot starts with. -/
def Dev.startGen (s : Dev) : Nat := s.rd Reg.BT_BOOT_COUNT_COUNT 0 % 65536 * 1024 + 1

/-- The generation after `g`: modulo 2^26, skipping 0. -/
def nextGen (g : Nat) : Nat := if (g + 1) % 2 ^ 26 = 0 then 1 else (g + 1) % 2 ^ 26

/-- PART, GEN and SLOT of a handle. -/
def hPart (h : Nat) : Nat := nbits h 63 58
/-- GEN of a handle. -/
def hGen (h : Nat) : Nat := nbits h 57 32
/-- SLOT of a handle. -/
def hSlot (h : Nat) : Nat := nbits h 31 0
/-- The handle of a slot of a partition under a generation. -/
def mkHandle (p g slot : Nat) : Nat := p * 2 ^ 58 + g * 2 ^ 32 + slot

/-- The descriptor of a slot. -/
def Dev.coilAt (s : Dev) (slot : Nat) : Coil :=
  let k := NMap.get ({} : Coil) s.coil.coils slot
  if k.gen = 0 then { k with gen := s.startGen } else k

/-- Bytes of an extent (R227). -/
def frameSize (cls : Nat) : Nat := 4096 * 2 ^ cls
/-- Bytes of a coil. -/
def Coil.size (k : Coil) : Nat := k.ext.length * frameSize k.cls
/-- Bytes of a record (R228). -/
def Coil.record (k : Coil) : Nat := 8 * 2 ^ k.rsz
/-- Records a ring-history coil can hold. -/
def Coil.cap (k : Coil) : Nat := k.size / k.record
/-- A coil that exists: LIVE, MIGRATING or LOST. -/
def Coil.exists (k : Coil) : Bool := k.state == 1 || k.state == 2 || k.state == 3

/-! The coil table (R230, R231) -/

/-- Slots of the table. -/
def Dev.tableSlots (s : Dev) : Nat := 2 ^ s.rd Reg.CS_TABLE_LOG2_SLOTS 0

/-- The eight words of a descriptor, for the table copy at `base`. -/
def Coil.words (k : Coil) (list : Nat) : List Nat :=
  let e := fun (i : Nat) => (k.ext.getD i 0) + (if k.tier = 2 ∧ i < k.ext.length then k.peer * 2 ^ 48 else 0)
  [k.state + b2n k.ring * 2 ^ 3 + k.cls * 2 ^ 4 + (k.ext.length - 1) * 2 ^ 8 + k.tier * 2 ^ 14 + b2n k.pinned * 2 ^ 16
      + b2n k.mirrored * 2 ^ 17 + b2n k.degraded * 2 ^ 18 + b2n k.touched * 2 ^ 19 + k.policy * 2 ^ 20 + k.owner * 2 ^ 24
      + k.gen * 2 ^ 32 + k.nbhd * 2 ^ 58,
   k.group + k.rsz * 2 ^ 8 + k.mirrorPeer * 2 ^ 16, k.head + k.count * 2 ^ 32, k.lastTouch + k.touches * 2 ^ 48,
   e 0, e 1, e 2, if 4 < k.ext.length then list + k.xl * 8 else e 3]

/-- Write the descriptor of a slot, and its extent list, to every table copy that is not lost. -/
def Dev.writeDesc (s : Dev) (slot : Nat) : Dev :=
  let k := s.coilAt slot
  [s.rd Reg.CS_TABLE0_BASE 0, s.rd Reg.CS_TABLE1_BASE 0].foldl (fun s b =>
    let base := b * 65536
    let list := base + s.tableSlots * 64
    if s.deviceLost base then s
    else
      let s := (s.putBytes (base + slot * 64) ((k.words list).map (leBytes 8)).flatten).clearBad (base + slot * 64) 64
      if k.ext.length ≤ 4 then s
      else s.putBytes (list + k.xl * 8) ((k.ext.drop 3).map (fun a => leBytes 8 (a + if k.tier = 2 then k.peer * 2 ^ 48 else 0))).flatten) s

/-- Replace the descriptor of a slot. -/
def Dev.setCoil (s : Dev) (slot : Nat) (k : Coil) : Dev :=
  (s.cs (fun x => { x with coils := NMap.set {} x.coils slot k })).writeDesc slot

/-- Change the descriptor of a slot. -/
def Dev.modCoil (s : Dev) (slot : Nat) (f : Coil → Coil) : Dev := s.setCoil slot (f (s.coilAt slot))

/-- The extent-list words of a coil: where they start and how many they are. -/
def Coil.listSpan (k : Coil) : Nat × Nat := (k.xl, if 4 < k.ext.length then k.ext.length - 3 else 0)

/-- The lowest place for `n` extent-list words; none where the area is full. -/
def Dev.listPlace (s : Dev) (n : Nat) : Option Nat :=
  let spans := (s.coil.coils.filter (fun e => e.2.exists)).map (fun e => e.2.listSpan)
  let fits := fun (a : Nat) => decide (a + n ≤ s.tableSlots * 8) && spans.all (fun x => decide (a + n ≤ x.1) || decide (x.1 + x.2 ≤ a))
  let ok := (0 :: spans.map (fun x => x.1 + x.2)).filter fits
  match ok with
  | [] => none
  | a :: r => some (r.foldl min a)

/-- The first slot from `f` on that is not RETIRED. -/
def Dev.freshFrom (s : Dev) : Nat → Nat → Nat
  | 0, f => f
  | n + 1, f => if (s.coilAt f).state = 4 then s.freshFrom n (f + 1) else f

/-- The first slot never allocated. -/
def Dev.freshSlot (s : Dev) : Nat := s.freshFrom (s.coil.coils.length + 1) s.coil.fresh

/-- The slot the next ALLOC takes: slots never allocated in ascending order, then freed slots in the order of their frees. One
that an allocation gave back keeps its turn. -/
def Dev.nextSlot (s : Dev) : Option Nat :=
  match s.coil.back with
  | e :: _ => some (e.2 - 1)
  | [] => if s.freshSlot < s.tableSlots then some s.freshSlot else s.coil.freed.head?

/-- An ALLOC takes the next slot off the free list: its turn. -/
def Dev.takeSlot (s : Dev) : Dev × Nat :=
  match s.coil.back with
  | e :: r => (s.cs (fun x => { x with back := r }), e.1)
  | [] =>
    let f := s.freshSlot
    (s.cs (fun x => if f < s.tableSlots then { x with fresh := f + 1, turns := x.turns + 1 }
                    else { x with freed := x.freed.drop 1, turns := x.turns + 1 }), s.coil.turns)

/-- An ALLOC that failed gives its slot back, before those whose turn comes later (R231, R233). -/
def Dev.giveSlot (s : Dev) (slot turn : Nat) : Dev := s.cs (fun x => { x with back := NMap.set 0 x.back turn (slot + 1) })

/-! Pools, chunks and frames (R238, R239) -/

/-- Frames of a chunk of a class. -/
def framesPer (cls : Nat) : Nat := 2 ^ (14 - cls)

/-- The first key of the host chunks of partition `p`: chunk keys below are granule numbers. -/
def hostChunk (p i : Nat) : Nat := 32768 + p * 2 ^ 32 + i

/-- The tier of a chunk. -/
def chunkTier (g : Nat) : Nat := if g < 8192 then 0 else if g < 24576 then 1 else 3

/-- The neighbourhood of a chunk of HBM or LPDDR. -/
def chunkNbhd (g : Nat) : Nat := if g < 8192 then g / 1024 else (g - 8192) / 2048

/-- First address of a chunk. -/
def Dev.chunkAddr (s : Dev) (g : Nat) : Nat :=
  if g < 24576 then (granuleRange g).1
  else hostBase + s.rd Reg.CS_PART_HOSTBASE_BASE ((g - 32768) / 2 ^ 32) * 4096 + (g - 32768) % 2 ^ 32 * 2 ^ 26

/-- The chunk that holds an address of a frame of partition `p`. -/
def Dev.chunkOf (s : Dev) (p a : Nat) : Nat :=
  if a < hostBase then granuleOf a
  else hostChunk p ((a - hostBase - s.rd Reg.CS_PART_HOSTBASE_BASE p * 4096) / 2 ^ 26)

/-- The chunks of the pool of a neighbourhood and tier: the highest POOL_CHUNKS of its memory. -/
def Dev.poolChunks (s : Dev) (nbhd tier : Nat) : List Nat :=
  let n := s.rd Reg.CS_POOL_POOL_CHUNKS (nbhd + 8 * tier)
  let top := if tier = 0 then (nbhd + 1) * 1024 else 8192 + (nbhd + 1) * 2048
  (List.range n).map (fun i => top - n + i)

/-- Whether a chunk is in use. -/
def Dev.chunkUsed (s : Dev) (g : Nat) : Bool := s.coil.chunks.any (fun e => e.1 == g)

/-- Chunk `g`. -/
def Dev.chunk (s : Dev) (g : Nat) : Chunk := NMap.get ({} : Chunk) s.coil.chunks g

/-- The free chunks of a pool whose device is not lost, lowest first. -/
def Dev.freeChunks (s : Dev) (nbhd tier : Nat) : List Nat :=
  (s.poolChunks nbhd tier).filter (fun g => !s.chunkUsed g && !s.deviceLost (granuleRange g).1 && s.flag Reg.PA_MEM_OWNER_ASSIGNED g)

/-- Frames of a chunk that are zeroed and free. -/
def Chunk.free (k : Chunk) : Nat := framesPer k.cls - k.used.length - k.dirty.length

/-- The lowest free frame of a chunk. -/
def Chunk.frame (k : Chunk) : Option Nat := (List.range (framesPer k.cls)).find? (fun f => !k.used.contains f && !k.dirty.contains f)

/-- The chunks of partition `p` in a neighbourhood and tier that are not lost, lent or not. -/
def Dev.chunksOf (s : Dev) (p nbhd tier : Nat) (loan : Bool) : NMap Chunk :=
  s.coil.chunks.filter (fun e => e.2.part == p && e.2.loan == loan && chunkTier e.1 == tier &&
    (tier == 3 || (chunkNbhd e.1 == nbhd && !s.deviceLost (granuleRange e.1).1)))

/-- Chunks partition `p` uses in a tier (R240). -/
def Dev.chunkUse (s : Dev) (p tier : Nat) (loan : Bool) : Nat :=
  s.coil.chunks.countP (fun e => e.2.part == p && e.2.loan == loan && chunkTier e.1 == tier)

/-- The quota of partition `p` in a tier. -/
def Dev.chunkQuota (s : Dev) (p tier : Nat) (loan : Bool) : Nat :=
  if loan then s.rd Reg.CS_PART_QUOTA_LOAN p
  else if tier = 0 then s.rd Reg.CS_PART_QUOTA_HBM p
  else if tier = 1 then s.rd Reg.CS_PART_QUOTA_LPDDR p
  else s.rd Reg.CS_PART_SPILL_HOST_CHUNKS p

/-- The key of a quota: partition, tier, and whether it is the loan quota. -/
def quotaKey (p tier : Nat) (loan : Bool) : Nat := p * 8 + tier + (if loan then 4 else 0)

/-- Whether a quota stands lowered below use: until use falls below it, allocations and promotions are refused (R236). -/
def Dev.overQuota (s : Dev) (p tier : Nat) (loan : Bool) : Bool :=
  s.coil.overQuota.contains (quotaKey p tier loan) && decide (s.chunkQuota p tier loan ≤ s.chunkUse p tier loan)

/-- Note how the quotas of partition `p` stand to their use. -/
def Dev.noteQuota (s : Dev) (p : Nat) : Dev :=
  [(0, false), (1, false), (1, true), (3, false)].foldl (fun s x =>
    let k := quotaKey p x.1 x.2
    let rest := s.coil.overQuota.filter (fun y => y ≠ k)
    if s.chunkQuota p x.1 x.2 < s.chunkUse p x.1 x.2 then s.cs (fun y => { y with overQuota := rest ++ [k] })
    else if s.chunkUse p x.1 x.2 < s.chunkQuota p x.1 x.2 then s.cs (fun y => { y with overQuota := rest })
    else s) s

/-- Show the figures of a pool and of a partition's use. -/
def Dev.showPool (s : Dev) (p nbhd tier : Nat) : Dev :=
  let s := ((s.wr Reg.CS_PART_USE_HBM p (s.chunkUse p 0 false)).wr Reg.CS_PART_USE_LPDDR p (s.chunkUse p 1 false)).wr
    Reg.CS_PART_USE_LOAN p (s.chunkUse p 1 true)
  if 1 < tier then s
  else
    let fc := (s.freeChunks nbhd tier).length
    let fb := ((s.coil.chunks.filter (fun e => chunkTier e.1 == tier && chunkNbhd e.1 == nbhd)).map (fun e => e.2.free * frameSize e.2.cls)).sum
    (s.wr Reg.CS_POOL_FREE_CHUNKS (nbhd + 8 * tier) fc).wr Reg.CS_POOL_FREE_MIB (nbhd + 8 * tier) (fc * 64 + fb / 2 ^ 20)

/-- Chunks partition `p` may still take in a tier of a neighbourhood. -/
def Dev.chunkRoom (s : Dev) (p nbhd tier : Nat) (loan : Bool) : Nat :=
  let q := s.chunkQuota p tier loan - s.chunkUse p tier loan
  if tier = 3 then q else min q (s.freeChunks nbhd tier).length

/-- Whether `n` frames of a class fit in a tier of a neighbourhood (R238). -/
def Dev.framesFit (s : Dev) (p nbhd tier cls n : Nat) (loan : Bool) : Bool :=
  decide (n ≤ (((s.chunksOf p nbhd tier loan).filter (fun e => e.2.cls == cls)).map (fun e => e.2.free)).sum
    + s.chunkRoom p nbhd tier loan * framesPer cls)

/-- Free bytes in a partition's chunks of a neighbourhood and tier and in the free chunks there (R238). -/
def Dev.freeBytes (s : Dev) (p nbhd tier : Nat) (loan : Bool) : Nat :=
  ((s.chunksOf p nbhd tier loan).map (fun e => e.2.free * frameSize e.2.cls)).sum + (s.freeChunks nbhd tier).length * 2 ^ 26

/-- The next chunk to take for a partition in a tier: the lowest free one. -/
def Dev.newChunk (s : Dev) (p nbhd tier : Nat) : Option Nat :=
  if tier = 3 then ((List.range (s.chunkUse p 3 false + 1)).map (hostChunk p)).find? (fun g => !s.chunkUsed g)
  else (s.freeChunks nbhd tier).head?

/-- Take one frame: of a chunk of the class with a free one, else of a new chunk, which holds zeros and passes to the
partition (R239, R352). -/
def Dev.takeFrame (s : Dev) (p nbhd tier cls : Nat) (loan : Bool) : Option (Dev × Nat) :=
  match (s.chunksOf p nbhd tier loan).findSome? (fun e => if e.2.cls = cls then (e.2.frame).map (fun f => (e.1, f)) else none) with
  | some (g, f) =>
    some (s.cs (fun x => { x with chunks := NMap.modify {} x.chunks g (fun k => { k with used := k.used ++ [f] }) }),
      s.chunkAddr g + f * frameSize cls)
  | none =>
    if s.chunkRoom p nbhd tier loan = 0 then none
    else match s.newChunk p nbhd tier with
    | none => none
    | some g =>
      let k : Chunk := { part := p, cls := cls, loan := loan, used := [0], dirty := [] }
      let s := s.cs (fun x => { x with chunks := NMap.set {} x.chunks g k })
      let s := if g < 24576 then ((s.zero (s.chunkAddr g) (2 ^ 26)).clearBad (s.chunkAddr g) (2 ^ 26)).wr Reg.PA_MEM_OWNER_OWNER g p else s
      some (s, s.chunkAddr g)

/-- Take `n` frames. -/
def Dev.takeFrames (p nbhd tier cls : Nat) (loan : Bool) : Nat → Dev → List Nat → Dev × List Nat
  | 0, s, l => (s, l)
  | n + 1, s, l => match s.takeFrame p nbhd tier cls loan with
    | none => (s, l)
    | some (s, a) => Dev.takeFrames p nbhd tier cls loan n s (l ++ [a])

/-- The neighbourhood with the most free bytes among those where the frames fit, the lowest on a tie (R238). -/
def Dev.bestNbhd (s : Dev) (p tier cls n : Nat) (loan : Bool) (ns : List Nat) : Option Nat :=
  (ns.filter (fun b => s.framesFit p b tier cls n loan)).foldl (fun o b => match o with
    | none => some b
    | some a => if s.freeBytes p a tier loan < s.freeBytes p b tier loan then some b else some a) none

/-- Whether tier REMOTE or HOST takes coils of a partition: enabled, and its peer can be sent to. -/
def Dev.remoteOpen (s : Dev) (p : Nat) : Bool :=
  s.flag Reg.CS_PART_SPILL_REMOTE_EN p && s.peerRefused p (s.rd Reg.CS_PART_SPILL_SPILL_FNID p) == 0

/-- Place `n` frames of a class for partition `p` in a tier of one of some neighbourhoods (R238, R240): the neighbourhood and
the frames; none where there is no room. `new` marks an allocation or a promotion, which a lowered quota refuses (R236). What a peer
has room for is found when it is asked. -/
def Dev.place (s : Dev) (p tier cls n : Nat) (ns : List Nat) (new : Bool) : Option (Dev × Nat × List Nat) :=
  let s := s.noteQuota p
  if new && s.overQuota p tier false then none
  else if tier < 2 then
    match s.bestNbhd p tier cls n false ns with
    | none => none
    | some b =>
      let (s, l) := Dev.takeFrames p b tier cls false n s []
      some (s.showPool p b tier, b, l)
  else
    let b := ns.getD (Config.pick s.seed % ns.length) 0
    let s := s.fresh
    if tier = 2 then (if s.remoteOpen p then some (s, b, List.replicate n 0) else none)
    else if s.flag Reg.CS_PART_SPILL_HOST_EN p && s.framesFit p 0 3 cls n false then
      let (s, l) := Dev.takeFrames p 0 3 cls false n s []
      some (s, b, l)
    else none

/-- Free frames of partition `p`: local ones wait to be zeroed, host ones are free at once. -/
def Dev.freeFrames (s : Dev) (p cls : Nat) (l : List Nat) : Dev :=
  let s := l.foldl (fun s a =>
    if a = 0 then s
    else
      let g := s.chunkOf p a
      let f := (a - s.chunkAddr g) / frameSize cls
      let k := s.chunk g
      let used := k.used.filter (fun x => x ≠ f)
      let k : Chunk := if a < hostBase then { k with used := used, dirty := k.dirty ++ [f] } else { k with used := used }
      if k.used = [] ∧ k.dirty = [] then s.cs (fun x => { x with chunks := x.chunks.erase g })
      else s.cs (fun x => { x with chunks := NMap.set {} x.chunks g k })) s
  match l.find? (fun a => decide (a ≠ 0) && decide (a < hostBase)) with
  | some a => s.showPool p (chunkNbhd (granuleOf a)) (chunkTier (granuleOf a))
  | none => s

/-- FRAME_ZEROING_DONE (R239, R477): freed frames of a pool hold zeros, and a chunk with none in use returns to it. -/
def doFrameZeroingDone (nbhd tier : Nat) (s : Dev) : Dev :=
  if !s.flag Reg.CS_CTRL_EN 0 then s
  else
    let mine := s.coil.chunks.filter (fun e => chunkTier e.1 == tier && chunkNbhd e.1 == nbhd && !e.2.dirty.isEmpty)
    mine.foldl (fun s e =>
      let s := e.2.dirty.foldl (fun s f =>
        let a := s.chunkAddr e.1 + f * frameSize e.2.cls
        (s.zero a (frameSize e.2.cls)).clearBad a (frameSize e.2.cls)) s
      let s := if e.2.used = [] then (s.cs (fun x => { x with chunks := x.chunks.erase e.1 })).wr Reg.PA_MEM_OWNER_OWNER e.1 0
        else s.cs (fun x => { x with chunks := NMap.set {} x.chunks e.1 { e.2 with dirty := [] } })
      s.showPool e.2.part nbhd tier) s

/-! Coil data (R227 to R229) -/

/-- The pieces of memory that hold `n` bytes of a coil from byte `off` on. -/
def Coil.pieces (k : Coil) : Nat → Nat → Nat → List (Nat × Nat)
  | 0, _, _ => []
  | fuel + 1, off, n =>
    if n = 0 then []
    else
      let z := frameSize k.cls
      let m := min (z - off % z) n
      (k.ext.getD (off / z) 0 + off % z, m) :: k.pieces fuel (off + m) (n - m)

/-- The pieces of `n` bytes from byte `off` on. -/
def Coil.span (k : Coil) (off n : Nat) : List (Nat × Nat) := k.pieces (k.ext.length + 1) off n

/-- The pieces of `n` records from physical index `i` on, wrapping at CAP. -/
def Coil.records (k : Coil) (i n : Nat) : List (Nat × Nat) :=
  let m := min n (k.cap - i)
  k.span (i * k.record) (m * k.record) ++ k.span 0 ((n - m) * k.record)

/-- What a read of `n` bytes from byte `off` on meets, or of `n` records from logical index `off` on (R229). -/
def Coil.reads (k : Coil) (off n : Nat) : List (Nat × Nat) :=
  if k.ring then k.records ((k.head + k.cap - k.count % k.cap + off) % k.cap) n else k.span off n

/-- The bytes of some pieces. -/
def Dev.gather (s : Dev) (ps : List (Nat × Nat)) : List Byte := (ps.map (fun x => s.bytes x.1 x.2)).flatten

/-- Write bytes over some pieces. -/
def Dev.scatter : List (Nat × Nat) → List Byte → Dev → Dev
  | [], _, s => s
  | (a, n) :: r, bs, s => Dev.scatter r (bs.drop n) ((s.putBytes a (bs.take n)).clearBad a n)

/-- The first unit with an uncorrectable error that a read of some pieces meets. -/
def Dev.piecesBad (s : Dev) (ps : List (Nat × Nat)) : Option Nat := ps.findSome? (fun x => s.badUnit x.1 x.2)

/-- The first such unit that a write of some pieces covers only in part (R438). -/
def Dev.piecesPartial (s : Dev) (ps : List (Nat × Nat)) : Option Nat :=
  ps.findSome? (fun x => s.badMem.find? (fun u => decide (u * 64 < x.1 + x.2) && decide (x.1 < u * 64 + 64) &&
    !(decide (x.1 ≤ u * 64) && decide (u * 64 + 64 ≤ x.1 + x.2))))

/-- Whether a coil's memory is in this module. -/
def Coil.here (k : Coil) : Bool := decide (k.tier < 2)

/-- Whether some addresses lie on a lost device (R248). -/
def Dev.onLost (s : Dev) (l : List Nat) : Bool := l.any s.deviceLost

/-! Coil data outside this module (R247, R356, R358): it stays ciphertext under the owner's memory key -/

/-- The handle a coil's ciphertext is tweaked with. -/
def Coil.handle (k : Coil) (slot : Nat) : Nat := mkHandle k.owner k.gen slot

/-- The ciphertext of bytes from the unit at byte `off` of a coil on. -/
def cipherText (key h off : Nat) (bs : List Byte) : List Byte :=
  (List.range bs.length).map (fun i => Config.cipherByte key h (off + i) ((bs.drop (i / 64 * 64)).take 64))

/-- The clear text of a whole coil's ciphertext: what the module wrote, where the ciphertext is that of `old`. -/
def plainText (key h : Nat) (old bs : List Byte) : List Byte :=
  if bs = cipherText key h 0 old then old
  else (List.range bs.length).map (fun i => Config.plainByte key h i ((bs.drop (i / 64 * 64)).take 64))

/-- The memory key of a coil's owner. -/
def Dev.coilKey (s : Dev) (k : Coil) : Nat := (s.part k.owner).memKey

/-- All bytes of a coil that is in this module or at the host. -/
def Dev.coilBytes (s : Dev) (slot : Nat) (k : Coil) : List Byte :=
  let bs := s.gather (k.span 0 k.size)
  if k.tier = 3 then plainText (s.coilKey k) (k.handle slot) k.away bs else bs

/-- The ciphertext of a coil as it goes to a peer. -/
def Dev.coilCipher (s : Dev) (slot : Nat) (k : Coil) : List Byte := cipherText (s.coilKey k) (k.handle slot) 0 (s.coilBytes slot k)

/-- The ciphertext of the whole units that hold `n` bytes of a coil from byte `off` on, round the end of the coil. -/
def Dev.unitCipher (s : Dev) (slot : Nat) (k : Coil) (off n : Nat) : List Byte :=
  (List.range ((off + n + 63) / 64 - off / 64)).flatMap (fun i =>
    let u := (off / 64 * 64 + i * 64) % k.size
    cipherText (s.coilKey k) (k.handle slot) u (s.gather (k.span u 64)))

/-- Put the bytes of a coil of a slot into frames of a tier: ciphertext at the host. -/
def Dev.putFrames (s : Dev) (slot : Nat) (k : Coil) (tier : Nat) (dst : List Nat) (bs : List Byte) : Dev :=
  let z := frameSize k.cls
  let bs := if tier = 3 then cipherText (s.coilKey k) (k.handle slot) 0 bs else bs
  (List.range dst.length).foldl (fun s i =>
    let b := (bs.drop (i * z)).take z
    (s.putBytes (dst.getD i 0) b).clearBad (dst.getD i 0) b.length) s

/-! Policies (R241) -/

/-- Policy entry `e` of partition `p`. -/
def Dev.policy (s : Dev) (p e : Nat) : Nat := s.rd Reg.CS_POL_DATA (p + 64 * e)
/-- HOME. -/
def polHome (w : Nat) : Nat := nbits w 1 0
/-- FALLBACK. -/
def polFallback (w : Nat) : Bool := w.testBit 2
/-- PROMOTE_N. -/
def polN (w : Nat) : Nat := nbits w 6 3
/-- PROMOTE_WIN in ms. -/
def polWin (w : Nat) : Nat := nbits w 16 7
/-- DEMOTE_IDLE in ms. -/
def polIdle (w : Nat) : Nat := nbits w 28 17
/-- WARM_SHARE. -/
def polWarm (w : Nat) : Nat := nbits w 36 29
/-- SPILL_IDLE in s. -/
def polSpill (w : Nat) : Nat := nbits w 48 37
/-- SPILL_HOST. -/
def polSpillHost (w : Nat) : Bool := w.testBit 49

/-- The policy word of a coil. -/
def Dev.polOf (s : Dev) (k : Coil) : Nat := s.policy k.owner k.policy

/-- Time since the last touch of a coil. -/
def Dev.coilIdle (s : Dev) (k : Coil) : Nat := (s.now + 2 ^ 64 - k.lastTouch * 2 ^ 14) % 2 ^ 62

/-! Coil messages (R326, R356) -/

/-- The messages that carry some bytes of a coil, at most 256 MiB each. -/
def coilSplit : Nat → List Byte → List (Nat × List Byte)
  | 0, _ => []
  | n + 1, bs => (0, bs.take (2 ^ 28)) :: (coilSplit n (bs.drop (2 ^ 28))).map (fun x => (x.1 + 2 ^ 28, x.2))

/-- Send coil messages of one operation to a peer, and note what their outcome decides. `q` is the queue they are ordered in,
none for the store's own. `unit` says how many bytes one step of OFFSET is. -/
def Dev.coilSend (s : Dev) (n slot gen : Nat) (k : Coil) (op off unit : Nat) (q : Option Nat) (data : List Byte) (kind : TalkKind) : Dev :=
  let l := coilSplit (max 1 ((data.length + 2 ^ 28 - 1) / 2 ^ 28)) data
  let tag := s.coil.nextTag
  let s := s.cs (fun x => { x with nextTag := tag + 1, talks := x.talks ++ [{ tag := tag, peer := n, part := k.owner, slot := slot, gen := gen, kind := kind, left := l.length }] })
  l.foldl (fun s x => s.post
    { id := 0, peer := n, part := k.owner, queue := q.getD 0, typ := 8, ordered := false, reply := q.isNone, fin := .coil tag
      ext := [mkHandle k.owner gen slot, op, off + x.1 / unit], data := x.2, total := 1, incAt := 2, step := 4096 / unit }) s

/-- A peer that can be sent to is told that this module needs no more of what it holds of a coil. -/
def Dev.sendRelease (s : Dev) (n slot gen : Nat) (k : Coil) : Dev :=
  if s.peerRefused k.owner n ≠ 0 then s else s.coilSend n slot gen k 3 0 1 none [] .release

end Sys2Proof.Machine
end

