-- ==== Sys2Proof/Machine/CoilOps.lean ====
section
/-! DEFINITION. The context store: handle checks, admission, operations, touches, migrations and what becomes of coils when a
device or a peer is lost (R233 to R236, R242 to R248). -/
namespace Sys2Proof
/-- HANDLE of a context-store command (R263). -/
def Cmd.handle (c : Cmd) : Nat := c.w2.toNat
end Sys2Proof
namespace Sys2Proof.Machine

/-! Migrations (R242) -/

/-- The queued or copying migration of a slot. -/
def Dev.moveOf (s : Dev) (slot : Nat) : Option Move := s.coil.moves.find? (fun m => m.slot = slot)

/-- Remove the migrations of a slot, and with them the promotions that were to follow them (R242). -/
def Dev.dropMoves (s : Dev) (slot : Nat) : Dev :=
  s.cs (fun x => { x with moves := x.moves.filter (fun m => m.slot ≠ slot ∧ m.after ≠ slot + 1) })

/-- Replace the migration of a slot. -/
def Dev.setMove (s : Dev) (m : Move) : Dev := s.cs (fun x => { x with moves := x.moves.map (fun y => if y.slot = m.slot then m else y) })

/-- The operations of a slot that are admitted and wait in a given way. -/
def Dev.opsWaiting (s : Dev) (slot : Nat) (w : CoilWait) : List CoilOp :=
  s.coilOps.filter (fun o => decide (o.slot = slot) && o.admitted && decide (o.wait = w))

/-- Change the admitted operation of a command. -/
def Dev.setOp (s : Dev) (c : Cmd) (f : CoilOp → CoilOp) : Dev :=
  { s with coilOps := s.coilOps.map (fun o => if o.c = c ∧ o.admitted then f o else o) }

/-- A migration is abandoned (R236, R242, R248): its frames are freed, here and at a peer that has them all, and the coil stays at
its source. One that had not begun to copy is only taken out of the queue. -/
def Dev.abandon (s : Dev) (m : Move) : Dev :=
  let k := s.coilAt m.slot
  let s := (s.freeFrames k.owner k.cls m.dst).dropMoves m.slot
  if !m.started then s
  else
    let s := if k.state = 2 then s.modCoil m.slot (fun k => { k with state := 1 }) else s
    let s := if m.tier = 2 ∧ m.told.isSome then s.sendRelease m.peer m.slot m.gen k else s
    s.bump Reg.CS_MIG_ABORTS 0 1

/-- No mark of a failed mirror peer stands on a slot any more. -/
def Dev.unmark (s : Dev) (slot : Nat) : Dev := s.cs (fun x => { x with marks := x.marks.filter (fun y => y ≠ slot) })

/-- A coil becomes LOST (R248). -/
def Dev.coilLost (s : Dev) (slot : Nat) : Dev :=
  let s := match s.moveOf slot with
    | some m => s.abandon m
    | none => s
  let s := s.modCoil slot (fun k => { k with state := 3 })
  let p := (s.coilAt slot).owner
  (s.bump Reg.CS_PART_LOST p 1).reportP Ev.CS_COIL_LOST 0 p slot 0

/-- A coil loses its mirror (R246). -/
def Dev.mirrorLost (s : Dev) (slot : Nat) : Dev :=
  let s := (s.modCoil slot (fun k => { k with mirrored := false, degraded := true })).unmark slot
  s.reportP Ev.CS_MIRROR_LOST 0 (s.coilAt slot).owner slot 0

/-- A coil on a lost device: a mirrored one becomes its replica, another is LOST (R248), and so is one whose mirror peer has
failed. -/
def Dev.redirect (s : Dev) (slot : Nat) : Dev :=
  let k := s.coilAt slot
  if k.mirrored ∧ slot ∉ s.coil.marks then
    let bs := s.coilBytes slot k
    let s := match s.moveOf slot with
      | some m => s.abandon m
      | none => s
    let s := s.freeFrames k.owner k.cls k.ext
    s.modCoil slot (fun k => { k with state := 1, tier := 2, ext := List.replicate k.ext.length 0, peer := k.mirrorPeer, replica := true
                                      mirrored := false, degraded := true, away := bs })
  else s.coilLost slot

/-- Queue a policy migration that has its frames. -/
def Dev.queueMove (s : Dev) (slot tier : Nat) (dst : List Nat) : Dev :=
  s.cs (fun x => { x with moves := x.moves ++ [{ slot := slot, gen := (s.coilAt slot).gen, kind := .policy, tier := tier, dst := dst }] })

/-- A coil whose touches ask for it is promoted, or seeks a victim where HBM has no room (R242). -/
def Dev.promote (s : Dev) (slot : Nat) : Dev :=
  let k := s.coilAt slot
  let w := s.polOf k
  if !s.flag Reg.CS_CTRL_MIG_EN 0 || k.tier != 1 || k.pinned || k.state != 1 || polN w == 0 || decide (k.touches < polN w) ||
     decide (slot % 256 < polWarm w) || (s.moveOf slot).isSome then s
  else match s.place k.owner 0 k.cls k.ext.length [k.nbhd] true with
  | some (s, _, dst) => s.queueMove slot 0 dst
  | none => s.cs (fun x => { x with moves := x.moves ++ [{ slot := slot, gen := k.gen, kind := .policy, tier := 0, dst := [], seeking := true }] })

/-- A touch (R232, R242). -/
def Dev.touchOnly (s : Dev) (slot : Nat) : Dev :=
  let k := s.coilAt slot
  let n := if polWin (s.polOf k) * 16000000 < s.coilIdle k then 0 else k.touches
  s.setCoil slot { k with touches := min 65535 (n + 1), touched := true, lastTouch := nbits s.now 61 14 }

/-- A touch, evaluated at once. -/
def Dev.touch (s : Dev) (slot : Nat) : Dev := (s.touchOnly slot).promote slot

/-! Handle checks and admission (R233 to R236) -/

/-- The misuse log (R234). -/
def Dev.mlog (s : Dev) (c : Cmd) (op h cause : Nat) : Dev :=
  let i := s.rd Reg.CS_STATUS_MLOG_HEAD 0
  let s := ((((s.wr Reg.CS_MLOG_HANDLE i h).wr Reg.CS_MLOG_INFO_PARTITION i (s.cPart c)).wr Reg.CS_MLOG_INFO_QUEUE i c.queue).wr
    Reg.CS_MLOG_INFO_OP i op).wr Reg.CS_MLOG_INFO_CAUSE i cause
  let s := (s.wr Reg.CS_MLOG_TIME i s.now).wr Reg.CS_STATUS_MLOG_HEAD 0 ((i + 1) % 32)
  if i = 31 then s.wr Reg.CS_STATUS_MLOG_WRAPPED 0 1 else s

/-- CS_NOT_OWNER. -/
def Dev.notOwner (s : Dev) (c : Cmd) (op h cause : Nat) : Dev :=
  ((s.bump Reg.CS_PART_NOTOWNER (s.cPart c) 1).mlog c op h cause).failEv c Ev.CS_NOT_OWNER 0 (hSlot h) 0

/-- CS_STALE_HANDLE. -/
def Dev.stale (s : Dev) (c : Cmd) (h : Nat) : Dev :=
  (s.bump Reg.CS_PART_STALE (hPart h) 1).failEv c Ev.CS_STALE_HANDLE 0 (hSlot h) 0

/-- Whether an operation needs ownership (R232), by its number. -/
def opOwned (op : Nat) : Bool := op == 1 || op == 7 || op == 8 || op == 9

/-- Whether an operation is write-class (R232). -/
def opWrite (op : Nat) : Bool := !(op == 2 || op == 5 || op == 10)

/-- An operation ends: its command completes and its admission is released (R235). -/
def Dev.opEnd (s : Dev) (o : CoilOp) (f : Dev → Dev) : Dev := (f s).coilRelease o.c

/-- An operation fails with a status that names its slot. -/
def Dev.opFail (s : Dev) (o : CoilOp) (st d0 : Nat) : Dev := s.opEnd o (fun s => s.failSt o.c st d0 0)

/-- An operation fails with an event that names its slot. -/
def Dev.opFailEv (s : Dev) (o : CoilOp) (e : Event) : Dev := s.opEnd o (fun s => s.failEv o.c e 0 o.slot 0)

/-- An operation waits for a migration of its coil. -/
def Dev.opMove (s : Dev) (o : CoilOp) : Dev := s.setOp o.c (fun o => { o with wait := .move })

/-- Start copying a coil (R236, R242): it is MIGRATING; its data is fetched from a peer, or sent to one. -/
def Dev.startMove (s : Dev) (m : Move) : Dev :=
  let k := s.coilAt m.slot
  let n := s.rd Reg.CS_PART_SPILL_SPILL_FNID k.owner
  let s := s.modCoil m.slot (fun k => { k with state := 2 })
  if m.tier = 2 then
    (s.setMove { m with started := true, peer := n, tag := s.coil.nextTag }).coilSend n m.slot m.gen k 6 0 1 none (s.coilCipher m.slot k) .store
  else
    let s := s.setMove { m with started := true }
    if k.tier = 2 then s.coilSend k.peer m.slot m.gen k 4 0 1 none [] .fetch else s

/-- Migrate a coil for an operation that waits for it: a fault-in or an explicit migration (R243, R244). -/
def Dev.moveFor (s : Dev) (o : CoilOp) (kind : MoveKind) (tier : Nat) : Dev :=
  let s := match s.moveOf o.slot with
    | some m => s.abandon m
    | none => s
  let k := s.coilAt o.slot
  let st := if k.tier = 2 then s.peerRefused k.owner k.peer
    else if tier = 2 ∧ (s.sendKey k.owner).isNone then stNoFkey else 0
  if st ≠ 0 then s.opFail o st o.slot
  else match s.place k.owner tier k.cls k.ext.length [k.nbhd] false with
  | none => s.opFailEv o Ev.CS_QUOTA
  | some (s, _, dst) =>
    let m : Move := { slot := o.slot, gen := k.gen, kind := kind, tier := tier, dst := dst }
    let s := if kind = .fault then s.bump Reg.CS_FAULT_INS 0 1 else s
    ((s.cs (fun x => { x with moves := x.moves ++ [m] })).opMove o).startMove m

/-- The tier a coil is faulted in to: LPDDR, or HBM if that is its HOME (R243); a replica that took the coil's place returns to
LPDDR (R248). -/
def Dev.faultTier (s : Dev) (k : Coil) : Nat := if !k.replica ∧ polHome (s.polOf k) = 0 then 0 else 1

/-- An operation needs a coil's data in this module: it waits for the fault-in of a REMOTE or HOST coil, or for one already
made for another (R243). -/
def Dev.needHere (s : Dev) (o : CoilOp) (f : Dev → Dev) : Dev :=
  let k := s.coilAt o.slot
  if k.here then f s
  else match s.moveOf o.slot with
  | some m => if m.kind = .fault then s.opMove o else s.moveFor o .fault (s.faultTier k)
  | none => s.moveFor o .fault (s.faultTier k)

/-- An access to some pieces of a coil: a lost device redirects it or loses the coil (R248). -/
def Dev.access (s : Dev) (o : CoilOp) (l : List Nat) (f : Dev → Dev) : Dev :=
  if !s.onLost l then f s
  else
    let s := s.redirect o.slot
    if (s.coilAt o.slot).state = 3 then s.opEnd o (fun s => s.failSt o.c Ev.CS_COIL_LOST.status o.slot 0)
    else s.needHere o f

/-! The operations (R232) -/

/-- The slot of a coil is freed (R226, R233). -/
def Dev.freeCoil (s : Dev) (slot : Nat) : Dev :=
  let s := match s.moveOf slot with
    | some m => s.abandon m
    | none => s
  let k := s.coilAt slot
  let s := (s.freeFrames k.owner k.cls k.ext).unmark slot
  let s := if k.mirrored then s.sendRelease k.mirrorPeer slot k.gen k else s
  let s := if k.tier = 2 then s.sendRelease k.peer slot k.gen k else s
  let g := nextGen k.gen
  let retired := decide (g = s.startGen)
  let k' : Coil := { gen := g, state := if retired then 4 else 0, owner := k.owner, cls := k.cls, ring := k.ring, rsz := k.rsz
                     group := k.group, policy := k.policy, nbhd := k.nbhd }
  let s := (s.setCoil slot k').wr Reg.CS_PART_SLOTS_LIVE k.owner (s.rd Reg.CS_PART_SLOTS_LIVE k.owner - 1)
  let s := (s.bump Reg.CS_FREES 0 1).cs (fun x => if retired then x else { x with freed := x.freed ++ [slot] })
  if retired then (s.bump Reg.CS_RETIRED_SLOTS 0 1).reportP Ev.CS_RETIRED 0 k.owner slot 0 else s

/-- COIL_READ of an admitted operation. -/
def Dev.opRead (s : Dev) (o : CoilOp) : Dev :=
  let off := o.c.w3.toNat
  let n := bits o.c.w4 31 0
  let ps := fun (s : Dev) => (s.coilAt o.slot).reads off n
  if (if (s.coilAt o.slot).ring then (s.coilAt o.slot).count else (s.coilAt o.slot).size) < off + n then s.opFail o stRange o.slot
  else s.needHere o (fun s => s.access o ((ps s).map (fun x => x.1)) (fun s =>
      let l := ps s
      let s := s.touch o.slot
      match s.piecesBad l with
      | some u => s.opFail o stMemUncorr (u * 64)
      | none =>
        let bs := s.gather l
        let (s, r) := if bs.isEmpty then (s, Refuse.ok) else s.storeFor (s.cPart o.c) (bits o.c.w5 47 0) bs (some o.c)
        if refuseStatus r ≠ 0 then s.opFail o (refuseStatus r) (refuseAt (bits o.c.w5 47 0) r)
        else
          let s := (s.pf (s.cPart o.c) 0x3D bs.length).addWork o.c { bytes := bs.length }
          s.opEnd o (fun s => s.finishOk o.c)))

/-- A write to a coil is done here; a mirrored one waits for its peer (R246), which takes the whole units that have changed. -/
def Dev.written (s : Dev) (o : CoilOp) (op off unit : Nat) (bs : List Byte) (r0 : Nat) : Dev :=
  let s := (s.pf (s.cPart o.c) 0x3E bs.length).addWork o.c { bytes := bs.length }
  let k := s.coilAt o.slot
  if !k.mirrored then s.opEnd o (fun s => s.finishR o.c r0 0)
  else if s.peerRefused k.owner k.mirrorPeer ≠ 0 then
    (s.mirrorLost o.slot).opEnd o (fun s => s.finish o.c Ev.CS_MIRROR_LOST.status true r0 0 o.slot 0)
  else (s.setOp o.c (fun o => { o with wait := .ack })).coilSend k.mirrorPeer o.slot k.gen k op (off * unit / 64 * 64 / unit) unit (some o.c.queue)
    (s.unitCipher o.slot k (off * unit) bs.length) (.ack o.c r0)

/-- Write source bytes over pieces of a coil, or say why not. -/
def Dev.putCoil (s : Dev) (o : CoilOp) (ps : List (Nat × Nat)) (n : Nat) (f : Dev → List Byte → Dev) : Dev :=
  let a := bits o.c.w5 47 0
  let (bs, r) := if n = 0 then ([], Refuse.ok) else s.loadFor (s.cPart o.c) a n
  let s := s.noteRefused (s.cPart o.c) r (some o.c)
  if refuseStatus r ≠ 0 then s.opFail o (refuseStatus r) (refuseAt a r)
  else match s.piecesPartial ps with
  | some u => s.opFail o stMemUncorr (u * 64)
  | none => f (Dev.scatter ps bs s) bs

/-- COIL_WRITE of an admitted operation. -/
def Dev.opPut (s : Dev) (o : CoilOp) : Dev :=
  let k := s.coilAt o.slot
  let off := o.c.w3.toNat
  let n := bits o.c.w4 31 0
  if k.ring then s.opFail o stBadType o.slot
  else if k.size < off + n then s.opFail o stRange o.slot
  else s.needHere o (fun s => s.access o (((s.coilAt o.slot).span off n).map (fun x => x.1)) (fun s =>
    let s := s.touch o.slot
    s.putCoil o ((s.coilAt o.slot).span off n) n (fun s bs => s.written o 1 off 1 bs 0)))

/-- COIL_APPEND of an admitted operation (R228). -/
def Dev.opAppend (s : Dev) (o : CoilOp) : Dev :=
  let k := s.coilAt o.slot
  let n := bits o.c.w4 31 0
  if !k.ring then s.opFail o stBadType o.slot
  else if k.cap < n then s.opFail o stRange o.slot
  else s.needHere o (fun s => s.access o (((s.coilAt o.slot).records k.head n).map (fun x => x.1)) (fun s =>
    let s := s.touch o.slot
    s.putCoil o ((s.coilAt o.slot).records k.head n) (n * k.record) (fun s bs =>
      let h := (k.head + n) % k.cap
      let cnt := min (k.count + n) k.cap
      let s := (s.modCoil o.slot (fun k => { k with head := h, count := cnt })).bump Reg.CS_APPENDS 0 n
      s.written o 2 k.head k.record bs (h + cnt * 2 ^ 32))))

/-- COIL_SCAN of an admitted operation (R238, R264): the coil's words follow the argument block. -/
def Dev.opScan (s : Dev) (o : CoilOp) : Dev :=
  let c := o.c
  let n := bits c.w5 12 0
  s.needHere o (fun s => s.access o (s.coilAt o.slot).ext (fun s =>
    let s := s.touch o.slot
    let k := s.coilAt o.slot
    let own := (List.range 64).filter (fun e => s.engineOwner e == s.cPart c)
    let near := own.filter (fun e => e / 8 == k.nbhd)
    let l : Launch := { c := c, routine := bits c.w3 47 0, args := bits c.w4 47 0, argLen := n
                        cands := if near.isEmpty then List.range 64 else near
                        extra := [c.handle, k.size] ++ (if k.ring then [k.head + k.count * 2 ^ 32, k.record] else [0, 0]), coil := some o.slot }
    (s.setOp c (fun o => { o with wait := .scan })).launch l))

/-- COIL_MIGRATE to a tier, of an admitted operation (R244). -/
def Dev.opMigrate (s : Dev) (o : CoilOp) : Dev :=
  let k := s.coilAt o.slot
  let t := bits o.c.w3 1 0
  if k.pinned then s.opFail o stPinned o.slot
  else s.access o (if k.here then k.ext else []) (fun s =>
    let k := s.coilAt o.slot
    if t = k.tier then (s.touchOnly o.slot).opEnd o (fun s => s.finishOk o.c)
    else (s.touchOnly o.slot).moveFor o .explicit t)

/-- COIL_MIRROR of an admitted operation (R245). -/
def Dev.opMirror (s : Dev) (o : CoilOp) : Dev :=
  let n := bits o.c.w3 15 0
  if n = 0xFFFF then
    let k := s.coilAt o.slot
    let s := (if k.mirrored then s.sendRelease k.mirrorPeer o.slot k.gen k else s).unmark o.slot
    (s.modCoil o.slot (fun k => { k with mirrored := false, degraded := false })).opEnd o (fun s => s.finishOk o.c)
  else if s.peerRefused (s.cPart o.c) n ≠ 0 then s.opEnd o (fun s => s.failPeer o.c (s.peerRefused (s.cPart o.c) n) n)
  else s.needHere o (fun s => s.access o (s.coilAt o.slot).ext (fun s =>
    let k := s.coilAt o.slot
    match s.piecesBad (k.span 0 k.size) with
    | some u => s.opFail o stMemUncorr (u * 64)
    | none => (s.setOp o.c (fun o => { o with wait := .mirror })).coilSend n o.slot k.gen k 0 0 1 none (s.coilCipher o.slot k) (.copy o.c)))

/-- An admitted operation goes on (R233, R243). -/
def Dev.opRun (s : Dev) (o : CoilOp) : Dev :=
  let s := s.setOp o.c (fun o => { o with wait := .run })
  let k := s.coilAt o.slot
  if k.state = 3 ∧ o.op ≠ 1 then s.opEnd o (fun s => s.failSt o.c Ev.CS_COIL_LOST.status o.slot 0)
  else match o.op with
  | 1 => (s.freeCoil o.slot).opEnd o (fun s => s.finishOk o.c)
  | 2 => s.opRead o
  | 3 => s.opPut o
  | 4 => s.opAppend o
  | 5 => s.opScan o
  | 6 => s.opMigrate o
  | 7 => (s.modCoil o.slot (fun k => { k with pinned := true })).opEnd o (fun s => s.finishOk o.c)
  | 8 => (s.modCoil o.slot (fun k => { k with pinned := false })).opEnd o (fun s => s.finishOk o.c)
  | 9 => s.opMirror o
  | _ =>
    let w := k.words 0
    s.opEnd o (fun s => s.finish o.c 0 true (w.getD 0 0) (w.getD 1 0) (w.getD 2 0) (w.getD 3 0))

/-- An operation is admitted: its generation is checked again, and it proceeds (R235). -/
def Dev.grantOp (s : Dev) (o : CoilOp) : Dev :=
  let s := { s with coilOps := s.coilOps.map (fun x => if x = o then { x with admitted := true } else x) }
  let o : CoilOp := { o with admitted := true }
  if (s.coilAt o.slot).gen ≠ o.gen then s.opEnd o (fun s => s.stale o.c o.c.handle) else s.opRun o

/-- Whether an operation may hold a coil beside those that hold it (R236). -/
def Dev.mayAdmit (s : Dev) (o : CoilOp) : Bool :=
  (s.coilOps.filter (fun x => decide (x.slot = o.slot) && x.admitted)).all (fun x => !x.write && !o.write)

/-- A write-class operation arrives at a coil that is MIGRATING: the migration is abandoned (R236). A COIL_MIGRATE so ended
completes with a status the spec leaves open. A fault-in goes on, since the write needs it too. -/
def Dev.writeMeets (s : Dev) (slot : Nat) : Dev :=
  match s.moveOf slot with
  | none => s
  | some m =>
    if !m.started then s
    else match m.kind with
    | .fault => s
    | .policy => s.abandon m
    | .explicit =>
      let st := Config.abandonStatus s.seed % 65536
      let s := s.fresh.abandon m
      (s.opsWaiting slot .move).foldl (fun s o => s.opEnd o (fun s => s.finish o.c st (st == 0) 0 0 0 0)) s

/-- An operation on a coil arrives (R233, R236). -/
def Dev.coilEnter (s : Dev) (op : Nat) (c : Cmd) : Dev :=
  let h := c.handle
  let k := s.coilAt (hSlot h)
  if hPart h ≠ s.cPart c then s.notOwner c op h 0
  else if s.tableSlots ≤ hSlot h then s.failEv c Ev.CS_BAD_HANDLE 0 (hSlot h) 0
  else if !k.exists ∨ k.gen ≠ hGen h ∨ k.owner ≠ hPart h then s.stale c h
  else if opOwned op ∧ s.rd Reg.QM_Q_CFG_GROUP c.queue ≠ k.group then s.notOwner c op h 1
  else if op = 6 ∧ bit c.w3 2 then
    if k.state = 3 then s.failSt c Ev.CS_COIL_LOST.status (hSlot h) 0 else (s.touch (hSlot h)).finishOk c
  else
    let o : CoilOp := { c := c, op := op, slot := hSlot h, gen := hGen h, write := opWrite op, admitted := false }
    let s := if o.write then s.writeMeets o.slot else s
    let free := s.mayAdmit o && !s.coilOps.any (fun x => decide (x.slot = o.slot) && !x.admitted)
    let s := { s with coilOps := s.coilOps ++ [o] }
    if free then s.grantOp o else s

/-- COIL_ADMISSION (R235): the first operation that waits on a coil is admitted when its holders have released it. -/
def doCoilAdmission (slot : Nat) (s : Dev) : Dev :=
  match s.coilOps.find? (fun o => decide (o.slot = slot) && !o.admitted) with
  | none => s
  | some o => if s.mayAdmit o then s.grantOp o else s

/-! Allocation (R240) and policies (R241) -/

/-- Place a coil in the first of some tiers that has room: the tier, the tiers left, the neighbourhood and the frames. -/
def Dev.placeFirst (p cls n : Nat) : List Nat → Dev → Dev × Option (Nat × List Nat × Nat × List Nat)
  | [], s => (s, none)
  | t :: r, s => match s.place p t cls n (List.range 8) true with
    | some (s, b, l) => (s, some (t, r, b, l))
    | none => Dev.placeFirst p cls n r s

/-- An ALLOC has its coil. -/
def Dev.allocDone (s : Dev) (c : Cmd) (slot : Nat) (k : Coil) : Dev := (s.bump Reg.CS_ALLOCS 0 1).finishR c (k.handle slot) 0

/-- Give a coil of a slot its place; one placed at a peer waits for the peer's answer. The coil counts as live from then on. -/
def Dev.settleAlloc (s : Dev) (c : Cmd) (slot turn : Nat) (k : Coil) (tiers : List Nat) : Dev :=
  let z := List.replicate (frameSize k.cls * k.ext.length) (0 : Byte)
  match Dev.placeFirst k.owner k.cls k.ext.length tiers s with
  | (s, none) => ((s.setCoil slot { gen := k.gen }).giveSlot slot turn).failEv c Ev.CS_QUOTA 0 slot 0
  | (s, some (t, r, b, l)) =>
    let k : Coil := { k with state := 1, tier := t, nbhd := b, ext := l, away := if 2 ≤ t then z else [] }
    let k : Coil := if t = 2 then { k with peer := s.rd Reg.CS_PART_SPILL_SPILL_FNID k.owner } else k
    let s := (s.setCoil slot k).wr Reg.CS_PART_SLOTS_LIVE k.owner (s.rd Reg.CS_PART_SLOTS_LIVE k.owner + 1)
    if t = 2 then s.coilSend k.peer slot k.gen k 6 0 1 none (cipherText (s.coilKey k) (k.handle slot) 0 z) (.alloc c r turn)
    else (if t = 3 then s.putFrames slot k 3 l z else s).allocDone c slot k

/-- COIL_ALLOC (R227, R228, R240). -/
def Dev.coilAllocate (s : Dev) (c : Cmd) : Dev :=
  let p := s.cPart c
  let ring := bit c.w2 0
  let cls := bits c.w2 4 1
  let n := bits c.w2 10 5 + 1
  let rsz := bits c.w2 14 11
  if cls = 15 ∨ 9 < rsz ∨ (!ring ∧ rsz ≠ 0) then s.badFormat c
  else
    let list := if n ≤ 4 then some 0 else s.listPlace (n - 3)
    match list, s.nextSlot with
    | some xl, some slot =>
      if s.rd Reg.CS_PART_SLOTS_SLOT_QUOTA p ≤ s.rd Reg.CS_PART_SLOTS_LIVE p then s.failEv c Ev.CS_NO_SLOT 0 0 0
      else
        let pol := bits c.w2 18 15
        let w := s.policy p pol
        let tiers := polHome w :: (if polFallback w then [0, 1, 2, 3].filter (fun t => t ≠ polHome w) else [])
        let (s, turn) := s.takeSlot
        let k : Coil := { ring := ring, cls := cls, ext := List.replicate n 0, policy := pol, owner := p, gen := (s.coilAt slot).gen
                          group := s.rd Reg.QM_Q_CFG_GROUP c.queue, rsz := rsz, xl := xl }
        s.settleAlloc c slot turn k tiers
    | _, _ => s.failEv c Ev.CS_NO_SLOT 0 0 0

/-- COIL_POLICY (R232, R241). -/
def Dev.coilPolicy (s : Dev) (c : Cmd) : Dev :=
  let w := c.w3.toNat % 2 ^ 50
  if polWin w = 0 ∨ 1000 < polWin w ∨ polIdle w = 0 then s.failSt c stBadPolicy (bits c.w2 3 0) 0
  else (s.wr Reg.CS_POL_DATA (s.cPart c + 64 * bits c.w2 3 0) w).finishOk c

/-- Whether an operand of a context-store command is out of its range whatever the coil (R263): a COIL_APPEND of no records, or
more than 4,096 argument bytes of a COIL_SCAN. -/
def coilBad (op : Nat) (c : Cmd) : Bool := (op == 4 && bits c.w4 31 0 == 0) || (op == 5 && decide (4096 < bits c.w5 12 0))

/-- A command of the context store, by its number in the order of R232 (R477). -/
def Dev.coilCommand (s : Dev) (op : Nat) (c : Cmd) : Dev :=
  if !s.flag Reg.CS_CTRL_EN 0 then s.failSt c stDisabled 0 0
  else if !s.flag Reg.CS_STATUS_READY 0 then s.cs (fun x => { x with held := x.held ++ [(op, c)] })
  else if coilBad op c then s.badFormat c
  else if op = 0 then s.coilAllocate c
  else if op = 11 then s.coilPolicy c
  else s.coilEnter op c

/-! The clock sweep (R242, R246, R248) -/

/-- Move a coil where its policy says, if it has room there. -/
def Dev.demote (s : Dev) (slot tier : Nat) : Dev :=
  let k := s.coilAt slot
  match s.place k.owner tier k.cls k.ext.length [k.nbhd] false with
  | some (s, _, dst) => s.queueMove slot tier dst
  | none => s

/-- Whether the sweep may move a coil. -/
def Dev.movable (s : Dev) (slot : Nat) : Bool :=
  let k := s.coilAt slot
  k.state == 1 && !k.pinned && (s.moveOf slot).isNone

/-- Visit HBM coils in order: TOUCHED is cleared, an idle coil is demoted, and where a promotion seeks one, the first victim
ends the sweep. -/
def Dev.visit (nbhd : Nat) : List Nat → Option Move → Dev → Dev × Option Nat
  | [], _, s => (s, none)
  | slot :: r, seek, s =>
    let k := s.coilAt slot
    let w := s.polOf k
    let s := s.cs (fun x => { x with hand := NMap.set 0 x.hand nbhd (slot + 1) })
    let victim := match seek with
      | some m => !k.touched && s.movable slot && k.owner == (s.coilAt m.slot).owner && decide (polIdle w * 16000000 ≤ s.coilIdle k)
      | none => false
    let s := if k.touched then s.modCoil slot (fun k => { k with touched := false }) else s
    if victim then (s, some slot)
    else
      let s := if s.flag Reg.CS_CTRL_MIG_EN 0 && s.movable slot && decide (polIdle w * 16000000 < s.coilIdle k) && polHome w != 0
        then s.demote slot (polHome w) else s
      Dev.visit nbhd r seek s

/-- A promotion is given up for want of room. -/
def Dev.noRoom (s : Dev) (m : Move) : Dev := (s.dropMoves m.slot).bump Reg.CS_PROMO_NOROOM 0 1

/-- The slots of the live coils of a neighbourhood that meet a test, ascending. -/
def Dev.slotsWhere (s : Dev) (nbhd : Nat) (f : Coil → Bool) : List Nat :=
  (s.coil.coils.filter (fun e => e.2.exists && e.2.nbhd == nbhd && f e.2)).map (fun e => e.1)

/-- CLOCK_SWEEP (R242, R246, R248): one full sweep, or as far as a victim. -/
def doClockSweep (nbhd : Nat) (s : Dev) : Dev :=
  if !s.flag Reg.CS_CTRL_EN 0 || !s.flag Reg.CS_STATUS_READY 0 then s
  else
    -- what a failed peer or a lost device did to coils
    let s := (s.slotsWhere nbhd (fun k => k.state != 3)).foldl (fun s slot =>
      let k := s.coilAt slot
      let s := if s.coil.marks.contains slot && k.mirrored then s.mirrorLost slot else s
      if k.here && s.onLost k.ext then s.redirect slot else s) s
    let s := s.cs (fun x => { x with marks := x.marks.filter (fun slot => (s.coilAt slot).nbhd ≠ nbhd) })
    let hbm := s.slotsWhere nbhd (fun k => k.tier == 0)
    let h := NMap.get 0 s.coil.hand nbhd
    let order := hbm.filter (fun x => decide (h ≤ x)) ++ hbm.filter (fun x => decide (x < h))
    let seek := s.coil.moves.find? (fun m => m.seeking && (s.coilAt m.slot).nbhd == nbhd)
    let (s, v) := Dev.visit nbhd order seek s
    let s := match seek, v with
      | some m, some slot =>
        let k := s.coilAt slot
        let home := polHome (s.polOf k)
        if home = 0 then s.noRoom m
        else match s.place k.owner home k.cls k.ext.length [nbhd] false with
        | none => s.noRoom m
        | some (s, _, dst) =>
          -- the victim's move stands before the promotion that follows it
          let vm : Move := { slot := slot, gen := k.gen, kind := .policy, tier := home, dst := dst }
          s.cs (fun x => { x with moves := (x.moves.map (fun (y : Move) => if y.slot = m.slot then [vm, { y with seeking := false, after := slot + 1 }] else [y])).flatten })
      | some m, none => s.noRoom m
      | none, _ => s
    (s.slotsWhere nbhd (fun k => k.tier == 1)).foldl (fun s slot =>
      let w := s.polOf (s.coilAt slot)
      if s.flag Reg.CS_CTRL_MIG_EN 0 && s.movable slot && polSpill w != 0 && decide (polSpill w * 16000000000 < s.coilIdle (s.coilAt slot))
      then s.demote slot (if polSpillHost w then 3 else 2) else s) s

/-- MIGRATION_START (R242): the oldest queued policy migration of a neighbourhood starts copying. A promotion behind an
exchange takes its room now. -/
def doMigrationStart (nbhd : Nat) (s : Dev) : Dev :=
  if !s.flag Reg.CS_CTRL_EN 0 || !s.flag Reg.CS_CTRL_MIG_EN 0 then s
  else match s.coil.moves.find? (fun m => m.kind == MoveKind.policy && !m.started && !m.seeking && m.after == 0 && (s.coilAt m.slot).nbhd == nbhd) with
  | none => s
  | some m =>
    let k := s.coilAt m.slot
    if k.gen ≠ m.gen ∨ k.state ≠ 1 ∨ k.pinned then (s.freeFrames k.owner k.cls m.dst).dropMoves m.slot
    else if m.dst ≠ [] then s.startMove m
    else match s.place k.owner 0 k.cls k.ext.length [nbhd] true with
    | some (s, _, dst) => s.startMove { m with dst := dst }
    | none => if s.coil.chunks.any (fun e => e.2.part == k.owner && chunkTier e.1 == 0 && chunkNbhd e.1 == nbhd && !e.2.dirty.isEmpty) then s
      else s.noRoom m

/-- Whether all bytes of a migration's source have come from the peer that holds it. -/
def Move.arrived (m : Move) (k : Coil) : Bool := k.tier != 2 || decide (k.size ≤ (m.buf.map (fun x => x.2.length)).sum)

/-- The bytes that came, in their places. -/
def Move.bytes (m : Move) (n : Nat) : List Byte :=
  m.buf.foldl (fun l x => l.take x.1 ++ x.2 ++ l.drop (x.1 + x.2.length)) (List.replicate n 0)

/-- Operations that wait for a migration of a slot go on; an explicit migration is done. -/
def Dev.moveOver (s : Dev) (m : Move) (f : Dev → CoilOp → Dev) : Dev :=
  (s.opsWaiting m.slot .move).foldl f s

/-- The switch of a migration (R236, R242): extents and TIER change in both table copies, and the source frames are freed. -/
def Dev.switchMove (s : Dev) (m : Move) : Dev :=
  let k := s.coilAt m.slot
  let bs := if k.tier = 2 then plainText (s.coilKey k) (k.handle m.slot) k.away (m.bytes k.size) else s.coilBytes m.slot k
  let s := if m.tier = 2 then s else s.putFrames m.slot k m.tier m.dst bs
  let s := s.freeFrames k.owner k.cls k.ext
  let back := decide (k.tier = 2) && k.replica
  let s := if k.tier = 2 ∧ !k.replica then s.sendRelease k.peer m.slot k.gen k else s
  let k' : Coil := { k with state := 1, tier := m.tier, ext := m.dst, away := if 2 ≤ m.tier then bs else [], replica := false
                            peer := if m.tier = 2 then m.peer else 0
                            mirrored := k.mirrored || back, degraded := k.degraded && !back
                            mirrorPeer := if back then k.peer else k.mirrorPeer }
  let s := s.setCoil m.slot k'
  let s := if m.kind = .fault then s
    else if m.tier = 0 then s.bump Reg.CS_PROMOTIONS 0 1
    else if k.tier = 0 ∨ 2 ≤ m.tier then s.bump Reg.CS_DEMOTIONS 0 1 else s
  let s := s.cs (fun x => { x with moves := (x.moves.filter (fun y => y.slot ≠ m.slot)).map (fun y => if y.after = m.slot + 1 then { y with after := 0 } else y) })
  s.moveOver m (fun s o => if m.kind = .explicit then s.opEnd o (fun s => s.finishOk o.c) else s.opRun o)

/-- An uncorrectable error stands in the unit that holds an address (R438). -/
def Dev.putBad (s : Dev) (a : Nat) : Dev := if s.badMem.contains (a / 64) then s else { s with badMem := s.badMem ++ [a / 64] }

/-- The copy of a coil met an uncorrectable error at byte `bad`. -/
def Dev.copyMet (s : Dev) (k : Coil) (bad : Option Nat) : Dev :=
  match bad with
  | some b => if k.here && decide (b < k.size) then s.putBad (((k.span b 1).map (fun (x : Nat × Nat) => x.1)).headD 0) else s
  | none => s

/-- MIGRATION_SWITCH (R236, R242, R438): the copy is complete, or met an uncorrectable error, at byte `bad` of the coil or in a unit
that held one before. It waits for scans of the source and for what a peer has still to answer. -/
def doMigrationSwitch (slot : Nat) (bad : Option Nat) (s : Dev) : Dev :=
  match s.coil.moves.find? (fun m => decide (m.slot = slot) && m.started) with
  | none => s
  | some m =>
    let k := s.coilAt slot
    if !(s.opsWaiting slot .scan).isEmpty || !m.arrived k || (m.tier == 2 && m.told.isNone) then s
    else
      let s := s.copyMet k bad
      if m.told.getD 0 ≠ 0 then (s.abandon m).moveOver m (fun s o => s.opFailEv o Ev.CS_QUOTA)
      else match if k.here then s.piecesBad (k.span 0 k.size) else none with
      | some u => (s.abandon m).moveOver m (fun s o => s.opFail o stMemUncorr (u * 64))
      | none => s.switchMove m

/-! Replicas and peers (R245 to R247) -/

/-- MIRROR_SETUP_DONE (R245, R438): the peer has acknowledged the whole coil, or refused some of it, or the copy met an
uncorrectable error at byte `bad` of the coil. A replica that another peer held is released. -/
def doMirrorSetupDone (slot : Nat) (bad : Option Nat) (s : Dev) : Dev :=
  match (s.opsWaiting slot .mirror).head? with
  | none => s
  | some o =>
    let k := s.coilAt slot
    let n := bits o.c.w3 15 0
    let s := s.copyMet k bad
    match if bad.isSome && k.here then s.piecesBad (k.span 0 k.size) else none, o.told with
    | some u, _ => (s.sendRelease n slot k.gen k).opFail o stMemUncorr (u * 64)
    | none, none => s
    | none, some 0 =>
      let s := if k.mirrored ∧ k.mirrorPeer ≠ n then s.sendRelease k.mirrorPeer slot k.gen k else s
      ((s.modCoil slot (fun k => { k with mirrored := true, degraded := false, mirrorPeer := n })).unmark slot).opEnd o (fun s => s.finishOk o.c)
    | none, some st => (s.sendRelease n slot k.gen k).opFail o (if st / 256 = 0x0B then st else stNoPeer) slot

/-- What the outcome of an operation's coil messages decides. -/
def Dev.talkOver (s : Dev) (t : Talk) : Dev :=
  match t.kind with
  | .ack c r0 =>
    match s.coilOps.find? (fun o => decide (o.c = c) && o.admitted && decide (o.wait = .ack)) with
    | none => s
    | some o =>
      if t.bad = 0 then (s.bump Reg.CS_MIRROR_WRITES 0 1).opEnd o (fun s => s.finishR c r0 0)
      else (s.mirrorLost t.slot).opEnd o (fun s => s.finish c Ev.CS_MIRROR_LOST.status true r0 0 t.slot 0)
  | .copy c => s.setOp c (fun o => { o with told := some t.bad })
  | .store => match s.coil.moves.find? (fun m => m.started && m.tier == 2 && m.tag == t.tag) with
    | some m => s.setMove { m with told := some t.bad }
    | none => s.sendRelease t.peer t.slot t.gen { s.coilAt t.slot with owner := t.part }
  | .fetch =>
    if t.bad = 0 then s
    else match s.moveOf t.slot with
    | some m => if m.gen ≠ t.gen then s else
        let s := s.abandon m
        s.moveOver m (fun s o => s.opFail o t.bad t.slot)
    | none => s
  | .alloc c tiers turn =>
    let k := s.coilAt t.slot
    if k.gen ≠ t.gen then s
    else if t.bad = 0 then s.allocDone c t.slot k
    else
      let s := (s.sendRelease t.peer t.slot t.gen k).wr Reg.CS_PART_SLOTS_LIVE k.owner (s.rd Reg.CS_PART_SLOTS_LIVE k.owner - 1)
      s.settleAlloc c t.slot turn { k with state := 0, peer := 0 } tiers
  | .release => s

/-- The context store is told of its messages' outcomes. -/
def Dev.settleCoils (s : Dev) : Dev :=
  let l := s.fabric.told
  l.foldl (fun s x =>
    match s.coil.talks.find? (fun t => t.tag = x.1) with
    | none => s
    | some t =>
      let t : Talk := { t with left := t.left - 1, bad := if t.bad = 0 then x.2 else t.bad }
      if t.left = 0 then (s.cs (fun y => { y with talks := y.talks.filter (fun z => z.tag ≠ t.tag) })).talkOver t
      else s.cs (fun y => { y with talks := y.talks.map (fun z => if z.tag = t.tag then t else z) })) (s.fab (fun x => { x with told := [] }))

/-- R246 when a peer has failed: its REMOTE coils are LOST at once, its replicas are left to the sweep. -/
def Dev.coilPeerFailed (s : Dev) (n : Nat) : Dev :=
  let asked := (s.coil.talks.filter (fun t => match t.kind with | .alloc .. => true | _ => false)).map (fun t => t.slot)
  let live := s.coil.coils.filter (fun e => e.2.exists && e.2.state != 3 && !asked.contains e.1)
  let s := s.cs (fun x => { x with marks := x.marks ++ (live.filter (fun e => e.2.mirrored && e.2.mirrorPeer == n)).map (fun e => e.1) })
  (live.filter (fun e => e.2.tier == 2 && e.2.peer == n)).foldl (fun s e =>
    let ops := s.opsWaiting e.1 .move
    ops.foldl (fun s o => s.opEnd o (fun s => s.failSt o.c Ev.CS_COIL_LOST.status o.slot 0)) (s.coilLost e.1)) s

/-! Memory lent to peers (R247) -/

/-- The frame that holds a page of a loan, taken if need be: none where the partition has no loan room. -/
def Dev.loanPage (s : Dev) (l : Loan) (i : Nat) : Dev × Loan × Option Nat :=
  let a := NMap.get 0 l.pages i
  if a ≠ 0 then (s, l, some (a - 1))
  else
    let p := hPart l.handle
    let s := s.noteQuota p
    match if s.overQuota p 1 true then none else s.bestNbhd p 1 0 1 true (List.range 8) with
    | none => (s, l, none)
    | some b => match s.takeFrame p b 1 0 true with
      | none => (s, l, none)
      | some (s, a) => (s.showPool p b 1, { l with pages := NMap.set 0 l.pages i (a + 1) }, some a)

/-- Put bytes into a loan page by page. -/
def Dev.loanPut : Nat → Nat → List Byte → Loan → Dev → Dev × Loan × Bool
  | 0, _, _, l, s => (s, l, true)
  | n + 1, off, bs, l, s =>
    if bs.isEmpty then (s, l, true)
    else
      let m := min bs.length (4096 - off % 4096)
      match s.loanPage l (off / 4096) with
      | (s, l, none) => (s, l, false)
      | (s, l, some a) => Dev.loanPut n (off + m) (bs.drop m) l ((s.putBytes (a + off % 4096) (bs.take m)).clearBad (a + off % 4096) m)

/-- The loan of a peer's coil. -/
def Dev.loanOf (s : Dev) (peer h : Nat) : Option Loan := s.coil.loans.find? (fun l => l.peer = peer ∧ l.handle = h)

/-- Keep a loan. -/
def Dev.keepLoan (s : Dev) (l : Loan) : Dev :=
  s.cs (fun x => { x with loans := x.loans.filter (fun y => !(y.peer == l.peer && y.handle == l.handle)) ++ [l] })

/-- Bytes of a loan, by its highest page. -/
def Loan.size (l : Loan) : Nat := (l.pages.foldl (fun n e => max n (e.1 + 1)) 0) * 4096

/-- The context store accepts what a peer sends. -/
def Dev.lends (s : Dev) : Bool := s.flag Reg.CS_CTRL_EN 0 && s.flag Reg.CS_STATUS_READY 0

/-- Bytes of a peer's coil arrive, for a new place (COPY, STORE) or for one it has (WRITE, APPEND): the status of a refusal,
0 for none. -/
def Dev.lend (s : Dev) (peer h off : Nat) (bs : List Byte) (new : Bool) : Dev × Nat :=
  match s.loanOf peer h, new with
  | none, false => (s, stNoPeer)
  | o, _ =>
    if !s.lends then (s, stNoPeer)
    else match Dev.loanPut (bs.length + 1) off bs (o.getD { peer := peer, handle := h, pages := [] }) s with
    | (t, l, ok) => if ok then (t.keepLoan l, 0) else (s, stNoPeer)

/-- The bytes of a loan from an offset on. -/
def Dev.loanBytes (s : Dev) (l : Loan) (off : Nat) : List Byte :=
  ((List.range (l.size / 4096)).map (fun i =>
    let a := NMap.get 0 l.pages i
    if a = 0 then List.replicate 4096 (0 : Byte) else s.bytes (a - 1) 4096)).flatten.drop off

/-- Give a loan back. -/
def Dev.endLoan (s : Dev) (l : Loan) : Dev :=
  (s.cs (fun x => { x with loans := x.loans.filter (fun y => !(y.peer == l.peer && y.handle == l.handle)) })).freeFrames (hPart l.handle) 0
    (l.pages.map (fun e => e.2 - 1))

/-- Release everything held for a peer (R247). -/
def Dev.endLoans (s : Dev) (peer : Nat) : Dev := (s.coil.loans.filter (fun l => l.peer = peer)).foldl (fun s l => s.endLoan l) s

/-! Lost devices (R248, R439) -/

/-- The configuration that R477 watches. -/
def Dev.csConfig (s : Dev) : List Nat :=
  [s.rd Reg.CS_TABLE_LOG2_SLOTS 0, s.rd Reg.CS_TABLE0_BASE 0, s.rd Reg.CS_TABLE1_BASE 0] ++
    (List.range 16).map (fun i => s.rd Reg.CS_POOL_POOL_CHUNKS i)

/-- Whether the table bases are good (R231, R249): both in HBM, each copy within one stack, on different stacks. -/
def Dev.basesOk (s : Dev) : Bool :=
  let a := s.rd Reg.CS_TABLE0_BASE 0 * 65536
  let b := s.rd Reg.CS_TABLE1_BASE 0 * 65536
  let n := s.tableSlots * 128
  [a, b].all (fun x => decide (x / 2 ^ 36 = (x + n - 1) / 2 ^ 36) && decide (x < 2 ^ 39)) && a / 2 ^ 36 != b / 2 ^ 36

/-- The configuration that EN was last set with follows a base that the module itself moves (R248, R374, R477). -/
def Dev.keepCfg (old s : Dev) : Dev := if old.coil.cfg = old.csConfig then s.cs (fun y => { y with cfg := s.csConfig }) else s

/-- During WARMUP a coil table base on a lost stack is moved to the next HBM stack in ascending order (R374): one that is not
lost and does not hold the other copy. -/
def Dev.moveBases (s : Dev) (d : Nat) : Dev :=
  [(Reg.CS_TABLE0_BASE, Reg.CS_TABLE1_BASE), (Reg.CS_TABLE1_BASE, Reg.CS_TABLE0_BASE)].foldl (fun s x =>
    let b := s.rd x.1 0
    if b / 2 ^ 20 ≠ d ∨ !s.basesOk then s
    else match ((List.range 7).map (fun i => (d + 1 + i) % 8)).find? (fun k => !s.deviceLost (k * 2 ^ 36) && k != s.rd x.2 0 / 2 ^ 20) with
    | none => s
    | some k =>
      Dev.keepCfg s ((s.wr x.1 0 (k * 2 ^ 20 + b % 2 ^ 20)).report Ev.CS_TABLE_COPY 0)) s

/-- MEMORY_DEVICE_LOST: HBM stacks 0 to 7, LPDDR packages 8 to 39. -/
def doMemoryDeviceLost (d : Nat) (s : Dev) : Dev :=
  let hbm := decide (d < 8)
  let base := if hbm then d * 2 ^ 36 else lpddrBase + (d - 8) * 2 ^ 35
  if s.deviceLost base then s
  else
    let s := if hbm then s.wr Reg.CS_STATUS_LOST_STACKS 0 (s.rd Reg.CS_STATUS_LOST_STACKS 0 ||| 2 ^ d)
      else s.wr Reg.CS_STATUS_LOST_LPDDR 0 (s.rd Reg.CS_STATUS_LOST_LPDDR 0 ||| 2 ^ (d - 8))
    let s := s.degrade .memory true
    let warm := s.bootState == 5 && !s.flag Reg.CS_STATUS_READY 0
    let table := s.basesOk && !warm && hbm &&
      ([s.rd Reg.CS_TABLE0_BASE 0, s.rd Reg.CS_TABLE1_BASE 0].any (fun b => decide (b * 65536 / 2 ^ 36 = d)))
    let single := s.flag Reg.CS_STATUS_TABLE_SINGLE 0
    let s := if table then (s.wr Reg.CS_STATUS_TABLE_SINGLE 0 1).report Ev.CS_TABLE_COPY 0 else s
    let s := if table && single then
        ((s.coil.coils.filter (fun e => e.2.exists && e.2.state != 3)).map (fun e => e.1)).foldl (fun s slot => s.coilLost slot) s
      else s
    -- migrations from or to the device
    let s := s.coil.moves.foldl (fun s m =>
      let k := s.coilAt m.slot
      let src := k.here && s.onLost k.ext
      if !src && !s.onLost (m.dst.filter (fun a => decide (a < hostBase))) then s
      else
        let s := s.abandon m
        let s := if src then s.redirect m.slot else s
        s.moveOver m (fun s o => s.opRun o)) s
    let s := (List.range 8).foldl (fun s b => (s.showPool 0 b 0).showPool 0 b 1) s
    let s := if hbm && warm then s.moveBases d else s
    -- trace regions on the device (R456)
    (List.range 64).foldl (fun s p =>
      let b := s.rd Reg.TR_REGION_BASE p
      if b ≠ 0 ∧ s.deviceLost (b * 2 ^ 26) ∧ !s.flag Reg.TR_HEAD_LOST p then
        (s.wr Reg.TR_HEAD_LOST p 1).reportP Ev.TR_REGION_LOST 0 p p 0 else s) s

/-- TABLE_COPY_REBUILT (R248): the lost copy stands on the next HBM stack in ascending order with room outside the pools. -/
def doTableCopyRebuilt (s : Dev) : Dev :=
  if !s.flag Reg.CS_STATUS_TABLE_SINGLE 0 then s
  else
    let lost0 := s.deviceLost (s.rd Reg.CS_TABLE0_BASE 0 * 65536)
    let lost := (if lost0 then s.rd Reg.CS_TABLE0_BASE 0 else s.rd Reg.CS_TABLE1_BASE 0) * 65536 / 2 ^ 36
    let other := (if lost0 then s.rd Reg.CS_TABLE1_BASE 0 else s.rd Reg.CS_TABLE0_BASE 0) * 65536 / 2 ^ 36
    let len := s.tableSlots * 128
    let room := fun (b : Nat) => 2 ^ 36 - s.rd Reg.CS_POOL_POOL_CHUNKS b * 2 ^ 26
    match ((List.range 8).map (fun i => (lost + 1 + i) % 8)).find? (fun b => b != other && !s.deviceLost (b * 2 ^ 36) && decide (len ≤ room b)) with
    | none => s
    | some b =>
      let base := (b * 2 ^ 36 + Config.pick s.seed % ((room b - len) / 65536 + 1) * 65536) / 65536
      let s := s.fresh
      let s := Dev.keepCfg s (if lost0 then s.wr Reg.CS_TABLE0_BASE 0 base else s.wr Reg.CS_TABLE1_BASE 0 base)
      let s := s.zero (base * 65536) len
      ((List.range s.tableSlots).foldl (fun s i => s.writeDesc i) s).wr Reg.CS_STATUS_TABLE_SINGLE 0 0

/-! EN and READY (R249, R477) -/

/-- EN is set (R477): the store resumes, or READY falls until the table and the pools are written anew. -/
def Dev.csEnable (s : Dev) : Dev :=
  if s.flag Reg.CS_CTRL_EN 0 ∨ !s.basesOk then s
  else
    let s := s.wr Reg.CS_CTRL_EN 0 1
    if s.coil.cfg = s.csConfig then s
    else (s.wr Reg.CS_STATUS_READY 0 0).cs (fun x => { x with cfg := s.csConfig })

/-- CS_EN_SET. -/
def doCsEnSet (src : Src) (s : Dev) : Dev := s.own0 src (fun s => s.csEnable)

/-- CS_EN_CLEAR (R477). -/
def doCsEnClear (src : Src) (s : Dev) : Dev := s.own0 src (fun s => s.wr Reg.CS_CTRL_EN 0 0)

/-- The table and the pools are written anew (R231, R239, R477): what peers were lent of the pools is gone with them. -/
def Dev.storeInit (s : Dev) : Dev :=
    let n := s.tableSlots
    let users := s.coil.chunks.map (fun e => e.2.part)
    let s := (s.coil.chunks.filter (fun e => decide (e.1 < 24576))).foldl (fun s e => s.wr Reg.PA_MEM_OWNER_OWNER e.1 0) s
    let s := s.cs (fun x => { x with
      coils := (x.coils.filter (fun e => decide (e.1 < n))).map (fun e => (e.1, ({ gen := e.2.gen, state := if e.2.state = 4 then 4 else 0 } : Coil)))
      chunks := [], loans := [], fresh := 0, freed := [], back := [] })
    let s := users.foldl (fun s p => s.showPool p 0 0) s
    let s := [s.rd Reg.CS_TABLE0_BASE 0, s.rd Reg.CS_TABLE1_BASE 0].foldl (fun s b => s.zero (b * 65536) (n * 128)) s
    let s := (List.range n).foldl (fun s i => s.writeDesc i) s
    let s := (List.range 16).foldl (fun s i =>
      let l := s.poolChunks (i % 8) (i / 8)
      let s := l.foldl (fun s g => (s.zero (granuleRange g).1 (2 ^ 26)).clearBad (granuleRange g).1 (2 ^ 26)) s
      s.showPool 0 (i % 8) (i / 8)) s
    -- POOL of PA_MEM_OWNER shows which granules lie in a pool
    let pools := ((List.range 16).map (fun i => s.poolChunks (i % 8) (i / 8))).flatten
    (List.range 24576).foldl (fun s g => s.wr Reg.PA_MEM_OWNER_POOL g (b2n (pools.contains g))) s

/-- CS_READY (R249, R374, R477): the table and the pools have been written anew, and the commands held go on. In WARMUP EN is set
with it. -/
def doCsReady (s : Dev) : Dev :=
  let on := s.flag Reg.CS_CTRL_EN 0
  let warm := s.bootState == 5 && !on && s.basesOk
  if s.flag Reg.CS_STATUS_READY 0 || !(on || warm) then s
  else
    let s := s.storeInit
    let s := if on then s else (s.wr Reg.CS_CTRL_EN 0 1).cs (fun x => { x with cfg := s.csConfig })
    let s := s.wr Reg.CS_STATUS_READY 0 1
    let h := s.coil.held
    h.foldl (fun s x => s.coilCommand x.1 x.2) (s.cs (fun x => { x with held := [] }))

/-- Every coil of a partition is freed and its policies return to their factory value (R236). -/
def Dev.scrubCoils (s : Dev) (p : Nat) : Dev :=
  let gone := s.coilOps.filter (fun o => s.cPart o.c == p)
  let s := gone.foldl (fun s o => s.stale o.c o.c.handle) { s with coilOps := s.coilOps.filter (fun o => s.cPart o.c != p) }
  let s := ((s.coil.coils.filter (fun e => e.2.exists && e.2.owner == p)).map (fun e => e.1)).foldl (fun s slot => s.freeCoil slot) s
  let s := (s.coil.loans.filter (fun l => hPart l.handle == p)).foldl (fun s l => s.endLoan l) s
  (List.range 16).foldl (fun s e => s.wr Reg.CS_POL_DATA (p + 64 * e) Reg.CS_POL_DATA.rst) s

/-- COIL_ALLOC. -/
def doCoilAlloc (c : Cmd) (s : Dev) : Dev := s.coilCommand 0 c
/-- COIL_FREE. -/
def doCoilFree (c : Cmd) (s : Dev) : Dev := s.coilCommand 1 c
/-- COIL_READ. -/
def doCoilRead (c : Cmd) (s : Dev) : Dev := s.coilCommand 2 c
/-- COIL_WRITE. -/
def doCoilWrite (c : Cmd) (s : Dev) : Dev := s.coilCommand 3 c
/-- COIL_APPEND. -/
def doCoilAppend (c : Cmd) (s : Dev) : Dev := s.coilCommand 4 c
/-- COIL_SCAN. -/
def doCoilScan (c : Cmd) (s : Dev) : Dev := s.coilCommand 5 c
/-- COIL_MIGRATE. -/
def doCoilMigrate (c : Cmd) (s : Dev) : Dev := s.coilCommand 6 c
/-- COIL_PIN. -/
def doCoilPin (c : Cmd) (s : Dev) : Dev := s.coilCommand 7 c
/-- COIL_UNPIN. -/
def doCoilUnpin (c : Cmd) (s : Dev) : Dev := s.coilCommand 8 c
/-- COIL_MIRROR. -/
def doCoilMirror (c : Cmd) (s : Dev) : Dev := s.coilCommand 9 c
/-- COIL_QUERY. -/
def doCoilQuery (c : Cmd) (s : Dev) : Dev := s.coilCommand 10 c
/-- COIL_POLICY. -/
def doCoilPolicy (c : Cmd) (s : Dev) : Dev := s.coilCommand 11 c

/-- COIL_ALLOC. -/
def execCoilAlloc (c : Cmd) (s : State) : Host.Outcome State Fault Refusal := s.on (doCoilAlloc c)
/-- COIL_FREE. -/
def execCoilFree (c : Cmd) (s : State) : Host.Outcome State Fault Refusal := s.on (doCoilFree c)
/-- COIL_READ. -/
def execCoilRead (c : Cmd) (s : State) : Host.Outcome State Fault Refusal := s.on (doCoilRead c)
/-- COIL_WRITE. -/
def execCoilWrite (c : Cmd) (s : State) : Host.Outcome State Fault Refusal := s.on (doCoilWrite c)
/-- COIL_APPEND. -/
def execCoilAppend (c : Cmd) (s : State) : Host.Outcome State Fault Refusal := s.on (doCoilAppend c)
/-- COIL_SCAN. -/
def execCoilScan (c : Cmd) (s : State) : Host.Outcome State Fault Refusal := s.on (doCoilScan c)
/-- COIL_MIGRATE. -/
def execCoilMigrate (c : Cmd) (s : State) : Host.Outcome State Fault Refusal := s.on (doCoilMigrate c)
/-- COIL_PIN. -/
def execCoilPin (c : Cmd) (s : State) : Host.Outcome State Fault Refusal := s.on (doCoilPin c)
/-- COIL_UNPIN. -/
def execCoilUnpin (c : Cmd) (s : State) : Host.Outcome State Fault Refusal := s.on (doCoilUnpin c)
/-- COIL_MIRROR. -/
def execCoilMirror (c : Cmd) (s : State) : Host.Outcome State Fault Refusal := s.on (doCoilMirror c)
/-- COIL_QUERY. -/
def execCoilQuery (c : Cmd) (s : State) : Host.Outcome State Fault Refusal := s.on (doCoilQuery c)
/-- COIL_POLICY. -/
def execCoilPolicy (c : Cmd) (s : State) : Host.Outcome State Fault Refusal := s.on (doCoilPolicy c)
/-- COIL_ADMISSION. -/
def execCoilAdmission (slot : Nat) (s : State) : Host.Outcome State Fault Refusal := s.on (doCoilAdmission slot)
/-- CLOCK_SWEEP. -/
def execClockSweep (nbhd : Nat) (s : State) : Host.Outcome State Fault Refusal := s.on (doClockSweep nbhd)
/-- MIGRATION_START. -/
def execMigrationStart (nbhd : Nat) (s : State) : Host.Outcome State Fault Refusal := s.on (doMigrationStart nbhd)
/-- MIGRATION_SWITCH. -/
def execMigrationSwitch (slot : Nat) (bad : Option Nat) (s : State) : Host.Outcome State Fault Refusal := s.on (doMigrationSwitch slot bad)
/-- FRAME_ZEROING_DONE. -/
def execFrameZeroingDone (nbhd tier : Nat) (s : State) : Host.Outcome State Fault Refusal := s.on (doFrameZeroingDone nbhd tier)
/-- MIRROR_SETUP_DONE. -/
def execMirrorSetupDone (slot : Nat) (bad : Option Nat) (s : State) : Host.Outcome State Fault Refusal := s.on (doMirrorSetupDone slot bad)
/-- MEMORY_DEVICE_LOST. -/
def execMemoryDeviceLost (d : Nat) (s : State) : Host.Outcome State Fault Refusal := s.on (doMemoryDeviceLost d)
/-- TABLE_COPY_REBUILT. -/
def execTableCopyRebuilt (s : State) : Host.Outcome State Fault Refusal := s.on doTableCopyRebuilt
/-- CS_EN_SET. -/
def execCsEnSet (src : Src) (s : State) : Host.Outcome State Fault Refusal := s.on (fun d => d.at src .CS (doCsEnSet src))
/-- CS_EN_CLEAR. -/
def execCsEnClear (src : Src) (s : State) : Host.Outcome State Fault Refusal := s.on (fun d => d.at src .CS (doCsEnClear src))
/-- CS_READY. -/
def execCsReady (s : State) : Host.Outcome State Fault Refusal := s.on doCsReady
end Sys2Proof.Machine
end

