-- ==== Sys2Proof/Machine/Links.lean ====
section
/-! DEFINITION. What happens on the links of the fabric: link frames, retry, link state, retuning and the neighbours of a switched
port (R309, R313 to R317, R337, R338). -/
namespace Sys2Proof.Machine

/-- What a change of the links leaves to be done: coil messages that ended with it are told to the context store. -/
def Dev.settleFabric (s : Dev) : Dev := s.pump.settleCoils

/-- Frames up to LSEQ `n` are acknowledged (R315): they leave the replay buffer, and queued packets may follow. -/
def Dev.linkAcked (s : Dev) (k n : Nat) : Dev :=
  let l := s.link k
  if !(l.replay.any (fun r => r.lseq = n)) then s
  else
    let r := ((l.replay.dropWhile (fun r => decide (r.lseq ≠ n))).drop 1)
    Dev.linkDrain k l.txq.length (s.modLink k (fun l => { l with replay := r }))

/-- A link exhausts its retries (R315): it goes down. -/
def Dev.linkExhaust (s : Dev) (k : Nat) : Dev := (s.report Ev.FX_LLR_EXHAUSTED (k / 8)).linkDown k

/-- Ask for replay from the frame after the last one received in order. -/
def Dev.linkNak (s : Dev) (k : Nat) : Dev := s.linkControl k (.llrNak (((s.link k).rxSeq + 1) % 65536))

/-- An uncorrectable frame (R315, R316): its uncorrectable codewords are counted, and too many in 1 ms are reported. A direct link
asks for replay. -/
def Dev.badFrame (s : Dev) (k n : Nat) : Dev :=
  let l := s.link k
  let u := l.unc.filter (fun t => decide (s.mono < t + 16000000)) ++ List.replicate n s.mono
  let high := decide (64 < u.length)
  let s := (s.bump Reg.FX_FEC_UNCORR (k / 8) n).modLink k (fun l => { l with unc := u, fecHigh := high })
  let s := if high && !l.fecHigh then s.report Ev.FX_FEC_HIGH (k / 8) else s
  if s.directPort (k / 8) then s.linkNak k else s

/-- The ways on which this module relays a packet that came on link `k` (R313): the direct link where its own entry has one, else
relayed routes of which the whole stays within three links. -/
def Dev.relayWays (s : Dev) (k : Nat) (p : Packet) : List Way :=
  (s.ways p.dst).filter (fun w => decide (w.link ≠ k) &&
    (if (s.route p.dst).testBit 1 then w.code == 0 else decide (p.hops + 1 + w.links ≤ 3)))

/-- Relay a packet on this module's own route to its destination (R313, R325). -/
def Dev.relay (s : Dev) (k : Nat) (p : Packet) : Dev :=
  if p.hops = 2 then s.report Ev.FX_RELAY_DROP (k / 8)
  else match nextWay (s.peer p.dst).rr ((s.relayWays k p).filter (fun w => !s.wayFull p.dst w)) with
  | none => s.report Ev.FX_RELAY_DROP (k / 8)
  | some w =>
    let q := { p with hops := p.hops + 1 }
    let s := (s.modPeer p.dst (fun x => { x with rr := w.code })).bump Reg.GT_RELAYED 0 1
    if p.typ = 0 then s.linkControl w.link (.packet q) else s.linkPut w.link q

/-- The link tag of a good frame of a direct link (R315), and the relaying of a packet that is not for this module (R313). -/
def Dev.linkFrame (s : Dev) (k : Nat) (f : Frame) : Dev :=
    let s := s.linkAcked k f.ackLseq
    let p := f.packet
    let pass := fun (s : Dev) => if p.dst = s.fnid ∨ p.typ = 9 then s else s.relay k p
    let want := ((s.link k).rxSeq + 1) % 65536
    let s := if p.typ = 0 then pass s
      else if f.lseq = want then pass (s.modLink k (fun l => { l with rxSeq := f.lseq }))
      else if (f.lseq + 65536 - want) % 65536 < 32768 then s.linkNak k
      else s
    s.settleFabric

/-- FRAME_RECEIVE (R315, R316): the counters and the link layer's part of a frame; a switched port has no link layer. What a packet
for this module does is its own command. -/
def doFrameReceive (port lane : Nat) (f : Frame) (s : Dev) : Dev :=
  let k := s.linkOf port lane
  if !s.carries k then s
  else
    let s := s.bump Reg.FX_FEC_CORR port f.corrected
    if f.bad ≠ 0 then s.badFrame k f.bad
    else
      let s := s.bump Reg.FX_FRAMES_RX port 1
      if s.directPort port then s.linkFrame k f else s

/-- LLR_ACK (R315). -/
def doLlrAck (port lane seq : Nat) (s : Dev) : Dev :=
  let k := laneKey port lane
  if !s.directPort port || !(s.link k).up then s
  else ((s.bump Reg.FX_FRAMES_RX port 1).linkAcked k seq).settleFabric

/-- LLR_NAK (R315): frames before NAK_LSEQ have arrived; those from it on are replayed, a fifth time not. -/
def doLlrNak (port lane seq : Nat) (s : Dev) : Dev :=
  let k := laneKey port lane
  if !s.directPort port || !(s.link k).up then s
  else
    let s := (s.bump Reg.FX_FRAMES_RX port 1).linkAcked k ((seq + 65535) % 65536)
    let again := (s.link k).replay.dropWhile (fun r => decide (r.lseq ≠ seq))
    if again.any (fun r => decide (4 ≤ r.plays)) then (s.linkExhaust k).settleFabric
    else
      let s := s.modLink k (fun l => { l with replay := l.replay.map (fun r => if r ∈ again then { r with plays := r.plays + 1 } else r) })
      let s := again.foldl (fun s r => s.emit k r.lseq (.packet r.packet)) s
      (s.bump Reg.FX_LLR_REPLAYS port again.length).settleFabric

/-- LLR_ACK_IDLE (R315): 100 ns without a frame sent. -/
def doLlrAckIdle (port lane : Nat) (s : Dev) : Dev :=
  let k := laneKey port lane
  if !s.directPort port || !(s.link k).up then s
  else (s.reachLocal ((s.link k).lastTx + 1600)).linkControl k .llrAck

/-- FX_LLR_EXHAUSTED (R315): a frame still unacknowledged 6.0 µs after it was first sent. -/
def doFxLlrExhausted (port lane : Nat) (s : Dev) : Dev :=
  let k := laneKey port lane
  match (s.link k).replay with
  | [] => s
  | r :: _ => if !(s.link k).up then s else ((s.reachLocal (r.first + 96000)).linkExhaust k).settleFabric

/-- LINK_LOCK_LOSS (R316): FEC lock or lane alignment gone for 1 µs, or LOS. -/
def doLinkLockLoss (port lane : Nat) (s : Dev) : Dev :=
  ((s.unlock (laneKey port lane)).linkDown (s.linkOf port lane)).settleFabric

/-- A direct link with ten frames of each end behind it comes up (R316). -/
def Dev.tryUp (s : Dev) (k : Nat) : Dev :=
  if 10 ≤ (s.link k).upSent ∧ 10 ≤ (s.link k).upRcvd then (s.linkUp k).settleFabric else s

/-- LINK_STATE (R316). -/
def doLinkState (port lane : Nat) (up : Bool) (s : Dev) : Dev :=
  let k := laneKey port lane
  if !s.directPort port || !(s.link k).locked then s
  else
    let s := s.bump Reg.FX_FRAMES_RX port 1
    if (s.link k).up then s
    else (s.modLink k (fun l => { l with upRcvd := if up then l.upRcvd + 1 else 0 })).tryUp k

/-- LINK_STATE_SEND (R316): every 1 µs while a direct link is coming up. -/
def doLinkStateSend (port lane : Nat) (s : Dev) : Dev :=
  let k := laneKey port lane
  if !s.directPort port || !s.flag Reg.FX_CTRL_EN port || (s.link k).up || (s.optic k).blanked || s.selfLink k then s
  else
    let s := s.reachLocal ((s.link k).lastTx + 16000)
    let on := (s.link k).locked
    ((s.linkControl k (.linkState on)).modLink k (fun l => { l with upSent := if on then l.upSent + 1 else 0 })).tryUp k

/-- LANE_ALIGNMENT_FEC_LOCK (R316): with every lane of a switched port locked its link is up. -/
def doLaneAlignmentFecLock (port lane : Nat) (s : Dev) : Dev :=
  if !s.flag Reg.FX_CTRL_EN port || !(s.lanesOf port).contains lane || (s.optic (laneKey port lane)).blanked then s
  else
    let s := s.modLink (laneKey port lane) (fun l => { l with locked := true })
    if !s.directPort port && (s.lanesOf port).all (fun l => (s.link (laneKey port l)).locked) then (s.linkUp (laneKey port 0)).settleFabric
    else s

/-! Retuning (R314) -/

/-- ASSIGN_ACCEPT_STOP (R314 step 1): 10 µs before T_act a link whose channel changes accepts no new packet. -/
def doAssignAcceptStop (port lane : Nat) (s : Dev) : Dev :=
  let k := laneKey port lane
  match (s.link k).tAct with
  | none => s
  | some t => if (s.link k).next = (s.optic k).channel then s
    else ((s.reach (t - 160000)).modLink k (fun l => { l with stop := true })).showPort port

/-- ASSIGN_ACTIVATION (R314 step 2): the link's packets are handed to the transport, its lane is blanked, and the pair it served
has no direct link on it any more. -/
def doAssignActivation (port lane : Nat) (s : Dev) : Dev :=
  let k := laneKey port lane
  match (s.link k).tAct with
  | none => s
  | some t => if (s.link k).next = (s.optic k).channel then s
    else
      let s := s.reach t
      let l := s.link k
      let s := s.modLink k (fun l => { l with up := false, peer := none })
      let s := match l.peer with
        | some n =>
          if s.flag Reg.GT_CTRL_STATIC_ROUTES 0 then s
          else if (s.route n).testBit 1 ∧ nbits (s.route n) 10 2 = port + (s.optic k).channel * 32 then s.wr Reg.GT_ROUTE n (s.route n - 2)
          else s
        | none => s
      (s.retuneOut k l.next).settleFabric

/-- LINK_UP_TIMEOUT (R314): not up by T_act + 100 µs. -/
def doLinkUpTimeout (port lane : Nat) (s : Dev) : Dev :=
  let k := laneKey port lane
  match (s.link k).tAct with
  | none => s
  | some t => if (s.link k).up ∨ !(s.link k).stop then s
    else
      let s := (s.reach (t + 1600000)).report Ev.FX_LINK_DOWN port
      let c := (s.link k).next
      let s := s.modLink k (fun l => { l with tAct := none })
      s.fab (fun x => { x with coord := { x.coord with failed := x.coord.failed ++ [(port, c)] } })

/-- PLANE_SKIP_EXPIRY (R338): the plane is usable again for the peer. -/
def doPlaneSkipExpiry (n plane : Nat) (s : Dev) : Dev :=
  let p := NMap.get ({} : Path) (s.peer n).paths plane
  if p.skipUntil = 0 then s
  else
    let s := s.reachLocal p.skipUntil
    (s.modPeer n (fun x => { x with paths := NMap.set {} x.paths plane { p with skipUntil := 0 } })).settleFabric

/-! Switched ports (R309, R317) -/

/-- PAUSE_PFC_FRAME (R309). -/
def doPausePfcFrame (port : Nat) (s : Dev) : Dev :=
  if !s.flag Reg.FX_CTRL_EN port then s else (s.bump Reg.FX_CTRL_DISCARDED port 1).report Ev.FX_CTRL_DISCARDED port

/-- Change what a switched port knows of its router. -/
def Dev.modGateway (s : Dev) (port : Nat) (f : Gateway → Gateway) : Dev :=
  (s.fab (fun x => { x with gateways := NMap.set {} x.gateways port (f (NMap.get {} x.gateways port)) })).settleFabric

/-- ROUTER_ADVERTISEMENT (R317): the default router of an IPv6 port; a new one is not resolved yet. -/
def doRouterAdvertisement (port router : Nat) (s : Dev) : Dev :=
  if s.directPort port || s.flag Reg.GT_CTRL_IPV4 0 then s
  else s.modGateway port (fun g => if g.router = some router then g else { router := some router, mac := none })

/-- NEIGHBOR_DISCOVERY (R317): the router's MAC address. -/
def doNeighborDiscovery (port mac : Nat) (s : Dev) : Dev :=
  if s.directPort port || s.flag Reg.GT_CTRL_IPV4 0 || (NMap.get ({} : Gateway) s.fabric.gateways port).router.isNone then s
  else s.modGateway port (fun g => { g with mac := some mac })

/-- ARP_REPLY (R317): the MAC address of GT_V4.GATEWAY. -/
def doArpReply (port mac : Nat) (s : Dev) : Dev :=
  if s.directPort port || !s.flag Reg.GT_CTRL_IPV4 0 then s else s.modGateway port (fun g => { g with mac := some mac })

/-- FRAME_RECEIVE. -/
def execFrameReceive (port lane : Nat) (f : Frame) (s : State) : Host.Outcome State Fault Refusal := s.on (doFrameReceive port lane f)
/-- LLR_ACK. -/
def execLlrAck (port lane seq : Nat) (s : State) : Host.Outcome State Fault Refusal := s.on (doLlrAck port lane seq)
/-- LLR_NAK. -/
def execLlrNak (port lane seq : Nat) (s : State) : Host.Outcome State Fault Refusal := s.on (doLlrNak port lane seq)
/-- LLR_ACK_IDLE. -/
def execLlrAckIdle (port lane : Nat) (s : State) : Host.Outcome State Fault Refusal := s.on (doLlrAckIdle port lane)
/-- FX_LLR_EXHAUSTED. -/
def execFxLlrExhausted (port lane : Nat) (s : State) : Host.Outcome State Fault Refusal := s.on (doFxLlrExhausted port lane)
/-- LINK_LOCK_LOSS. -/
def execLinkLockLoss (port lane : Nat) (s : State) : Host.Outcome State Fault Refusal := s.on (doLinkLockLoss port lane)
/-- LINK_STATE. -/
def execLinkState (port lane : Nat) (up : Bool) (s : State) : Host.Outcome State Fault Refusal := s.on (doLinkState port lane up)
/-- LINK_STATE_SEND. -/
def execLinkStateSend (port lane : Nat) (s : State) : Host.Outcome State Fault Refusal := s.on (doLinkStateSend port lane)
/-- LANE_ALIGNMENT_FEC_LOCK. -/
def execLaneAlignmentFecLock (port lane : Nat) (s : State) : Host.Outcome State Fault Refusal := s.on (doLaneAlignmentFecLock port lane)
/-- ASSIGN_ACCEPT_STOP. -/
def execAssignAcceptStop (port lane : Nat) (s : State) : Host.Outcome State Fault Refusal := s.on (doAssignAcceptStop port lane)
/-- ASSIGN_ACTIVATION. -/
def execAssignActivation (port lane : Nat) (s : State) : Host.Outcome State Fault Refusal := s.on (doAssignActivation port lane)
/-- LINK_UP_TIMEOUT. -/
def execLinkUpTimeout (port lane : Nat) (s : State) : Host.Outcome State Fault Refusal := s.on (doLinkUpTimeout port lane)
/-- PLANE_SKIP_EXPIRY. -/
def execPlaneSkipExpiry (n plane : Nat) (s : State) : Host.Outcome State Fault Refusal := s.on (doPlaneSkipExpiry n plane)
/-- PAUSE_PFC_FRAME. -/
def execPausePfcFrame (port : Nat) (s : State) : Host.Outcome State Fault Refusal := s.on (doPausePfcFrame port)
/-- ROUTER_ADVERTISEMENT. -/
def execRouterAdvertisement (port router : Nat) (s : State) : Host.Outcome State Fault Refusal := s.on (doRouterAdvertisement port router)
/-- NEIGHBOR_DISCOVERY. -/
def execNeighborDiscovery (port mac : Nat) (s : State) : Host.Outcome State Fault Refusal := s.on (doNeighborDiscovery port mac)
/-- ARP_REPLY. -/
def execArpReply (port mac : Nat) (s : State) : Host.Outcome State Fault Refusal := s.on (doArpReply port mac)

end Sys2Proof.Machine
end

