-- ==== Sys2Proof/Machine/Lasers.lean ====
section
/-! DEFINITION. Comb sources, fabric-engine lasers, received power and peer reports (spec/09, R204). -/
namespace Sys2Proof.Machine

/-! Comb sources (R209 to R215) -/

/-- A comb's line is in use unless it has been declared lost. -/
def Dev.lineInUse (s : Dev) (q l : Nat) : Bool := !(s.rd Reg.LS_STATUS_LOST q).testBit l

/-- Show AT_TARGET of comb `q`. A comb back at target ends the hold of its quadrant's loops, whose spans begin afresh (R204);
during WARMUP the start-up sequence then sets HEAT_EN of its tiles (R213). -/
def Dev.atTarget (s : Dev) (q : Nat) (on : Bool) : Dev :=
  if s.flag Reg.LS_STATUS_AT_TARGET q = on then s
  else
    let s := (s.wr Reg.LS_STATUS_AT_TARGET q (b2n on)).updQuad
    if !on then s
    else
      let s := if (s.comb q).hold then
          (quadTiles q).foldl (fun s t => (s.freshSpans t).showLocks t) (s.modComb q (fun c => { c with hold := false })) else s
      if s.bootState = 5 then (quadTiles q).foldl (fun s t => s.heatOn t) s else s

/-- A comb goes dark (R204, R213): its tiles leave service, and its quadrant's loops are held. -/
def Dev.combDark (s : Dev) (q : Nat) : Dev :=
  let s := ((s.wr Reg.LS_STATUS_ON q 0).wr Reg.LS_STATUS_RAMPING q 0).wr Reg.LS_BIAS_BIAS q 0
  let s := s.modComb q (fun c => { c with hold := true, steady := 0, lowRun := 0, lost := [] })
  let s := s.atTarget q false
  (quadTiles q).foldl (fun s t => (s.showLocks t).outOfService t) s

/-- A comb starts: its bias ramps from 0 (R213 step 1). -/
def Dev.combStart (s : Dev) (q : Nat) : Dev :=
  (((s.wr Reg.LS_STATUS_ON q 1).wr Reg.LS_STATUS_RAMPING q 1).wr Reg.LS_BIAS_BIAS q 0).modComb q (fun c => { c with rampAt := s.mono })

/-- How long a comb's ramp takes: 50 ms (R213 step 2). -/
def rampTime : Nat := 50 * 16 * 10 ^ 6

/-- Where a ramp ends: the retained bias, or 1,800 mA where none is good (R213). -/
def Comb.rampEnd (c : Comb) : Nat := c.bias0.getD 1800

/-- The bias in force of comb `q`: while it ramps, on the line from 0 to the ramp's end (R213 step 1). -/
def Dev.biasNow (s : Dev) (q : Nat) : Nat :=
  let c := s.comb q
  if s.flag Reg.LS_STATUS_RAMPING q then min c.rampEnd (est ((c.rampEnd * (s.mono - c.rampAt) : Nat) : Int) rampTime).toNat
  else s.rd Reg.LS_BIAS_BIAS q

/-- The lines of a comb update that are tested (R211): those in use. -/
def Dev.usedLines (s : Dev) (q : Nat) : List Nat := (List.range 34).filter (s.lineInUse q)

/-- The line tests of an update (R211, R212). -/
def Dev.lineTests (s : Dev) (q : Nat) (powers : List Int) (near : Bool) : Dev :=
  if !near then s.modComb q (fun c => { c with lost := [] })
  else
    let target := s.rdS Reg.LS_TARGET_TARGET q
    let used := s.usedLines q
    let low := used.filter (fun l => decide (powers.getD l 0 < target - 150))
    let c := s.comb q
    let s := if low.any (fun l => !c.low.testBit l) then s.report Ev.LS_LINE_LOW q else s
    let runs := used.map (fun l => (l, if powers.getD l 0 < target - 300 then NMap.get 0 c.lost l + 1 else 0))
    let gone := (runs.filter (fun r => decide (10 ≤ r.2))).map (fun r => r.1)
    let s := s.modComb q (fun c => { c with low := low.foldl (fun m l => putBit m l true) 0
                                            lost := runs.filter (fun r => decide (0 < r.2) && decide (r.2 < 10)) })
    gone.foldl (fun s l =>
      let s := (s.wr Reg.LS_STATUS_LOST q (putBit (s.rd Reg.LS_STATUS_LOST q) l true)).report Ev.LS_LINE_LOST q
      (s.requestLine q l).modComb q (fun c => { c with low := putBit c.low l false })) s

/-- COMB_BIAS_UPDATE (R210, R211): the loop runs while the comb is on and its ramp is over. -/
def doCombBiasUpdate (q : Nat) (powers : List Int) (s : Dev) : Dev :=
  if !s.flag Reg.LS_STATUS_ON q || s.flag Reg.LS_STATUS_RAMPING q then s
  else
    let used := s.usedLines q
    let target := s.rdS Reg.LS_TARGET_TARGET q
    let step := s.rd Reg.LS_TARGET_STEP q
    let top := s.rd Reg.LS_BIAS_BIAS_MAX q
    let bias := s.rd Reg.LS_BIAS_BIAS q
    let mean : Int := if used.isEmpty then Config.meanOfNone s.seed else rhe (used.map (fun l => powers.getD l 0)).sum used.length
    let s := if used.isEmpty then s.fresh else s
    let err := target - mean
    let new := if 10 < err then min (bias + step) top else if err < -10 then bias - step else bias
    let s := ((s.wr Reg.LS_BIAS_BIAS q new).wrS Reg.LS_MEAN_MEAN q mean).wrS Reg.LS_MEAN_ERR q err
    let s := (s.modComb q (fun c => { c with powers := powers })).bump Reg.LS_UPDATES q 1
    let s := if bias < new then s.bump Reg.LS_STEPS_UP q 1 else s
    let ok := decide (-10 ≤ err) && decide (err ≤ 10) &&
      used.all (fun l => decide (target - 150 ≤ powers.getD l 0) && decide (powers.getD l 0 ≤ target + 150))
    let steady := if ok then min ((s.comb q).steady + 1) 10 else 0
    let s := s.modComb q (fun c => { c with steady := steady })
    let s := if steady = 10 then s.atTarget q true else if ok then s else s.atTarget q false
    let s := if s.rd Reg.LS_BIAS_BIAS_EOL q ≤ new ∧ !s.flag Reg.LS_STATUS_EOL q then
        (((s.wr Reg.LS_STATUS_EOL q 1).wr Reg.LS_EOL_TIME q s.now).modComb q (fun c => { c with biasDue := true })).report Ev.LS_EOL q
      else s
    let run := if new = top ∧ 100 < err then (s.comb q).lowRun + 1 else 0
    let s := s.modComb q (fun c => { c with lowRun := run })
    let s := if run = 100 ∧ !s.flag Reg.LS_STATUS_POWER_LOW q then (s.wr Reg.LS_STATUS_POWER_LOW q 1).report Ev.LS_POWER_LOW q
      else if err ≤ 10 then s.wr Reg.LS_STATUS_POWER_LOW q 0 else s
    s.lineTests q powers (decide (-50 ≤ err) && decide (err ≤ 50))

/-- COMB_RAMP_END (R213 step 2): the bias stands at the retained bias, or at 1,800 mA, and the loop runs. -/
def doCombRampEnd (q : Nat) (s : Dev) : Dev :=
  if !s.flag Reg.LS_STATUS_RAMPING q then s
  else
    let s := s.reachLocal ((s.comb q).rampAt + rampTime)
    ((s.wr Reg.LS_STATUS_RAMPING q 0).wr Reg.LS_BIAS_BIAS q (s.comb q).rampEnd).modComb q
      (fun c => { c with steady := 0, lowRun := 0, lost := [] })

/-- RETAINED_BIAS_WRITE (R213): at most once per hour, and once more when EOL was set. -/
def doRetainedBiasWrite (q : Nat) (s : Dev) : Dev :=
  let c := s.comb q
  let last := NMap.get 0 s.boot.biasAt q
  if !s.flag Reg.LS_STATUS_ON q || s.flag Reg.LS_STATUS_RAMPING q ||
     (!c.biasDue && last != 0 && decide (s.mono < last - 1 + 57600000000000)) then s
  else
    let b := s.rd Reg.LS_BIAS_BIAS q
    let s := s.modComb q (fun c => { c with bias0 := some b, biasDue := false })
    { s with boot := { s.boot with biasAt := NMap.set 0 s.boot.biasAt q (s.mono + 1)
                                   cal := { s.boot.cal with biases := NMap.set none s.boot.cal.biases q (some b) } } }

/-! Drivers (R204, R213, R214) -/

/-- The block of a light source's page. -/
def sourceBlk (source : Nat) : Blk := if source < 4 then .LS else .LF

/-- A fabric engine's lasers are powered or dark. -/
def Dev.engineLight (s : Dev) (e : Nat) (on : Bool) : Dev := s.wr Reg.LF_STATUS_ON (4 + e) (b2n on)

/-- LS_EN_SET: a source whose driver has tripped stays off until it is re-armed. -/
def doLsEnSet (src : Src) (source : Nat) (s : Dev) : Dev := s.own0 src (fun s =>
  if s.flag Reg.LS_CTRL_EN source then s
  else
    let s := s.wr Reg.LS_CTRL_EN source 1
    if source < 4 then (if s.flag Reg.LS_STATUS_DRV_TRIPPED source then s else s.combStart source)
    else if s.flag Reg.LF_STATUS_DRV_TRIPPED source then s else s.engineLight (source - 4) true)

/-- LS_EN_CLEAR. -/
def doLsEnClear (src : Src) (source : Nat) (s : Dev) : Dev := s.own0 src (fun s =>
  if !s.flag Reg.LS_CTRL_EN source then s
  else
    let s := s.wr Reg.LS_CTRL_EN source 0
    if 4 ≤ source then s.engineLight (source - 4) false
    else if s.flag Reg.LS_STATUS_ON source then s.combDark source else s)

/-- REARM (R214). -/
def doRearm (src : Src) (source : Nat) (s : Dev) : Dev := s.own0 src (fun s =>
  if source < 4 then
    if !s.flag Reg.LS_STATUS_DRV_TRIPPED source then s
    else
      let s := s.wr Reg.LS_STATUS_DRV_TRIPPED source 0
      if s.flag Reg.LS_CTRL_EN source then s.combStart source else s
  else if !s.flag Reg.LF_STATUS_DRV_TRIPPED source then s
  else
    let s := s.wr Reg.LF_STATUS_DRV_TRIPPED source 0
    if s.flag Reg.LS_CTRL_EN source then s.engineLight (source - 4) true else s)

/-- LS_DRV_OC (R204): the driver turns off and latches. -/
def doLsDrvOc (source : Nat) (s : Dev) : Dev :=
  if source < 4 then
    if !s.flag Reg.LS_STATUS_ON source then s
    else
      let s := ((s.wr Reg.LS_STATUS_DRV_TRIPPED source 1).bump Reg.LS_DRV_TRIPS source 1).report Ev.LS_DRV_OC source
      s.combDark source
  else if !s.flag Reg.LF_STATUS_ON source then s
  else
    let s := ((s.wr Reg.LF_STATUS_DRV_TRIPPED source 1).bump Reg.LF_DRV_TRIPS source 1).report Ev.LS_DRV_OC source
    let s := s.engineLight (source - 4) false
    s.linksDown ((List.range 64).map (fun k => (source - 4) * 64 + k))

/-! Fabric lanes (R216 to R219) -/

/-- LANE_BIAS_UPDATE (R218): a blanked lane keeps its bias. -/
def doLaneBiasUpdate (e lane : Nat) (power : Int) (s : Dev) : Dev :=
  let k := e * 64 + lane
  let x := s.optic k
  if !s.flag Reg.LF_STATUS_ON (4 + e) || x.blanked then s
  else
    let err := s.rdS Reg.LF_TX_TARGET_TX_TARGET (4 + e) - power
    let step := s.rd Reg.LF_TX_TARGET_STEP (4 + e)
    let bias := if 10 < err then min (x.bias + step) 1500 else if err < -10 then x.bias - step else x.bias
    let run := if bias = 1500 ∧ 100 < err then x.lowRun + 1 else 0
    let s := s.modOptic k (fun x => { x with txPower := power, bias := bias, lowRun := run, eol := x.eol || decide (1350 ≤ bias)
                                             txLow := (x.txLow || run == 100) && decide (10 < err) })
    let s := if 1350 ≤ bias ∧ !x.eol then (s.wr Reg.LF_STATUS_ANY_EOL (4 + e) 1).report Ev.LS_EOL (4 + e) else s
    if run = 100 ∧ !x.txLow then s.report Ev.LS_POWER_LOW (4 + e) else s

/-- LANE_RETUNE (R219 steps 1 and 2): the lane is blanked, and carries no data until the fabric reports it aligned. -/
def doLaneRetune (e lane channel : Nat) (s : Dev) : Dev := (s.retuneOut (e * 64 + lane) channel).settleFabric

/-- LANE_TUNED (R219 step 4): transmit and receive lane take the channel. -/
def doLaneTuned (e lane : Nat) (s : Dev) : Dev :=
  let k := e * 64 + lane
  if !(s.optic k).blanked then s
  else
    let s := s.modOptic k (fun x => { x with blanked := false, tuned := true, channel := x.target, rxChannel := x.target })
    (s.bump Reg.LF_RETUNES (4 + e) 1).showPort (k / 8)

/-- LS_TUNE_FAIL (R219): the lane stays blanked, and the fabric treats it as down. -/
def doLsTuneFail (e lane : Nat) (s : Dev) : Dev :=
  let k := e * 64 + lane
  if !(s.optic k).blanked then s
  else ((s.reachLocal ((s.optic k).retuneAt + 160000)).report Ev.LS_TUNE_FAIL (4 + e)).linkDown (s.linkOf (k / 8) (k % 8))

/-! Received power (R220, R221) -/

/-- One flag of R220: consecutive readings that set and clear it, and the flag. -/
def flagStep (sets clears : Bool) (on : Bool) (a b : Nat) : Bool × Nat × Nat :=
  let a := if sets then min (a + 1) 3 else 0
  let b := if clears then min (b + 1) 3 else 0
  (if on then b != 3 else a == 3, a, b)

/-- RX_POWER_READING (R220). -/
def doRxPowerReading (e lane : Nat) (power : Int) (s : Dev) : Dev :=
  let k := e * 64 + lane
  let x := s.optic k
  let s := s.modOptic k (fun x => { x with rxPower := power })
  if x.blanked || (s.link k).stop then s
  else
    let w := s.rdS Reg.LF_RX_THR_WARN_LO (4 + e)
    let a := s.rdS Reg.LF_RX_THR_ALARM_LO (4 + e)
    let h := s.rdS Reg.LF_RX_THR_HIGH (4 + e)
    let r := fun (i : Nat) (on : Bool) (sets clears : Bool) => flagStep sets clears on (x.setRuns.getD i 0) (x.clearRuns.getD i 0)
    let f0 := r 0 x.warnLo (decide (power < w)) (decide (w + 50 ≤ power))
    let f1 := r 1 x.alarmLo (decide (power < a)) (decide (a + 50 ≤ power))
    let f2 := r 2 x.high (decide (h < power)) (decide (power ≤ h - 50))
    let f3 := r 3 x.los (decide (power < -900)) (decide (-850 < power))
    let s := s.modOptic k (fun x => { x with
      warnLo := f0.1, alarmLo := f1.1, high := f2.1, los := f3.1
      setRuns := [f0.2.1, f1.2.1, f2.2.1, f3.2.1], clearRuns := [f0.2.2, f1.2.2, f2.2.2, f3.2.2] })
    let note := fun (s : Dev) (was now : Bool) (ev : Event) =>
      if !was && now then (s.bump Reg.LF_RX_EVENTS (4 + e) 1).report ev (4 + e) else s
    let s := note (note (note (note s x.warnLo f0.1 Ev.LS_RX_WARN) x.alarmLo f1.1 Ev.LS_RX_ALARM) x.high f2.1 Ev.LS_RX_HIGH)
      x.los f3.1 Ev.LS_RX_LOS
    let s := s.wr Reg.LF_STATUS_ANY_ALARM (4 + e) (b2n ((List.range 64).any (fun l =>
      let y := s.optic (e * 64 + l); y.alarmLo || y.high || y.los)))
    if !x.los && f3.1 then (s.unlock k).linkDown (s.linkOf (k / 8) (k % 8)) else s

/-- POWER_REPORT_SEND (R221, R315): on every direct link of the port that is up. -/
def doPowerReportSend (port : Nat) (s : Dev) : Dev :=
  if !s.directPort port then s
  else
    let es := (List.range 8).map (fun l =>
      let x := s.optic (laneKey port l)
      ({ tx := x.txPower, rx := x.rxPower, channel := x.channel, tuned := x.tuned, los := x.los } : PowerEntry))
    ((List.range 8).filter (fun l => s.carries (laneKey port l))).foldl (fun s l => s.linkControl (laneKey port l) (.power es)) s

/-- POWER (R221, R315): the entry of the link's channel fills the lane's peer report. -/
def doPowerFrame (port lane : Nat) (es : List PowerEntry) (s : Dev) : Dev :=
  if !s.directPort port || s.selfLink (laneKey port lane) then s
  else
    let k := laneKey port lane
    let s := (s.bump Reg.FX_FRAMES_RX port 1).modLink k (fun l => { l with report := s.mono })
    match es.find? (fun e => e.channel = (s.optic k).channel) with
    | none => s
    | some e => s.modOptic k (fun x => { x with peerValid := true, peerTx := e.tx, peerRx := e.rx, peerTuned := e.tuned, peerLos := e.los })

/-- LS_PEER_STALE (R221): 10 ms without a report on a direct link that is up. -/
def doLsPeerStale (port lane : Nat) (s : Dev) : Dev :=
  let k := laneKey port lane
  if !s.directPort port || !(s.link k).up then s
  else
    let s := s.reachLocal ((s.link k).report + 160000000)
    (s.modOptic k (fun x => { x with peerValid := false })).report Ev.LS_PEER_STALE (4 + port / 8)

/-- COMB_BIAS_UPDATE. -/
def execCombBiasUpdate (q : Nat) (powers : List Int) (s : State) : Host.Outcome State Fault Refusal := s.on (doCombBiasUpdate q powers)
/-- LANE_BIAS_UPDATE. -/
def execLaneBiasUpdate (e lane : Nat) (power : Int) (s : State) : Host.Outcome State Fault Refusal := s.on (doLaneBiasUpdate e lane power)
/-- LS_EN_SET. -/
def execLsEnSet (src : Src) (n : Nat) (s : State) : Host.Outcome State Fault Refusal := s.on (fun d => d.at src (sourceBlk n) (doLsEnSet src n))
/-- LS_EN_CLEAR. -/
def execLsEnClear (src : Src) (n : Nat) (s : State) : Host.Outcome State Fault Refusal := s.on (fun d => d.at src (sourceBlk n) (doLsEnClear src n))
/-- REARM. -/
def execRearm (src : Src) (n : Nat) (s : State) : Host.Outcome State Fault Refusal := s.on (fun d => d.at src (sourceBlk n) (doRearm src n))
/-- LS_DRV_OC. -/
def execLsDrvOc (n : Nat) (s : State) : Host.Outcome State Fault Refusal := s.on (doLsDrvOc n)
/-- COMB_RAMP_END. -/
def execCombRampEnd (q : Nat) (s : State) : Host.Outcome State Fault Refusal := s.on (doCombRampEnd q)
/-- LANE_RETUNE. -/
def execLaneRetune (e lane channel : Nat) (s : State) : Host.Outcome State Fault Refusal := s.on (doLaneRetune e lane channel)
/-- LANE_TUNED. -/
def execLaneTuned (e lane : Nat) (s : State) : Host.Outcome State Fault Refusal := s.on (doLaneTuned e lane)
/-- LS_TUNE_FAIL. -/
def execLsTuneFail (e lane : Nat) (s : State) : Host.Outcome State Fault Refusal := s.on (doLsTuneFail e lane)
/-- RX_POWER_READING. -/
def execRxPowerReading (e lane : Nat) (power : Int) (s : State) : Host.Outcome State Fault Refusal := s.on (doRxPowerReading e lane power)
/-- POWER_REPORT_SEND. -/
def execPowerReportSend (port : Nat) (s : State) : Host.Outcome State Fault Refusal := s.on (doPowerReportSend port)
/-- POWER. -/
def execPowerFrame (port lane : Nat) (es : List PowerEntry) (s : State) : Host.Outcome State Fault Refusal := s.on (doPowerFrame port lane es)
/-- LS_PEER_STALE. -/
def execLsPeerStale (port lane : Nat) (s : State) : Host.Outcome State Fault Refusal := s.on (doLsPeerStale port lane)
/-- RETAINED_BIAS_WRITE. -/
def execRetainedBiasWrite (q : Nat) (s : State) : Host.Outcome State Fault Refusal := s.on (doRetainedBiasWrite q)

end Sys2Proof.Machine
end

