-- ==== Sys2Proof/Machine/Access.lean ====
section
/-! DEFINITION. Register pages: the BAR0 directory, indirect windows, field ranges, which pages an access reaches, and where a
setting stands in BAR0 (spec/16, R371, R385). -/
namespace Sys2Proof.Machine

/-! The BAR0 directory (R415) -/

/-- Pages with a header: block, first instance, base, number; 4 KiB apart. -/
def directory : List (Blk × Nat × Nat × Nat) :=
  [(.ID, 0, 0x0, 1), (.BT, 0, 0x1000, 1), (.PM, 0, 0x2000, 1), (.FL, 0, 0x3000, 1), (.PA, 0, 0x4000, 1), (.TM, 0, 0x5000, 1),
   (.TR, 0, 0x6000, 1), (.PF, 0, 0x7000, 1), (.HI, 0, 0x8000, 1), (.CS, 0, 0x9000, 1), (.SY, 0, 0xA000, 1), (.GT, 0, 0xB000, 1),
   (.QM, 0, 0xC000, 1), (.LL, 16, 0xD000, 1), (.DM, 0, 0x10000, 8), (.LS, 0, 0x20000, 4), (.LF, 4, 0x24000, 4),
   (.PT, 0, 0x100000, 16), (.LK, 0, 0x110000, 16), (.HM, 0, 0x120000, 16), (.LL, 0, 0x130000, 16), (.AC, 0, 0x140000, 16),
   (.QS, 0, 0x150000, 16), (.CC, 0, 0x160000, 20), (.VE, 0, 0x200000, 64), (.FX, 0, 0x300000, 32)]

/-- The page with a header that holds BAR0 offset `o`: its block and instance. -/
def pageAt (o : Nat) : Option (Blk × Nat) :=
  (directory.find? (fun d => decide (d.2.2.1 ≤ o) && decide (o < d.2.2.1 + d.2.2.2 * 0x1000))).map
    (fun d => (d.1, d.2.1 + (o - d.2.2.1) / 0x1000))

/-- First BAR0 offset of a page. -/
def pageBase (b : Blk) (i : Nat) : Nat :=
  match directory.find? (fun d => decide (d.1 = b) && decide (d.2.1 ≤ i) && decide (i < d.2.1 + d.2.2.2)) with
  | some d => d.2.2.1 + (i - d.2.1) * 0x1000
  | none => 0

/-- Whether a BAR0 offset lies in a doorbell page. -/
def isDoorbell (o : Nat) : Bool := decide (0x1000000 ≤ o) && decide (o < 0x1000000 + 16 * 0x8000)

/-- Pages of directory index `p`: block and instance. -/
def pageOfIndex (p : Nat) : Option (Blk × Nat) :=
  (directory.map (fun d => (List.range d.2.2.2).map (fun k => (d.1, d.2.1 + k)))).flatten.find? (fun x => pageOf x.1 x.2 == p)

/-! Indirect windows (R410) -/

/-- The index registers, by offset, that select the element of the register at offset `o` of block `b`. -/
def windowIdx (b : Blk) (o : Nat) : List Nat :=
  let within := fun (lo hi : Nat) => decide (lo ≤ o) && decide (o ≤ hi)
  match b with
  | .BT => if o = 0x140 then [0x138] else []
  | .PM => if o = 0x138 then [0x130] else if o = 0x148 then [0x140] else if within 0x418 0x470 then [0x410] else []
  | .PA => if within 0x110 0x120 || o == 0x138 || within 0x200 0x280 then [0x108] else if o = 0x130 then [0x108, 0x128]
      else if o = 0x148 then [0x140] else if o = 0x158 then [0x150] else if within 0x168 0x180 then [0x160] else []
  | .TR => if within 0x110 0x118 || within 0x200 0x220 then [0x108] else []
  | .PF => if o = 0x208 then [0x100, 0x200] else if within 0x218 0x238 then [0x100, 0x210] else []
  | .HI => if o = 0x118 then [0x110] else []
  | .CS => if o = 0x130 then [0x128] else if within 0x140 0x178 then [0x138] else if within 0x188 0x198 then [0x180]
      else if o = 0x1A8 then [0x1A0] else if o = 0x1B8 then [0x1B0] else []
  | .SY => if within 0x110 0x130 then [0x108] else if within 0x140 0x148 || within 0x160 0x168 then [0x138]
      else if o = 0x158 then [0x138, 0x150] else if within 0x178 0x180 then [0x170] else if within 0x190 0x1B0 then [0x188]
      else if o = 0x1C0 then [0x1B8] else []
  | .QM => if within 0x130 0x160 then [0x128] else if o = 0x1A8 then [0x1A0] else []
  | .GT => if within 0x140 0x148 then [0x138] else []
  | .QS => if within 0x160 0x170 then [0x158] else if within 0x180 0x188 then [0x178] else if within 0x1A0 0x1B0 then [0x198] else []
  | .AC => if within 0x150 0x158 then [0x148] else []
  | .LK => if within 0x158 0x160 then [0x150] else []
  | .HM => if within 0x150 0x158 then [0x148] else []
  | .LL => if o = 0x128 then [0x120] else if o = 0x170 then [0x168] else if o = 0x1B8 then [0x1B0] else []
  | .LS => if o = 0x130 then [0x128] else []
  | .LF => if within 0x128 0x130 then [0x120] else []
  | .FX => if o = 0x118 then [0x110] else []
  | .CC => if o = 0x120 then [0x118] else []
  | _ => []

/-- The fields of the register at offset `o` of block `b`; the common header's below 0x100. LS_CTRL is one register of both
layouts (R223). -/
def fieldsAt (b : Blk) (o : Nat) : List Field :=
  let blk := if o < 0x40 then .PAGE else if b = .LF ∧ o = 0x100 then .LS else b
  Reg.table.filter (fun f => f.blk == blk && f.off == o)

/-- The key of field `f` of page `b`, `i`, element `e` of its window. -/
def fieldKey (b : Blk) (i e : Nat) (f : Field) : Nat :=
  if f.blk = .PAGE then pageOf b i else if manyInst b then win i e else e

/-- The packed value of an index register as source `src` wrote it. -/
def Dev.idxPacked (s : Dev) (b : Blk) (i o : Nat) (src : Src) : Nat :=
  ((fieldsAt b o).map (fun f => s.rdIdx f i src * 2 ^ f.lo)).sum

/-- The element of a window that source `src` reaches at offset `o` (R410). A partition other than 0 reaches only its own
part of the TR, PF and PA windows (R369, R456). -/
def Dev.element (s : Dev) (b : Blk) (i o : Nat) (src : Src) : Nat :=
  let p := srcPart src
  let own := p != 0 && (b == .TR || b == .PF || b == .PA)
  match windowIdx b o with
  | [] => 0
  | [x] =>
    let e := s.idxPacked b i x src
    if own then p
    else if b = .PM ∧ o ≠ 0x420 ∧ 0x418 ≤ o then e % 16
    else if b = .PM ∧ o = 0x420 then e % 128
    else e
  | x :: y :: _ =>
    let part := if own then p else s.idxPacked b i x src
    let e := s.idxPacked b i y src
    if b = .PF ∧ o = 0x208 then part * 256 + e else if b = .PF then part * 8 + e else part * 1024 + e

/-! Ranges (the ranges of each register table: a write outside one is ignored as a whole) -/

/-- The smallest and largest value of a field whose table gives a range; signed fields read as two's complement. -/
def ranges : List (Field × Bool × Int × Int) :=
  [(Reg.PT_CTRL_QRATE, false, 0, 2), (Reg.QS_CTRL_CLIP_THR, false, 4, 20), (Reg.LK_PARAM_E_MAX, false, 4, 2000),
   (Reg.LK_PARAM_E_LOCK, false, 1, 255), (Reg.LK_PARAM_T_FE, false, 1, 100), (Reg.LK_PARAM_T_LIM, false, 1, 250),
   (Reg.LK_PARAM_T_ACQ, false, 10, 1000), (Reg.LK_GAIN_KI, false, 1, 65535), (Reg.HM_GRP_LIMIT_LIMIT, false, 0, 160768),
   (Reg.HM_HOT_HOT_LIMIT, false, 60, 95), (Reg.HM_HOT_HYST, false, 1, 15), (Reg.HM_HOT_HOT_STEP, false, 1, 65535),
   (Reg.PM_CAL_CTRL_DT_CAL, false, 4, 128), (Reg.LL_CTRL_REG_TRIG, false, 0, 2), (Reg.LL_TRIG_FRAME_DIV, false, 1, 65535),
   (Reg.LL_TIMER_PERIOD, false, 100, 4294967295), (Reg.LL_LEN_REG_LEN, false, 1, 4096), (Reg.LL_LEN_INJ_LEN, false, 1, 16),
   (Reg.LL_RING_SIZE_LOG2, false, 12, 26), (Reg.LL_COEF_IDX_UNIT, false, 0, 16), (Reg.HM_LEG_CFG_SOFT, false, 8, 64),
   (Reg.HM_LEG_CFG_BLANK, false, 5, 50), (Reg.LS_TARGET_TARGET, true, 800, 1400), (Reg.LS_TARGET_STEP, false, 1, 15),
   (Reg.LF_TX_TARGET_TX_TARGET, true, 0, 400), (Reg.LF_TX_TARGET_STEP, false, 1, 15), (Reg.LF_RX_THR_WARN_LO, true, -800, 0),
   (Reg.LF_RX_THR_ALARM_LO, true, -850, -100), (Reg.LF_RX_THR_HIGH, true, 0, 500), (Reg.LS_LINE_IDX_LINE, false, 0, 33),
   (Reg.CS_CTRL_MIG_SHARE, false, 1, 32), (Reg.CS_TABLE_LOG2_SLOTS, false, 16, 26), (Reg.QM_CTRL_IDLE_REL, false, 1, 255),
   (Reg.QM_EPOCH_CAP_CAP_NS, false, 288, 65535), (Reg.QM_Q_CFG_SQ_LOG2, false, 4, 16), (Reg.QM_Q_CFG_CQ_LOG2, false, 4, 16),
   (Reg.QM_Q_CFG_WEIGHT, false, 1, 255), (Reg.QM_MEM_IDX, false, 0, 9), (Reg.SY_CTRL_DL_TIME, false, 10, 1000),
   (Reg.SY_PART_TMO_DEFAULT, false, 1, 4294967295), (Reg.GT_NODE_RING_N, false, 2, 512), (Reg.GT_NODE_NCAND, false, 0, 4),
   (Reg.GT_TIMING_ACK_TMO, false, 16, 255), (Reg.GT_TIMING_PATH_MAX, false, 1, 63), (Reg.GT_TIMING_RETX, false, 1, 7),
   (Reg.GT_TIMING_CHAN_PERIOD, false, 1, 1000), (Reg.PA_MEM_IDX_GRANULE, false, 0, 24831), (Reg.PA_ENG_IDX_ENGINE, false, 0, 83),
   (Reg.PA_TILE_CFG_QUANTUM_US, false, 10, 400), (Reg.PM_PWR_LIMIT_LIMIT_W, false, 600, 1950), (Reg.PM_THERM_WARN_C, false, 70, 95),
   (Reg.PM_SENSOR_IDX_SENSOR, false, 0, 32), (Reg.TR_SIZE_SIZE, false, 1, 1023), (Reg.TR_PCTRL_SNAP_MS, false, 1, 255),
   (Reg.LK_RING_IDX_PROW, false, 0, 271), (Reg.LK_RING_IDX_PCOL, false, 0, 147), (Reg.HM_GRP_IDX_PCOL, false, 0, 147),
   (Reg.HM_GRP_IDX_K, false, 0, 16)]

/-- Whether `v` lies in the range of field `f`. -/
def inRange (f : Field) (v : Nat) : Bool :=
  match ranges.find? (fun r => r.1.id == f.id) with
  | none => true
  | some (_, sg, lo, hi) =>
    let x : Int := if sg then toSigned f.width v else (v % 2 ^ f.width : Nat)
    decide (lo ≤ x) && decide (x ≤ hi)

/-- The bits of a written register that fall on field `f`. -/
def Field.of (f : Field) (v : Nat) : Nat := v / 2 ^ f.lo % 2 ^ f.width

/-- Tests over several fields of one register (R148, R206, R223, R249). -/
def crossOk (b : Blk) (o e v : Nat) : Bool :=
  match b with
  | .LK => if o = 0x108 then decide (Reg.LK_PARAM_E_LOCK.of v < Reg.LK_PARAM_E_MAX.of v) else true
  | .LF => if o = 0x110 then
      decide (toSigned 16 (Reg.LF_RX_THR_ALARM_LO.of v) < toSigned 16 (Reg.LF_RX_THR_WARN_LO.of v)) &&
      decide (toSigned 16 (Reg.LF_RX_THR_WARN_LO.of v) < toSigned 16 (Reg.LF_RX_THR_HIGH.of v)) else true
  | .LL => if o = 0x120 then Reg.LL_LIST_IDX_INJ.of v == 0 || decide (Reg.LL_LIST_IDX_INDEX.of v ≤ 15) else true
  | .CS => if o = 0x130 then decide (Reg.CS_POOL_POOL_CHUNKS.of v ≤ if e < 8 then 1024 else 2048) else true
  | _ => true

/-- The fields whose rows say that a write of a value they refuse is ignored, not that the whole register's is (R93, R117, and
for KI log entry 63): the field keeps its value and the register's other fields take theirs. -/
def keepsAlone (f : Field) : Bool :=
  f.id == Reg.PT_CTRL_QRATE.id || f.id == Reg.QS_CTRL_CLIP_THR.id || f.id == Reg.LK_GAIN_KI.id

/-- Whether a register accepts a written value: every writable field in its range, and the tests over several fields. -/
def valueOk (b : Blk) (o e v : Nat) : Bool :=
  ((fieldsAt b o).filter (fun f => f.acc == .rw && !keepsAlone f)).all (fun f => inRange f (f.of v)) && crossOk b o e v

/-! Settings in BAR0 (R385) -/

/-- REG and IDX of a setting's journal record: the BAR0 offset of its register and its window index. -/
def settingAt (f : Field) (key : Nat) : Nat × Nat :=
  if f.blk = .PAGE then
    match pageOfIndex key with
    | some (b, i) => (pageBase b i + f.off, 0)
    | none => (f.off, 0)
  else if manyInst f.blk then (pageBase f.blk (key % 128) + f.off, key / 128)
  else (pageBase f.blk 0 + f.off, key)

/-- The settings of the register at a BAR0 offset, and the key they have under index `idx`. -/
def settingsOf (reg idx : Nat) : List (Field × Nat) :=
  match pageAt reg with
  | none => []
  | some (b, i) => ((fieldsAt b (reg % 0x1000)).filter (fun f => f.isSetting)).map (fun f => (f, fieldKey b i idx f))

end Sys2Proof.Machine
end

