-- ==== Sys2Proof/Machine/Debug.lean ====
section
/-! DEFINITION. Halting control cores and vector engines, firmware pairs, and trace commands (spec/18, R437). -/
namespace Sys2Proof.Machine

/-- Whether a halt of control core `n` is accepted from partition `p` (R452): a sequencer, its tile in strict mode, and `p`
its owner. -/
def Dev.haltOk (s : Dev) (n p : Nat) : Bool := decide (n < 16) && !(s.tile n).shared && s.holder n == p

/-- A halt, a breakpoint or a write that is refused (R452). -/
def Dev.haltRefused (s : Dev) (n : Nat) : Dev := s.report Ev.CC_DBG_REFUSED n

/-- A sequencer stops and drains (R452 steps 1 and 2), with its BREAK record. -/
def Dev.coreStop (s : Dev) (n bp pc : Nat) (isHalt : Bool) : Dev :=
  let p := s.corePart n
  let s := s.coreHalts n
  let s := (((s.wr Reg.CC_STATUS_STATE n 1).wr Reg.CC_PC_PC n pc).bump Reg.CC_BREAKS n 1).report Ev.CC_BREAK n
  let s := if isHalt then s else s.wr Reg.CC_STATUS_LAST_BP n bp
  let can := s.traceOn p && !s.traceFull p
  let s := s.trace p 6 (Agent.cc n).code 0 0 0 [pc, bp + 8 * b2n isHalt]
  let size := s.traceSize p
  let addr := s.rd Reg.TR_REGION_BASE p * 2 ^ 26 + (s.rd Reg.TR_HEAD_RECORD p + size - 1) % size * 64
  { s with brk := NMap.set 0 s.brk n (if isHalt && can then addr + 1 else 0) }

/-- BREAKPOINT_HIT (R452, R453): a hit that meets a pending HALT leaves one stop and one record, marked as a hit. -/
def doBreakpointHit (n bp pc : Nat) (s : Dev) : Dev :=
  if !s.flag Reg.CC_BP_EN (win n bp) then s
  else if !s.haltOk n (s.corePart n) then s.haltRefused n
  else if s.rd Reg.CC_STATUS_STATE n = 0 then s.coreStop n bp pc false
  else if s.rd Reg.CC_STATUS_STATE n = 1 then
    let a := NMap.get 0 s.brk n
    let s := { s with brk := NMap.set 0 s.brk n 0 }
    if a = 0 then s
    else (((s.wr Reg.CC_STATUS_LAST_BP n bp).wr Reg.CC_PC_PC n pc).putLe (a - 1 + 24) 8 pc).putLe (a - 1 + 32) 8 bp
  else s

/-- CC_HALT: the pc at which the core stops is free. -/
def doCcHalt (src : Src) (n : Nat) (s : Dev) : Dev :=
  if !s.haltOk n (srcPart src) then s.haltRefused n
  else if s.rd Reg.CC_STATUS_STATE n ≠ 0 then s
  else s.fresh.coreStop n 0 (Config.nextPc n s.seed) true

/-- CC_RESUME (R452, R453): the core continues, and its tile with it. -/
def doCcResume (src : Src) (n : Nat) (s : Dev) : Dev :=
  if !s.haltOk n (srcPart src) then s.haltRefused n
  else if s.rd Reg.CC_STATUS_STATE n = 0 then s
  else (({ s with brk := NMap.set 0 s.brk n 0 }).wr Reg.CC_STATUS_STATE n 0).advance n

/-- CC_STEP: one instruction of a halted core, which stops again at a pc that is free. -/
def doCcStep (src : Src) (n : Nat) (s : Dev) : Dev :=
  if !s.haltOk n (srcPart src) then s.haltRefused n
  else if s.rd Reg.CC_STATUS_STATE n ≠ 2 then s
  else
    let s := (((s.wr Reg.CC_STATUS_STATE n 0).coreHalts n).wr Reg.CC_STATUS_STATE n 2)
    ((s.fresh.wr Reg.CC_PC_PC n (Config.nextPc n s.seed)).bump Reg.CC_BREAKS n 1).report Ev.CC_BREAK n

/-- CC_DRAIN_END (R452 step 4): no epoch, check, replay, recomputation or PATCH operation is in progress. -/
def doCcDrainEnd (n : Nat) (s : Dev) : Dev :=
  if s.rd Reg.CC_STATUS_STATE n ≠ 1 ∨ !s.handoverPoint n then s
  else ({ s with brk := NMap.set 0 s.brk n 0 }).wr Reg.CC_STATUS_STATE n 2

/-- A write to a vector engine's control register: the partition that owns the engine (R452, R354). -/
def Dev.ownVe (s : Dev) (src : Src) (e : Nat) (f : Dev → Dev) : Dev :=
  if s.engineOwner e = srcPart src then f s else s.foreign (srcPart src)

/-- VE_HALT: a running engine stops at its next instruction boundary, a waiting one once it is woken. -/
def doVeHalt (src : Src) (e : Nat) (s : Dev) : Dev := s.ownVe src e (fun s =>
  match s.rd Reg.VE_STATUS_STATE e with
  | 1 => (s.fresh.veState e 3).wr Reg.VE_PC_PC e (Config.nextPc (100 + e) s.seed)
  | 2 => s.setEng e { s.eng e with haltPending := true }
  | _ => s)

/-- VE_RESUME. -/
def doVeResume (src : Src) (e : Nat) (s : Dev) : Dev := s.ownVe src e (fun s =>
  let s := s.setEng e { s.eng e with haltPending := false }
  if s.rd Reg.VE_STATUS_STATE e = 3 then s.veState e 1 else s)

/-- TRACE_SNAPSHOT (R449): one record of four counters; which comes first is free. -/
def doTraceSnapshot (p : Nat) (s : Dev) : Dev :=
  if !s.flag Reg.TR_PCTRL_SNAP_EN p || !s.traceOn p then s
  else
    let f := Config.pick s.seed % 256
    s.fresh.trace p 8 0 0 0 0 (f :: (List.range 4).map (fun i => s.rd Reg.PF_VAL (p * 256 + (f + i) % 256)))

/-- TR_TAIL (R446, R456): partition 0 reaches the ring of any partition, another only its own. -/
def doTrTail (src : Src) (p v : Nat) (s : Dev) : Dev :=
  let p := if srcPart src = 0 then p else srcPart src
  (s.wr Reg.TR_TAIL_RECORD p v).traceShow p

/-- CC_PAIR_SPLIT (R437): the faulty core of a firmware pair is stopped, and its partner goes on. -/
def doCcPairSplit (n : Nat) (s : Dev) : Dev :=
  if n < 16 then s else (((s.coreException n).wr Reg.CC_STATUS_SPLIT n 1).wr Reg.CC_STATUS_STATE n 2).report Ev.CC_PAIR_SPLIT n

/-- CC_FW_HALT (R437): the firmware of a split pair halts. -/
def doCcFwHalt (pair : Nat) (s : Dev) : Dev :=
  let a := 16 + 2 * pair
  if !s.flag Reg.CC_STATUS_SPLIT a && !s.flag Reg.CC_STATUS_SPLIT (a + 1) || s.fwHalted.contains pair then s
  else
    let s := [a, a + 1].foldl (fun s n => ((s.coreException n).wr Reg.CC_STATUS_STATE n 2).report Ev.CC_FW_HALT n) s
    { s with fwHalted := s.fwHalted ++ [pair] }

/-- BREAKPOINT_HIT. -/
def execBreakpointHit (n bp pc : Nat) (s : State) : Host.Outcome State Fault Refusal := s.on (doBreakpointHit n bp pc)
/-- CC_HALT. -/
def execCcHalt (src : Src) (n : Nat) (s : State) : Host.Outcome State Fault Refusal := s.on (fun d => d.at src .CC (doCcHalt src n))
/-- CC_RESUME. -/
def execCcResume (src : Src) (n : Nat) (s : State) : Host.Outcome State Fault Refusal := s.on (fun d => d.at src .CC (doCcResume src n))
/-- CC_STEP. -/
def execCcStep (src : Src) (n : Nat) (s : State) : Host.Outcome State Fault Refusal := s.on (fun d => d.at src .CC (doCcStep src n))
/-- CC_DRAIN_END. -/
def execCcDrainEnd (n : Nat) (s : State) : Host.Outcome State Fault Refusal := s.on (doCcDrainEnd n)
/-- VE_HALT. -/
def execVeHalt (src : Src) (e : Nat) (s : State) : Host.Outcome State Fault Refusal := s.on (fun d => d.at src .VE (doVeHalt src e))
/-- VE_RESUME. -/
def execVeResume (src : Src) (e : Nat) (s : State) : Host.Outcome State Fault Refusal := s.on (fun d => d.at src .VE (doVeResume src e))
/-- TRACE_SNAPSHOT. -/
def execTraceSnapshot (p : Nat) (s : State) : Host.Outcome State Fault Refusal := s.on (doTraceSnapshot p)
/-- TR_TAIL. -/
def execTrTail (src : Src) (p v : Nat) (s : State) : Host.Outcome State Fault Refusal := s.on (fun d => d.at src .TR (doTrTail src p v))
/-- CC_PAIR_SPLIT. -/
def execCcPairSplit (n : Nat) (s : State) : Host.Outcome State Fault Refusal := s.on (doCcPairSplit n)
/-- CC_FW_HALT. -/
def execCcFwHalt (pair : Nat) (s : State) : Host.Outcome State Fault Refusal := s.on (doCcFwHalt pair)

end Sys2Proof.Machine
end

