-- ==== Sys2Proof/Machine/Flash.lean ====
section
/-! DEFINITION. The external flash: its engine and host requests, the settings journal and the boot header (R380 to R388, R399
to R401). -/
namespace Sys2Proof.Machine

/-! Checksums -/

/-- One bit of a CRC-16 with polynomial 0x1021, most significant bit first. -/
def crc16Bit (c : Nat) : Nat := if c.testBit 15 then (2 * c % 65536) ^^^ 0x1021 else 2 * c % 65536

/-- The CRC-16 of R385: initial value 0xFFFF. -/
def crc16 (bs : List Byte) : Nat :=
  bs.foldl (fun c b => (List.range 8).foldl (fun c _ => crc16Bit c) (c ^^^ (b.toNat * 256))) 0xFFFF

/-- One bit of the IEEE 802.3 CRC-32, least significant bit first. -/
def crc32Bit (c : Nat) : Nat := if c.testBit 0 then (c / 2) ^^^ 0xEDB88320 else c / 2

/-- The CRC-32 of R381. -/
def crc32 (bs : List Byte) : Nat :=
  (bs.foldl (fun c b => (List.range 8).foldl (fun c _ => crc32Bit c) (c ^^^ b.toNat)) 0xFFFFFFFF) ^^^ 0xFFFFFFFF

/-! Bytes of the flash -/

/-- One byte of the flash; an erased byte reads 0xFF. -/
def Dev.flByte (s : Dev) (a : Nat) : Byte := NMap.get 0xFF s.boot.flash a

/-- Some bytes of the flash. -/
def Dev.flBytes (s : Dev) (a n : Nat) : List Byte := (List.range n).map (fun i => s.flByte (a + i))

/-- A little-endian number in the flash. -/
def Dev.flLe (s : Dev) (a n : Nat) : Nat := leNat (s.flBytes a n)

/-- Program bytes. -/
def Dev.flPut (s : Dev) (a : Nat) (bs : List Byte) : Dev :=
  let m := (List.range bs.length).foldl (fun m i => NMap.set 0xFF m (a + i) (bs.getD i 0)) s.boot.flash
  { s with boot := { s.boot with flash := m } }

/-- Erase a range. -/
def Dev.flErase (s : Dev) (a n : Nat) : Dev := { s with boot := { s.boot with flash := NMap.clearRange s.boot.flash a (a + n) } }

/-- Bytes of a range become unknown: an operation was interrupted or failed. -/
def Dev.flSpoil (s : Dev) (a n : Nat) : Dev :=
  { s with seed := s.seed + 1 }.flPut a ((List.range n).map (fun i => Config.flashByte s.seed (a + i)))

/-- The first byte of a range that is not erased. -/
def Dev.notBlank (s : Dev) (a n : Nat) : Option Nat := (NMap.range s.boot.flash a (a + n)).head?.map (fun e => e.1)

/-! Regions (R381, R396, R400) -/

/-- First address of a firmware slot: kind 1 SFW, 2 PFW; slot 0 A, 1 B. -/
def slotBase (kind slot : Nat) : Nat :=
  if kind = 1 then 0x10000 + slot * 0x600000 else 0xC10000 + slot * 0x300000

/-- Bytes of a firmware slot. -/
def slotSize (kind : Nat) : Nat := if kind = 1 then 0x600000 else 0x300000

/-- The firmware slot that holds an address, as kind and slot. -/
def slotOf (a : Nat) : Option (Nat × Nat) :=
  [(1, 0), (1, 1), (2, 0), (2, 1)].find? (fun x => decide (slotBase x.1 x.2 ≤ a) && decide (a < slotBase x.1 x.2 + slotSize x.1))

/-- Whether a firmware slot is running; none is in LIMITED (R396). -/
def Dev.slotRuns (s : Dev) (k : Nat × Nat) : Bool :=
  s.bootState != 9 && (if k.1 = 1 then s.rd Reg.BT_STATUS_SFW_SLOT 0 == k.2 else s.rd Reg.BT_STATUS_PFW_SLOT 0 == k.2)

/-- Whether a host operation may touch an address (R400): 1 READ, 2 PROGRAM, 3 and 4 erases. -/
def Dev.hostMay (s : Dev) (op a : Nat) : Bool :=
  if a < 0x10000 then op == 1
  else match slotOf a with
  | some k => op == 1 || !s.slotRuns k
  | none => decide (0x2B10000 ≤ a) && op == 2 && !s.flag Reg.BT_STATUS_FACTORY_OK 0

/-- The first address of a range that a host operation may not touch. Regions change only at 64 KiB boundaries. -/
def Dev.protectedAt (s : Dev) (op a n : Nat) : Option Nat :=
  let starts := a :: ((List.range (n / 65536 + 1)).map (fun i => (a / 65536 + 1 + i) * 65536)).filter (fun x => decide (x < a + n))
  starts.find? (fun x => !s.hostMay op x)

/-! Host requests (R382, R383, R399, R400) -/

/-- A host request is refused: RESULT and FAIL_ADDR show why. -/
def Dev.flRefuse (s : Dev) (e : Event) (result a : Nat) : Dev :=
  (((s.report e 0).wr Reg.FL_STATUS_RESULT 0 result).wr Reg.FL_STATUS_FAIL_ADDR 0 a).bump Reg.FL_REFUSALS 0 1

/-- A write of FL_CMD with operation `op`. -/
def Dev.flRequest (s : Dev) (op : Nat) : Dev :=
  if s.flag Reg.FL_STATUS_BUSY 0 then s.bump Reg.FL_REFUSALS 0 1
  else
    let a := s.rd Reg.FL_ADDR_ADDR 0
    let n := if op = 3 then 4096 else if op = 4 then 65536 else s.rd Reg.FL_LEN_LEN_M1 0 + 1
    if 3 ≤ op ∧ a % n ≠ 0 then s.flRefuse Ev.FL_ALIGN 3 a
    else if 0x4000000 < a + n then s.flRefuse Ev.FL_ALIGN 3 (max a 0x4000000)
    else match s.protectedAt op a n with
    | some x => s.flRefuse Ev.FL_PROTECTED 2 x
    | none =>
      match (if op = 2 then s.notBlank a n else none) with
      | some x => s.flRefuse Ev.FL_NOT_BLANK 1 x
      | none =>
        let d := if op = 2 then (List.range n).map (fun i => NMap.get 0 s.boot.flData i) else []
        { s with boot := { s.boot with op := some ⟨op, a, n, d⟩ } }.wr Reg.FL_STATUS_BUSY 0 1

/-- The host operation ends with a result. -/
def Dev.flDone (s : Dev) (result a : Nat) : Dev :=
  let s : Dev := { s with boot := { s.boot with op := none } }
  (((s.wr Reg.FL_STATUS_BUSY 0 0).wr Reg.FL_STATUS_RESULT 0 result).wr Reg.FL_STATUS_FAIL_ADDR 0 a)

/-- FLASH_OPERATION_COMPLETE (R382): the operation takes effect and a program is read back. -/
def doFlashOperationComplete (readback : Bool) (s : Dev) : Dev :=
  match s.boot.op with
  | none => s
  | some o =>
    if o.op = 1 then
      let d := (List.range o.len).foldl (fun m i => NMap.set 0 m i (s.flByte (o.addr + i))) s.boot.flData
      ({ s with boot := { s.boot with flData := d } }.flDone 0 0).bump Reg.FL_HOST_OPS 0 1
    else if o.op = 2 then
      if readback then ((s.flPut o.addr o.data).flDone 0 0).bump Reg.FL_HOST_OPS 0 1
      else (((s.flSpoil o.addr o.len).flDone 5 o.addr).report Ev.FL_VERIFY 0).bump Reg.FL_HOST_OPS 0 1
    else ((s.flErase o.addr o.len).flDone 0 0).bump Reg.FL_HOST_OPS 0 1

/-- FL_TIMEOUT (R382): nothing further is issued; what the device made of a program or an erase is unknown. -/
def doFlTimeout (s : Dev) : Dev :=
  match s.boot.op with
  | none => s
  | some o =>
    let s := if o.op = 1 then s else s.flSpoil o.addr o.len
    (s.flDone 4 o.addr).report Ev.FL_TIMEOUT 0

/-- FL_READ. -/
def doFlRead (src : Src) (s : Dev) : Dev := s.at src .FL (fun s => s.own0 src (fun s => s.flRequest 1))
/-- FL_PROGRAM. -/
def doFlProgram (src : Src) (s : Dev) : Dev := s.at src .FL (fun s => s.own0 src (fun s => s.flRequest 2))
/-- FL_ERASE_4K. -/
def doFlErase4k (src : Src) (s : Dev) : Dev := s.at src .FL (fun s => s.own0 src (fun s => s.flRequest 3))
/-- FL_ERASE_64K. -/
def doFlErase64k (src : Src) (s : Dev) : Dev := s.at src .FL (fun s => s.own0 src (fun s => s.flRequest 4))

/-! The settings journal (R384 to R387) -/

/-- First address of journal copy 0 A or 1 B. -/
def journalBase (c : Nat) : Nat := 0x1210000 + c * 0x80000
/-- Slots of a journal copy. -/
def journalSlots : Nat := 16384

/-- A record's bytes with its CRC (R385): the CRC is taken with its own field zero. -/
def withCrc (bs : List Byte) : List Byte := bs.take 6 ++ leBytes 2 (crc16 bs) ++ bs.drop 8

/-- A one-slot record of type `t`. -/
def record (t reg idx value mask : Nat) : List Byte :=
  withCrc (leBytes 8 t ++ leBytes 4 reg ++ leBytes 4 idx ++ leBytes 8 value ++ leBytes 8 mask)

/-- An FKEY record: two slots. -/
def keyRecord (keyId wrapped : Nat) : List Byte :=
  withCrc (leBytes 8 (4 + 256) ++ leBytes 8 keyId ++ leBytes 40 wrapped ++ leBytes 8 0)

/-- A record read from slot `n` of copy `c`. -/
def Dev.slotBytes (s : Dev) (c n len : Nat) : List Byte := s.flBytes (journalBase c + 32 * n) (32 * len)

/-- Whether a record's CRC agrees. -/
def crcOk (bs : List Byte) : Bool := leNat ((bs.drop 6).take 2) == crc16 (bs.take 6 ++ [0, 0] ++ bs.drop 8)

/-- Whether copy `c` has a valid HEADER, and its GEN. -/
def Dev.headerGen (s : Dev) (c : Nat) : Option Nat :=
  let b := s.slotBytes c 0 1
  if leNat (b.take 1) = 0 ∧ crcOk b then some (leNat ((b.drop 16).take 8)) else none

/-- An internal operation is refused over a byte not erased (R383). -/
def Dev.flInternal (s : Dev) (result a : Nat) : Dev :=
  (((s.report Ev.FL_INTERNAL 0).wr Reg.FL_INT_LAST_RESULT 0 result).wr Reg.FL_INT_LAST_ADDR 0 a).bump Reg.FL_REFUSALS 0 1

/-- Write a record at slot `n` of copy `c`. -/
def Dev.putRecord (s : Dev) (c n : Nat) (bs : List Byte) : Dev :=
  ((s.flPut (journalBase c + 32 * n) bs).bump Reg.FL_INT_OPS 0 1).bump Reg.BT_JOURNAL_WRITES 0 1

/-- The settings of register number `n` (a field number over 64). -/
def settingFields (n : Nat) : List Field := Reg.table.filter (fun f => f.isSetting && f.id / 64 == n)

/-- The journal record of one register: the values of its settings under one window index, and their bits. -/
def Dev.settingRecord (s : Dev) (n key : Nat) : List Byte :=
  let fs := settingFields n
  let (reg, idx) := match fs with
    | f :: _ => settingAt f key
    | [] => (0, 0)
  record 1 reg idx ((fs.map (fun f => s.rd f key * 2 ^ f.lo)).sum) ((fs.map (fun f => (2 ^ f.width - 1) * 2 ^ f.lo)).sum)

/-- The registers and keys under which a setting differs from its factory value. -/
def Dev.changedSettings (s : Dev) : List (Nat × Nat) :=
  ((Reg.table.filter (fun f => f.isSetting)).map (fun f =>
    ((NMap.get [] s.regs f.id).filter (fun e => e.2 != f.rst)).map (fun e => (f.id / 64, e.1)))).flatten.eraseDups

/-- Compaction (R386): the other copy is erased and written whole, its HEADER last. -/
def Dev.compact (s : Dev) : Dev :=
  let c := 1 - s.rd Reg.BT_JOURNAL_COPY 0
  let g := s.rd Reg.BT_JOURNAL_GEN 0 + 1
  let s := s.flErase (journalBase c) 0x80000
  let recs := (s.changedSettings.map (fun x => s.settingRecord x.1 x.2)) ++
    [record 2 0 0 (s.rd Reg.BT_BOOT_COUNT_COUNT 0) 0] ++
    (match s.boot.wrapped with | some (k, w) => [keyRecord k w] | none => [])
  let (s, n) := recs.foldl (fun (x : Dev × Nat) r => (x.1.putRecord c x.2 r, x.2 + r.length / 32)) (s, 1)
  let s := s.putRecord c 0 (record 0 0 0 g 0)
  let s := ((s.wr Reg.BT_JOURNAL_GEN 0 g).wr Reg.BT_JOURNAL_COPY 0 c).wr Reg.BT_JOURNAL_USED 0 n
  { s with boot := { s.boot with skips := 0, pending := [] } }

/-- Append a record at the first blank slot, past slots that are refused; after 16 refusals in one copy it is compacted. -/
def Dev.appendN : Nat → Dev → List Byte → Dev
  | 0, s, _ => s
  | k + 1, s, r =>
    let n := s.rd Reg.BT_JOURNAL_USED 0
    let c := s.rd Reg.BT_JOURNAL_COPY 0
    if journalSlots < n + r.length / 32 then s
    else match s.notBlank (journalBase c + 32 * n) r.length with
    | none => (s.putRecord c n r).wr Reg.BT_JOURNAL_USED 0 (n + r.length / 32)
    | some a =>
      let s := (s.flInternal 1 a).wr Reg.BT_JOURNAL_USED 0 (n + 1)
      let s : Dev := { s with boot := { s.boot with skips := s.boot.skips + 1 } }
      Dev.appendN k (if s.boot.skips < 16 then s else s.compact) r

/-- Append a record, and compact where fewer than 512 blank slots remain (R386). -/
def Dev.append (s : Dev) (r : List Byte) : Dev :=
  let s := Dev.appendN 20 s r
  if journalSlots - s.rd Reg.BT_JOURNAL_USED 0 < 512 then s.compact else s

/-- Program the record of one pending register. -/
def Dev.programSetting (s : Dev) (x : Nat × Nat) : Dev :=
  let s : Dev := { s with boot := { s.boot with pending := s.boot.pending.erase x } }
  if (settingFields x.1).isEmpty then s else s.append (s.settingRecord x.1 x.2)

/-- Program the wrapped form of partition 0's newest key (R384). -/
def Dev.programKey (s : Dev) : Dev :=
  let s : Dev := { s with boot := { s.boot with pendingKey := false } }
  match (s.part 0).newest.orElse (fun _ => (s.part 0).cur) with
  | some k =>
    let w := Config.keyWrap k.words
    { s with boot := { s.boot with wrapped := some (k.keyId, w) } }.append (keyRecord k.keyId w)
  | none => s

/-- JOURNAL_PROGRAM (R384): one pending record. -/
def doJournalProgram (s : Dev) : Dev :=
  match s.boot.pending with
  | x :: _ => s.programSetting x
  | [] => if s.boot.pendingKey then s.programKey else s

/-- Program every pending record at once. -/
def Dev.saveAll (s : Dev) : Dev :=
  let s := s.boot.pending.foldl (fun s x => if s.boot.pending.contains x then s.programSetting x else s) s
  if s.boot.pendingKey then s.programKey else s

/-- SAVE (R384, R397): accepted in READY, DEGRADED and LIMITED. -/
def doSave (src : Src) (s : Dev) : Dev :=
  s.at src .BT (fun s => s.own0 src (fun s => if 7 ≤ s.bootState then s.saveAll else s))

/-! The boot header (R381) -/

/-- A boot header copy's SEQ and preferences, where it is valid. -/
def Dev.headerAt (s : Dev) (c : Nat) : Option (Nat × Nat × Nat) :=
  let a := c * 0x1000
  if s.flLe a 4 = 0x48424448 ∧ s.flLe (a + 12) 4 = crc32 (s.flBytes a 12) then
    some (s.flLe (a + 4) 4, s.flLe (a + 8) 1 % 2, s.flLe (a + 9) 1 % 2)
  else none

/-- The copy in force: its number, SEQ and preferences. -/
def Dev.header (s : Dev) : Option (Nat × Nat × Nat × Nat) :=
  match s.headerAt 0, s.headerAt 1 with
  | some a, some b => if a.1 < b.1 then some (1, b) else some (0, a)
  | some a, none => some (0, a)
  | none, some b => some (1, b)
  | none, none => none

/-- Write a boot header copy. -/
def Dev.writeHeader (s : Dev) (sfw pfw : Nat) : Dev :=
  let (c, seq) := match s.header with
    | some (c, q, _) => (1 - c, q + 1)
    | none => (0, 1)
  let b := leBytes 4 0x48424448 ++ leBytes 4 seq ++ leBytes 1 sfw ++ leBytes 1 pfw ++ leBytes 2 0
  ((s.flErase (c * 0x1000) 0x1000).flPut (c * 0x1000) (b ++ leBytes 4 (crc32 b))).bump Reg.FL_INT_OPS 0 2

/-- BOOT_HEADER_WRITE (R381, R397): a write of BT_FW_SEL that changes the preferences. -/
def doBootHeaderWrite (src : Src) (sfw pfw : Nat) (s : Dev) : Dev :=
  s.at src .BT (fun s => s.own0 src (fun s =>
    if s.rd Reg.BT_FW_SEL_SFW_PREF 0 = sfw % 2 ∧ s.rd Reg.BT_FW_SEL_PFW_PREF 0 = pfw % 2 then s
    else ((s.wr Reg.BT_FW_SEL_SFW_PREF 0 sfw).wr Reg.BT_FW_SEL_PFW_PREF 0 pfw).writeHeader (sfw % 2) (pfw % 2)))

/-- FACTORY_TABLE_COPY (R391): after READY on a factory start. -/
def doFactoryTableCopy (s : Dev) : Dev :=
  if (s.bootState = 7 ∨ s.bootState = 8) ∧ s.flag Reg.BT_STATUS_FACTORY_START 0 then
    { s with boot := { s.boot with cal := { s.boot.cal with tables := true } } }
  else s

/-- FL_READ. -/
def execFlRead (src : Src) (s : State) : Host.Outcome State Fault Refusal := s.on (doFlRead src)
/-- FL_PROGRAM. -/
def execFlProgram (src : Src) (s : State) : Host.Outcome State Fault Refusal := s.on (doFlProgram src)
/-- FL_ERASE_4K. -/
def execFlErase4k (src : Src) (s : State) : Host.Outcome State Fault Refusal := s.on (doFlErase4k src)
/-- FL_ERASE_64K. -/
def execFlErase64k (src : Src) (s : State) : Host.Outcome State Fault Refusal := s.on (doFlErase64k src)
/-- FLASH_OPERATION_COMPLETE. -/
def execFlashOperationComplete (readback : Bool) (s : State) : Host.Outcome State Fault Refusal := s.on (doFlashOperationComplete readback)
/-- FL_TIMEOUT. -/
def execFlTimeout (s : State) : Host.Outcome State Fault Refusal := s.on doFlTimeout
/-- JOURNAL_PROGRAM. -/
def execJournalProgram (s : State) : Host.Outcome State Fault Refusal := s.on doJournalProgram
/-- SAVE. -/
def execSave (src : Src) (s : State) : Host.Outcome State Fault Refusal := s.on (doSave src)
/-- BOOT_HEADER_WRITE. -/
def execBootHeaderWrite (src : Src) (sfw pfw : Nat) (s : State) : Host.Outcome State Fault Refusal := s.on (doBootHeaderWrite src sfw pfw)
/-- FACTORY_TABLE_COPY. -/
def execFactoryTableCopy (s : State) : Host.Outcome State Fault Refusal := s.on doFactoryTableCopy

end Sys2Proof.Machine
end

