-- ==== Sys2Proof/Machine/Transport.lean ====
section
/-! DEFINITION. The transport's receiving side: authentication, windows, commits and answers (R318, R322, R325 to R337), and what
becomes of a peer that fails or restarts. -/
namespace Sys2Proof.Machine

/-! Peers that fail or restart (R322, R336) -/

/-- Every message to peer `n` ends with a status, and no more comes of those it was sending. -/
def Dev.endAll (s : Dev) (n st : Nat) : Dev :=
  let s := s.fab (fun f => { f with inbound := f.inbound.filter (fun x => x.peer ≠ n) })
  (s.fabric.msgs.filter (fun m => m.peer = n)).foldl (fun s m => s.endMsg m st) s

/-- A splice being received is given up: its patch lacks addends (R129, R322). -/
def Dev.dropSplice (s : Dev) (x : SpliceRx) : Dev :=
  let s := s.fab (fun f => { f with splices := f.splices.filter (fun y => y ≠ x) })
  match s.siteOf x.tile x.part with
  | .live t =>
    let s := s.markIncomplete t x.desc x.part none
    if x.live then s.endAdd t x.desc else s
  | .saved t p => s.setSiteDesc (.saved t p) x.desc (dSetBit (s.siteDesc (.saved t p) x.desc) 13)

/-- A peer's incarnation has changed (R322). -/
def Dev.peerReset (s : Dev) (n inc : Nat) : Dev :=
  let s := s.endAll n Ev.GT_PEER_RESET.status
  let s := (s.fabric.splices.filter (fun x => x.peer = n)).foldl (fun s x => s.dropSplice x) s
  let s := s.modPeer n (fun x => { x with former := x.former ++ [s.rd Reg.GT_PEER_INCARNATION n], conns := [], wins := [] })
  ((s.endLoans n).wr Reg.GT_PEER_INCARNATION n inc).report Ev.GT_PEER_RESET 0

/-- A packet or a table names a peer's incarnation. -/
def Dev.notePeer (s : Dev) (n inc : Nat) : Dev :=
  if s.rd Reg.GT_PEER_STATE n = 0 then (s.wr Reg.GT_PEER_STATE n 1).wr Reg.GT_PEER_INCARNATION n inc
  else if s.rd Reg.GT_PEER_INCARNATION n ≠ inc then s.peerReset n inc
  else s

/-- The coordinator, if one is in force. -/
def Dev.coordinator (s : Dev) : Option Nat := if s.flag Reg.GT_COORD_COORD_VALID 0 then some (s.rd Reg.GT_COORD_COORD 0) else none

/-- This module is the coordinator. -/
def Dev.isCoord (s : Dev) : Bool := s.flag Reg.GT_COORD_IS_COORD 0

/-- The coordinator learns that a peer was declared failed, and by whom. -/
def Dev.noteDown (s : Dev) (n by' : Nat) : Dev :=
  s.fab (fun x => { x with coord := { x.coord with down := x.coord.down.filter (fun e => e ≠ (n, by')) ++ [(n, by')] } })

/-- The time parent cannot be reached any more (R341): the rate is held. -/
def Dev.parentLost (s : Dev) : Dev := (s.fab (fun x => { x with time := { x.time with slew := 0, t1 := none } })).report Ev.TM_PARENT_LOST 0

/-- Peer `n` is declared failed (R336). -/
def Dev.peerFail (s : Dev) (n : Nat) : Dev :=
  let s := (s.wr Reg.GT_PEER_STATE n 2).report Ev.GT_PEER_FAILED 0
  let s := (s.endAll n Ev.GT_PEER_FAILED.status).coilPeerFailed n
  let s := if !s.flag Reg.TM_CTRL_MASTER 0 ∧ s.rd Reg.TM_PARENT_DEPTH 0 ≠ 0 ∧ s.rd Reg.TM_PARENT_FNID 0 = n then s.parentLost else s
  if s.isCoord then s.noteDown n s.fnid
  else match s.coordinator with
    | some c => s.control c 6 0 (leBytes 2 n)
    | none => s

/-! Answers (R326, R333) -/

/-- Answer a packet on the link it came on. Flags: 1 DUP, 2 ECE, 4 BUSY, 8 NAK. The ACK names its packet's index and queue. -/
def Dev.ackTo (s : Dev) (p : Packet) (flags status : Nat) : Dev :=
  match s.sendKey 0 with
  | none => s
  | some k =>
    let n := (s.peer p.src).ackSeq
    let a : Packet := { typ := 0, last := true, ordered := false, hops := 0, src := s.fnid, dst := p.src, part := 0, psn := 2 ^ 47 + n
                        idx := p.idx, queue := p.queue, inc := s.incarnation, keyId := 0, time := 0
                        ext := [BitVec.ofNat 64 (p.psn + flags * 2 ^ 48), BitVec.ofNat 64 status], data := [], tag := 0, ce := false
                        port := p.port, lane := p.lane }
    let s := s.modPeer p.src (fun x => { x with ackSeq := n + 1 })
    let l := s.linkOf p.port p.lane
    if !(s.link l).up ∨ 2 ^ 47 ≤ n then s
    else if s.directPort p.port then s.linkControl l (.packet (s.seal k a))
    else if ((NMap.get ({} : Gateway) s.fabric.gateways p.port).mac).isSome then s.emit l 0 (.packet (s.seal k a)) else s

/-- A packet received with CE set in switched mode (R318). -/
def Dev.marked (s : Dev) (p : Packet) : Bool := p.ce && !s.directPort p.port && p.sumOk

/-- What every packet for this module meets first (R317, R318, R322, R327): in switched mode its UDP checksum is checked and a CE
mark counted; it is authenticated, and its incarnation noted. A module
without an FNID takes the coordinator's messages by the FNID they give it. -/
def Dev.heardFrom (s : Dev) (p : Packet) (f : Dev → Dev) : Dev :=
  if !s.flag Reg.GT_CTRL_EN 0 then s
  else
    let s := if s.marked p then s.bump Reg.FX_CE_MARKED p.port 1 else s
    if !s.directPort p.port ∧ !p.sumOk then s
    else if p.dst ≠ s.fnid ∧ p.typ ≠ 9 ∧ ¬(p.typ = 10 ∧ !s.flag Reg.GT_NODE_VALID 0) then s
    else if !s.authentic p then (s.bump Reg.GT_AUTH_FAILS 0 1).report Ev.GT_AUTH_FAIL 0
    else if (s.peer p.src).former.contains p.inc then s
    else f (s.notePeer p.src p.inc)

/-- Raise the lowest PSN of a window past those committed or refused (R330). -/
def RxWin.raise : Nat → RxWin → RxWin
  | 0, w => w
  | n + 1, w =>
    if w.seen.contains w.low ∨ w.refused.contains w.low then RxWin.raise n { w with low := w.low + 1, seen := w.seen.filter (fun x => x ≠ w.low) }
    else w

/-- A PSN is committed, or refused: refused ones stay known while a copy may come. -/
def RxWin.put (w : RxWin) (psn : Nat) (ok : Bool) : RxWin :=
  let w := if ok then { w with seen := if psn < w.low then w.seen else w.seen ++ [psn], refused := w.refused.filter (fun x => x ≠ psn) }
    else if w.refused.contains psn then w else { w with refused := w.refused ++ [psn] }
  let w := RxWin.raise (w.seen.length + w.refused.length) w
  { w with refused := w.refused.filter (fun x => decide (w.low ≤ x + 1024)) }

/-- Key of a connection's window: partition and KEY_ID. -/
def winKey (p : Packet) : Nat := p.part * 256 + p.keyId

/-- Record a PSN in its window. -/
def Dev.putPsn (s : Dev) (p : Packet) (ok : Bool) : Dev :=
  s.modPeer p.src (fun x => { x with wins := NMap.set {} x.wins (winKey p) ((NMap.get ({} : RxWin) x.wins (winKey p)).put p.psn ok) })

/-- A packet of a message is committed, or refused, which ends the message (R298, R328). -/
def Dev.noteInbound (s : Dev) (p : Packet) (ok : Bool) : Dev :=
  let mine := fun (x : Inbound) => x.peer == p.src && x.part == p.part && x.keyId == p.keyId && x.base + p.idx == p.psn
  let x := (s.fabric.inbound.find? mine).getD { peer := p.src, part := p.part, keyId := p.keyId, base := p.psn - p.idx, got := 0, total := none }
  let x := { x with got := x.got + 1, total := if p.last then some (p.idx + 1) else x.total }
  let rest := s.fabric.inbound.filter (fun y => !mine y)
  s.fab (fun f => { f with inbound := if ok && x.total != some x.got then rest ++ [x] else rest })

/-- Receive buffer of one fabric engine (R331). -/
def rxBuffer : Nat := 2 ^ 23

/-- Commit a packet (R330 to R334): a duplicate, a packet beyond the window, BUSY, a refusal with the status that `f` answers, or
done. An ordered packet is applied at once, any other waits for PACKET_APPLY in its engine's buffer. -/
def Dev.commit (s : Dev) (p : Packet) (f : Dev → Dev × Nat) : Dev :=
  let ordered := p.ordered || p.typ == 4
  let w := NMap.get ({} : RxWin) (s.peer p.src).wins (winKey p)
  let e := if s.marked p then 2 else 0
  if 2 ^ 47 ≤ p.psn then s
  else if !w.refused.contains p.psn && (decide (p.psn < w.low) || w.seen.contains p.psn) then (s.bump Reg.GT_DUPS 0 1).ackTo p (1 + e) 0
  else if w.low + 1024 ≤ p.psn then s
  else if (ordered && s.fabric.rxq.any (fun x => !x.2.isEmpty)) ||
      decide (rxBuffer < ((NMap.get [] s.fabric.rxq (p.port / 8)).map (fun x => x.1)).sum + p.size) then
    (s.bump Reg.GT_BUSY_SENT 0 1).ackTo p (4 + e) 0
  else
    let (t, st) := f s
    if st ≠ 0 then ((t.putPsn p false).noteInbound p false).ackTo p (8 + e) st
    else
      let s := (((t.putPsn p true).noteInbound p true).bump Reg.GT_PKTS_RX 0 1).pf p.part 0x40 p.data.length
      let s := if ordered then s else
        s.fab (fun x => { x with rxq := NMap.set [] x.rxq (p.port / 8) (NMap.get [] x.rxq (p.port / 8) ++ [(p.size, p.part)]) })
      s.showRx.ackTo p e 0

/-- Receive a packet whose effect is `f`. -/
def Dev.receive (s : Dev) (p : Packet) (f : Dev → Dev × Nat) : Dev := (s.heardFrom p (fun s => s.commit p f)).settleFabric

/-- PACKET_APPLY (R331): the oldest committed packet of an engine leaves its buffer; its data was observed from its commit. -/
def doPacketApply (e : Nat) (s : Dev) : Dev :=
  (s.fab (fun x => { x with rxq := NMap.set [] x.rxq e ((NMap.get [] x.rxq e).drop 1) })).showRx

/-! What the packets do (R326, R329, R331) -/

/-- READ_REQ: the bytes go back as READ_RESP. -/
def Dev.rxRead (p : Packet) (s : Dev) : Dev × Nat :=
  let a := bits (p.word 0) 47 0
  let n := bits (p.word 1) 31 0
  let (bs, r) := s.loadFor p.part a n
  let s := s.noteRefused p.part r
  if refuseStatus r ≠ 0 then (s, refuseStatus r)
  else if s.peerRefused p.part p.src ≠ 0 then (s, 0)
  else (s.post { id := 0, peer := p.src, part := p.part, queue := p.queue, typ := 2, ordered := false, reply := true, fin := .none
                 ext := [p.psn, 0], data := bs, total := 1, incAt := 1 }, 0)

/-- The request of this module that an answer names. -/
def Dev.asked (s : Dev) (p : Packet) (typ : Nat) : Option Msg :=
  s.fabric.msgs.find? (fun m => m.typ == typ && m.peer == p.src && m.part == p.part && m.key.isSome && m.base == bits (p.word 0) 47 0)

/-- READ_RESP: its data lands at the requester's destination; a refusal there ends the read. -/
def Dev.rxReadResp (p : Packet) (s : Dev) : Dev × Nat :=
  match s.asked p 1 with
  | none => (s, 0)
  | some m => match m.fin with
    | .read c dst _ =>
      let (s, r) := s.storeFor p.part (dst + bits (p.word 1) 31 0) p.data (some c)
      if refuseStatus r ≠ 0 then (s.endMsg m (refuseStatus r), refuseStatus r)
      else ((s.modMsg m.id (fun x => { x with got := x.got + p.data.length })).msgDone m.id, 0)
    | _ => (s, 0)

/-- WRITE: bytes of memory, or an ordered 8-byte write that rings a doorbell (R258). -/
def Dev.rxWrite (p : Packet) (s : Dev) : Dev × Nat :=
  let a := bits (p.word 0) 47 0
  if regionOf a = .reg then
    let o := a - regBase
    if !p.ordered ∨ p.data.length ≠ 8 ∨ o % 8 ≠ 0 ∨ o < 0x01000000 ∨ 0x01080000 ≤ o then (s, Ev.DM_ADDR_FAULT.status)
    else (doDoorbellWrite (.fabric p.part) ((o - 0x01000000) / 0x8000 * 4096 + (o - 0x01000000) % 0x8000 / 8)
            (BitVec.ofNat 64 (leNat p.data)) s, 0)
  else
    let (s, r) := s.storeFor p.part a p.data
    (s, refuseStatus r)

/-- SIGNAL: the knot's operation (R287, R294). -/
def Dev.rxSignal (p : Packet) (s : Dev) : Dev × Nat :=
  let op := bits (p.word 0) 15 13
  if 4 ≤ op then (s, Ev.QM_BAD_FORMAT.status)
  else s.knotOp op (bits (p.word 0) 12 0) (bits (p.word 1) 31 0) p.part (.peer p.src) none

/-- The new word of an atomic: ADD, SWAP, CAS, AND, OR, MAX and MIN unsigned. -/
def atomicWord (op old x cmp : Nat) : Nat :=
  match op with
  | 0 => (old + x) % 2 ^ 64
  | 1 => x
  | 2 => if old = cmp then x else old
  | 3 => old &&& x
  | 4 => old ||| x
  | 5 => max old x
  | _ => min old x

/-- ATOMIC: one 64-bit word of module memory or on-die SRAM. -/
def Dev.rxAtomic (p : Packet) (s : Dev) : Dev × Nat :=
  let a := bits (p.word 0) 47 0
  let op := bits (p.word 0) 51 48
  if a % 8 ≠ 0 ∨ regionOf a = .host then (s, Ev.DM_ADDR_FAULT.status)
  else if 7 ≤ op then (s, Ev.QM_BAD_FORMAT.status)
  else
    let (bs, r) := s.loadFor p.part a 8
    if refuseStatus r ≠ 0 then (s.noteRefused p.part r, refuseStatus r)
    else
      let old := leNat bs
      let (s, w) := s.storeFor p.part a (leBytes 8 (atomicWord op old (p.word 1).toNat (p.word 2).toNat))
      if refuseStatus w ≠ 0 then (s, refuseStatus w)
      else if s.peerRefused p.part p.src ≠ 0 then (s, 0)
      else (s.post { id := 0, peer := p.src, part := p.part, queue := p.queue, typ := 6, ordered := false, reply := true, fin := .none
                     ext := [p.psn, old], data := [], total := 1, incAt := 2 }, 0)

/-- ATOMIC_RESP: the original value completes the command. -/
def Dev.rxAtomicResp (p : Packet) (s : Dev) : Dev × Nat :=
  match s.asked p 5 with
  | none => (s, 0)
  | some m => ((s.modMsg m.id (fun x => { x with answer := some (p.word 1).toNat })).msgDone m.id, 0)

/-- The lanes of a SPLICE payload: 12 bytes each, or FP32 (R133, R135). -/
def laneList (narrow : Bool) (bs : List Byte) : List Int :=
  if narrow then (List.range (bs.length / 4)).map (fun i => fromFp32 (leNat ((bs.drop (4 * i)).take 4)))
  else (List.range (bs.length / 12)).map (fun i => toSigned 96 (leNat ((bs.drop (12 * i)).take 12)))

/-- SPLICE (R133 to R135, R326, R363): the first packet to come of a splice is checked against its patch; from then on its
lanes are added as they come, and with the last of them SPLICES counts it. -/
def Dev.rxSplice (p : Packet) (s : Dev) : Dev × Nat :=
  let w := (p.word 0).toNat
  let t := nbits w 3 0
  let i := nbits w 10 4
  let g := regionField w
  let narrow := w.testBit 37
  let base := p.psn - p.idx
  let x := s.siteOf t p.part
  let mine := fun (y : SpliceRx) => y.peer == p.src && y.part == p.part && y.keyId == p.keyId && y.base == base
  let go := fun (s : Dev) (r : SpliceRx) =>
    let (s, r) := match x, r.live with
      | .live t, false => (s.beginAdd t i, { r with live := true })
      | _, _ => (s, r)
    let flags := (if w.testBit 38 then [11] else []) ++ (if w.testBit 39 then [13] else []) ++ (if w.testBit 40 then [14] else [])
    let s := s.addLanes none x i g (bits (p.word 1) 31 0) (laneList narrow p.data) narrow flags
    let r : SpliceRx := { r with got := r.got + 1, total := if p.last then some (p.idx + 1) else r.total }
    let rest := s.fabric.splices.filter (fun y => !mine y)
    if r.total = some r.got then
      let s := (s.fab (fun f => { f with splices := rest })).countSplice x i
      match x, r.live with
      | .live t, true => s.endAdd t i
      | _, _ => s
    else s.fab (fun f => { f with splices := rest ++ [r] })
  match s.fabric.splices.find? mine with
  | some r => (go s r, 0)
  | none => match s.spliceDst x i p.part g narrow with
    | some e => (match x with | .live t => s.reportP e t p.part i 0 | .saved _ _ => s, e.status)
    | none =>
      let r : SpliceRx := { peer := p.src, part := p.part, keyId := p.keyId, base := base, tile := t, desc := i, got := 0, total := none, live := false }
      (go s r, 0)

/-- Bytes of a peer's coil for a loan of this module (R242, R245, R246). -/
def Dev.rxLend (p : Packet) (off : Nat) (new : Bool) (s : Dev) : Dev × Nat :=
  let h := (p.word 0).toNat
  if hPart h ≠ p.part then (s, Ev.CS_NOT_OWNER.status) else s.lend p.src h off p.data new

/-- COIL APPEND: records from the first on, round the ring of the replica (R246). -/
def Dev.rxAppend (p : Packet) (s : Dev) : Dev × Nat :=
  let h := (p.word 0).toNat
  match s.loanOf p.src h with
  | none => (s, stNoPeer)
  | some l =>
    let n := l.size
    let off := if n = 0 then 0 else ((p.word 2).toNat * (8 * 2 ^ Config.replicaRecord h)) % n
    if n < off + p.data.length then
      let a := n - off
      match Dev.rxLend { p with data := p.data.take a } off false s with
      | (s, 0) => Dev.rxLend { p with data := p.data.drop a } 0 false s
      | r => r
    else s.rxLend p off false

/-- COIL RELEASE. -/
def Dev.rxRelease (p : Packet) (s : Dev) : Dev × Nat :=
  match s.loanOf p.src (p.word 0).toNat with
  | none => (s, 0)
  | some l => (s.endLoan l, 0)

/-- COIL FETCH: the bytes held go back as DATA (R243). -/
def Dev.rxFetch (p : Packet) (s : Dev) : Dev × Nat :=
  match s.loanOf p.src (p.word 0).toNat with
  | none => (s, stNoPeer)
  | some l =>
    let off := (p.word 2).toNat
    if s.peerRefused p.part p.src ≠ 0 then (s, 0)
    else (s.post { id := 0, peer := p.src, part := p.part, queue := 0, typ := 8, ordered := false, reply := true, fin := .none
                   ext := [(p.word 0).toNat, 5, off], data := s.loanBytes l off, total := 1, incAt := 2 }, 0)

/-- COIL DATA: bytes of a coil that comes back, for the migration that asked (R243). -/
def Dev.rxData (p : Packet) (s : Dev) : Dev × Nat :=
  let h := (p.word 0).toNat
  match s.moveOf (hSlot h) with
  | none => (s, 0)
  | some m =>
    if m.gen ≠ hGen h ∨ (s.coilAt m.slot).peer ≠ p.src then (s, 0)
    else (s.setMove { m with buf := m.buf ++ [((p.word 2).toNat, p.data)] }, 0)

/-! ACKs (R318, R326, R334, R337) -/

/-- The window of a path after an ACK (R318). -/
def Path.acked (x : Path) (ece : Bool) (now : Nat) : Path :=
  let x := { x with expiries := 0 }
  if ece then
    if x.cutAt = 0 ∨ x.cutAt + 160000 ≤ now then { x with window := max (est x.window 2).toNat 8192, cutAt := now } else x
  else { x with window := min (x.window + (est (2 ^ 24) x.window).toNat) 1048576 }

/-- The packet in flight that an ACK names: of the queue it echoes if there is one. -/
def Dev.ackedOut (s : Dev) (p : Packet) : Option Out :=
  let psn := bits (p.word 0) 47 0
  let os := s.fabric.out.filter (fun o => decide (o.peer = p.src) && decide (o.psn = psn))
  match os.find? (fun o => (s.fabric.msgs.find? (fun m => m.id = o.msg)).any (fun m => m.queue == p.queue && o.idx == p.idx)) with
  | some o => some o
  | none => os.head?

/-- What an ACK does to its packet. -/
def Dev.acked (s : Dev) (p : Packet) (o : Out) : Dev :=
  let w := p.word 0
  let s := if s.switched then
      s.modPeer o.peer (fun x => { x with paths := NMap.set {} x.paths o.path ((NMap.get ({} : Path) x.paths o.path).acked (bit w 49) s.mono) })
    else s
  match s.fabric.msgs.find? (fun m => m.id = o.msg) with
  | none => s
  | some m =>
    if bit w 50 then
      let s := s.bump Reg.GT_BUSY_RCVD 0 1
      if 256 ≤ o.busy + 1 then (s.report Ev.GT_PEER_BUSY 0).endMsg m Ev.GT_PEER_BUSY.status
      else s.setOut { o with busy := o.busy + 1, busyAt := some s.mono, waiting := false }
    else if bit w 51 then s.endMsg m (bits (p.word 1) 15 0)
    else
      let s := s.fab (fun x => { x with out := x.out.filter (fun y => !(y.msg == o.msg && y.idx == o.idx)) })
      (s.modMsg m.id (fun x => { x with acked := x.acked + 1 })).msgDone m.id

/-- ACK (R326): answers no packet in flight once that one is complete (R337). -/
def doAck (p : Packet) (s : Dev) : Dev :=
  (s.heardFrom p (fun s =>
    let s := if bit (p.word 0) 49 then s.bump Reg.GT_ECE 0 1 else s
    match s.ackedOut p with
    | none => s
    | some o => s.acked p o)).settleFabric

/-! Timers (R334 to R338) -/

/-- The packet in flight to a peer with a PSN. -/
def Dev.outOf (s : Dev) (n psn : Nat) (busy : Bool) : Option Out :=
  s.fabric.out.find? (fun o => decide (o.peer = n) && decide (o.psn = psn) && (o.busyAt.isSome == busy))

/-- ACK_TIMER_EXPIRY (R335, R336, R338). -/
def doAckTimerExpiry (n psn : Nat) (s : Dev) : Dev :=
  match s.outOf n psn false with
  | none => s
  | some o =>
    let s := s.reachLocal (o.timer + o.links * s.rd Reg.GT_TIMING_ACK_TMO 0 * 16000)
    if s.rd Reg.GT_TIMING_RETX 0 ≤ o.retx then (s.peerFail n).settleFabric
    else
      let s := s.bump Reg.GT_RETX 0 1
      let s := if !s.switched || o.waiting then s else
        let x := NMap.get ({} : Path) (s.peer n).paths o.path
        let x : Path := if 2 ≤ x.expiries + 1 then { x with expiries := 0, skipUntil := s.mono + 160000000 } else { x with expiries := x.expiries + 1 }
        s.modPeer n (fun y => { y with paths := NMap.set {} y.paths o.path x })
      (s.sendAgain { o with retx := o.retx + 1 }).settleFabric

/-- BUSY_RESEND (R334): 4 µs after a BUSY answer. -/
def doBusyResend (n psn : Nat) (s : Dev) : Dev :=
  match s.outOf n psn true with
  | none => s
  | some o => ((s.reachLocal (o.busyAt.getD 0 + 64000)).sendAgain { o with busyAt := none }).settleFabric

/-- READ_REQ. -/
def doReadReq (p : Packet) (s : Dev) : Dev := s.receive p (Dev.rxRead p)
/-- READ_RESP. -/
def doReadResp (p : Packet) (s : Dev) : Dev := s.receive p (Dev.rxReadResp p)
/-- WRITE. -/
def doWrite (p : Packet) (s : Dev) : Dev := s.receive p (Dev.rxWrite p)
/-- SIGNAL_MESSAGE. -/
def doSignalMessage (p : Packet) (s : Dev) : Dev := s.receive p (Dev.rxSignal p)
/-- ATOMIC. -/
def doAtomic (p : Packet) (s : Dev) : Dev := s.receive p (Dev.rxAtomic p)
/-- ATOMIC_RESP. -/
def doAtomicResp (p : Packet) (s : Dev) : Dev := s.receive p (Dev.rxAtomicResp p)
/-- SPLICE. -/
def doSplice (p : Packet) (s : Dev) : Dev := s.receive p (Dev.rxSplice p)
/-- COIL_MSG_COPY (R245). -/
def doCoilMsgCopy (p : Packet) (s : Dev) : Dev := s.receive p (Dev.rxLend p (p.word 2).toNat true)
/-- COIL_MSG_WRITE (R246). -/
def doCoilMsgWrite (p : Packet) (s : Dev) : Dev := s.receive p (Dev.rxLend p (p.word 2).toNat false)
/-- COIL_MSG_APPEND (R246). -/
def doCoilMsgAppend (p : Packet) (s : Dev) : Dev := s.receive p (Dev.rxAppend p)
/-- COIL_MSG_RELEASE (R245). -/
def doCoilMsgRelease (p : Packet) (s : Dev) : Dev := s.receive p (Dev.rxRelease p)
/-- COIL_MSG_FETCH (R243). -/
def doCoilMsgFetch (p : Packet) (s : Dev) : Dev := s.receive p (Dev.rxFetch p)
/-- COIL_MSG_DATA (R243). -/
def doCoilMsgData (p : Packet) (s : Dev) : Dev := s.receive p (Dev.rxData p)
/-- COIL_MSG_STORE (R242). -/
def doCoilMsgStore (p : Packet) (s : Dev) : Dev := s.receive p (Dev.rxLend p (p.word 2).toNat true)

/-- ACK. -/
def execAck (p : Packet) (s : State) : Host.Outcome State Fault Refusal := s.on (doAck p)
/-- READ_REQ. -/
def execReadReq (p : Packet) (s : State) : Host.Outcome State Fault Refusal := s.on (doReadReq p)
/-- READ_RESP. -/
def execReadResp (p : Packet) (s : State) : Host.Outcome State Fault Refusal := s.on (doReadResp p)
/-- WRITE. -/
def execWrite (p : Packet) (s : State) : Host.Outcome State Fault Refusal := s.on (doWrite p)
/-- SIGNAL_MESSAGE. -/
def execSignalMessage (p : Packet) (s : State) : Host.Outcome State Fault Refusal := s.on (doSignalMessage p)
/-- ATOMIC. -/
def execAtomic (p : Packet) (s : State) : Host.Outcome State Fault Refusal := s.on (doAtomic p)
/-- ATOMIC_RESP. -/
def execAtomicResp (p : Packet) (s : State) : Host.Outcome State Fault Refusal := s.on (doAtomicResp p)
/-- SPLICE. -/
def execSplice (p : Packet) (s : State) : Host.Outcome State Fault Refusal := s.on (doSplice p)
/-- COIL_MSG_COPY. -/
def execCoilMsgCopy (p : Packet) (s : State) : Host.Outcome State Fault Refusal := s.on (doCoilMsgCopy p)
/-- COIL_MSG_WRITE. -/
def execCoilMsgWrite (p : Packet) (s : State) : Host.Outcome State Fault Refusal := s.on (doCoilMsgWrite p)
/-- COIL_MSG_APPEND. -/
def execCoilMsgAppend (p : Packet) (s : State) : Host.Outcome State Fault Refusal := s.on (doCoilMsgAppend p)
/-- COIL_MSG_RELEASE. -/
def execCoilMsgRelease (p : Packet) (s : State) : Host.Outcome State Fault Refusal := s.on (doCoilMsgRelease p)
/-- COIL_MSG_FETCH. -/
def execCoilMsgFetch (p : Packet) (s : State) : Host.Outcome State Fault Refusal := s.on (doCoilMsgFetch p)
/-- COIL_MSG_DATA. -/
def execCoilMsgData (p : Packet) (s : State) : Host.Outcome State Fault Refusal := s.on (doCoilMsgData p)
/-- COIL_MSG_STORE. -/
def execCoilMsgStore (p : Packet) (s : State) : Host.Outcome State Fault Refusal := s.on (doCoilMsgStore p)
/-- PACKET_APPLY. -/
def execPacketApply (e : Nat) (s : State) : Host.Outcome State Fault Refusal := s.on (doPacketApply e)
/-- ACK_TIMER_EXPIRY. -/
def execAckTimerExpiry (n psn : Nat) (s : State) : Host.Outcome State Fault Refusal := s.on (doAckTimerExpiry n psn)
/-- BUSY_RESEND. -/
def execBusyResend (n psn : Nat) (s : State) : Host.Outcome State Fault Refusal := s.on (doBusyResend n psn)

end Sys2Proof.Machine
end

