-- ==== Sys2Proof/Machine/Discovery.lean ====
section
/-! DEFINITION. Discovery and coordination: HELLOs, election, keepalives, membership, routes, demand reports and channel assignment
(R311, R312, R314, R319 to R323, R339, R340). The layouts of the coordinator's tables are the model's own (log entry 50). -/
namespace Sys2Proof.Machine

/-- Change the coordination state. -/
def Dev.co (s : Dev) (f : Coord → Coord) : Dev := s.fab (fun x => { x with coord := f x.coord })

/-- The coordination state. -/
def Dev.coord (s : Dev) : Coord := s.fabric.coord

/-- Insert into a sorted list, and sort. -/
def insSort {α : Type} (lt : α → α → Bool) (x : α) : List α → List α
  | [] => [x]
  | y :: r => if lt x y then x :: y :: r else y :: insSort lt x r
/-- Sort, keeping the order of equals. -/
def sortList {α : Type} (lt : α → α → Bool) (l : List α) : List α := l.foldr (insSort lt) []

/-- The records of `n` bytes of some bytes. -/
def recs (n : Nat) (bs : List Byte) : List (List Byte) := (List.range (bs.length / n)).map (fun i => (bs.drop (i * n)).take n)

/-- The number of `n` bytes at offset `o` of a record. -/
def recField (r : List Byte) (o n : Nat) : Nat := leNat ((r.drop o).take n)

/-! Candidates (R320) -/

/-- This module's serial number. -/
def Dev.serial (s : Dev) : Nat := s.rd Reg.ID_SERIAL 0

/-- Whether candidate (priority, serial) `a` is better than `b` (R320). -/
def better (a b : Nat × Nat) : Bool := decide (b.1 < a.1) || (decide (a.1 = b.1) && decide (a.2 < b.2))

/-- The candidates of switched mode (R320). -/
def Dev.cands (s : Dev) : List Nat :=
  (List.range (min 4 (s.rd Reg.GT_NODE_NCAND 0))).map (fun i => nbits (s.rd Reg.GT_CAND 0) (16 * i + 15) (16 * i))

/-- Whether this module is a candidate. -/
def Dev.isCand (s : Dev) : Bool := !s.switched || s.cands.contains s.fnid

/-- This module as a candidate. -/
def Dev.selfCand (s : Dev) : Nat × Nat := (s.rd Reg.GT_NODE_PRIORITY 0, s.serial)

/-- The best candidate this module knows, itself included; a priority of 0 and the highest serial where it knows none. -/
def Dev.bestKnown (s : Dev) : Nat × Nat :=
  match s.coord.best, s.isCand with
  | some b, true => if better s.selfCand b then s.selfCand else b
  | some b, false => b
  | none, true => s.selfCand
  | none, false => (0, 2 ^ 64 - 1)

/-! HELLOs (R311, R320, R326) -/

/-- The HELLO this module sends on a link. -/
def Dev.helloPacket (s : Dev) (port lane dst : Nat) : Packet :=
  let b := s.bestKnown
  let w0 := s.fnid + s.rd Reg.GT_NODE_VALID 0 * 2 ^ 16 + s.rd Reg.GT_NODE_STATIC 0 * 2 ^ 17 + s.rd Reg.GT_NODE_RING_INDEX 0 * 2 ^ 18 +
    port * 2 ^ 27 + (s.optic (laneKey port lane)).channel * 2 ^ 32 + s.rd Reg.GT_NODE_PRIORITY 0 * 2 ^ 36 + b2n s.isCoord * 2 ^ 44
  { typ := 9, last := true, ordered := false, hops := 0, src := s.fnid, dst := dst, part := 0, psn := 2 ^ 47 + (s.peer dst).ackSeq, idx := 0
    queue := 0, inc := s.incarnation, keyId := 0, time := 0
    ext := [BitVec.ofNat 64 w0, BitVec.ofNat 64 s.serial, BitVec.ofNat 64 b.2, BitVec.ofNat 64 b.1]
    data := [], tag := 0, ce := false, port := port, lane := lane }

/-- Send a HELLO on link `k`. -/
def Dev.helloOn (s : Dev) (k dst : Nat) : Dev :=
  match s.sendKey 0 with
  | none => s
  | some key =>
    let p := s.seal key (s.helloPacket (k / 8) (k % 8) dst)
    if 2 ^ 47 ≤ (s.peer dst).ackSeq then s else (s.modPeer dst (fun x => { x with ackSeq := x.ackSeq + 1 })).linkPut k p

/-- The anchor links that are up (R312). -/
def Dev.anchors (s : Dev) : List Nat :=
  (List.range 256).filter (fun k => s.directPort (k / 8) && s.carries k && decide ((s.optic k).channel ≤ 5))

/-- HELLO_SEND (R320): on every anchor link; in switched mode to every other candidate on every plane. -/
def doHelloSend (s : Dev) : Dev :=
  if !s.flag Reg.GT_CTRL_EN 0 then s
  else if !s.switched then
    s.anchors.foldl (fun s k => match (s.link k).peer with
      | some n => s.helloOn k n
      | none => s.fresh.helloOn k (Config.pick s.seed % 65536)) s
  else
    (s.cands.filter (fun c => c ≠ s.fnid)).foldl (fun s c =>
      ((List.range 32).filter (fun p => !s.directPort p && (s.link (laneKey p 0)).up &&
          ((NMap.get ({} : Gateway) s.fabric.gateways p).mac).isSome)).foldl (fun s p => s.helloOn (laneKey p 0) c) s) s

/-- What a HELLO says of its sender. -/
def heardIn (p : Packet) (serial : Nat) : Heard :=
  let w := (p.word 0).toNat
  { serial := serial, fnid := if w.testBit 16 then some (nbits w 15 0) else none, static := w.testBit 17, ring := nbits w 26 18
    priority := nbits w 43 36, inc := p.inc, port := nbits w 31 27, channel := nbits w 35 32, time := p.time }

/-! The coordinator's tables (R314, R319, R321, R323, R340) -/

/-- The ports of this module with a link up. -/
def Dev.portsUp (s : Dev) : Nat :=
  ((List.range 32).map (fun p => if (List.range 8).any (fun l => (s.link (laneKey p l)).up) then 2 ^ p else 0)).sum

/-- A module as the coordinator sees it: its member record and its ring index. -/
abbrev Seat := Member × Nat

/-- A channel of port `p` that joins ring indices `a` and `b` in a ring of `n`, among `cs` (R311). -/
def joins (n a b : Nat) (cs ports : List Nat) : List (Nat × Nat) :=
  if n = 0 ∨ a = b then []
  else (ports.map (fun p => (cs.filter (fun c => (16 * p + 2 * n - c % n - a % n) % n = b)).map (fun c => (p, c)))).flatten

/-- Ports up at both modules. -/
def commonPorts (a b : Seat) : List Nat := bitsSet 32 (a.1.ports &&& b.1.ports)

/-- Whether an anchor channel joins two modules: relayed routes run over these only, since a demand channel can be retuned. -/
def Dev.anchored (s : Dev) (a b : Seat) : Bool := !(joins (s.rd Reg.GT_NODE_RING_N 0) a.2 b.2 (List.range 6) (commonPorts a b)).isEmpty

/-- The direct links of a pair: anchor channels first, then what is assigned. -/
def Dev.directs (s : Dev) (a b : Seat) : List (Nat × Nat) :=
  joins (s.rd Reg.GT_NODE_RING_N 0) a.2 b.2 (List.range 6) (commonPorts a b) ++
  (s.coord.assigns.filter (fun x => (x.a == a.1.fnid && x.b == b.1.fnid) || (x.a == b.1.fnid && x.b == a.1.fnid))).map (fun x => (x.port, x.channel))

/-- The modules heard of, this one included, each once and in order of serial, with FNIDs for those that claim none (R319). -/
def Dev.seats (s : Dev) : List Seat :=
  let me : Seat := ({ fnid := if s.flag Reg.GT_NODE_VALID 0 then s.fnid else 65536, serial := s.serial, inc := s.incarnation
                      ports := s.portsUp, parent := 0, depth := 0, pps := s.flag Reg.TM_CTRL_PPS_IN_EN 0 }, s.rd Reg.GT_NODE_RING_INDEX 0)
  let others := s.coord.heard.foldl (fun (l : List Seat) h =>
    let old := (s.coord.members.find? (fun m => m.serial = h.serial)).any (fun m => m.pps)
    match l.find? (fun m => m.1.serial = h.serial) with
    | some _ => l.map (fun m => if m.1.serial = h.serial then ({ m.1 with ports := m.1.ports ||| 2 ^ h.port, inc := h.inc }, h.ring) else m)
    | none => l ++ [({ fnid := h.fnid.getD 65536, serial := h.serial, inc := h.inc, ports := 2 ^ h.port, parent := 0, depth := 0
                       pps := old }, h.ring)]) []
  let all := sortList (fun (x y : Seat) => decide (x.1.serial < y.1.serial)) (me :: others)
  let used := all.map (fun m => m.1.fnid)
  (all.foldl (fun (x : List Seat × List Nat) m =>
    if m.1.fnid < 65536 then (x.1 ++ [m], x.2)
    else
      let n := ((List.range (x.2.length + 1)).find? (fun i => !x.2.contains i)).getD 0
      (x.1 ++ [({ m.1 with fnid := n }, m.2)], x.2 ++ [n])) ([], used)).1

/-- One level of the time tree (R340): modules not yet placed hang below those of depth `d`, at most 64 each. -/
def Dev.hang (s : Dev) (d : Nat) (l : List Seat) : List Seat :=
  l.foldl (fun (acc : List Seat) m =>
    if m.1.depth ≠ 9 then acc
    else
      let ok := fun (q : Seat) => q.1.depth == d && (s.switched || !(s.directs q m).isEmpty) &&
        decide (acc.countP (fun x => x.1.depth = d + 1 ∧ x.1.parent = q.1.fnid) < 64)
      match acc.find? ok with
      | some q => acc.map (fun x => if x.1.serial = m.1.serial then ({ x.1 with depth := d + 1, parent := q.1.fnid }, x.2) else x)
      | none => acc) l

/-- The time tree (R339, R340): rooted at the lowest FNID with PPS_IN_EN, else at this module, and at most 3 links deep in direct mode
and 4 in switched mode. A module it does not reach keeps depth 9. -/
def Dev.tree (s : Dev) (l : List Seat) : List Seat :=
  let l := sortList (fun (x y : Seat) => decide (x.1.fnid < y.1.fnid)) l
  let root := match l.find? (fun m => m.1.pps) with
    | some m => m.1.serial
    | none => s.serial
  let l := l.map (fun m => ({ m.1 with depth := if m.1.serial = root then 0 else 9, parent := m.1.fnid }, m.2))
  let l := s.hang 2 (s.hang 1 (s.hang 0 l))
  if s.switched then s.hang 3 l else l

/-- The route entry of module `a` for module `b` (R313, R323). -/
def Dev.routeFor (s : Dev) (l : List Seat) (a b : Seat) : Nat :=
  if s.switched then (if a.1.ports &&& b.1.ports = 0 then 0 else 1 + (a.1.ports &&& b.1.ports) * 2)
  else
    let near := s.anchored
    let mids := l.filter (fun v => v.1.fnid != a.1.fnid && v.1.fnid != b.1.fnid && near a v)
    let two := mids.filter (fun v => near v b)
    let three := mids.filter (fun v => l.any (fun u => near v u && near u b && u.1.fnid != a.1.fnid))
    let vias := if two.isEmpty then (if (s.directs a b).isEmpty then three else []) else two
    let links := if two.isEmpty ∧ ¬vias.isEmpty then 3 else 2
    let va := (vias.map (fun v => v.1.fnid)).headD b.1.fnid
    let vb := ((vias.drop 1).map (fun v => v.1.fnid)).headD va
    match s.directs a b with
    | (p, c) :: _ => 3 + p * 4 + c * 2 ^ 7 + va * 2 ^ 11 + vb * 2 ^ 27 + links * 2 ^ 43
    | [] => if vias.isEmpty then 0 else 1 + va * 2 ^ 11 + vb * 2 ^ 27 + links * 2 ^ 43

/-- The membership list as a message carries it: 24 bytes a module. -/
def memberBytes (l : List Seat) : List Byte :=
  (l.map (fun m => leBytes 8 m.1.serial ++ leBytes 2 m.1.fnid ++ leBytes 2 m.1.inc ++ leBytes 4 m.1.ports ++ leBytes 2 m.1.parent ++
    leBytes 1 m.1.depth ++ leBytes 1 (b2n m.1.pps) ++ leBytes 4 m.2)).flatten

/-- A module of a membership list. -/
def memberOf (r : List Byte) : Member :=
  { fnid := recField r 8 2, serial := recField r 0 8, inc := recField r 10 2, ports := recField r 12 4, parent := recField r 16 2
    depth := recField r 18 1, pps := recField r 19 1 == 1 }

/-- A membership list takes effect (R319, R321, R339, R340). -/
def Dev.applyMembers (s : Dev) (ms : List Member) : Dev :=
  let s := match ms.find? (fun m => m.serial = s.serial) with
    | none => s
    | some m =>
      let s := if s.flag Reg.GT_NODE_STATIC 0 then s else (s.wr Reg.GT_NODE_FNID 0 m.fnid).wr Reg.GT_NODE_VALID 0 1
      let old := s.rd Reg.TM_PARENT_FNID 0
      let s := (s.wr Reg.TM_PARENT_FNID 0 m.parent).wr Reg.TM_PARENT_DEPTH 0 (if 4 < m.depth then 0 else m.depth)
      let master := m.depth == 0
      let s := s.wr Reg.TM_CTRL_MASTER 0 (b2n master)
      let s := if master then s.wr Reg.TM_CTRL_LOCKED 0 1 else s
      let s := if old = m.parent then s else s.fab (fun x => { x with time := { x.time with last := [], t1 := none, beyond := 0 } })
      let was := s.coord.members.any (fun y => y.pps && decide (y.fnid < m.fnid))
      if m.pps && !was && ms.any (fun y => y.pps && decide (y.fnid < m.fnid)) then s.report Ev.TM_PPS_CONFLICT 0 else s
  let s := s.co (fun c => { c with members := ms })
  (ms.filter (fun m => m.serial ≠ s.serial)).foldl (fun s m => s.notePeer m.fnid m.inc) s

/-- Route entries take effect: FNID and entry of each (R323); a module's own is ignored, and with STATIC_ROUTES all are. -/
def Dev.applyRoutes (s : Dev) (l : List (Nat × Nat)) : Dev :=
  if s.flag Reg.GT_CTRL_STATIC_ROUTES 0 then s else (l.filter (fun e => e.1 ≠ s.fnid)).foldl (fun s e => s.wr Reg.GT_ROUTE e.1 (s.routeMask e.2)) s

/-- The coordinator distributes the membership list and the routes it forms from what it has heard (R321). -/
def Dev.distribute (s : Dev) : Dev :=
  let l := s.tree s.seats
  let s := s.applyMembers (l.map (fun m => m.1))
  let routes := fun (s : Dev) (a : Seat) => (l.filter (fun b => b.1.serial ≠ a.1.serial)).map (fun b => (b.1.fnid, s.routeFor l a b))
  let s := match l.find? (fun m => m.1.serial = s.serial) with
    | some me => s.applyRoutes (routes s me)
    | none => s
  let mb := memberBytes l
  ((l.filter (fun m => m.1.serial ≠ s.serial)).foldl (fun s m =>
    (s.control m.1.fnid 2 0 mb).control m.1.fnid 3 0 ((routes s m).map (fun e => leBytes 8 e.1 ++ leBytes 8 e.2)).flatten) s)

/-- The coordinator distributes again where what it has heard changes the list. -/
def Dev.coordinate (s : Dev) : Dev :=
  if s.isCoord && (s.tree s.seats).map (fun m => m.1) != s.coord.members then s.distribute else s

/-! HELLO (R311, R319, R320, R322, R336) -/

/-- The wiring of a direct link as its neighbour's HELLO tells it (R311): answers whether the link may be used. -/
def Dev.wiring (s : Dev) (p : Packet) (h : Heard) : Dev × Bool :=
  let k := laneKey p.port p.lane
  if s.switched ∨ p.hops ≠ 0 then (s, true)
  else
    let c := (s.optic k).channel
    if h.port = p.port ∧ h.channel = c ∧ h.ring = s.foldPeer p.port c then
      (s.modLink k (fun l => { l with peer := h.fnid, miswired := false }), true)
    else ((s.modLink k (fun l => { l with miswired := true })).report Ev.FX_WIRING p.port, false)

/-- A HELLO's part in the election: a better candidate restarts the wait, and the coordinator's own HELLO names it. -/
def Dev.elect (s : Dev) (p : Packet) (h : Heard) : Dev :=
  let b : Nat × Nat := (bits (p.word 3) 7 0, (p.word 2).toNat)
  let s := if (s.coord.best.isNone ∨ better b (s.coord.best.getD (0, 0))) ∧ b.2 ≠ 2 ^ 64 - 1 then
      s.co (fun c => { c with best := some b }) else s
  let s := if better b s.selfCand then s.co (fun c => { c with since := s.mono }) else s
  let s := if s.isCoord ∧ better s.bestKnown s.selfCand then
      (s.wr Reg.GT_COORD_IS_COORD 0 0).wr Reg.GT_COORD_COORD_VALID 0 0 else s
  match h.fnid with
  | some n => if bit (p.word 0) 44 ∧ !s.isCoord ∧ s.bestKnown = (h.priority, h.serial) then
      ((s.wr Reg.GT_COORD_COORD 0 n).wr Reg.GT_COORD_COORD_VALID 0 1).co (fun c => { c with bestFnid := n, lastKeep := s.mono })
    else s
  | none => s

/-- Pass a HELLO on over the other anchor links, at most three links in all (R313, R320). -/
def Dev.flood (s : Dev) (p : Packet) : Dev :=
  if s.switched ∨ 2 ≤ p.hops then s
  else (s.anchors.filter (fun k => k ≠ laneKey p.port p.lane && !(s.link k).miswired)).foldl (fun s k => s.linkPut k { p with hops := p.hops + 1 }) s

/-- HELLO. -/
def doHello (p : Packet) (s : Dev) : Dev :=
  if !s.flag Reg.GT_CTRL_EN 0 then s
  else if !s.authentic p then (s.bump Reg.GT_AUTH_FAILS 0 1).report Ev.GT_AUTH_FAIL 0
  else
    let h := heardIn p (p.word 1).toNat
    if h.serial = s.serial ∨ (h.fnid.isSome ∧ (s.peer (h.fnid.getD 0)).former.contains p.inc) then s
    else
      let (s, ok) := s.wiring p h
      if !ok then s
      else
        let same := fun (x : Heard) => x.serial == h.serial && x.port == h.port && x.channel == h.channel
        let fresh := !(s.coord.heard.any (fun x => same x && decide (h.time ≤ x.time)))
        let s := s.co (fun c => { c with heard := c.heard.filter (fun x => !same x) ++ [h], down := c.down.filter (fun d => some d.1 ≠ h.fnid) })
        let s := if h.fnid = some s.fnid ∧ s.flag Reg.GT_NODE_VALID 0 then
            s.report Ev.GT_FNID_CONFLICT 0
          else match h.fnid with
          | none => s
          | some n =>
            let back := s.rd Reg.GT_PEER_STATE n == 2
            let s := s.notePeer n p.inc
            if back then s.wr Reg.GT_PEER_STATE n 1 else s
        let s := s.elect p h
        let s := if fresh then s.flood p else s
        let s := if h.fnid.isSome ∧ h.fnid ≠ some s.fnid then s.ackTo p (if s.marked p then 2 else 0) 0 else s
        s.coordinate.settleFabric

/-- COORDINATOR_ELECTION (R320): 20 ms in which no better candidate has been seen. -/
def doCoordinatorElection (s : Dev) : Dev :=
  if !s.flag Reg.GT_CTRL_EN 0 || s.isCoord || !s.isCand || s.coordinator.isSome then s
  else
    let s := s.reachLocal (s.coord.since + 320000000)
    let s := s.wr Reg.GT_COORD_IS_COORD 0 1
    let s := s.distribute
    (((s.wr Reg.GT_COORD_COORD 0 s.fnid).wr Reg.GT_COORD_COORD_VALID 0 1).co (fun c => { c with best := some s.selfCand, bestFnid := s.fnid })).settleFabric

/-- KEEPALIVE_SEND (R320). -/
def doKeepaliveSend (s : Dev) : Dev :=
  if !s.isCoord then s
  else ((s.coord.members.filter (fun m => m.serial ≠ s.serial)).foldl (fun s m => s.control m.fnid 7 0 []) s).settleFabric

/-- A message of the coordinator: of the one in force, or of any while none is. -/
def Dev.fromCoord (s : Dev) (p : Packet) (f : Dev → Dev) : Dev :=
  if s.isCoord then s
  else match s.coordinator with
  | some c => if c = p.src then f s else s
  | none => f ((s.wr Reg.GT_COORD_COORD 0 p.src).wr Reg.GT_COORD_COORD_VALID 0 1)

/-- KEEPALIVE (R320). -/
def doKeepalive (p : Packet) (s : Dev) : Dev :=
  s.receive p (fun s => (s.fromCoord p (fun s => s.co (fun c => { c with lastKeep := s.mono })), 0))

/-- GT_COORD_LOST (R320): ten keepalives missed; a new election starts, and what is in force stays. -/
def doGtCoordLost (s : Dev) : Dev :=
  if s.isCoord || s.coordinator.isNone then s
  else
    let s := (s.reachLocal (s.coord.lastKeep + 160000000)).report Ev.GT_COORD_LOST 0
    (s.wr Reg.GT_COORD_COORD_VALID 0 0).co (fun c => { c with best := none, since := s.mono })

/-- MEMBERS (R321). -/
def doMembers (p : Packet) (s : Dev) : Dev :=
  s.receive p (fun s => (s.fromCoord p (fun s => s.applyMembers ((recs 24 p.data).map memberOf)), 0))

/-- ROUTES (R323): 16 bytes an entry, its FNID and the entry. -/
def doRoutes (p : Packet) (s : Dev) : Dev :=
  s.receive p (fun s => (s.fromCoord p (fun s => s.applyRoutes ((recs 16 p.data).map (fun r => (recField r 0 8 % 65536, recField r 8 8)))), 0))

/-- PEER_DOWN (R336). -/
def doPeerDown (p : Packet) (s : Dev) : Dev :=
  s.receive p (fun s => (if s.isCoord then s.noteDown (recField p.data 0 2) p.src else s, 0))

/-! Demand and assignment (R314) -/

/-- Bytes queued to a peer and not yet sent. -/
def Dev.queuedTo (s : Dev) (n : Nat) : Nat :=
  ((s.fabric.msgs.filter (fun m => m.peer = n)).map (fun m => m.data.length - min m.data.length (m.next * m.chunk))).sum

/-- Bytes in KiB, rounded up. -/
def kib (n : Nat) : Nat := (n + 1023) / 1024

/-- The figures of this module's report: up to 64 peers, the largest first. -/
def Dev.demandList (s : Dev) : List Demand :=
  let ns := ((s.fabric.msgs.map (fun m => m.peer)) ++ (s.coord.sentTo.map (fun e => e.1))).foldl (fun (l : List Nat) n => if l.contains n then l else l ++ [n]) []
  let l := ns.map (fun n => ({ src := s.fnid, peer := n, queued := kib (s.queuedTo n), sent := kib (NMap.get 0 s.coord.sentTo n) } : Demand))
  (sortList (fun (x y : Demand) => decide (y.queued + y.sent < x.queued + x.sent)) l).take 64

/-- The coordinator takes a report: figures, ports up, PPS_IN_EN, and links that failed. -/
def Dev.takeDemand (s : Dev) (n : Nat) (ds : List Demand) (ports : Nat) (pps : Bool) (failed : List (Nat × Nat)) : Dev :=
  let serial := ((s.coord.members.find? (fun m => m.fnid = n)).map (fun m => m.serial)).getD 0
  s.co (fun c => { c with
    demands := c.demands.filter (fun d => d.src ≠ n) ++ ds
    heard := c.heard.filter (fun h => h.serial ≠ serial || ports.testBit h.port)
    members := c.members.map (fun m => if m.fnid = n then { m with pps := pps } else m)
    lost := c.lost ++ failed.map (fun f => (n, f.1, f.2)) })

/-- DEMAND_REPORT_SEND: a header word (PPS_IN_EN, ports up, number of failed links), the failed links, then the figures. -/
def doDemandReportSend (s : Dev) : Dev :=
  match s.coordinator with
  | none => s
  | some c =>
    let ds := s.demandList
    let failed := s.coord.failed
    let pps := s.flag Reg.TM_CTRL_PPS_IN_EN 0
    let ports := s.portsUp
    let s := s.co (fun c => { c with sentTo := [], failed := [] })
    if s.isCoord then s.takeDemand s.fnid ds ports pps failed
    else (s.control c 0 0 (leBytes 8 (b2n pps + ports * 2 + failed.length * 2 ^ 33) ++
      (failed.map (fun f => leBytes 8 (f.1 + f.2 * 2 ^ 5))).flatten ++
      (ds.map (fun d => leBytes 8 (d.peer + d.queued % 2 ^ 24 * 2 ^ 16 + d.sent % 2 ^ 24 * 2 ^ 40))).flatten)).settleFabric

/-- DEMAND. -/
def doDemand (p : Packet) (s : Dev) : Dev :=
  s.receive p (fun s =>
    if !s.isCoord then (s, 0)
    else
      let ws := (recs 8 p.data).map leNat
      let h := ws.headD 0
      let k := h / 2 ^ 33
      let ds := (ws.drop (1 + k)).map (fun w => ({ src := p.src, peer := w % 65536, queued := nbits w 39 16, sent := nbits w 63 40 } : Demand))
      ((s.takeDemand p.src ds (nbits h 32 1) (h.testBit 0) (((ws.drop 1).take k).map (fun w => (w % 32, nbits w 8 5)))).coordinate, 0))

/-- The sum of both modules' figures for each other. -/
def Coord.figure (c : Coord) (a b : Nat) : Nat :=
  ((c.demands.filter (fun d => (d.src == a && d.peer == b) || (d.src == b && d.peer == a))).map (fun d => d.queued + d.sent)).sum

/-- The assignment of a period: pairs by falling figure, on a tie the lower FNIDs first, each with every demand channel that joins
it while both have a free demand lane on the port. -/
def Dev.assignList (s : Dev) (l : List Seat) : List Assign :=
  let l := sortList (fun (x y : Seat) => decide (x.1.fnid < y.1.fnid)) l
  let pairs := (l.map (fun a => (l.filter (fun b => decide (a.1.fnid < b.1.fnid))).map (fun b => (a, b)))).flatten
  let pairs := sortList (fun (x y : Seat × Seat) =>
    decide (s.coord.figure y.1.1.fnid y.2.1.fnid < s.coord.figure x.1.1.fnid x.2.1.fnid)) pairs
  pairs.foldl (fun (acc : List Assign) (ab : Seat × Seat) =>
    (joins (s.rd Reg.GT_NODE_RING_N 0) ab.1.2 ab.2.2 ((List.range 10).map (fun c => c + 6)) (commonPorts ab.1 ab.2)).foldl
      (fun (acc : List Assign) (pc : Nat × Nat) =>
        let used := fun (n : Nat) => acc.countP (fun x => (x.a = n ∨ x.b = n) ∧ x.port = pc.1)
        let lost := s.coord.lost.contains (ab.1.1.fnid, pc.1, pc.2) || s.coord.lost.contains (ab.2.1.fnid, pc.1, pc.2)
        if used ab.1.1.fnid < 2 ∧ used ab.2.1.fnid < 2 ∧ !lost then
          acc ++ [{ a := ab.1.1.fnid, b := ab.2.1.fnid, port := pc.1, channel := pc.2 }] else acc) acc) []

/-- A module takes its assignments (R314): a lane that carries the channel keeps it, else a demand lane of the port whose channel
is not among them is to be retuned at T_act. -/
def Dev.applyAssign (s : Dev) (l : List Assign) (t : Nat) : Dev :=
  let mine := l.filter (fun x => x.a == s.fnid || x.b == s.fnid)
  mine.foldl (fun s x =>
    let peer := if x.a = s.fnid then x.b else x.a
    let wanted := (mine.filter (fun y => y.port == x.port)).map (fun y => y.channel)
    let taken := fun (k : Nat) => (s.link k).tAct == some t || wanted.contains (s.optic k).channel
    let lanes := (List.range 8).map (fun l => laneKey x.port l)
    match lanes.find? (fun k => (s.optic k).channel == x.channel) with
    | some k => s.modLink k (fun y => { y with next := x.channel, nextPeer := peer })
    | none => match lanes.find? (fun k => decide (6 ≤ (s.optic k).channel) && !taken k) with
      | some k => s.modLink k (fun y => { y with next := x.channel, nextPeer := peer, tAct := some t })
      | none => s) s

/-- CHANNEL_ASSIGNMENT. -/
def doChannelAssignment (s : Dev) : Dev :=
  if !s.isCoord || s.switched then s
  else
    let l := s.assignList s.seats
    let t := s.now + 3200000 + Config.pick s.seed
    let changed := l != s.coord.assigns
    let s := (s.fresh).co (fun c => { c with assigns := l, lost := [] })
    if !changed then s
    else
      let s := s.applyAssign l t
      ((s.coord.members.filter (fun m => m.serial ≠ s.serial)).foldl (fun s m =>
        s.control m.fnid 1 t (((l.filter (fun x => x.a == m.fnid || x.b == m.fnid)).map (fun x =>
          leBytes 2 x.a ++ leBytes 2 x.b ++ leBytes 2 x.port ++ leBytes 2 x.channel)).flatten)) s).settleFabric

/-- ASSIGN. -/
def doAssign (p : Packet) (s : Dev) : Dev :=
  s.receive p (fun s => (s.fromCoord p (fun s =>
    s.applyAssign ((recs 8 p.data).map (fun r => { a := recField r 0 2, b := recField r 2 2, port := recField r 4 2 % 32, channel := recField r 6 2 % 16 }))
      (p.word 1).toNat), 0))

/-- HELLO. -/
def execHello (p : Packet) (s : State) : Host.Outcome State Fault Refusal := s.on (doHello p)
/-- HELLO_SEND. -/
def execHelloSend (s : State) : Host.Outcome State Fault Refusal := s.on doHelloSend
/-- COORDINATOR_ELECTION. -/
def execCoordinatorElection (s : State) : Host.Outcome State Fault Refusal := s.on doCoordinatorElection
/-- KEEPALIVE_SEND. -/
def execKeepaliveSend (s : State) : Host.Outcome State Fault Refusal := s.on doKeepaliveSend
/-- KEEPALIVE. -/
def execKeepalive (p : Packet) (s : State) : Host.Outcome State Fault Refusal := s.on (doKeepalive p)
/-- GT_COORD_LOST. -/
def execGtCoordLost (s : State) : Host.Outcome State Fault Refusal := s.on doGtCoordLost
/-- DEMAND_REPORT_SEND. -/
def execDemandReportSend (s : State) : Host.Outcome State Fault Refusal := s.on doDemandReportSend
/-- DEMAND. -/
def execDemand (p : Packet) (s : State) : Host.Outcome State Fault Refusal := s.on (doDemand p)
/-- CHANNEL_ASSIGNMENT. -/
def execChannelAssignment (s : State) : Host.Outcome State Fault Refusal := s.on doChannelAssignment
/-- ASSIGN. -/
def execAssign (p : Packet) (s : State) : Host.Outcome State Fault Refusal := s.on (doAssign p)
/-- MEMBERS. -/
def execMembers (p : Packet) (s : State) : Host.Outcome State Fault Refusal := s.on (doMembers p)
/-- ROUTES. -/
def execRoutes (p : Packet) (s : State) : Host.Outcome State Fault Refusal := s.on (doRoutes p)
/-- PEER_DOWN. -/
def execPeerDown (p : Packet) (s : State) : Host.Outcome State Fault Refusal := s.on (doPeerDown p)

end Sys2Proof.Machine
end

