-- ==== Sys2Proof/Machine/FabricTime.lean ====
section
/-! DEFINITION. Fabric time: the exchange with the time parent, its correction, and the PPS pins (R339 to R342). -/
namespace Sys2Proof.Machine

/-- Change the time state. -/
def Dev.tm (s : Dev) (f : TimeSync → TimeSync) : Dev := s.fab (fun x => { x with time := f x.time })

/-- A second of fabric time. -/
def second : Nat := 16000000000

/-- READY has been entered since this start: the counter is never stepped again (R340, R372). -/
def Dev.noStep (s : Dev) : Bool := s.boot.beenReady

/-- Correct fabric time by an offset (R340, R342): a step before READY where `step` allows it, else a slew that the time base
works off. -/
def Dev.correct (s : Dev) (off : Int) (step : Bool) : Dev :=
  if step && !s.noStep then ({ s with now := ofSigned 64 ((s.now : Int) + off) }).tm (fun x => { x with slew := 0, last := [] })
  else s.tm (fun x => { x with slew := off })

/-- TIME_EXCHANGE (R340): every 125 µs, to the parent. -/
def doTimeExchange (s : Dev) : Dev :=
  if !s.flag Reg.GT_CTRL_EN 0 || s.flag Reg.TM_CTRL_MASTER 0 || s.rd Reg.TM_PARENT_DEPTH 0 == 0 then s
  else (s.control (s.rd Reg.TM_PARENT_FNID 0) 4 0 []).settleFabric

/-- TIME_REQ (R340): the answer carries this module's receive stamp. -/
def doTimeReq (p : Packet) (s : Dev) : Dev :=
  s.receive p (fun t => (t.control p.src 5 s.now [], 0))

/-- The alignment bound in 1/16 ns (R341). -/
def Dev.timeBound (s : Dev) : Nat := if s.switched then 1600 else 320

/-- The exchange with the smallest round trip. -/
def bestExchange : List (Int × Int) → Int × Int
  | [] => (0, 0)
  | x :: r => r.foldl (fun b y => if y.1 < b.1 then y else b) x

/-- Whether the offset estimate holds the bound (R341). -/
def Dev.judge (s : Dev) (off : Int) : Dev :=
  if off.natAbs ≤ s.timeBound then (s.tm (fun x => { x with beyond := 0 })).wr Reg.TM_CTRL_LOCKED 0 1
  else
    let n := s.fabric.time.beyond + 1
    let s := s.tm (fun x => { x with beyond := n })
    if 8 ≤ n ∧ s.flag Reg.TM_CTRL_LOCKED 0 then (s.wr Reg.TM_CTRL_LOCKED 0 0).report Ev.TM_UNLOCKED 0 else s

/-- The estimate of an exchange: t1 and t3 are SEND_TIMEs, t2 the parent's receive stamp, t4 this module's. -/
def Dev.estimate (s : Dev) (p : Packet) (t1 t4 : Int) : Dev :=
  let t2 : Int := ((p.word 1).toNat : Nat)
  let t3 : Int := (p.time : Nat)
  let l := s.fabric.time.last ++ [(t4 - t1, est ((t2 - t1) - (t4 - t3)) 2)]
  let l := l.drop (l.length - 8)
  let off := (bestExchange l).2
  let s := (s.tm (fun x => { x with last := l, t1 := none })).bump Reg.TM_EXCHANGES 0 1
  let s := (s.wrS Reg.TM_OFFSET_OFFSET 0 off).wrS Reg.TM_OFFSET_DELAY 0 (est ((t4 - t1) - (t3 - t2)) 2)
  (s.judge off).correct off (decide (16000 < off.natAbs))

/-- TIME_RESP (R340, R341). -/
def doTimeResp (p : Packet) (s : Dev) : Dev :=
  s.receive p (fun t => (match t.fabric.time.t1 with
    | none => t
    | some t1 => if p.src = t.rd Reg.TM_PARENT_FNID 0 then t.estimate p (t1 : Nat) (s.now : Nat) else t, 0))

/-- This module may follow its pulses (R339): no module with a lower FNID has PPS_IN_EN set. -/
def Dev.ppsMaster (s : Dev) : Bool :=
  s.flag Reg.TM_CTRL_PPS_IN_EN 0 && !(s.coord.members.any (fun m => m.pps && decide (m.fnid < s.fnid)))

/-- PPS_EDGE (R342). -/
def doPpsEdge (s : Dev) : Dev :=
  if !s.ppsMaster then s
  else
    let s := (s.wr Reg.TM_PPS_LAST 0 s.now).wr Reg.TM_CTRL_PPS_ACTIVE 0 1
    let s := s.tm (fun x => { x with edge := some s.mono, missing := false })
    s.correct (toSigned 64 (s.rd Reg.TM_PPS_SEC_SECONDS 0 * second + 2 ^ 64 - s.now)) true

/-- TM_PPS_MISSING (R342): more than 1.000 01 s after the last edge. -/
def doTmPpsMissing (s : Dev) : Dev :=
  match s.fabric.time.edge with
  | none => s
  | some t =>
    if s.fabric.time.missing || !s.ppsMaster then s
    else
      let s := (s.reachLocal (t + 16000160000)).tm (fun x => { x with missing := true, slew := 0 })
      (s.wr Reg.TM_CTRL_PPS_ACTIVE 0 0).report Ev.TM_PPS_MISSING 0

/-- PPS_OUT_SECOND (R342): fabric time reaches a whole second, and TIMEPPS_OUT rises for 1 µs. -/
def doPpsOutSecond (s : Dev) : Dev :=
  let due := (s.now + second - 1) / second * second
  let s := s.reach (if s.boot.ppsOut.getLast? = some due then due + second else due)
  if s.started .TM && s.flag Reg.TM_CTRL_PPS_OUT_EN 0 then { s with boot := { s.boot with ppsOut := s.boot.ppsOut ++ [s.now] } } else s

/-- TIME_EXCHANGE. -/
def execTimeExchange (s : State) : Host.Outcome State Fault Refusal := s.on doTimeExchange
/-- TIME_REQ. -/
def execTimeReq (p : Packet) (s : State) : Host.Outcome State Fault Refusal := s.on (doTimeReq p)
/-- TIME_RESP. -/
def execTimeResp (p : Packet) (s : State) : Host.Outcome State Fault Refusal := s.on (doTimeResp p)
/-- PPS_EDGE. -/
def execPpsEdge (s : State) : Host.Outcome State Fault Refusal := s.on doPpsEdge
/-- TM_PPS_MISSING. -/
def execTmPpsMissing (s : State) : Host.Outcome State Fault Refusal := s.on doTmPpsMissing
/-- PPS_OUT_SECOND. -/
def execPpsOutSecond (s : State) : Host.Outcome State Fault Refusal := s.on doPpsOutSecond

end Sys2Proof.Machine
end

