-- ==== Sys2Proof/Machine/Deadlock.lean ====
section
/-! DEFINITION. The deadlock detector (R298, R299, R303). -/
namespace Sys2Proof.Machine

/-- A queue has pending work: commands not yet completed, or entries not yet dispatched, fetched or not. -/
def Dev.hasWork (s : Dev) (q : Nat) : Bool :=
  s.qState q != 0 &&
  ((s.queue q).slots.any (fun x => !x.finished) || s.rd Reg.QM_Q_STATE_SQ_HEAD q != (s.queue q).sqTail)

/-- The waits of R281 that command `c` is in: its own, or that of the engine that executes it. -/
def Dev.waitsOf (s : Dev) (c : Cmd) : List Wait :=
  s.waits.filter (fun w => w.c == some c || (match agentEngine w.agent with
    | some e => s.agentCmd (engineAgent e) == some c
    | none => false))

/-- A wait on a knot with EXTERNAL set. -/
def Dev.external (s : Dev) (w : Wait) : Bool :=
  match w.obj with
  | .knot k => (s.knot k).external
  | _ => false

/-- The commands of a queue in flight. -/
def Dev.inFlightOf (s : Dev) (q : Nat) : List Cmd := ((s.queue q).slots.filter (fun x => x.dispatched && !x.finished)).map (fun x => x.c)

/-- A queue is blocked (R298): its head is held by a WAIT that waits or has failed, or everything in flight waits. -/
def Dev.blocked (s : Dev) (q : Nat) : Bool :=
  let cs := s.inFlightOf q
  let head := s.headHeld q
  s.hasWork q && (head || (!cs.isEmpty && cs.all (fun c => !(s.waitsOf c).isEmpty))) &&
  !((cs.map s.waitsOf).flatten.any s.external)

/-- Something of partition `p` is in progress (R298). -/
def Dev.busyPart (s : Dev) (p : Nat) : Bool :=
  (List.range 16).any (fun t =>
    let x := s.tile t
    s.holder t == p && !(x.runs.isEmpty && x.packedRows.isEmpty && x.rows.isEmpty && x.air.isEmpty && x.replayQ.isEmpty && x.recompQ.isEmpty)) ||
  s.xfers.any (fun x => s.cPart x.c == p) ||
  s.engines.any (fun e => match e.2.cmd with
    | some c => s.cPart c == p && !(s.waits.any (fun w => agentEngine w.agent == some e.1))
    | none => false) ||
  s.coilOps.any (fun o => s.cPart o.c == p) || s.coil.moves.any (fun m => (s.coilAt m.slot).owner == p) ||
  s.fabric.msgs.any (fun m => m.part == p) || s.fabric.inbound.any (fun x => x.part == p) ||
  s.fabric.rxq.any (fun e => e.2.any (fun x => x.2 == p))

/-- The queues of partition `p` with pending work. -/
def Dev.workQueues (s : Dev) (p : Nat) : List Nat := (s.queues.map (fun e => e.1)).filter (fun q => s.qPart q == p && s.hasWork q)

/-- Fail every wait of some queues (R299 step 3). -/
def Dev.failWaits (s : Dev) (qs : List Nat) : Dev :=
  let ids := ((qs.map s.inFlightOf).flatten.map (fun c => (s.waitsOf c).map (fun w => w.id))).flatten
  ids.foldl (fun s id => match s.waits.find? (fun w => w.id = id) with
    | none => s
    | some w =>
      s.failWait w Ev.SY_DEADLOCK.status) s

/-- The queues of partition `p` that are blocked. -/
def Dev.blockedQueues (s : Dev) (p : Nat) : List Nat := (s.workQueues p).filter s.blocked

/-- Partition `p` is stalled (R298): it has pending work, all of it blocked, and nothing of it is in progress. -/
def Dev.stalled (s : Dev) (p : Nat) : Bool :=
  !(s.blockedQueues p).isEmpty && (s.blockedQueues p).length == (s.workQueues p).length && !s.busyPart p

/-- One evaluation of partition `p`. -/
def Dev.evaluate (s : Dev) (p : Nat) : Dev :=
  let bs := s.blockedQueues p
  let stalled := s.stalled p
  let s := s.wr Reg.SY_PART_STATE_BLOCKED p bs.length
  if !stalled then
    { (s.wr Reg.SY_PART_STATE_STALLED p 0).wr Reg.SY_PART_STATE_STALLED_US p 0 with dlReported := s.dlReported.filter (fun x => x ≠ p) }
  else
    let us := if s.flag Reg.SY_PART_STATE_STALLED p then min (s.rd Reg.SY_PART_STATE_STALLED_US p + 1) (2 ^ 20 - 1) else 0
    let s := (s.wr Reg.SY_PART_STATE_STALLED p 1).wr Reg.SY_PART_STATE_STALLED_US p us
    if us < s.rd Reg.SY_CTRL_DL_TIME 0 ∨ s.dlReported.contains p then s
    else
      let fail := s.flag Reg.SY_CTRL_DL_ACTION 0
      let s := (s.reportP Ev.SY_DEADLOCK 0 p bs.length 0).bump Reg.SY_PART_DEADLOCKS p 1
      let s := s.syLog { typ := 4, part := p, count := bs.length, failed := fail }
      let s := { s with dlReported := s.dlReported ++ [p]
                        dlList := (bs.take 64).map (fun q => { queue := q, head := s.headHeld q }) }
      if fail then s.failWaits bs else s

/-- DEADLOCK_EVALUATION: every whole microsecond of fabric time. -/
def doDeadlockEvaluation (s : Dev) : Dev :=
  if !s.flag Reg.SY_CTRL_DL_EN 0 then s
  else (List.range 64).foldl (fun s p => s.evaluate p) (s.reach ((s.now / 16000 + 1) * 16000))

/-- DEADLOCK_EVALUATION. -/
def execDeadlockEvaluation (s : State) : Host.Outcome State Fault Refusal := s.on doDeadlockEvaluation

end Sys2Proof.Machine
end

