-- ==== Sys2Proof/Machine/Remote.lean ====
section
/-! DEFINITION. The REMOTE commands (R133 to R135, R324, R328, R329). -/
namespace Sys2Proof
/-- PEER (R329). -/
def Cmd.peer (c : Cmd) : Nat := bits c.w2 63 48
/-- LENGTH of REMOTE_WRITE and REMOTE_READ. -/
def Cmd.length (c : Cmd) : Nat := bits c.w4 28 0
end Sys2Proof
namespace Sys2Proof.Machine

/-- LENGTH is out of range. -/
def lengthBad (c : Cmd) : Bool := c.length == 0 || decide (2 ^ 28 < c.length)

/-- Do `f` for a command whose peer the transport accepts, or complete the command at once (R324, R357). -/
def Dev.toPeer (s : Dev) (c : Cmd) (f : Dev → Dev) : Dev :=
  match s.peerRefused (s.cPart c) c.peer with
  | 0 => f s
  | st => s.failPeer c st c.peer

/-- The message of a command. -/
def cmdMsg (s : Dev) (c : Cmd) (typ : Nat) (ordered : Bool) (fin : MsgEnd) (ext : List Nat) (data : List Byte) : Msg :=
  { id := 0, peer := c.peer, part := s.cPart c, queue := c.queue, typ := typ, ordered := ordered, reply := false, fin := fin, ext := ext
    data := data, total := 1, incAt := 3 }

/-- REMOTE_WRITE: the source is read, and goes as WRITE packets. -/
def doRemoteWrite (c : Cmd) (s : Dev) : Dev :=
  if lengthBad c then s.badFormat c
  else
    let a := bits c.w2 47 0
    s.toPeer c (fun s =>
      let (bs, r) := s.loadFor (s.cPart c) a c.length
      let s := s.noteRefused (s.cPart c) r (some c)
      if refuseStatus r ≠ 0 then s.failSt c (refuseStatus r) (refuseAt a r) 0
      else s.post { cmdMsg s c 3 (bit c.w3 48) (.cmd c) [bits c.w3 47 0, c.length] bs with incAt := 0 })

/-- REMOTE_READ: a READ_REQ; the data comes back as READ_RESP. -/
def doRemoteRead (c : Cmd) (s : Dev) : Dev :=
  if lengthBad c then s.badFormat c
  else s.toPeer c (fun s => s.post (cmdMsg s c 1 false (.read c (bits c.w2 47 0) c.length) [bits c.w3 47 0, c.length] []))

/-- REMOTE_ATOMIC. -/
def doRemoteAtomic (c : Cmd) (s : Dev) : Dev :=
  let op := bits c.w3 51 48
  if 7 ≤ op ∨ bits c.w3 47 0 % 8 ≠ 0 then s.badFormat c
  else s.toPeer c (fun s => s.post (cmdMsg s c 5 false (.atomic c) [bits c.w3 47 0 + op * 2 ^ 48, c.w4.toNat, c.w5.toNat, 0] []))

/-- The bytes of some lanes as a SPLICE carries them (R133, R135). -/
def laneBytes (narrow : Bool) (vs : List Int) : List Byte :=
  (vs.map (fun v => if narrow then leBytes 4 (toFloat fmtFp32 v).1 else leBytes 12 (ofSigned 96 v))).flatten

/-- A remote splice whose source is IDLE: the source tests, then its region goes as SPLICE packets with the source's flags. -/
def Dev.remoteSplice (s : Dev) (c : Cmd) : Dev :=
  let t := bits c.w2 3 0
  let i := bits c.w2 10 4
  let narrow := bit c.w2 11
  let w := bits c.w3 36 0
  let g := regionField w
  let x := Site.live t
  match s.spliceSrc x i (s.cPart c) g false with
  | some e => s.failEv c e t i 0
  | none =>
    let d := s.siteDesc x i
    let w0 := w + b2n narrow * 2 ^ 37 + b2n (dSat d) * 2 ^ 38 + b2n (dIncomplete d) * 2 ^ 39 + b2n (dNarrow d) * 2 ^ 40
    s.toPeer c (fun s => s.post
      { cmdMsg s c 7 false (.cmd c) [w0, 0] (laneBytes narrow (s.laneValues x i g)) with
        chunk := if narrow then 4096 else 4092, incAt := 1, step := if narrow then 1024 else 341 })

/-- REMOTE_SPLICE: it waits for an IDLE source, as a local splice does (R123, R133). -/
def doRemoteSplice (c : Cmd) (s : Dev) : Dev :=
  let t := bits c.w2 3 0
  let i := bits c.w2 10 4
  if patchOf (s.desc t i) (s.cPart c) ∧ dState (s.desc t i) ≠ 0 then s.startWait (.patch t i) (.queue c.queue) (s.cPart c) 0 (some c)
  else s.remoteSplice c

/-- PATCH_STATE_IDLE: the commands of the tile that waited proceed, and so do remote splices. -/
def doPatchIdle (t d : Nat) (s : Dev) : Dev :=
  let cs := if dState (s.desc t d) ≠ 0 then [] else
    (s.waits.filter (fun w => decide (w.obj = .patch t d))).filterMap (fun w => w.c.filter (fun c => c.opcode == 0x43))
  cs.foldl (fun s c => s.remoteSplice c) (doPatchStateIdle t d s)

/-- REMOTE_WRITE. -/
def execRemoteWrite (c : Cmd) (s : State) : Host.Outcome State Fault Refusal := s.on (doRemoteWrite c)
/-- REMOTE_READ. -/
def execRemoteRead (c : Cmd) (s : State) : Host.Outcome State Fault Refusal := s.on (doRemoteRead c)
/-- REMOTE_ATOMIC. -/
def execRemoteAtomic (c : Cmd) (s : State) : Host.Outcome State Fault Refusal := s.on (doRemoteAtomic c)
/-- REMOTE_SPLICE. -/
def execRemoteSplice (c : Cmd) (s : State) : Host.Outcome State Fault Refusal := s.on (doRemoteSplice c)
/-- PATCH_STATE_IDLE. -/
def execPatchStateIdle (t d : Nat) (s : State) : Host.Outcome State Fault Refusal := s.on (doPatchIdle t d)

end Sys2Proof.Machine
end

