-- ==== Sys2Proof/Machine/Release.lean ====
section
/-! DEFINITION. Switching fabric keys and releasing a partition (R304, R349, R357, R364). -/
namespace Sys2Proof.Machine

/-- Show a partition's keys (R369). -/
def Dev.showKeys (s : Dev) (p : Nat) : Dev :=
  let k := fun (o : Option FKey) => (o.map (fun k => k.keyId)).getD 0
  let x := s.part p
  (((s.wr Reg.PA_PART_CFG_KEY_CUR p (k x.cur)).wr Reg.PA_PART_CFG_CUR_VALID p (b2n x.cur.isSome)).wr Reg.PA_PART_CFG_KEY_PREV p (k x.prev)).wr
    Reg.PA_PART_CFG_PREV_VALID p (b2n x.prev.isSome)

/-- The newest installed key of a partition becomes current (R357); its connections restart at PSN 0 under the new KEY_ID. -/
def Dev.switchKey (s : Dev) (p : Nat) : Dev :=
  match (s.part p).newest with
  | none => s
  | some k =>
    let s := (s.modPart p (fun x => { x with newest := none, cur := some k, prev := x.cur, switched := s.mono })).showKeys p
    let s := s.fab (fun x => { x with peers := (x.peers.map (fun (e : Nat × Peer) =>
      (e.1, { e.2 with conns := e.2.conns.erase p, wins := e.2.wins.erase (p * 256 + k.keyId)
                       ackSeq := if p = 0 then 0 else e.2.ackSeq }))).filter (fun e => e.2 ≠ {}) })
    s.settleFabric

/-- KEY_SWITCH. -/
def doKeySwitch (src : Src) (p : Nat) (s : Dev) : Dev :=
  if srcPart src ≠ 0 then s.foreign (srcPart src) else s.switchKey p

/-- What waits of a partition outside its queues is discarded: launches, DMA commands, coil commands held for READY. -/
def Dev.dropWaiting (s : Dev) (p : Nat) : Dev :=
  let mine := fun (c : Cmd) => s.cPart c == p
  let cs := (s.launches.filter (fun l => mine l.c)).map (fun l => l.c) ++ s.dmaWait.filter mine ++
    (s.coil.held.filter (fun x => mine x.2)).map (fun x => x.2)
  let s := { s with launches := s.launches.filter (fun l => !mine l.c), dmaWait := s.dmaWait.filter (fun c => !mine c) }
  let s := s.cs (fun x => { x with held := x.held.filter (fun y => !mine y.2) })
  cs.foldl (fun s c => s.failSt c stFlushed 0 0) s

/-- Engine `e` of a released partition: its routine ends, it is scrubbed and returns to partition 0. -/
def Dev.freeEngine (s : Dev) (e : Nat) : Dev :=
  let s := s.wr Reg.PA_ENG_OWNER_OWNER e 0
  let s := (if e < 64 then s.engineFail e stFlushed 0 else s.dropEngineWaits e).engineTo e 0
  let s := if 64 ≤ e then s.coreRuns (e - 64) else s
  s.nextLaunch e

/-- Tile `t` leaves partition `p` (R362, R364): a strict tile goes to partition 0; `p` leaves the share mask and its save area is
discarded. A tile that `p` holds passes on, without a save, at its handover point. -/
def Dev.freeTile (s : Dev) (p t : Nat) : Dev :=
  let s := if s.rd Reg.PA_TILE_CFG_OWNER t = p then s.wr Reg.PA_TILE_CFG_OWNER t 0 else s
  let s := s.wr Reg.PA_TILE_SHARE t (putBit (s.rd Reg.PA_TILE_SHARE t) p false)
  let s := s.modTile t (fun x => { x with saved := x.saved.filter (fun y => y.part ≠ p) })
  if s.holder t = p then doTileHandover t s
  else if (s.tile t).waiting.any (fun w => s.cPart w.2 == p) then s.regate t else s

/-- The granules that partition `p` owns, and those on their way to it. -/
def Dev.granulesIn (s : Dev) (p : Nat) : List Nat :=
  if p = 0 then [] else ((NMap.get [] s.regs Reg.PA_MEM_OWNER_OWNER.id).filter (fun e => e.2 == p)).map (fun e => e.1)

/-- Zero a released partition's granules and return them to partition 0; granules being zeroed for it go to partition 0. A lost
device's granule is never reassigned (R439). -/
def Dev.freeGranules (s : Dev) (p : Nat) : Dev :=
  let s := { s with zeroing := s.zeroing.map (fun (e : Nat × Nat) => if e.2 = p + 1 then (e.1, 1) else e) }
  ((s.granulesIn p).filter (fun g => !s.deviceLost (granuleRange g).1)).foldl (fun s g => s.startZeroing g 0) s

/-- Registers and records of a released partition return to their reset values: mailbox, breakpoints apart, synchronisation and
profiling counters, trace enable (R304, R364, R454). -/
def Dev.freeRegs (s : Dev) (p : Nat) : Dev :=
  let s := (Reg.table.filter (fun f => f.blk == .PA && decide (0x200 ≤ f.off))).foldl (fun s f => s.wr f p f.rst) s
  let s := [Reg.SY_PART_UNDERFLOWS, Reg.SY_PART_TIMEOUTS, Reg.SY_PART_DEADLOCKS, Reg.SY_PART_TMO_DEFAULT, Reg.TR_PCTRL_EN].foldl
    (fun s f => s.wr f p f.rst) s
  let s := (List.range 256).foldl (fun s i => s.wr Reg.PF_VAL (p * 256 + i) 0) s
  let s := (List.range 8).foldl (fun s i =>
    ((s.wr Reg.PF_FLT_BITMACS (p * 8 + i) 0).wr Reg.PF_FLT_STEPS (p * 8 + i) 0).wr Reg.PF_FLT_BYTES (p * 8 + i) 0) s
  { s with syEvents := s.syEvents.filter (fun e => e.2.part ≠ p), dlList := s.dlList.filter (fun e => s.qPart e.queue ≠ p) }

/-- The messages of a partition without keys end, and what it was receiving is given up. -/
def Dev.freeMessages (s : Dev) (p : Nat) : Dev :=
  let s := (s.fabric.msgs.filter (fun m => m.part = p)).foldl (fun s m => s.endMsg m stNoFkey) s
  (s.fabric.splices.filter (fun x => x.part = p)).foldl (fun s x => s.dropSplice x) s

/-- PARTITION_RELEASE (R349, R364). -/
def doPartitionRelease (src : Src) (p : Nat) (s : Dev) : Dev :=
  if srcPart src ≠ 0 then s.foreign (srcPart src)
  else if p = 0 ∨ s.rd Reg.PA_PART_CFG_STATE p ≠ 1 then s
  else
    let s := ((s.setPartState p 2).modPart p (fun _ => {})).showKeys p
    let s := ((s.queues.map (fun e => e.1)).filter (fun q => s.qPart q = p ∧ s.qState q ≠ 0)).foldl (fun s q => s.deleteQueue q true) s
    let s := (s.dropWaiting p).freeMessages p
    let s := s.scrubCoils p
    let s := ((List.range 84).filter (fun e => s.engineOwner e = p ∨ s.rd Reg.PA_ENG_OWNER_OWNER e = p)).foldl (fun s e => s.freeEngine e) s
    let s := s.wr Reg.PA_SAVE_BASE_BASE p 0
    let s := (List.range 16).foldl (fun s t => s.freeTile p t) s
    ((s.freeRegs p).freeGranules p).settleFabric

/-- PA_RELEASED (R364): nothing of the partition is still being scrubbed. -/
def doPaReleased (p : Nat) (s : Dev) : Dev :=
  if s.rd Reg.PA_PART_CFG_STATE p ≠ 2 ∨ (s.granulesIn p).any (fun g => !s.deviceLost (granuleRange g).1) ∨
      (List.range 16).any (fun t => s.holder t == p) then s
  else (s.setPartState p 0).report Ev.PA_RELEASED 0

/-- PARTITION_RELEASE. -/
def execPartitionRelease (src : Src) (p : Nat) (s : State) : Host.Outcome State Fault Refusal := s.on (fun d => d.at src .PA (doPartitionRelease src p))
/-- PA_RELEASED. -/
def execPaReleased (p : Nat) (s : State) : Host.Outcome State Fault Refusal := s.on (doPaReleased p)
/-- KEY_SWITCH. -/
def execKeySwitch (src : Src) (p : Nat) (s : State) : Host.Outcome State Fault Refusal := s.on (fun d => d.at src .PA (doKeySwitch src p))

end Sys2Proof.Machine
end

