-- ==== Sys2Proof/Machine/RegRules.lean ====
section
/-! DEFINITION. When a register takes a write: the conditions the register tables of spec/03 to spec/18 state beyond ranges,
and who may write which offset of a page (R93, R206, R345, R354, R360, R369, R445, R456, R477). -/
namespace Sys2Proof.Machine

/-- The index registers: each source has its own copy (R410). -/
def isIndex (b : Blk) (o : Nat) : Bool :=
  (match b with
  | .BT => [0x138] | .PM => [0x130, 0x140, 0x410] | .PA => [0x108, 0x128, 0x140, 0x150, 0x160] | .TR => [0x108]
  | .PF => [0x100, 0x200, 0x210] | .HI => [0x110] | .CS => [0x128, 0x138, 0x180, 0x1A0, 0x1B0]
  | .SY => [0x108, 0x138, 0x150, 0x170, 0x188, 0x1B8] | .QM => [0x128, 0x1A0] | .GT => [0x138] | .QS => [0x158, 0x178, 0x198]
  | .AC => [0x148] | .LK => [0x150] | .HM => [0x148] | .LL => [0x120, 0x168, 0x1B0] | .LS => [0x128] | .LF => [0x120]
  | .FX => [0x110] | .CC => [0x118] | _ => []).contains o

/-- The key under which source `src` writes field `f` of the register at `o`. -/
def Dev.writeKey (b : Blk) (i o e : Nat) (src : Src) (f : Field) : Nat :=
  if isIndex b o then win i (srcCode src) else fieldKey b i e f

/-! Conditions on a register -/

/-- Whether the row-buffer region a write of QS_ROWBUF names ends within staging and meets no other enabled one. -/
def Dev.rowbufOk (s : Dev) (q v : Nat) : Bool :=
  let a := Reg.QS_ROWBUF_BASE.of v * 4096
  decide (a + 0x80000 ≤ 0x4000000) &&
  (List.range 16).all (fun r => r == q || !s.flag Reg.QS_ROWBUF_EN r ||
    decide (a + 0x80000 ≤ s.rd Reg.QS_ROWBUF_BASE r * 4096) || decide (s.rd Reg.QS_ROWBUF_BASE r * 4096 + 0x80000 ≤ a))

/-- Whether no coil exists and EN is clear, so that the coil table may change (R477). -/
def Dev.tableFree (s : Dev) : Bool :=
  !s.flag Reg.CS_CTRL_EN 0 && s.coil.coils.all (fun e => e.2.state == 0 || e.2.state == 4)

/-- Whether a trace region of partition `p` keeps R445: in HBM, every granule owned by the partition; base 0 is none. -/
def Dev.regionOk (s : Dev) (p base size : Nat) : Bool :=
  base == 0 || (decide (base + size ≤ 8192) && (List.range size).all (fun k => s.owns p (base + k)))

/-- Whether a list entry may be written (R188): `inj` for the injected list. -/
def listOk (u : Nat) (inj : Bool) (v : Nat) : Bool :=
  decide (entryClass v ≤ 5) && !(entryClass v == 5 && (!inj || u == 16)) && !(inj && decide (8 < entryCount v))

/-- Whether partition `p` has a counter of ID `i` (R454): IDs not listed read zero. -/
def pfListed (p i : Nat) : Bool :=
  decide (i % 16 ≤ 8 ∧ i < 0x30) || decide (0x30 ≤ i ∧ i ≤ 0x35) || decide (0x38 ≤ i ∧ i ≤ 0x3A) || decide (0x3C ≤ i ∧ i ≤ 0x40) ||
  (p == 0 && decide (0x48 ≤ i ∧ i ≤ 0x51))

/-- Whether the register at offset `o` takes value `v` now: its ranges (R407) and what its chapter asks. -/
def Dev.accepts (s : Dev) (b : Blk) (i o e v : Nat) : Bool :=
  valueOk b o e v &&
  match b with
  | .QS => if o = 0x108 then s.rowbufOk i v else true
  | .CS => if o = 0x108 ∨ o = 0x110 ∨ o = 0x118 then s.tableFree
      else if o = 0x130 then s.tableFree && !(s.poolChunks (e % 8) (e / 8)).any s.chunkUsed else true
  | .QM => if 0x130 ≤ o ∧ o ≤ 0x140 then s.qState e == 0 else true
  | .PA => if o = 0x120 then Reg.PA_SAVE_BASE_BASE.of v == 0 || (s.wr Reg.PA_SAVE_BASE_BASE e (Reg.PA_SAVE_BASE_BASE.of v)).saveOk e
      else if o = 0x170 then (bitsSet 64 v).all s.saveOk else true
  | .TR => if o = 0x110 then !s.flag Reg.TR_PCTRL_EN e && s.regionOk e (Reg.TR_REGION_BASE.of v) (s.rd Reg.TR_SIZE_SIZE e)
      else if o = 0x118 then s.regionOk e (s.rd Reg.TR_REGION_BASE e) (Reg.TR_SIZE_SIZE.of v) else true
  | .GT => if o = 0x130 then decide ((if s.rd Reg.GT_CTRL_MODE 0 = 0 then 12 else 0) + 2 + 2 * Reg.GT_TIMING_PATH_MAX.of v < Reg.GT_TIMING_ACK_TMO.of v)
      else true
  | .PF => if o = 0x208 then pfListed (e / 256) (e % 256) else true
  | .LL => if o = 0x128 then listOk i (decide (4096 ≤ e)) v else true
  | _ => true

/-- Whether field `f` takes a write of its register with value `v`: fields that keep their value alone, fields that ignore
writes while an enable is set, and fields that are read-only under a condition. -/
def Dev.fieldOpen (s : Dev) (f : Field) (i v : Nat) : Bool :=
  (!keepsAlone f || inRange f (f.of v)) &&
  match f.blk with
  | .PT => f.id != Reg.PT_CTRL_QRATE.id || i % 4 == 0
  | .FX => !(f.id == Reg.FX_CTRL_MODE.id || f.id == Reg.FX_CTRL_FOLD.id) || !s.flag Reg.FX_CTRL_EN i
  | .GT =>
    if f.off = 0x100 then f.id == Reg.GT_CTRL_EN.id || f.id == Reg.GT_CTRL_STATIC_ROUTES.id || !s.flag Reg.GT_CTRL_EN 0
    else if f.off = 0x108 then !s.flag Reg.GT_CTRL_EN 0 && (f.id != Reg.GT_NODE_FNID.id || Reg.GT_NODE_STATIC.of v == 1)
    else if f.off = 0x120 ∨ f.off = 0x128 then !s.flag Reg.GT_CTRL_EN 0
    else if f.off = 0x140 then s.flag Reg.GT_CTRL_STATIC_ROUTES 0
    else true
  | .LL => i != 16 || !(f.id == Reg.LL_CTRL_INJ_ALARM.id || f.id == Reg.LL_CTRL_INJ_HINT.id)
  | _ => true

/-! Who may write (R353, R354, R369, R456, R457) -/

/-- Whether partition `p` may write offset `o` of page `b`, `i`. Partition 0 manages every PT page at PAGE_STATUS, PAGE_ERR and
PT_CTRL; every partition has its own view of the TR, PF and PA windows from 0x200 on. -/
def Dev.mayWrite (s : Dev) (p : Nat) (b : Blk) (i o : Nat) : Bool :=
  s.pageOwner (pageOf b i) == p ||
  (match b with
  | .PT => p == 0 && (o == 0x18 || o == 0x20 || o == 0x100)
  | .TR => decide (0x200 ≤ o) && decide (o ≤ 0x220)
  | .PF => (decide (0x200 ≤ o) && decide (o ≤ 0x238)) || o == 0x10
  | .PA => decide (0x200 ≤ o) && decide (o ≤ 0x280)
  | _ => false)

/-! Counters (R404, R408) -/

/-- The key of a page's PAGE_CTRL for source `src`: the PF page has one for each partition's view (R457). -/
def Dev.ctrlKey (s : Dev) (b : Blk) (i : Nat) (src : Src) : Nat :=
  if b = .PF then pageOf b i + 256 * (if srcPart src = 0 then s.idxPacked .PF 0 0x100 src else srcPart src) else pageOf b i

/-- The coincident update of field `f`. -/
def hwOf (hw : List Coincident) (f : Field) : Nat := ((hw.find? (fun c => c.lo == f.lo)).map (fun c => c.value)).getD 0

/-- The hardware's own updates of a register whose write is ignored. -/
def Dev.hwOnly (s : Dev) (src : Src) (b : Blk) (i o e : Nat) (hw : List Coincident) : Dev :=
  if o = 0x20 then s.setErr (pageOf b i) ((hw.map (fun c => c.value * 2 ^ c.lo)).foldl (fun a x => a ||| x) 0)
  else if s.flag Reg.PAGE_CTRL_CNT_FREEZE (s.ctrlKey b i src) then s
  else ((fieldsAt b o).filter (fun f => f.acc == .rwh)).foldl (fun s f =>
    let k := Dev.writeKey b i o e src f
    s.wr f k (s.rd f k + hwOf hw f)) s

/-- One field takes a write (R407, R408): a counter takes the value and then the coincident increment. -/
def Dev.putField (s : Dev) (src : Src) (b : Blk) (i o e v : Nat) (hw : List Coincident) (f : Field) : Dev :=
  let k := Dev.writeKey b i o e src f
  match f.acc with
  | .rw => s.setBy src f k (f.of v)
  | .rwh => s.wr f k (f.of v + (if s.flag Reg.PAGE_CTRL_CNT_FREEZE (s.ctrlKey b i src) then 0 else hwOf hw f))
  | _ => s

/-- A register without further effect takes a write, field by field. Which fields are open is judged before any changes. -/
def Dev.plain (s : Dev) (src : Src) (b : Blk) (i o e v : Nat) (hw : List Coincident) : Dev :=
  ((fieldsAt b o).filter (fun f => s.fieldOpen f i v)).foldl (fun t f => t.putField src b i o e v hw f) s

end Sys2Proof.Machine
end

