-- ==== Sys2Proof/Machine/Start.lean ====
section
/-! DEFINITION. Input power, resets and the start-up sequence up to RESTORE (R371 to R391, R463). -/
namespace Sys2Proof.Machine

/-- Change the management island's own state. -/
def Dev.bt (s : Dev) (f : Boot → Boot) : Dev := { s with boot := f s.boot }

/-! What a module reset leaves (R373, R376, R397, R407) -/

/-- The code of the block that a field number belongs to. -/
def blkOfId (n : Nat) : Nat := n / 262144

/-- The register fields of the BT and FL pages, which the management island keeps until BOOT (R397): their own registers, and
PAGE_CTRL, PAGE_STATUS and PAGE_ERR of the two pages. -/
def Dev.islandRegs (s : Dev) : NMap (NMap Nat) :=
  let hdr := [Reg.PAGE_CTRL_CNT_FREEZE.id, Reg.PAGE_STATUS_HW_LOST.id, Reg.PAGE_STATUS_BAD_WIDTH.id, Reg.PAGE_ERR.id]
  ((s.regs.filter (fun e => blkOfId e.1 == Blk.BT.code || blkOfId e.1 == Blk.FL.code || hdr.contains e.1)).map
    (fun e => if hdr.contains e.1 then (e.1, e.2.filter (fun x => x.1 == pageOf .BT 0 || x.1 == pageOf .FL 0)) else e)).filter
      (fun e => !e.2.isEmpty)

/-- The flash operation in progress completes in the device (R379). -/
def Dev.flSettle (s : Dev) : Dev :=
  let s := match s.boot.op with
    | some o => if o.op = 2 then s.flPut o.addr o.data else if o.op = 1 then s else s.flErase o.addr o.len
    | none => s
  (s.bt (fun b => { b with op := none })).wr Reg.FL_STATUS_BUSY 0 0

/-- Everything but the management island stops and is lost; PM_THERMTRIP outlives it (R423). -/
def Dev.moduleReset (s : Dev) : Dev :=
  let s := s.flSettle
  let trip := s.rd Reg.PAGE_ERR (pageOf .PM 0) &&& 2 ^ Ev.PM_THERMTRIP.bit
  let t : Dev := { regs := s.islandRegs, mono := s.mono, seed := s.seed, msix := s.msix, fabric := { net := s.fabric.net }
                   boot := { s.boot with pending := [], pendingKey := false, skips := 0, hit := false, beenReady := false } }
  t.wr Reg.PAGE_ERR (pageOf .PM 0) trip

/-- The module enters STANDBY (R371). -/
def Dev.standby (s : Dev) : Dev :=
  (s.bt (fun b => { b with t0 := s.mono, wasMod := b.modLow, wasPerst := b.perstLow })).enter 1

/-- On entry to BOOT PAGE_ERR and the fields that reset to 0 are cleared on the BT and FL pages (R397). -/
def Dev.clearIsland (s : Dev) : Dev :=
  let keep := [Reg.BT_BOOT_COUNT_COUNT.id, Reg.BT_FW_SEL_SFW_PREF.id, Reg.BT_FW_SEL_PFW_PREF.id]
  let s : Dev := { s with regs := s.regs.filter (fun e => keep.contains e.1 || !(blkOfId e.1 == Blk.BT.code || blkOfId e.1 == Blk.FL.code)) }
  [pageOf .BT 0, pageOf .FL 0].foldl (fun s p => [Reg.PAGE_CTRL_CNT_FREEZE, Reg.PAGE_STATUS_HW_LOST, Reg.PAGE_STATUS_BAD_WIDTH,
    Reg.PAGE_ERR].foldl (fun s f => s.wr f p 0) s) (s.bt (fun b => { b with flData := [] }))

/-- The module enters BOOT (R373, R374): the core rails rise and partition 0 takes its memory keys. `hold` is the length of the
reset in milliseconds. -/
def Dev.enterBoot (s : Dev) (hold : Nat) : Dev :=
  let s := (s.clearIsland.bt (fun b => { b with t0 := s.mono })).enter 2
  let s := ((s.wr Reg.BT_RESET_LAST_HOLD_MS 0 (min hold (2 ^ 32 - 1))).wr Reg.BT_RESET_LAST_MOD 0 (b2n s.boot.wasMod)).wr
    Reg.BT_RESET_LAST_PERST 0 (b2n s.boot.wasPerst)
  let s := (s.wr Reg.PM_VCORE_SET_MV 0 750).fresh
  (s.setPartState 0 1).modPart 0 (fun p => { p with memKey := s.seed })

/-- Whether every junction reading, of sensors 0 to 30, is below a limit in 1/16 °C (R423). -/
def Dev.junctionsBelow (s : Dev) (lim : Int) : Bool := s.boot.temps.all (fun e => decide (30 < e.1) || decide (e.2 < lim))

/-- STANDBY is left for BOOT once both inputs are recognised high, after a thermal trip only when cool again (R376, R423). -/
def Dev.leaveStandby (s : Dev) (hold : Nat) : Dev :=
  if s.bootState ≠ 1 ∨ !s.boot.power ∨ s.boot.modLow ∨ s.boot.perstLow then s
  else if s.boot.trip = 0 then s.enterBoot hold
  else if s.boot.trip = 2 ∧ s.junctionsBelow (95 * 16) then (s.bt (fun b => { b with trip := 0 })).enterBoot hold
  else s

/-! Input power (R463) -/

/-- INPUT_POWER_VALID. -/
def doInputPowerValid (s : Dev) : Dev :=
  if s.boot.power then s else (s.bt (fun b => { b with power := true })).standby

/-- INPUT_POWER_LOSS: the module is OFF, its latch, its stuck bits and every volatile state lost. A program in progress ends
within the time FLASH_1V8 is held; what an erase cut short leaves is unknown. -/
def doInputPowerLoss (s : Dev) : Dev :=
  if !s.boot.power then s
  else
    let s := match s.boot.op with
      | some o => if 3 ≤ o.op then (s.flSpoil o.addr o.len).bt (fun b => { b with op := none }) else s
      | none => s
    let s := s.moduleReset
    ({ s with regs := [] }.bt (fun b => { b with power := false, bypass := false, trip := 0, temps := [], smPtr := 0, flData := [] })).wr
      Reg.BT_STATE_STATE 0 0

/-- PM_INPUT_RANGE. -/
def doPmInputRange (s : Dev) : Dev := if s.boot.power then s.report Ev.PM_INPUT_RANGE 0 else s

/-- PM_RAIL_FAULT (R464). -/
def doPmRailFault (_rail : Nat) (s : Dev) : Dev := if s.boot.power then s.report Ev.PM_RAIL_FAULT 0 else s

/-! Reset inputs (R376 to R379) -/

/-- The stuck bit of a reset input. -/
def stuckBit : ResetInput → Field
  | .modReset => Reg.BT_STATUS_STUCK_MOD
  | .perst => Reg.BT_STATUS_STUCK_PERST

/-- Whether an input is recognised low. -/
def Dev.inputLow (s : Dev) : ResetInput → Bool
  | .modReset => s.boot.modLow
  | .perst => s.boot.perstLow

/-- Set the recognised level of an input. -/
def Dev.setInput (s : Dev) (i : ResetInput) (low : Bool) : Dev :=
  s.bt (fun b => match i with
    | .modReset => { b with modLow := low }
    | .perst => { b with perstLow := low })

/-- RESET_RECOGNISED_LOW: the module returns to STANDBY, or stays there. -/
def doResetRecognisedLow (i : ResetInput) (s : Dev) : Dev :=
  let s := s.setInput i true
  if !s.boot.power then s
  else
    let s := s.bt (fun b => { b with trip := if b.trip = 1 then 2 else b.trip })
    if s.bootState = 1 then s.bt (fun b => { b with wasMod := b.wasMod || b.modLow, wasPerst := b.wasPerst || b.perstLow })
    else s.moduleReset.standby

/-- A reset input is recognised high: its stuck bit clears, and the release of MOD_RESET_N sets or clears the bypass latch by
the length of its hold. -/
def Dev.inputHigh (s : Dev) (i : ResetInput) (holdMs : Nat) : Dev :=
  let s := if s.boot.power && i == .modReset && s.boot.modLow then s.bt (fun b => { b with bypass := decide (8000 ≤ holdMs) }) else s
  ((s.setInput i false).wr (stuckBit i) 0 0).leaveStandby holdMs

/-- RESET_RELEASE: both inputs are recognised high. -/
def doResetRelease (i : ResetInput) (holdMs : Nat) (s : Dev) : Dev := s.inputHigh i (if s.inputLow i then holdMs else 0)

/-- RESET_INPUT_RECOGNISED_HIGH: the other input may still be low. -/
def doResetInputRecognisedHigh (i : ResetInput) (holdMs : Nat) (s : Dev) : Dev := if s.inputLow i then s.inputHigh i holdMs else s

/-- BT_RESET_STUCK: an input recognised low for more than 60 s. -/
def doBtResetStuck (i : ResetInput) (s : Dev) : Dev :=
  if s.boot.power && s.inputLow i then (s.wr (stuckBit i) 0 1).report Ev.BT_RESET_STUCK 0 else s

/-- Whether ALERT_N is asserted (R378, R423). -/
def Dev.alert (s : Dev) : Bool :=
  s.boot.power && (s.flag Reg.BT_STATUS_STUCK_MOD 0 || s.flag Reg.BT_STATUS_STUCK_PERST 0 || s.flag Reg.PM_THERM_WARN 0)

/-- REBOOT (R379, R397): a SAVE, and then a hold of 10 µs on MOD_RESET_N that never latches the bypass. -/
def doReboot (src : Src) (s : Dev) : Dev :=
  s.at src .BT (fun s => s.own0 src (fun s =>
    if s.bootState < 7 then s
    else
      let s := s.saveAll.moduleReset.standby
      (s.bt (fun b => { b with wasMod := true, bypass := false })).leaveStandby 0))

/-! The PCIe link (R373, R425 to R427) -/

/-- PCIE_CONFIG_REQUEST: completed from 100 ms after PERST# rises, else answered with Configuration Request Retry Status. -/
def doPcieConfigRequest (msSincePerst : Nat) (s : Dev) : Dev :=
  if s.bootState < 2 then s else s.bt (fun b => { b with cfgOut := b.cfgOut ++ [decide (100 ≤ msSincePerst)] })

/-- PCIE_LINK_UP: 64 GT/s runs in FLIT mode. -/
def doPcieLinkUp (speed width : Nat) (s : Dev) : Dev :=
  if s.bootState < 2 ∨ speed < 1 ∨ 6 < speed ∨ !([1, 4, 8, 16].contains width) then s
  else
    let s := (((s.wr Reg.HI_LINK_SPEED 0 speed).wr Reg.HI_LINK_WIDTH 0 width).wr Reg.HI_LINK_FLIT 0 (b2n (speed == 6))).wr Reg.HI_LINK_UP 0 1
    if speed < 6 ∨ width < 16 then s.report Ev.HI_SPEED_DEGRADED 0 else s

/-- HI_LINK_DOWN. -/
def doHiLinkDown (s : Dev) : Dev :=
  if !s.flag Reg.HI_LINK_UP 0 then s
  else
    let s := [Reg.HI_LINK_SPEED, Reg.HI_LINK_WIDTH, Reg.HI_LINK_FLIT, Reg.HI_LINK_UP].foldl (fun s f => s.wr f 0 0) s
    (s.bump Reg.HI_LINK_DOWNS 0 1).report Ev.HI_LINK_DOWN 0

/-! BOOT (R374, R380, R381, R390) -/

/-- Start-up cannot continue (R371). -/
def Dev.limited (s : Dev) (cause : Nat) : Dev := (s.wr Reg.BT_STATE_LIMIT 0 cause).enter 9

/-- BOOT_COMPLETE: the flash is identified, the boot header read and the factory record checked. -/
def doBootComplete (s : Dev) : Dev :=
  if s.bootState ≠ 2 then s
  else match s.boot.sfdp.filter (fun f => decide (26 ≤ f.log2) && decide (f.log2 ≤ 28)) with
  | none => (s.report Ev.BT_FLASH 0).limited 1
  | some f =>
    let s := (((s.wr Reg.FL_INFO_LOG2_SIZE 0 f.log2).wr Reg.FL_INFO_MODE 0 f.mode).wr Reg.FL_INFO_FREQ_MHZ 0 (min f.mhz 100)).wr Reg.FL_INFO_SFDP_OK 0 1
    let h := s.header
    let s := s.wr Reg.BT_STATUS_HDR_OK 0 (b2n h.isSome)
    let s := (s.wr Reg.BT_FW_SEL_SFW_PREF 0 ((h.map (fun x => x.2.2.1)).getD 0)).wr Reg.BT_FW_SEL_PFW_PREF 0 ((h.map (fun x => x.2.2.2)).getD 0)
    if Config.factoryAccepted (NMap.range s.boot.flash 0x2B10000 0x4000000) (s.rd Reg.ID_SERIAL 0) then
      (s.wr Reg.BT_STATUS_FACTORY_OK 0 1).enter 3
    else (s.report Ev.BT_FACTORY_RECORD 0).limited 2

/-! RESTORE: the settings journal (R387, R388) -/

/-- The active journal copy and its GEN (R386). -/
def Dev.activeCopy (s : Dev) : Option (Nat × Nat) :=
  match s.headerGen 0, s.headerGen 1 with
  | some a, some b => if a < b then some (1, b) else some (0, a)
  | some a, none => some (0, a)
  | none, some b => some (1, b)
  | none, none => none

/-- A setting comes into force in RESTORE. The symbol rate of a quadrant is the one its clock starts at (R90, R93). -/
def Dev.restoreField (s : Dev) (f : Field) (k v : Nat) : Dev :=
  let s := s.wr f k v
  if f.id = Reg.PT_CTRL_TILE_EN.id then (if v = 1 then s.modTile k (fun x => { x with everOn := true }) else s)
  else if f.id = Reg.PT_CTRL_QRATE.id then
    (quadTiles (k / 4)).foldl (fun s t => (s.wr Reg.PT_CTRL_QRATE t v).wr Reg.PT_STATUS_QRATE_NOW t v) s
  else s

/-- A SETTING record (R385, R387): the bits of its mask, as if partition 0 wrote the register; a record that names no setting, or
whose value the register would ignore, is skipped and reported. -/
def Dev.replaySetting (s : Dev) (reg idx v m : Nat) : Dev :=
  let ignored := s.report Ev.BT_SETTING_IGNORED 0
  let fs := (settingsOf reg idx).filter (fun x => m / 2 ^ x.1.lo % 2 ^ x.1.width != 0)
  match pageAt reg, fs with
  | none, _ => ignored
  | _, [] => ignored
  | some (b, i), fs =>
    let o := reg % 0x1000
    let cur := (((fieldsAt b o).filter (fun f => f.acc == .rw)).map (fun f => s.rd f (fieldKey b i idx f) * 2 ^ f.lo)).sum
    let new := (cur - (cur &&& m)) ||| (v &&& m)
    if !s.accepts b i o idx new then ignored
    else (fs.filter (fun x => s.fieldOpen x.1 i new)).foldl (fun s x => s.restoreField x.1 x.2 (x.1.of new)) s

/-- An FKEY record: partition 0's key, unwrapped, is the current one. -/
def Dev.replayKey (s : Dev) (keyId w : Nat) : Dev :=
  let s := (s.bt (fun b => { b with wrapped := some (keyId, w) })).modPart 0 (fun p => { p with cur := some ⟨keyId, Config.keyUnwrap w⟩ })
  (s.wr Reg.PA_PART_CFG_KEY_CUR 0 keyId).wr Reg.PA_PART_CFG_CUR_VALID 0 1

/-- Replay copy `c` from slot `n` (R387): the newest boot count comes back beside the state. -/
def Dev.replay (c : Nat) : Nat → Nat → Option Nat → Dev → Dev × Option Nat
  | 0, n, k, s => (s.wr Reg.BT_JOURNAL_USED 0 n, k)
  | fuel + 1, n, k, s =>
    if journalSlots ≤ n ∨ (s.notBlank (journalBase c + 32 * n) 32).isNone then (s.wr Reg.BT_JOURNAL_USED 0 n, k)
    else
      let typ := leNat (s.slotBytes c n 1 |>.take 1)
      let len := if typ = 4 then 2 else 1
      let b := s.slotBytes c n len
      let word := fun (i : Nat) => leNat ((b.drop (8 * i)).take 8)
      if !crcOk b then Dev.replay c fuel (n + 1) k s
      else
        let s := if s.boot.bypass then s
          else if typ = 1 then s.replaySetting (word 1 % 2 ^ 32) (word 1 / 2 ^ 32) (word 2) (word 3)
          else if typ = 4 then s.replayKey (word 1 % 256) (leNat ((b.drop 16).take 40))
          else s
        Dev.replay c fuel (n + len) (if typ = 2 then some (word 2 % 2 ^ 32) else k) s

/-- The journal's part of RESTORE. -/
def Dev.restoreJournal (s : Dev) : Dev :=
  let s := s.bt (fun b => { b with wrapped := none })
  let (s, k) := match s.activeCopy with
    | some (c, g) =>
      let s := ((s.wr Reg.BT_STATUS_JOURNAL_OK 0 1).wr Reg.BT_JOURNAL_COPY 0 c).wr Reg.BT_JOURNAL_GEN 0 g
      Dev.replay c journalSlots 1 none s
    | none =>
      let s := (s.report Ev.BT_JOURNAL_INVALID 0).flErase (journalBase 0) 0x80000
      let s := ((s.putRecord 0 0 (record 0 0 0 1 0)).wr Reg.BT_JOURNAL_COPY 0 0).wr Reg.BT_JOURNAL_GEN 0 1
      (s.wr Reg.BT_JOURNAL_USED 0 1, none)
  let s := if s.boot.bypass then
      ((s.wr Reg.BT_STATUS_BYPASS 0 1).report Ev.BT_BYPASS 0).bt (fun b => { b with bypass := false })
    else s
  let s := s.wr Reg.GT_NODE_VALID 0 (s.rd Reg.GT_NODE_STATIC 0)
  let (s, n) := match k with
    | some n => (s, n + 1)
    | none => (s.fresh, Config.randomCount s.seed % 65536)
  let s := s.wr Reg.BT_BOOT_COUNT_COUNT 0 n
  s.append (record 2 0 0 (s.rd Reg.BT_BOOT_COUNT_COUNT 0) 0)

/-! RESTORE: the calibration store (R160, R181, R195, R213, R389, R391) -/

/-- Whether the Miscellaneous area has ever been written. -/
def CalStore.miscValid (c : CalStore) : Bool := !c.maps.isEmpty || c.coefs.isSome || !c.biases.isEmpty

/-- The tables of the module: from the store, or from the factory record on a factory start. A crosstalk table that fails its
check is off (R160). -/
def Dev.restoreTables (s : Dev) : Dev :=
  let s := if s.boot.cal.tables then s.wr Reg.BT_STATUS_CALSTORE_OK 0 1
    else (s.wr Reg.BT_STATUS_FACTORY_START 0 1).report Ev.BT_CALSTORE 0
  (List.range 16).foldl (fun s t =>
    let s := if Config.tableGood t s.seed then
        ((s.fresh.wr Reg.LK_STATUS_FF_OK t 1).wr Reg.LK_TABLES_FF_CRC t (Config.tableCrc t)).wr Reg.LK_TABLES_FF_VERSION t (Config.tableVersion t)
      else (s.fresh.wr Reg.LK_STATUS_FF_OK t 0).report Ev.LK_FF_TABLE t
    s.modRings t (fun x => { x with ditherFrom := some s.frames })) s

/-- Set-point images and temperatures of the tiles; a factory start has no valid image. -/
def Dev.restorePoints (s : Dev) : Dev :=
  let s := (List.range 16).foldl (fun s t =>
    let p := NMap.get [] s.boot.cal.points t
    if !s.boot.cal.tables ∨ p.isEmpty then s
    else
      ((s.modRings t (fun x => { x with image := p })).wr Reg.LK_STATUS_SP_OK t 1).fresh.wr Reg.LK_TABLES_SP_VERSION t (Config.imageVersion s.seed)) s
  s.boot.cal.temps.foldl (fun s e => (s.wr Reg.PM_CAL_RUN_TEMP e.1 e.2.1).wr Reg.HM_TEMP_CAL_TEMP e.1 e.2.2) s

/-- Maps, coefficients, biases and lost lines. -/
def Dev.restoreMisc (s : Dev) : Dev :=
  let c := s.boot.cal
  if !c.miscValid then (List.range 17).foldl (fun s u => s.report Ev.LL_COEF u) (s.report Ev.PM_CAL_STORE 0)
  else
    let s := (List.range 16).foldl (fun s t =>
      match NMap.get none c.maps t with
      | none => s
      | some m => (s.modTile t (fun x => { x with subs := m })).showMap t) s
    let s := match c.coefs with
      | some m => (m.foldl (fun s e => s.modUnit (e.1 / 8) (fun x => { x with coefs := NMap.set (0, 0) x.coefs (e.1 % 8) e.2 })) s).modUnit 16
          (fun x => { x with ratioRef := c.ratio })
      | none => s
    let s := (List.range 4).foldl (fun s q => s.modComb q (fun x => { x with bias0 := NMap.get none c.biases q })) s
    c.lost.foldl (fun s e => if e.2 = 64 then s.wr (lineLostBit e.1) 0 1
      else s.wr Reg.LS_STATUS_LOST e.1 (putBit (s.rd Reg.LS_STATUS_LOST e.1) e.2 true)) s

/-- RESTORE_COMPLETE. -/
def doRestoreComplete (s : Dev) : Dev :=
  if s.bootState ≠ 3 then s else s.restoreJournal.restoreTables.restorePoints.restoreMisc.enter 4

/-- INPUT_POWER_VALID. -/
def execInputPowerValid (s : State) : Host.Outcome State Fault Refusal := s.on doInputPowerValid
/-- INPUT_POWER_LOSS. -/
def execInputPowerLoss (s : State) : Host.Outcome State Fault Refusal := s.on doInputPowerLoss
/-- PM_INPUT_RANGE. -/
def execPmInputRange (s : State) : Host.Outcome State Fault Refusal := s.on doPmInputRange
/-- PM_RAIL_FAULT. -/
def execPmRailFault (rail : Nat) (s : State) : Host.Outcome State Fault Refusal := s.on (doPmRailFault rail)
/-- RESET_RECOGNISED_LOW. -/
def execResetRecognisedLow (i : ResetInput) (s : State) : Host.Outcome State Fault Refusal := s.on (doResetRecognisedLow i)
/-- RESET_RELEASE. -/
def execResetRelease (i : ResetInput) (holdMs : Nat) (s : State) : Host.Outcome State Fault Refusal := s.on (doResetRelease i holdMs)
/-- RESET_INPUT_RECOGNISED_HIGH. -/
def execResetInputRecognisedHigh (i : ResetInput) (holdMs : Nat) (s : State) : Host.Outcome State Fault Refusal := s.on (doResetInputRecognisedHigh i holdMs)
/-- BT_RESET_STUCK. -/
def execBtResetStuck (i : ResetInput) (s : State) : Host.Outcome State Fault Refusal := s.on (doBtResetStuck i)
/-- REBOOT. -/
def execReboot (src : Src) (s : State) : Host.Outcome State Fault Refusal := s.on (doReboot src)
/-- PCIE_CONFIG_REQUEST. -/
def execPcieConfigRequest (ms : Nat) (s : State) : Host.Outcome State Fault Refusal := s.on (doPcieConfigRequest ms)
/-- PCIE_LINK_UP. -/
def execPcieLinkUp (speed width : Nat) (s : State) : Host.Outcome State Fault Refusal := s.on (doPcieLinkUp speed width)
/-- HI_LINK_DOWN. -/
def execHiLinkDown (s : State) : Host.Outcome State Fault Refusal := s.on doHiLinkDown
/-- BOOT_COMPLETE. -/
def execBootComplete (s : State) : Host.Outcome State Fault Refusal := s.on doBootComplete
/-- RESTORE_COMPLETE. -/
def execRestoreComplete (s : State) : Host.Outcome State Fault Refusal := s.on doRestoreComplete

end Sys2Proof.Machine
end

