-- ==== Sys2Proof/Machine/Boot.lean ====
section
/-! DEFINITION. The start-up sequence from FWLOAD on, power and temperature (R374, R392 to R395, R421 to R423). -/
namespace Sys2Proof.Machine

/-! FWLOAD: firmware images (R392 to R394) -/

/-- A little-endian field of the image in a slot. -/
def Dev.imageLe (s : Dev) (kind slot off n : Nat) : Nat := s.flLe (slotBase kind slot + off) n

/-- The bytes of a slot from `lo` to `hi`, by offset in the slot. -/
def Dev.imageBytes (s : Dev) (kind slot lo hi : Nat) : List (Nat × Byte) :=
  (NMap.range s.boot.flash (slotBase kind slot + lo) (slotBase kind slot + hi)).map (fun e => (e.1 - slotBase kind slot, e.2))

/-- Whether the image in a slot verifies (R393): MAGIC and KIND, BODY_LEN, the signature and the hash of the body. -/
def Dev.verifies (s : Dev) (kind slot : Nat) : Bool :=
  let len := s.imageLe kind slot 0x10 4
  s.imageLe kind slot 0 4 == 0x57464448 && s.imageLe kind slot 4 1 == kind && decide (len ≤ slotSize kind - 512) &&
  decide (s.imageLe kind slot 5 1 ≤ 1) && Config.signed (s.imageLe kind slot 5 1) (s.imageBytes kind slot 0 0x160) &&
  Config.bodyHash (s.imageBytes kind slot 0x200 (0x200 + len)) len == s.imageLe kind slot 0x20 48

/-- The slot a kind runs from, and whether it is the fallback; none where neither verifies. -/
def Dev.chooseSlot (s : Dev) (kind pref : Nat) : Option (Nat × Bool) :=
  if s.verifies kind pref then some (pref, false) else if s.verifies kind (1 - pref) then some (1 - pref, true) else none

/-- The interface versions of a list of an image header: `n` entries from an offset. -/
def Dev.imageVers (s : Dev) (kind slot off n : Nat) : List Nat := (List.range n).map (fun i => s.imageLe kind slot (off + 2 * i) 2)

/-- A port is enabled: lane l takes channel l in direct mode (R312), and channel 2l in switched mode (R217). -/
def Dev.portOn (s : Dev) (port : Nat) : Dev :=
  if s.flag Reg.FX_CTRL_EN port then s
  else
    let s := s.wr Reg.FX_CTRL_EN port 1
    let c := fun (l : Nat) => if s.directPort port then l else 2 * l
    let s := (s.lanesOf port).foldl (fun s l => s.modOptic (laneKey port l) (fun x => { x with channel := c l, rxChannel := c l, target := c l, tuned := true })) s
    s.showPort port

/-- A port is disabled: its links go down. -/
def Dev.portOff (s : Dev) (port : Nat) : Dev :=
  if !s.flag Reg.FX_CTRL_EN port then s
  else
    let s := s.wr Reg.FX_CTRL_EN port 0
    let s := (List.range 8).foldl (fun s l =>
      (s.unlock (laneKey port l)).linkDown (laneKey port l)) s
    (s.showPort port).settleFabric

/-- WARMUP begins (R374): the combs start; the pools are being zeroed, and CS_READY puts the context store in service. The engines'
start-up test has been made (R372). -/
def Dev.enterWarmup (s : Dev) : Dev :=
  let s := (s.bt (fun b => { b with warmAt := s.mono })).enter 5
  let s := s.fresh.degrade .engine (Config.engineTestFails s.seed)
  let s := (List.range 4).foldl (fun s q => (s.wr Reg.LS_CTRL_EN q 1).combStart q) s
  s.updQuad

/-- The checks of the selected pair (R394), then WARMUP. -/
def Dev.pairUp (s : Dev) (a b : Nat) : Dev :=
  let va := s.imageLe 1 a 6 2
  let vb := s.imageLe 2 b 6 2
  if va / 256 ≠ vb / 256 then (s.report Ev.BT_FW_MISMATCH 0).limited 4
  else if s.imageLe 1 a 0xC 4 % 2 = 0 ∨ s.imageLe 2 b 0xC 4 % 2 = 0 then (s.report Ev.BT_FW_MISMATCH 0).limited 5
  else
    let s := ((s.wr Reg.BT_FW_SFW_IF_VER 0 va).wr Reg.BT_FW_SFW_BUILD 0 (s.imageLe 1 a 8 4))
    let s := ((s.wr Reg.BT_FW_PFW_IF_VER 0 vb).wr Reg.BT_FW_PFW_BUILD 0 (s.imageLe 2 b 8 4))
    let s : Dev := { s with sfwDrv := s.imageVers 1 a 0xA0 (min (s.imageLe 1 a 0x51 1) 32) }
    let named := (s.imageVers 1 a 0x60 (min (s.imageLe 1 a 0x50 1) 32)).contains vb ||
      (s.imageVers 2 b 0x60 (min (s.imageLe 2 b 0x50 1) 32)).contains va
    let s := if named then s else (s.wr Reg.BT_STATUS_UNTESTED 0 1).report Ev.BT_UNTESTED_PAIR 0
    s.enterWarmup

/-- FWLOAD_COMPLETE. -/
def doFwloadComplete (s : Dev) : Dev :=
  if s.bootState ≠ 4 then s
  else match s.chooseSlot 1 (s.rd Reg.BT_FW_SEL_SFW_PREF 0), s.chooseSlot 2 (s.rd Reg.BT_FW_SEL_PFW_PREF 0) with
  | some (a, fa), some (b, fb) =>
    let s := (s.wr Reg.BT_STATUS_SFW_SLOT 0 a).wr Reg.BT_STATUS_PFW_SLOT 0 b
    let s := (s.wr Reg.BT_STATUS_SFW_FALLBACK 0 (b2n fa)).wr Reg.BT_STATUS_PFW_FALLBACK 0 (b2n fb)
    let s := if fa || fb then s.report Ev.BT_FW_SIG 0 else s
    s.pairUp a b
  | _, _ => (s.report Ev.BT_FW_SIG 0).limited 3

/-! WARMUP and DISCOVER (R321, R374) -/

/-- Whether the memory path is done: the coil table and the pools stand, or the table has no good bases and the context store stays
out of service (R249). -/
def Dev.memoryDone (s : Dev) : Bool := !s.basesOk || s.flag Reg.CS_STATUS_READY 0

/-- WARMUP_COMPLETE: every tile has passed its START run or is out of service. The ports with their lasers and the transport are
put in service. -/
def doWarmupComplete (s : Dev) : Dev :=
  if s.bootState ≠ 5 ∨ !s.memoryDone ∨ (List.range 16).any (fun t => decide (s.svc t ≤ 1)) then s
  else
    let s := (s.bt (fun b => { b with discAt := s.mono })).enter 6
    let s := (List.range 4).foldl (fun s e => (s.wr Reg.LS_CTRL_EN (4 + e) 1).engineLight e true) s
    let s := (List.range 32).foldl (fun s p => s.portOn p) s
    (s.wr Reg.GT_CTRL_EN 0 1).fab (fun x => { x with coord := { x.coord with since := s.mono } })

/-- WARMUP_BOUND_EXPIRY: 8.0 s from entry to WARMUP, or 89.0 s on a factory start. -/
def doWarmupBoundExpiry (s : Dev) : Dev :=
  if s.bootState ≠ 5 then s
  else
    let s := s.reachLocal (s.boot.warmAt + (if s.flag Reg.BT_STATUS_FACTORY_START 0 then 89 else 8) * 16 * 10 ^ 9)
    ((List.range 16).filter (fun t => decide (s.svc t ≤ 1))).foldl (fun s t => s.outOfService t) s

/-- The first entry to READY or DEGRADED (R278, R372). -/
def Dev.firstReady (s : Dev) : Dev :=
  if s.boot.beenReady then s else (s.bt (fun b => { b with beenReady := true })).wr Reg.QM_CTRL_EN 0 1

/-- READY, or DEGRADED where a cause stands. -/
def Dev.enterReady (s : Dev) : Dev :=
  (if s.rd Reg.BT_STATE_DEGR 0 = 0 then s.enter 7 else (s.enter 8).report Ev.BT_DEGRADED 0).firstReady

/-- Another module claims this module's FNID (R319). -/
def Dev.fnidClaimed (s : Dev) : Bool :=
  s.flag Reg.GT_NODE_VALID 0 && s.fabric.coord.heard.any (fun h => h.fnid == some s.fnid && h.serial != s.rd Reg.ID_SERIAL 0)

/-- The steps of R321 are behind: a coordinator chosen, the FNID held, the membership list here, and fabric time within its
alignment bound. -/
def Dev.discovered (s : Dev) : Bool :=
  s.flag Reg.GT_COORD_COORD_VALID 0 && s.flag Reg.GT_NODE_VALID 0 && !s.fabric.coord.members.isEmpty && s.flag Reg.TM_CTRL_LOCKED 0

/-- DISCOVERY_COMPLETE (R321 step 5). A standing FNID conflict holds it off (R319). -/
def doDiscoveryComplete (s : Dev) : Dev :=
  if s.fnidClaimed || !s.discovered then s
  else if s.bootState = 6 then s.updQuad.enterReady
  else if s.bootState = 8 then s.degrade .discover false
  else s

/-- DISCOVERY_TIMEOUT: not complete 5 s after it began. A module whose FNID another claims does not leave DISCOVER (R319). -/
def doDiscoveryTimeout (s : Dev) : Dev :=
  if s.bootState ≠ 6 ∨ s.fnidClaimed then s
  else ((s.reachLocal (s.boot.discAt + 5 * 16 * 10 ^ 9)).updQuad.degrade .discover true).enterReady

/-! Pace, power and temperature (R421 to R423) -/

/-- PACE_UPDATE (R3). -/
def doPaceUpdate (steps : Nat) (s : Dev) : Dev := if s.bootState < 2 then s else s.wr Reg.PM_PACE_STEPS_US 0 steps

/-- Move the core voltage set point; LIMITING shows that it is below 750 mV. -/
def Dev.setCore (s : Dev) (mv : Nat) : Dev := (s.wr Reg.PM_VCORE_SET_MV 0 mv).wr Reg.PM_THERM_LIMITING 0 (b2n (decide (mv < 750)))

/-- POWER_LIMITER_TICK: every 1 ms, with the measured power, input and core voltage. While OVER is set the set point stays at
700 mV. -/
def doPowerLimiterTick (watts vin iin mv : Nat) (s : Dev) : Dev :=
  if s.bootState < 2 then s
  else
    let s := ((s.wr Reg.PM_INPUT_VIN 0 vin).wr Reg.PM_INPUT_IIN 0 iin).wr Reg.PM_INPUT_POWER_W 0 watts
    let s := s.wr Reg.PM_VCORE_MEAS_MV 0 mv
    let lim := s.rd Reg.PM_PWR_LIMIT_LIMIT_W 0
    let set := s.rd Reg.PM_VCORE_SET_MV 0
    let hot := decide (lim < watts)
    let t := if s.flag Reg.PM_THERM_OVER 0 then s.setCore 700
      else if hot then s.setCore (max 700 (set - 10))
      else if watts + 50 < lim then s.setCore (min 750 (set + 10))
      else s
    if !hot then t.bt (fun b => { b with hit := false })
    else if set = 700 ∧ !s.boot.hit then (t.report Ev.PM_PWR_LIMIT_HIT 0).bt (fun b => { b with hit := true })
    else t

/-- The highest reading of some sensors, 0 with none read yet. -/
def Dev.hottest (s : Dev) (lo hi : Nat) : Int :=
  match (s.boot.temps.filter (fun e => decide (lo ≤ e.1) && decide (e.1 ≤ hi))).map (fun e => e.2) with
  | [] => 0
  | x :: r => r.foldl max x

/-- Readings as the PM page shows them: the sensor and the highest of each group. -/
def Dev.showTemps (s : Dev) (sensor : Nat) (temp : Int) : Dev :=
  let s := (s.wrS Reg.PM_SENSOR_TEMP sensor temp).wr Reg.PM_SENSOR_VALID sensor 1
  let s := (s.wrS Reg.PM_TEMP_MAX_CORE 0 (s.hottest 0 0)).wrS Reg.PM_TEMP_MAX_PHOTONIC 0 (s.hottest 1 20)
  (s.wrS Reg.PM_TEMP_MAX_HBM 0 (s.hottest 21 28)).wrS Reg.PM_TEMP_MAX_COLDPLATE 0 (s.hottest 31 32)

/-- A level of R423 shows in a bit of PM_THERM; its rise is counted and reported. -/
def Dev.thermLevel (s : Dev) (f count : Field) (e : Event) (on : Bool) : Dev :=
  let was := s.flag f 0
  let s := s.wr f 0 (b2n on)
  if on && !was then (s.bump count 0 1).report e 0 else s

/-- THERMAL_CHECK (R423): one reading in 1/16 °C. Above 105 °C at a junction, or 65.0 °C at the cold-plate outlet (R469), the module
trips. -/
def doThermalCheck (sensor : Nat) (temp : Int) (s : Dev) : Dev :=
  if 32 < sensor ∨ !s.boot.power then s
  else
    let s := (s.bt (fun b => { b with temps := NMap.set 0 b.temps sensor temp })).showTemps sensor temp
    let any := fun (lim : Int) => s.boot.temps.any (fun e => decide (e.1 ≤ 30) && decide (lim < e.2))
    let s := s.thermLevel Reg.PM_THERM_WARN Reg.PM_WARN_EVENTS Ev.PM_TEMP_WARN (any (s.rd Reg.PM_THERM_WARN_C 0 * 16 : Nat))
    let hot := any (95 * 16) || (s.flag Reg.PM_THERM_OVER 0 && !s.junctionsBelow (93 * 16))
    let s := s.thermLevel Reg.PM_THERM_OVER Reg.PM_OVER_EVENTS Ev.PM_OVERTEMP hot
    let s := if hot && decide (2 ≤ s.bootState) then s.setCore 700 else s
    if s.boot.trip = 0 ∧ (any (105 * 16) ∨ 65 * 16 < NMap.get 0 s.boot.temps 32) then
      ((s.bt (fun b => { b with trip := 1 })).moduleReset.standby).report Ev.PM_THERMTRIP 0
    else s.leaveStandby 0

/-- FWLOAD_COMPLETE. -/
def execFwloadComplete (s : State) : Host.Outcome State Fault Refusal := s.on doFwloadComplete
/-- WARMUP_COMPLETE. -/
def execWarmupComplete (s : State) : Host.Outcome State Fault Refusal := s.on doWarmupComplete
/-- WARMUP_BOUND_EXPIRY. -/
def execWarmupBoundExpiry (s : State) : Host.Outcome State Fault Refusal := s.on doWarmupBoundExpiry
/-- DISCOVERY_COMPLETE. -/
def execDiscoveryComplete (s : State) : Host.Outcome State Fault Refusal := s.on doDiscoveryComplete
/-- DISCOVERY_TIMEOUT. -/
def execDiscoveryTimeout (s : State) : Host.Outcome State Fault Refusal := s.on doDiscoveryTimeout
/-- PACE_UPDATE. -/
def execPaceUpdate (steps : Nat) (s : State) : Host.Outcome State Fault Refusal := s.on (doPaceUpdate steps)
/-- POWER_LIMITER_TICK. -/
def execPowerLimiterTick (watts vin iin mv : Nat) (s : State) : Host.Outcome State Fault Refusal := s.on (doPowerLimiterTick watts vin iin mv)
/-- THERMAL_CHECK. -/
def execThermalCheck (sensor : Nat) (temp : Int) (s : State) : Host.Outcome State Fault Refusal := s.on (doThermalCheck sensor temp)

end Sys2Proof.Machine
end

