-- ==== Sys2Proof/Machine/View.lean ====
section
/-! DEFINITION. What a read of a register returns: the registers of each page that show the block's own state, the header, what
each source may read of a page, and reads over SMBus (R403 to R406, R410, R413, R414, R420, and the register tables). -/
namespace Sys2Proof.Machine

/-! Registers that show the block's state. `e` is the element the window selects. -/

/-- PT (R93): every PT page shows the QRATE of its quadrant's first. -/
def Dev.viewPt (s : Dev) (i : Nat) (f : Field) : Nat :=
  if f.id = Reg.PT_CTRL_QRATE.id then s.rd f (i / 4 * 4) else s.rd f i

/-- QS (R110, R113, R116, R117). -/
def Dev.viewQs (s : Dev) (t e : Nat) (f : Field) : Nat :=
  let x := s.tile t
  let bank := x.bank (e % 2 == 1)
  let cell := e / 2 % 128 * 8 + e / 256
  let a := NMap.get {} x.alog e
  match f.off, f.lo with
  | 0x160, _ => (NMap.get 0 x.static e).toNat
  | 0x168, _ => NMap.get 0 x.entryClips e
  | 0x170, _ => NMap.get 0 x.entryElems e
  | 0x180, _ => bank.scales.getD cell 0
  | 0x188, 0 => ofSigned 16 (bank.csum.getD cell 0)
  | 0x188, _ => b2n bank.csumValid
  | 0x1A0, 0 => a.oldScale
  | 0x1A0, 16 => a.oldZp
  | 0x1A0, 32 => a.newScale
  | 0x1A0, _ => a.newZp
  | 0x1A8, 0 => a.entry
  | 0x1A8, 6 => b2n a.discarded
  | 0x1A8, 7 => b2n a.clamp
  | 0x1A8, _ => min a.clips (2 ^ 32 - 1)
  | 0x1B0, _ => a.time
  | _, _ => s.rd f (win t e)

/-- AC (R122, R137). -/
def Dev.viewAc (s : Dev) (t e : Nat) (f : Field) : Nat :=
  let x := s.tile t
  let opens := (x.desc.map (fun d => d.2)).filter dValid
  let ppb := if x.ppbActive then x.ppbBlocks else 0
  match f.off, f.lo with
  | 0x108, 0 => 4096 - (opens.map dBlocks).sum - ppb
  | 0x108, 13 => 128 - opens.length
  | 0x108, 21 => ppb
  | 0x108, _ => b2n x.ppbActive
  | 0x150, _ => (s.desc t e).1
  | 0x158, _ => (s.desc t e).2
  | _, _ => s.rd f (win t e)

/-- LK (R161): the selected ring. -/
def Dev.viewLk (s : Dev) (t e : Nat) (f : Field) : Nat :=
  let r := s.ring t (ringAt (e % 2) (nbits e 9 1) (nbits e 17 10))
  match f.off, f.lo with
  | 0x158, 0 => r.state
  | 0x158, 2 => b2n r.limited
  | 0x158, 3 => b2n r.held
  | 0x158, 4 => ofSigned 12 r.err
  | 0x158, 16 => r.demand
  | 0x158, 32 => r.out
  | 0x158, _ => r.applied
  | 0x160, _ => r.int
  | _, _ => s.rd f (win t e)

/-- HM (R145, R151, R163): the selected heater group. -/
def Dev.viewHm (s : Dev) (t e : Nat) (f : Field) : Nat :=
  let g := e % 2 * 2516 + nbits e 8 1 * 17 + nbits e 13 9
  let x := s.ringTile t
  let on := x.ditherFrom.isSome
  match f.off, f.lo with
  | 0x150, 0 => if on then ditherFreq t g else 0
  | 0x150, 32 => if on then ditherAmp t g else 0
  | 0x150, _ => s.ditherIdx t g
  | 0x158, 0 => ((List.range 16).map (fun r => (s.ring t (g * 16 + r)).strobed)).sum
  | 0x158, _ => (x.group g).ceil
  | _, _ => s.rd f (win t e)

/-- A quadrant passes (R182): every tile of it not out of service has PASS set, and no line is lost beyond spares. -/
def Dev.quadPasses (s : Dev) (q : Nat) : Bool :=
  (quadTiles q).all (fun t => s.rd Reg.PT_STATUS_SVC t == 4 || s.flag Reg.PM_CAL_TILE_PASS t) && s.rd (lineLostBit q) 0 == 0

/-- PM (R183). -/
def Dev.viewPm (s : Dev) (e : Nat) (f : Field) : Nat :=
  if f.off = 0x408 ∧ f.lo % 8 = 0 then b2n (s.quadPasses (f.lo / 8))
  else if f.off = 0x408 ∧ f.lo % 8 = 1 then b2n ((quadTiles (f.lo / 8)).any (fun t => s.flag Reg.PM_CAL_TILE_RUNNING t))
  else s.rd f e

/-- LL (R188, R191, R195, R205): lists, injected results and coefficients; system calibration and the REFIN monitor are LL16's. -/
def Dev.viewLl (s : Dev) (u e : Nat) (f : Field) : Nat :=
  let x := s.unit u
  let r := NMap.get {} x.results e
  let k := s.coef (if u = 16 then e / 8 else u) (e % 8)
  match f.off, f.lo with
  | 0x128, _ => if e < 4096 then NMap.get 0 x.list e else NMap.get 0 x.injList (e - 4096)
  | 0x170, 0 => ofSigned 20 r.value
  | 0x170, 20 => r.cls
  | 0x170, 24 => r.index
  | 0x170, _ => b2n r.valid
  | 0x1A8, _ => if u = 16 then s.rd f u else 0
  | 0x1B8, 0 => ofSigned 16 k.1
  | 0x1B8, _ => k.2
  | 0x1C0, _ => if u = 16 then s.rd f u else 0
  | _, _ => if u ≠ 16 ∨ !(f.id == Reg.LL_CTRL_INJ_ALARM.id || f.id == Reg.LL_CTRL_INJ_HINT.id) then s.rd f (win u e) else 0

/-- LS0 to LS3 (R210 to R213, R223). -/
def Dev.viewLs (s : Dev) (q e : Nat) (f : Field) : Nat :=
  match f.off, f.lo with
  | 0x110, 0 => s.biasNow q
  | 0x130, 0 => ofSigned 16 ((s.comb q).powers.getD e 0)
  | 0x130, 16 => b2n (s.lineInUse q e)
  | 0x130, 17 => b2n ((s.comb q).low.testBit e)
  | 0x130, _ => b2n ((s.rd Reg.LS_STATUS_LOST q).testBit e)
  | _, _ => s.rd f (win q e)

/-- LS4 to LS7 (R218 to R221, R223): the selected lane. -/
def Dev.viewLf (s : Dev) (i e : Nat) (f : Field) : Nat :=
  let x := s.optic (laneKey ((i - 4) * 8 + e / 8) (e % 8))
  match f.off, f.lo with
  | 0x128, 0 => ofSigned 16 x.txPower
  | 0x128, 16 => x.bias
  | 0x128, 27 => x.channel
  | 0x128, 31 => b2n x.tuned
  | 0x128, 32 => b2n x.eol
  | 0x128, _ => b2n x.txLow
  | 0x130, 0 => ofSigned 16 x.rxPower
  | 0x130, 16 => x.rxChannel
  | 0x130, 20 => b2n x.warnLo
  | 0x130, 21 => b2n x.alarmLo
  | 0x130, 22 => b2n x.high
  | 0x130, 23 => b2n x.los
  | 0x130, 24 => b2n x.peerValid
  | 0x130, 32 => ofSigned 16 x.peerTx
  | 0x130, _ => ofSigned 16 x.peerRx
  | _, _ => s.rd f (win i e)

/-- CS (R230, R249): the selected descriptor word, from the table copy in use. -/
def Dev.viewCs (s : Dev) (e : Nat) (f : Field) : Nat :=
  if f.off = 0x1A8 then
    let slot := e % 2 ^ 32
    if s.tableSlots ≤ slot then 0
    else
      let b0 := s.rd Reg.CS_TABLE0_BASE 0 * 65536
      let base := if s.deviceLost b0 then s.rd Reg.CS_TABLE1_BASE 0 * 65536 else b0
      ((s.coilAt slot).words (base + s.tableSlots * 64)).getD (e / 2 ^ 32) 0
  else s.rd f e

/-- The waiter record of a waiter on a knot. -/
def Waiter.record (w : Waiter) : Nat := waiterRec w.agent w.part w.consume w.threshold

/-- The waiter record of a waiter on a full/empty word: a TAKE empties the word, as a CONSUME wait lowers a knot (log entry 65). -/
def FeWaiter.record (w : FeWaiter) : Nat := waiterRec (engineAgent w.engine) w.part (decide (w.kind = .take)) 0

/-- The module an agent belongs to (R305). -/
def Dev.agentNode (s : Dev) : Agent → Nat
  | .peer n => n
  | _ => s.fnid

/-- SY (R305, R306). An invalid knot ID, and an address without a full/empty bit, read zero. -/
def Dev.viewSy (s : Dev) (e : Nat) (f : Field) : Nat :=
  let k := if f.off = 0x158 then e / 1024 else e
  let n := if knotOk k then s.knot k else {}
  let w := if feWordOk e then s.fe e else {}
  let ev := NMap.get {} s.syEvents e
  let ofLast := fun (g : Agent → Nat) => match n.last with
    | some a => g a
    | none => 0
  match f.off, f.lo with
  | 0x140, _ => n.val
  | 0x148, 0 => b2n n.external
  | 0x148, 1 => b2n n.high
  | 0x148, 2 => if knotOk k then s.knotPart k else 0
  | 0x148, _ => n.waiters.length
  | 0x158, _ => ((n.waiters[e % 1024]?).map Waiter.record).getD 0
  | 0x160, 0 => ofLast (fun a => a.code)
  | 0x160, 19 => n.lastPart
  | 0x160, _ => ofLast s.agentNode
  | 0x168, _ => n.lastTime
  | 0x178, 0 => b2n w.full
  | 0x178, _ => w.waiters.length
  | 0x180, _ => (w.waiters.head?.map FeWaiter.record).getD 0
  | 0x190, 0 => ev.typ
  | 0x190, 3 => ev.part
  | 0x190, 9 => ev.count
  | 0x190, _ => b2n ev.failed
  | 0x198, 0 => ev.kind
  | 0x198, _ => ev.object
  | 0x1A0, _ => ev.agent
  | 0x1A8, _ => ev.agent2
  | 0x1B0, _ => ev.time
  | 0x1C0, 0 => ((s.dlList[e]?).map (fun d => d.queue)).getD 0
  | 0x1C0, _ => ((s.dlList[e]?).map (fun d => b2n d.head)).getD 0
  | _, _ => s.rd f e

/-- QM (R278). URG_USED has the nine bits of the reserve of R272: the slots in use beyond those that non-urgent commands may hold;
a queue is in use unless it is DISABLED (log entry 65). -/
def Dev.viewQm (s : Dev) (e : Nat) (f : Field) : Nat :=
  let used := s.slotsOf true + s.slotsOf false
  match f.off, f.lo with
  | 0x110, 0 => used
  | 0x110, 13 => used - 3840
  | 0x110, _ => ((NMap.get [] s.regs Reg.QM_Q_STATE_STATE.id).filter (fun q => q.2 != 0)).length
  | _, _ => s.rd f e

/-- FX (R343): the link of the selected lane. -/
def Dev.viewFx (s : Dev) (port e : Nat) (f : Field) : Nat :=
  let l := s.link (s.linkOf port e)
  match f.off, f.lo with
  | 0x118, 0 => (s.optic (laneKey port e)).channel
  | 0x118, 4 => l.peer.getD 0
  | 0x118, 20 => b2n l.peer.isSome
  | 0x118, 21 => b2n l.up
  | 0x118, 22 => b2n ((s.rd Reg.FX_STATUS_ANCHOR port).testBit e)
  | 0x118, _ => (l.held + 1023) / 1024
  | _, _ => s.rd f (win port e)

/-- Word `w` of the event summary: bit i is set while the page of directory index 64w + i requests an interrupt, among the pages of
the reader's partition (R426). -/
def Dev.eventSummary (s : Dev) (w : Nat) (src : Src) : Nat :=
  ((List.range 64).map (fun i =>
    let p := 64 * w + i
    if decide (p < 242) && s.irq p && s.pageOwner p == srcPart src then 2 ^ i else 0)).sum

/-- What a field of a block's own registers reads as, element `e` of its window. -/
def Dev.viewBlock (s : Dev) (b : Blk) (i e : Nat) (f : Field) (src : Src) : Nat :=
  match b with
  | .PT => s.viewPt i f
  | .QS => s.viewQs i e f
  | .AC => s.viewAc i e f
  | .LK => s.viewLk i e f
  | .HM => s.viewHm i e f
  | .PM => s.viewPm e f
  | .LL => s.viewLl i e f
  | .LS => s.viewLs i e f
  | .LF => s.viewLf i e f
  | .CS => s.viewCs e f
  | .SY => s.viewSy e f
  | .QM => s.viewQm e f
  | .FX => s.viewFx i e f
  | .TM => if f.id = Reg.TM_NOW.id then s.now else s.rd f e
  | .GT => if f.id = Reg.GT_PEER_OUTSTANDING.id then s.outstanding e else s.rd f e
  | .HI => if 0x120 ≤ f.off ∧ f.off ≤ 0x138 then s.eventSummary ((f.off - 0x120) / 8) src else s.rd f e
  | .PA => if f.id = Reg.PA_PART_CFG_STATE.id ∧ e = 0 then 1 else s.rd f e
  | .BT =>
    if f.id = Reg.BT_CTRL_SAVE.id ∨ f.id = Reg.BT_CTRL_REBOOT.id then 0
    else if f.id = Reg.BT_STATUS_MOD_RESET_LVL.id then b2n (!s.boot.modLow)
    else if f.id = Reg.BT_STATUS_PERST_LVL.id then b2n (!s.boot.perstLow)
    else if f.id = Reg.BT_JOURNAL_PENDING.id then b2n (!s.boot.pending.isEmpty || s.boot.pendingKey)
    else s.rd f e
  | _ => s.rd f (fieldKey b i e f)

/-! The header (R404, R405) -/

/-- Whether a block's page has event bits. -/
def hasEvents (b : Blk) : Bool := b != .ID && b != .PF

/-- What a field of the header reads as. -/
def Dev.viewHdr (s : Dev) (b : Blk) (i : Nat) (f : Field) (src : Src) : Nat :=
  let p := pageOf b i
  match f.off, f.lo with
  | 0x00, 0 => if b = .LF then Blk.LS.code else b.code
  | 0x00, 8 => i
  | 0x00, 16 => 1
  | 0x00, _ => b2n (b == .LF)
  | 0x08, 0 => b2n (hasEvents b)
  | 0x08, 1 => b2n (Reg.table.any (fun g => g.blk == b && isIndex b g.off))
  | 0x08, 2 => b2n (Reg.table.any (fun g => g.blk == b && g.acc == .rwh))
  | 0x08, 3 => b2n (b == .PT || b == .QS || b == .AC || b == .VE || b == .CC)
  | 0x08, _ => b.island
  | 0x10, 0 => s.rd f (s.ctrlKey b i src)
  | 0x10, _ => 0
  | 0x18, 2 => b2n (s.started b)
  | 0x18, 3 => b2n (s.irq p)
  | 0x38, _ => s.pageOwner p
  | _, _ => s.rd f p

/-! A register as a source reads it -/

/-- What field `f` of the register at `o` of page `b`, `i` reads as. Write-only fields read zero, and an index register reads as the
reader wrote it (R407, R410). -/
def Dev.viewField (s : Dev) (b : Blk) (i o : Nat) (f : Field) (src : Src) : Nat :=
  if f.acc = .wo then 0
  else if o < 0x40 then s.viewHdr b i f src
  else if isIndex b o then s.rdIdx f i src
  else s.viewBlock b i (s.element b i o src) f src

/-- The register at offset `o` of page `b`, `i` as source `src` reads it. FL_DATA holds bytes (R399). -/
def Dev.view (s : Dev) (b : Blk) (i o : Nat) (src : Src) : Word :=
  if b = .FL ∧ 0x800 ≤ o then
    BitVec.ofNat 64 (leNat ((List.range 8).map (fun k => NMap.get 0 s.boot.flData (o - 0x800 + k))))
  else BitVec.ofNat 64 (((fieldsAt b o).map (fun f => s.viewField b i o f src % 2 ^ f.width * 2 ^ f.lo)).sum)

/-- Whether partition `p` may read offset `o` of page `b`, `i` (R354, R366, R369, R426, R456, R457): pages of its own; partition 0
also part of every PT page; every partition its own view of the PF, TR and PA windows, and the event summary. -/
def Dev.mayRead (s : Dev) (p : Nat) (b : Blk) (i o : Nat) : Bool :=
  s.pageOwner (pageOf b i) == p ||
  (match b with
  | .PT => p == 0 && [0x00, 0x08, 0x18, 0x20, 0x38, 0x100, 0x108, 0x198].contains o
  | .TR => decide (0x200 ≤ o) && decide (o ≤ 0x220)
  | .PF => decide (o < 0x40) || (decide (0x200 ≤ o) && decide (o ≤ 0x238))
  | .PA => decide (0x200 ≤ o) && decide (o ≤ 0x280)
  | .HI => decide (0x120 ≤ o) && decide (o ≤ 0x138)
  | _ => false)

/-- Whether a register of a page reads zero because its tile has never been enabled since reset: PT_CTRL apart (R414). -/
def Dev.neverEnabled (s : Dev) (b : Blk) (i o : Nat) : Bool :=
  b == .PT && decide (0x40 ≤ o) && o != 0x100 && !(s.tile i).everOn

/-- What an aligned read of `len` bytes, 4 or 8, at BAR0 offset `off` returns to source `src` (R353, R403, R413 to R415). -/
def Dev.registerRead (s : Dev) (src : Src) (off len : Nat) : Word :=
  match pageAt off with
  | none => 0
  | some (b, i) =>
    let o := off % 0x1000 / 8 * 8
    let served := match s.readReaches src b with
      | .ok => !s.neverEnabled b i o
      | .early => decide (o < 0x10)
      | .silent => false
    let good := (len == 8 && off % 8 == 0) || (len == 4 && off % 4 == 0)
    if served && good && s.mayRead (srcPart src) b i o then
      BitVec.ofNat 64 ((s.view b i o src).toNat / 2 ^ (off % 8 * 8) % 2 ^ (8 * len))
    else 0

/-! SMBus (R420) -/

/-- Answer an SMBus request; none is NACK. -/
def Dev.smAnswer (s : Dev) (a : Option Word) : Dev := s.bt (fun b => { b with smOut := b.smOut ++ [a] })

/-- SMBUS_SET_POINTER: a byte count of 3 and an aligned offset within the ID, BT and PM pages; any other is refused with NACK. -/
def doSmbusSetPointer (count off : Nat) (s : Dev) : Dev :=
  if !s.boot.power then s
  else if count = 3 ∧ off % 8 = 0 ∧ off < 0x3000 then s.bt (fun b => { b with smPtr := off })
  else s.smAnswer none

/-- SMBUS_BLOCK_READ: the register at the pointer, which then advances by 8; past the PM page there is none to read. -/
def doSmbusBlockRead (s : Dev) : Dev :=
  if !s.boot.power then s
  else match pageAt s.boot.smPtr with
  | some (b, i) =>
    if b = .ID ∨ b = .BT ∨ b = .PM then
      (s.smAnswer (some (s.view b i (s.boot.smPtr % 0x1000) .smbus))).bt (fun b => { b with smPtr := b.smPtr + 8 })
    else s.smAnswer none
  | none => s.smAnswer none

/-- SMBUS_ALERT_RESPONSE: answered with the address 0x2C while ALERT_N is asserted. -/
def doSmbusAlertResponse (s : Dev) : Dev := if s.alert then s.smAnswer (some 0x2C) else s

/-- SMBUS_SET_POINTER. -/
def execSmbusSetPointer (count off : Nat) (s : State) : Host.Outcome State Fault Refusal := s.on (doSmbusSetPointer count off)
/-- SMBUS_BLOCK_READ. -/
def execSmbusBlockRead (s : State) : Host.Outcome State Fault Refusal := s.on doSmbusBlockRead
/-- SMBUS_ALERT_RESPONSE. -/
def execSmbusAlertResponse (s : State) : Host.Outcome State Fault Refusal := s.on doSmbusAlertResponse

end Sys2Proof.Machine
end

