-- ==== Sys2Proof/Machine/RegWrite.lean ====
section
/-! DEFINITION. Register accesses: a write of any register of BAR0, wrong widths, unmapped offsets, early accesses, CNT_CLEAR and
BAR2 (R402 to R418). A write of a register whose field has a step of its own does what that step does. -/
namespace Sys2Proof.Machine

/-! The common header (R404, R406) -/

/-- PAGE_CTRL.CNT_CLEAR: every counter of the page is zero; the PF page clears the counters of the view's partition. -/
def Dev.clearCounters (s : Dev) (b : Blk) (i : Nat) (src : Src) : Dev :=
  let fs := Reg.table.filter (fun f => f.blk == b && f.acc == .rwh && f.id != Reg.QS_SENT_DATA.id && f.id != Reg.SY_KNOT_VAL_VALUE.id)
  let part := (s.ctrlKey b i src) / 256
  let mine := fun (f : Field) (k : Nat) =>
    if b = .PF then (if f.id = Reg.PF_VAL.id then k / 256 == part else k / 8 == part)
    else if manyInst b then k % 128 == i else true
  fs.foldl (fun s f =>
    ((NMap.get [] s.regs f.id).filter (fun e => mine f e.1)).foldl (fun s e => s.wr f e.1 0) s) s

/-- A write of a register of the common header. A W1C bit that the hardware sets in the same cycle stays set (R408). -/
def Dev.writeHdr (s : Dev) (src : Src) (b : Blk) (i o v : Nat) (hw : List Coincident) : Dev :=
  let p := pageOf b i
  let hwBits := (hw.map (fun c => c.value * 2 ^ c.lo)).foldl (fun a x => a ||| x) 0
  if o = 0x10 then
    let s := s.wr Reg.PAGE_CTRL_CNT_FREEZE (s.ctrlKey b i src) (v % 2)
    if v.testBit 1 then s.clearCounters b i src else s
  else if o = 0x18 then
    [Reg.PAGE_STATUS_HW_LOST, Reg.PAGE_STATUS_BAD_WIDTH].foldl (fun s f =>
      if hwBits.testBit f.lo then s.wr f p 1 else if v.testBit f.lo then s.wr f p 0 else s) s
  else if o = 0x20 then
    let old := s.rd Reg.PAGE_ERR p
    let set := hwBits - (hwBits &&& s.rd Reg.PAGE_ERR_MASK p)
    let t := if b = .VE ∧ v.testBit Ev.VE_INT_SAT.bit ∧ !hwBits.testBit Ev.VE_INT_SAT.bit then s.wr Reg.VE_STATUS_INT_SAT i 0 else s
    Dev.irqEdge s (t.wr Reg.PAGE_ERR p ((old - (old &&& v)) ||| set)) p
  else if o = 0x28 then s.setBy src Reg.PAGE_ERR_MASK p v
  else if o = 0x30 then Dev.irqEdge s (s.setBy src Reg.PAGE_IRQ_EN p v) p
  else s

/-! Registers with effects, block by block -/

/-- PT_CTRL (R93): TILE_EN by the tile's partition or partition 0, QRATE and RETURN by partition 0 only. -/
def Dev.writePtCtrl (s : Dev) (src : Src) (t v : Nat) : Dev :=
  let s := if s.flag Reg.PT_CTRL_TILE_EN t == v.testBit 0 then s else doTileEn src t (v.testBit 0) s
  let s := if t % 4 = 0 ∧ srcPart src = 0 then doQrate src (t / 4) (Reg.PT_CTRL_QRATE.of v) s else s
  if v.testBit 3 ∧ srcPart src = 0 then doReturn src t s else s

/-- PT and QS pages. -/
def Dev.writeTile (s : Dev) (src : Src) (b : Blk) (i o e v : Nat) (hw : List Coincident) : Dev :=
  if b = .PT ∧ o = 0x100 then s.writePtCtrl src i v
  else if b = .QS ∧ o = 0x160 then
    if !hw.isEmpty && s.widenDue i (e % 64) then doStaticEntryWidening i (e % 64) (some (BitVec.ofNat 64 v)) s
    else
      let s := s.modTile i (fun x => { x with
        static := NMap.set 0 x.static (e % 64) (staticWord (NMap.get 0 x.static (e % 64)) (BitVec.ofNat 64 v)) })
      if hw.isEmpty then s else s.wr Reg.PAGE_STATUS_HW_LOST (pageOf .QS i) 1
  else s.plain src b i o e v hw

/-- LK and HM pages. -/
def Dev.writeRings (s : Dev) (src : Src) (b : Blk) (i o e v : Nat) (hw : List Coincident) : Dev :=
  if b = .LK ∧ o = 0x100 then doFreeze src i (v.testBit 0) s
  else if b = .HM ∧ o = 0x100 then
    let was := s.flag Reg.HM_CTRL_DITHER_EN i
    let s := s.setBy src Reg.HM_CTRL_DITHER_EN i (Reg.HM_CTRL_DITHER_EN.of v)
    let s := if !was && v.testBit 1 then s.freshSpans i else s
    (if v.testBit 0 then doHeatEnSet src i s else doHeatEnClear src i s).showLocks i
  else if b = .HM ∧ o = 0x210 then doHmLegRearm src i (BitVec.ofNat 64 v) s
  else if b = .HM ∧ o = 0x220 then (if v.testBit 0 ∧ i % 4 = 0 then doClose src i s else s)
  else s.plain src b i o e v hw

/-- LL pages (R194): the regular sequence's configuration is refused while REG_EN is set. -/
def Dev.writeLl (s : Dev) (src : Src) (u o e v : Nat) (hw : List Coincident) : Dev :=
  let busy := s.flag Reg.LL_CTRL_REG_EN u
  let refuse := s.report Ev.LL_CFG_BUSY u
  if o = 0x100 then
    let s := s.plain src .LL u o e (v - v % 2 + b2n busy) hw
    let s := if busy == v.testBit 0 then s else s.regEn u (v.testBit 0)
    let s := if v.testBit 6 then doRegGo src u s else s
    if v.testBit 7 then doInjGo src u s else s
  else if o = 0x118 then
    if busy ∧ Reg.LL_LEN_REG_LEN.of v ≠ s.rd Reg.LL_LEN_REG_LEN u then refuse.setBy src Reg.LL_LEN_INJ_LEN u (Reg.LL_LEN_INJ_LEN.of v)
    else s.plain src .LL u o e v hw
  else if o = 0x128 then
    let v := v % 2 ^ 32
    if 4096 ≤ e then s.modUnit u (fun x => { x with injList := NMap.set 0 x.injList (e - 4096) v })
    else if busy then refuse
    else s.modUnit u (fun x => { x with list := NMap.set 0 x.list e v })
  else if o = 0x148 then doLlRingTail src u v s
  else if o = 0x108 ∨ o = 0x110 ∨ o = 0x130 ∨ o = 0x138 then (if busy then refuse else s.plain src .LL u o e v hw)
  else if o = 0x1A8 then
    if u ≠ 16 then s
    else match v % 4 with
      | 1 => doSyscalZero src s
      | 2 => doSyscalFull src s
      | 3 => doSyscalCommit src s
      | _ => s
  else s.plain src .LL u o e v hw

/-- LS pages of both layouts. -/
def Dev.writeLs (s : Dev) (src : Src) (b : Blk) (i o e v : Nat) (hw : List Coincident) : Dev :=
  if o = 0x100 then
    let s := if v.testBit 0 then doLsEnSet src i s else doLsEnClear src i s
    if v.testBit 1 then doRearm src i s else s
  else
    let s := s.plain src b i o e v hw
    if b = .LS ∧ o = 0x108 then s.modComb i (fun c => { c with steady := 0 }) else s

/-- CS, SY and QM pages. -/
def Dev.writeCore (s : Dev) (src : Src) (b : Blk) (i o e v : Nat) (hw : List Coincident) : Dev :=
  if b = .CS ∧ o = 0x100 then
    let on := s.flag Reg.CS_CTRL_EN 0
    let s := s.plain src b i o e (v - v % 2 + b2n on) hw
    if v.testBit 0 then doCsEnSet src s else doCsEnClear src s
  else if b = .CS ∧ (o = 0x140 ∨ o = 0x158) then (s.plain src b i o e v hw).noteQuota e
  else if b = .SY ∧ o = 0x140 then
    -- the increment that coincides with the write is an ADD of the same cycle (R289, R408)
    let n := hwOf hw Reg.SY_KNOT_VAL_VALUE
    doSyKnotVal src e v (if n = 0 then [] else [{ agent := .reg (s.knotPart e), op := 0, amount := n }]) s
  else if b = .SY ∧ o = 0x148 then (if knotOk e then s.setKnot e { s.knot e with external := v.testBit 0 } else s)
  else if b = .SY ∧ o = 0x1C8 then
    match nbits v 17 16 with
    | 1 => doContinue src (v % 65536) s
    | 2 => doFlush src (v % 65536) s
    | _ => s
  else if b = .QM ∧ o = 0x150 then
    match v % 4 with
    | 1 => doQueueCreate src e s
    | 2 => doQueueDelete src e s
    | 3 => doResetError src e s
    | _ => s
  else if b = .DM ∧ o = 0x100 then (s.plain src b i o e v hw).dmaRetry
  else s.plain src b i o e v hw

/-- CC and VE pages. -/
def Dev.writeDebug (s : Dev) (src : Src) (b : Blk) (i o e v : Nat) (hw : List Coincident) : Dev :=
  if b = .CC ∧ o = 0x100 then
    let s := if v.testBit 0 then doCcHalt src i s else s
    let s := if v.testBit 1 then doCcResume src i s else s
    if v.testBit 2 then doCcStep src i s else s
  else if b = .CC ∧ o = 0x120 then
    if Reg.CC_BP_KIND.of v = 3 then s
    else if !s.haltOk i (srcPart src) then s.haltRefused i
    else s.plain src b i o e v hw
  else if b = .VE ∧ o = 0x100 then
    let s := if v.testBit 0 then doVeHalt src i s else s
    if v.testBit 1 then doVeResume src i s else s
  else s.plain src b i o e v hw

/-- A switched port exchanges no power reports: PEER_VALID of its lanes is clear (R221). -/
def Dev.forgetPeers (s : Dev) (port : Nat) : Dev :=
  (List.range 8).foldl (fun s l => s.modOptic (laneKey port l) (fun x => { x with peerValid := false })) s

/-- FX and GT pages. -/
def Dev.writeFabric (s : Dev) (src : Src) (b : Blk) (i o e v : Nat) (hw : List Coincident) : Dev :=
  if b = .FX ∧ o = 0x100 then
    let on := s.flag Reg.FX_CTRL_EN i
    let s := s.plain src b i o e (v - v % 2 + b2n on) hw
    let s := if s.directPort i then s else s.forgetPeers i
    if v.testBit 0 then s.portOn i else s.portOff i
  else if b = .GT ∧ o = 0x108 then
    let t := s.plain src b i o e v hw
    if s.flag Reg.GT_CTRL_EN 0 then t else t.wr Reg.GT_NODE_VALID 0 (t.rd Reg.GT_NODE_STATIC 0)
  else if b = .GT ∧ o = 0x100 then (s.plain src b i o e v hw).settleFabric
  else if b = .GT ∧ o = 0x140 then (s.plain src b i o e (s.routeMask v) hw).settleFabric
  else s.plain src b i o e v hw

/-- The PA page (R369): operations, and the mailboxes, of which partition 0 writes the replies and another partition the
requests. -/
def Dev.writePa (s : Dev) (src : Src) (o e v : Nat) (hw : List Coincident) : Dev :=
  let zero := srcPart src == 0
  if o = 0x118 then
    match v % 4 with
    | 1 => doPartitionCreate src e s
    | 2 => doPartitionRelease src e s
    | 3 => doKeySwitch src e s
    | _ => s
  else if o = 0x130 then doFkeyWordWrite src (e / 1024) (e % 256) (e / 256 % 4) (BitVec.ofNat 64 v) s
  else if o = 0x148 then doGranuleReassign src e (v % 64) s
  else if o = 0x120 then
    let s := s.plain src .PA 0 o e v hw
    (List.range 16).foldl (fun s t => s.regate t) s
  else if o = 0x168 ∨ o = 0x170 then (s.plain src .PA 0 o e v hw).regate e
  else if o = 0x280 then
    if zero then (if v.testBit 1 then doPaMboxRsp src e s else s) else if v.testBit 0 then doPaMboxReq src s else s
  else if 0x200 ≤ o ∧ o < 0x240 ∧ zero then s
  else if 0x240 ≤ o ∧ o < 0x280 ∧ !zero then s
  else s.plain src .PA 0 o e v hw

/-- TR page: a smaller region takes TR_HEAD back within it. -/
def Dev.writeTr (s : Dev) (src : Src) (o e v : Nat) (hw : List Coincident) : Dev :=
  if o = 0x210 then doTrTail src e v s
  else if o = 0x118 then
    let s := s.plain src .TR 0 o e v hw
    s.wr Reg.TR_HEAD_RECORD e (s.rd Reg.TR_HEAD_RECORD e % s.traceSize e)
  else s.plain src .TR 0 o e v hw

/-- The bytes of a little-endian number go to consecutive keys of a byte map. -/
def putWord (m : NMap Byte) (a n v : Nat) : NMap Byte :=
  (List.range n).foldl (fun m i => NMap.set 0 m (a + i) (BitVec.ofNat 8 (v / 256 ^ i))) m

/-- BT, FL and PM pages. -/
def Dev.writeIsland (s : Dev) (src : Src) (b : Blk) (o e v : Nat) (hw : List Coincident) : Dev :=
  if b = .BT ∧ o = 0x128 then doBootHeaderWrite src (v % 2) (v / 2 % 2) s
  else if b = .BT ∧ o = 0x130 then
    let s := if v.testBit 0 then doSave src s else s
    if v.testBit 1 then doReboot src s else s
  else if b = .FL ∧ 0x800 ≤ o then s.bt (fun x => { x with flData := putWord x.flData (o - 0x800) 8 v })
  else if b = .FL ∧ o = 0x118 then
    match v % 8 with
    | 1 => doFlRead src s
    | 2 => doFlProgram src s
    | 3 => doFlErase4k src s
    | 4 => doFlErase64k src s
    | _ => s
  else if b = .PM ∧ o = 0x400 then doRequest src (Reg.PM_CAL_CTRL_REQ.of v) (s.plain src b 0 o e v hw)
  else s.plain src b 0 o e v hw

/-- A register of page `b`, `i` beyond the header takes a write it accepts. -/
def Dev.writeBlock (s : Dev) (src : Src) (b : Blk) (i o e v : Nat) (hw : List Coincident) : Dev :=
  match b with
  | .PT | .QS => s.writeTile src b i o e v hw
  | .LK | .HM => s.writeRings src b i o e v hw
  | .LL => s.writeLl src i o e v hw
  | .LS | .LF => s.writeLs src b i o e v hw
  | .CS | .SY | .QM | .DM => s.writeCore src b i o e v hw
  | .CC | .VE => s.writeDebug src b i o e v hw
  | .FX | .GT => s.writeFabric src b i o e v hw
  | .PA => s.writePa src o e v hw
  | .TR => s.writeTr src o e v hw
  | .BT | .FL | .PM => s.writeIsland src b o e v hw
  | _ => s.plain src b i o e v hw

/-! Accesses -/

/-- An access met an unmapped offset or a hole (R415, R417, R426). -/
def Dev.unmapped (s : Dev) : Dev := (s.bump Reg.HI_UNMAPPED_CNT 0 1).report Ev.HI_UNMAPPED 0

/-- A register write that has reached its page: ownership first, then the register (R353, R402). The hardware's own updates of the
same cycle happen in any case (R408). A PT page whose tile has never been enabled takes only PT_CTRL (R414). -/
def Dev.writePage (s : Dev) (src : Src) (b : Blk) (i o v : Nat) (hw : List Coincident) : Dev :=
  let p := srcPart src
  let e := s.element b i o src
  if !s.mayWrite p b i o then (s.hwOnly src b i o e hw).foreign p
  else if o < 0x100 then s.writeHdr src b i o v hw
  else if b = .PT ∧ o ≠ 0x100 ∧ !(s.tile i).everOn then s.hwOnly src b i o e hw
  else if !s.accepts b i o e v then s.hwOnly src b i o e hw
  else s.writeBlock src b i o e v hw

/-- Whether a read or a write reaches its page. -/
def Dev.accessReach (s : Dev) (src : Src) (b : Blk) (isWrite : Bool) : Reach := if isWrite then s.reaches src b else s.readReaches src b

/-- BAD_WIDTH (R403): an access of another width or alignment shows in PAGE_STATUS of the page that holds its first byte; in a
doorbell page it is counted under R426. A read of 4 aligned bytes is a good one. -/
def doBadWidth (src : Src) (off len : Nat) (isWrite : Bool) (s : Dev) : Dev :=
  let good := (len == 8 && off % 8 == 0) || (!isWrite && len == 4 && off % 4 == 0)
  if good then s
  else match pageAt off with
  | some (b, i) =>
    match s.accessReach src b isWrite with
    | .ok => if (if isWrite then s.mayWrite else s.mayRead) (srcPart src) b i (off % 0x1000 / 8 * 8) then
        s.wr Reg.PAGE_STATUS_BAD_WIDTH (pageOf b i) 1 else s.foreign (srcPart src)
    | .early => s.report Ev.BT_EARLY_ACCESS 0
    | .silent => s
  | none => if isDoorbell off then s.bump Reg.HI_UNMAPPED_CNT 0 1 else s

/-- The module address that an offset of a function's BAR2 names (R417). -/
def Dev.bar2Addr (s : Dev) (fn off : Nat) : Nat := s.rd Reg.HI_BAR2_BASE_BASE fn * 2 ^ 36 + off

/-- Whether a module address is a hole for BAR2: the register space counts as one (R417). -/
def bar2Hole (a : Nat) : Bool := regionOf a == .hole || regionOf a == .reg

/-- HI_UNMAPPED: an access to a BAR0 offset outside every page, or to a hole of BAR2. -/
def doHiUnmapped (src : Src) (bar off : Nat) (_isWrite : Bool) (s : Dev) : Dev :=
  if s.bootState < 2 then s
  else if bar = 0 then (if (pageAt off).isNone ∧ !isDoorbell off then s.unmapped else s)
  else if bar = 2 ∧ bar2Hole (s.bar2Addr (srcPart src) off) then s.unmapped
  else s

/-- REGISTER_WRITE (R407): an aligned write of 8 bytes at BAR0 offset `off`. A misaligned one is ignored under R403, and one outside
every page under R415. -/
def doRegisterWrite (src : Src) (off : Nat) (value : Word) (hw : List Coincident) (s : Dev) : Dev :=
  if off % 8 ≠ 0 then doBadWidth src off 8 true s
  else match pageAt off with
  | some (b, i) => s.at src b (fun s => s.writePage src b i (off % 0x1000) value.toNat hw)
  | none =>
    if isDoorbell off then doDoorbellWrite src ((off - 0x1000000) / 0x8000 * 4096 + off % 0x8000 / 8) value s
    else doHiUnmapped src 0 off true s

/-- BT_EARLY_ACCESS (R414): PAGE_ID and PAGE_CAPS may be read at any time. -/
def doBtEarlyAccess (src : Src) (off : Nat) (isWrite : Bool) (s : Dev) : Dev :=
  match pageAt off with
  | none => s
  | some (b, _) =>
    if !isWrite ∧ off % 0x1000 < 0x10 then s
    else if s.accessReach src b isWrite = .early then s.report Ev.BT_EARLY_ACCESS 0 else s

/-- CNT_CLEAR (R404, R408): a write of PAGE_CTRL with CNT_CLEAR set, for the page of a directory index. Increments of the same cycle
remain: `lo` of each numbers the counter's bit within the page. -/
def doCntClear (src : Src) (page : Nat) (hw : List Coincident) (s : Dev) : Dev :=
  match pageOfIndex page with
  | none => s
  | some (b, i) => s.at src b (fun s =>
    if !s.mayWrite (srcPart src) b i 0x10 then s.foreign (srcPart src)
    else
      let s := s.clearCounters b i src
      if s.flag Reg.PAGE_CTRL_CNT_FREEZE (s.ctrlKey b i src) then s
      else hw.foldl (fun s c =>
        let o := c.lo / 64
        ((fieldsAt b o).filter (fun f => f.acc == .rwh && f.lo == c.lo % 64)).foldl (fun s f =>
          let k := Dev.writeKey b i o (s.element b i o src) src f
          s.wr f k (s.rd f k + c.value)) s) s)

/-- A host access met an uncorrectable memory error (R438): it is logged under AER. -/
def Dev.aerUncorr (s : Dev) : Dev := (s.bump Reg.HI_AER_UNCORR 0 1).report Ev.HI_UNCORR 0

/-- The bytes of a host access. -/
def accessLen : Access → Nat
  | .read n => n
  | .write bs => bs.length

/-- HOST_BAR2_ACCESS (R417, R438): an access of function `fn` by its partition. A read's answer is noted; a refused one reads zero,
and an uncorrectable error is answered with a Completer Abort. -/
def doHostBar2Access (fn off : Nat) (access : Access) (s : Dev) : Dev :=
  let a := s.bar2Addr fn off
  let n := accessLen access
  if (s.bootState ≠ 7 ∧ s.bootState ≠ 8) ∨ n = 0 then s
  else
    let answer := fun (s : Dev) (x : Option (List Byte)) => s.bt (fun b => { b with bar2Out := b.bar2Out ++ [x] })
    let zeros := some (List.replicate n (0 : Byte))
    let hole := bar2Hole a || bar2Hole (a + (n - 1))
    match access with
    | .read _ =>
      if hole then answer s.unmapped zeros
      else match s.probeRead fn a n with
        | .ok => answer s (some (s.bytes a n))
        | .hole => answer s.unmapped zeros
        | .uncorr _ => answer s.aerUncorr none
        | r => answer (s.noteRefused fn r) zeros
    | .write bs =>
      if hole then s.unmapped
      else match s.probeWrite fn a n with
        | .ok => (s.putBytes a bs).clearBad a n
        | .hole => s.unmapped
        | .uncorr _ => s.aerUncorr
        | r => s.noteRefused fn r

/-- REGISTER_WRITE. -/
def execRegisterWrite (src : Src) (off : Nat) (value : Word) (hw : List Coincident) (s : State) : Host.Outcome State Fault Refusal := s.on (doRegisterWrite src off value hw)
/-- BAD_WIDTH. -/
def execBadWidth (src : Src) (off len : Nat) (isWrite : Bool) (s : State) : Host.Outcome State Fault Refusal := s.on (doBadWidth src off len isWrite)
/-- HI_UNMAPPED. -/
def execHiUnmapped (src : Src) (bar off : Nat) (isWrite : Bool) (s : State) : Host.Outcome State Fault Refusal := s.on (doHiUnmapped src bar off isWrite)
/-- BT_EARLY_ACCESS. -/
def execBtEarlyAccess (src : Src) (off : Nat) (isWrite : Bool) (s : State) : Host.Outcome State Fault Refusal := s.on (doBtEarlyAccess src off isWrite)
/-- CNT_CLEAR. -/
def execCntClear (src : Src) (page : Nat) (hw : List Coincident) (s : State) : Host.Outcome State Fault Refusal := s.on (doCntClear src page hw)
/-- HOST_BAR2_ACCESS. -/
def execHostBar2Access (fn off : Nat) (access : Access) (s : State) : Host.Outcome State Fault Refusal := s.on (doHostBar2Access fn off access)

end Sys2Proof.Machine
end

