-- ==== Sys2Proof/Machine/Dispatch.lean ====
section
/-! DEFINITION. The meaning of every command: one arm per constructor. -/
namespace Sys2Proof.Machine

/-- What a command does to everything but the queue. -/
def exec (i : Instr) (s : State) : Host.Outcome State Fault Refusal :=
  match i with
  | .inputPowerValid => Sys2Proof.Machine.execInputPowerValid s
  | .inputPowerLoss => Sys2Proof.Machine.execInputPowerLoss s
  | .pmInputRange => Sys2Proof.Machine.execPmInputRange s
  | .pmRailFault rail => Sys2Proof.Machine.execPmRailFault rail s
  | .resetRecognisedLow input => Sys2Proof.Machine.execResetRecognisedLow input s
  | .resetRelease input holdMs => Sys2Proof.Machine.execResetRelease input holdMs s
  | .btResetStuck input => Sys2Proof.Machine.execBtResetStuck input s
  | .pcieConfigRequest msSincePerst => Sys2Proof.Machine.execPcieConfigRequest msSincePerst s
  | .hiLinkDown => Sys2Proof.Machine.execHiLinkDown s
  | .bootComplete => Sys2Proof.Machine.execBootComplete s
  | .restoreComplete => Sys2Proof.Machine.execRestoreComplete s
  | .fwloadComplete => Sys2Proof.Machine.execFwloadComplete s
  | .warmupComplete => Sys2Proof.Machine.execWarmupComplete s
  | .warmupBoundExpiry => Sys2Proof.Machine.execWarmupBoundExpiry s
  | .discoveryComplete => Sys2Proof.Machine.execDiscoveryComplete s
  | .discoveryTimeout => Sys2Proof.Machine.execDiscoveryTimeout s
  | .flRead src => Sys2Proof.Machine.execFlRead src s
  | .flProgram src => Sys2Proof.Machine.execFlProgram src s
  | .flErase4k src => Sys2Proof.Machine.execFlErase4k src s
  | .flErase64k src => Sys2Proof.Machine.execFlErase64k src s
  | .flashOperationComplete readback => Sys2Proof.Machine.execFlashOperationComplete readback s
  | .flTimeout => Sys2Proof.Machine.execFlTimeout s
  | .journalProgram => Sys2Proof.Machine.execJournalProgram s
  | .save src => Sys2Proof.Machine.execSave src s
  | .reboot src => Sys2Proof.Machine.execReboot src s
  | .bootHeaderWrite src sfw pfw => Sys2Proof.Machine.execBootHeaderWrite src sfw pfw s
  | .factoryTableCopy => Sys2Proof.Machine.execFactoryTableCopy s
  | .calStoreMapWrite tile ok => Sys2Proof.Machine.execCalStoreMapWrite tile ok s
  | .setPointImageWrite tile ok => Sys2Proof.Machine.execSetPointImageWrite tile ok s
  | .smbusSetPointer count offset => Sys2Proof.Machine.execSmbusSetPointer count offset s
  | .smbusBlockRead => Sys2Proof.Machine.execSmbusBlockRead s
  | .smbusAlertResponse => Sys2Proof.Machine.execSmbusAlertResponse s
  | .registerWrite src off value hw => Sys2Proof.Machine.execRegisterWrite src off value hw s
  | .badWidth src off len isWrite => Sys2Proof.Machine.execBadWidth src off len isWrite s
  | .hiUnmapped src bar off isWrite => Sys2Proof.Machine.execHiUnmapped src bar off isWrite s
  | .btEarlyAccess src off isWrite => Sys2Proof.Machine.execBtEarlyAccess src off isWrite s
  | .cntClear src page hw => Sys2Proof.Machine.execCntClear src page hw s
  | .hostBar2Access fn off access => Sys2Proof.Machine.execHostBar2Access fn off access s
  | .paceUpdate steps => Sys2Proof.Machine.execPaceUpdate steps s
  | .powerLimiterTick watts vin iin mv => Sys2Proof.Machine.execPowerLimiterTick watts vin iin mv s
  | .thermalCheck sensor temp => Sys2Proof.Machine.execThermalCheck sensor temp s
  | .doorbellWrite src queue word => Sys2Proof.Machine.execDoorbellWrite src queue word s
  | .queueCreate src queue => Sys2Proof.Machine.execQueueCreate src queue s
  | .queueDelete src queue => Sys2Proof.Machine.execQueueDelete src queue s
  | .resetError src queue => Sys2Proof.Machine.execResetError src queue s
  | .queueFetch ringOk => Sys2Proof.Machine.execQueueFetch ringOk s
  | .commandDispatch queue => Sys2Proof.Machine.execCommandDispatch queue s
  | .commandCompletion queue ringOk => Sys2Proof.Machine.execCommandCompletion queue ringOk s
  | .coalescingTimeout queue => Sys2Proof.Machine.execCoalescingTimeout queue s
  | .bankIdleRelease tile => Sys2Proof.Machine.execBankIdleRelease tile s
  | .nop c => Sys2Proof.Machine.execNop c s
  | .wait c => Sys2Proof.Machine.execWait c s
  | .signal c => Sys2Proof.Machine.execSignal c s
  | .epoch c => Sys2Proof.Machine.execEpoch c s
  | .patchOpen c => Sys2Proof.Machine.execPatchOpen c s
  | .patchClear c => Sys2Proof.Machine.execPatchClear c s
  | .patchRetrieve c => Sys2Proof.Machine.execPatchRetrieve c s
  | .patchClose c => Sys2Proof.Machine.execPatchClose c s
  | .spliceLocal c => Sys2Proof.Machine.execSpliceLocal c s
  | .patchStateIdle tile desc => Sys2Proof.Machine.execPatchStateIdle tile desc s
  | .coilAlloc c => Sys2Proof.Machine.execCoilAlloc c s
  | .coilFree c => Sys2Proof.Machine.execCoilFree c s
  | .coilRead c => Sys2Proof.Machine.execCoilRead c s
  | .coilWrite c => Sys2Proof.Machine.execCoilWrite c s
  | .coilAppend c => Sys2Proof.Machine.execCoilAppend c s
  | .coilScan c => Sys2Proof.Machine.execCoilScan c s
  | .coilMigrate c => Sys2Proof.Machine.execCoilMigrate c s
  | .coilPin c => Sys2Proof.Machine.execCoilPin c s
  | .coilUnpin c => Sys2Proof.Machine.execCoilUnpin c s
  | .coilMirror c => Sys2Proof.Machine.execCoilMirror c s
  | .coilQuery c => Sys2Proof.Machine.execCoilQuery c s
  | .coilPolicy c => Sys2Proof.Machine.execCoilPolicy c s
  | .coilAdmission slot => Sys2Proof.Machine.execCoilAdmission slot s
  | .clockSweep nbhd => Sys2Proof.Machine.execClockSweep nbhd s
  | .migrationStart nbhd => Sys2Proof.Machine.execMigrationStart nbhd s
  | .migrationSwitch slot bad => Sys2Proof.Machine.execMigrationSwitch slot bad s
  | .frameZeroingDone nbhd tier => Sys2Proof.Machine.execFrameZeroingDone nbhd tier s
  | .mirrorSetupDone slot bad => Sys2Proof.Machine.execMirrorSetupDone slot bad s
  | .memoryDeviceLost device => Sys2Proof.Machine.execMemoryDeviceLost device s
  | .tableCopyRebuilt => Sys2Proof.Machine.execTableCopyRebuilt s
  | .csEnSet src => Sys2Proof.Machine.execCsEnSet src s
  | .csEnClear src => Sys2Proof.Machine.execCsEnClear src s
  | .csReady => Sys2Proof.Machine.execCsReady s
  | .dmaCopy c => Sys2Proof.Machine.execDmaCopy c s
  | .dmaFill c => Sys2Proof.Machine.execDmaFill c s
  | .dmaTransferComplete engine seq result => Sys2Proof.Machine.execDmaTransferComplete engine seq result s
  | .veLaunch c => Sys2Proof.Machine.execVeLaunch c s
  | .veReturn engine word run => Sys2Proof.Machine.execVeReturn engine word run s
  | .veException engine status run => Sys2Proof.Machine.execVeException engine status run s
  | .remoteWrite c => Sys2Proof.Machine.execRemoteWrite c s
  | .remoteRead c => Sys2Proof.Machine.execRemoteRead c s
  | .remoteAtomic c => Sys2Proof.Machine.execRemoteAtomic c s
  | .remoteSplice c => Sys2Proof.Machine.execRemoteSplice c s
  | .packerRow tile => Sys2Proof.Machine.execPackerRow tile s
  | .staticEntryWidening tile entry written => Sys2Proof.Machine.execStaticEntryWidening tile entry written s
  | .tileRowStart tile => Sys2Proof.Machine.execTileRowStart tile s
  | .planeCheck tile codes => Sys2Proof.Machine.execPlaneCheck tile codes s
  | .replayBlock tile => Sys2Proof.Machine.execReplayBlock tile s
  | .recomputation tile => Sys2Proof.Machine.execRecomputation tile s
  | .rowAddendsAdd tile => Sys2Proof.Machine.execRowAddendsAdd tile s
  | .bankLoadComplete tile => Sys2Proof.Machine.execBankLoadComplete tile s
  | .columnSumCheck tile => Sys2Proof.Machine.execColumnSumCheck tile s
  | .bankSwap tile => Sys2Proof.Machine.execBankSwap tile s
  | .refreshBurst tile => Sys2Proof.Machine.execRefreshBurst tile s
  | .idleBankRefresh tile seg => Sys2Proof.Machine.execIdleBankRefresh tile seg s
  | .epochCommandEnd tile => Sys2Proof.Machine.execEpochCommandEnd tile s
  | .supervisionWindowClose tile => Sys2Proof.Machine.execSupervisionWindowClose tile s
  | .qrate src quad rate => Sys2Proof.Machine.execQrate src quad rate s
  | .rateChangeDrained quad => Sys2Proof.Machine.execRateChangeDrained quad s
  | .rateChangeLocked quad => Sys2Proof.Machine.execRateChangeLocked quad s
  | .tileEn src tile on => Sys2Proof.Machine.execTileEn src tile on s
  | .returnSet src tile => Sys2Proof.Machine.execReturnSet src tile s
  | .calTriggerEvaluation tile => Sys2Proof.Machine.execCalTriggerEvaluation tile s
  | .request src mask => Sys2Proof.Machine.execRequest src mask s
  | .calibrationLoad tile => Sys2Proof.Machine.execCalibrationLoad tile s
  | .calibrationSwap tile => Sys2Proof.Machine.execCalibrationSwap tile s
  | .pmCalLate tile => Sys2Proof.Machine.execPmCalLate tile s
  | .frameEvent => Sys2Proof.Machine.execFrameEvent s
  | .lockGroupUpdate tile group conv late => Sys2Proof.Machine.execLockGroupUpdate tile group conv late s
  | .hotspotLimiter tile => Sys2Proof.Machine.execHotspotLimiter tile s
  | .heatEnSet src tile => Sys2Proof.Machine.execHeatEnSet src tile s
  | .heatEnClear src tile => Sys2Proof.Machine.execHeatEnClear src tile s
  | .heaterRampEnd tile => Sys2Proof.Machine.execHeaterRampEnd tile s
  | .ringSearchDone tile codes => Sys2Proof.Machine.execRingSearchDone tile codes s
  | .freeze src tile on => Sys2Proof.Machine.execFreeze src tile on s
  | .llRegularTrigger unit trig => Sys2Proof.Machine.execLlRegularTrigger unit trig s
  | .regGo src unit => Sys2Proof.Machine.execRegGo src unit s
  | .injGo src unit => Sys2Proof.Machine.execInjGo src unit s
  | .llSetConverted unit codes => Sys2Proof.Machine.execLlSetConverted unit codes s
  | .llRingTail src unit value => Sys2Proof.Machine.execLlRingTail src unit value s
  | .injectionStart unit cause ring leg => Sys2Proof.Machine.execInjectionStart unit cause ring leg s
  | .injectionEnd unit => Sys2Proof.Machine.execInjectionEnd unit s
  | .llHousekeeping unit readings => Sys2Proof.Machine.execLlHousekeeping unit readings s
  | .syscalZero src => Sys2Proof.Machine.execSyscalZero src s
  | .syscalFull src => Sys2Proof.Machine.execSyscalFull src s
  | .syscalCommit src => Sys2Proof.Machine.execSyscalCommit src s
  | .syscalStepDone means => Sys2Proof.Machine.execSyscalStepDone means s
  | .legHint tile leg => Sys2Proof.Machine.execLegHint tile leg s
  | .legTrip tile leg hard => Sys2Proof.Machine.execLegTrip tile leg hard s
  | .legBlankingEnd tile leg above => Sys2Proof.Machine.execLegBlankingEnd tile leg above s
  | .legTripWindowEnd tile => Sys2Proof.Machine.execLegTripWindowEnd tile s
  | .hmLegRearm src tile mask => Sys2Proof.Machine.execHmLegRearm src tile mask s
  | .close src tile => Sys2Proof.Machine.execClose src tile s
  | .railRisen quad => Sys2Proof.Machine.execRailRisen quad s
  | .legEnable tile leg => Sys2Proof.Machine.execLegEnable tile leg s
  | .combBiasUpdate comb powers => Sys2Proof.Machine.execCombBiasUpdate comb powers s
  | .laneBiasUpdate engine lane power => Sys2Proof.Machine.execLaneBiasUpdate engine lane power s
  | .lsEnSet src source => Sys2Proof.Machine.execLsEnSet src source s
  | .lsEnClear src source => Sys2Proof.Machine.execLsEnClear src source s
  | .rearm src source => Sys2Proof.Machine.execRearm src source s
  | .lsDrvOc source => Sys2Proof.Machine.execLsDrvOc source s
  | .combRampEnd comb => Sys2Proof.Machine.execCombRampEnd comb s
  | .laneRetune engine lane channel => Sys2Proof.Machine.execLaneRetune engine lane channel s
  | .laneTuned engine lane => Sys2Proof.Machine.execLaneTuned engine lane s
  | .lsTuneFail engine lane => Sys2Proof.Machine.execLsTuneFail engine lane s
  | .rxPowerReading engine lane power => Sys2Proof.Machine.execRxPowerReading engine lane power s
  | .powerReportSend port => Sys2Proof.Machine.execPowerReportSend port s
  | .lsPeerStale port lane => Sys2Proof.Machine.execLsPeerStale port lane s
  | .knotAdd agent knot amount => Sys2Proof.Machine.execKnotAdd agent knot amount s
  | .knotSub agent knot amount => Sys2Proof.Machine.execKnotSub agent knot amount s
  | .knotSet agent knot amount => Sys2Proof.Machine.execKnotSet agent knot amount s
  | .knotConfig agent knot external => Sys2Proof.Machine.execKnotConfig agent knot external s
  | .knotWait engine knot threshold consume => Sys2Proof.Machine.execKnotWait engine knot threshold consume s
  | .readFull engine addr => Sys2Proof.Machine.execReadFull engine addr s
  | .take engine addr => Sys2Proof.Machine.execTake engine addr s
  | .put engine addr data => Sys2Proof.Machine.execPut engine addr data s
  | .fill engine addr data => Sys2Proof.Machine.execFill engine addr data s
  | .clear engine addr => Sys2Proof.Machine.execClear engine addr s
  | .syKnotVal src knot value same => Sys2Proof.Machine.execSyKnotVal src knot value same s
  | .deadlockEvaluation => Sys2Proof.Machine.execDeadlockEvaluation s
  | .syWaitTimeout wait => Sys2Proof.Machine.execSyWaitTimeout wait s
  | .continue src queue => Sys2Proof.Machine.execContinue src queue s
  | .flush src queue => Sys2Proof.Machine.execFlush src queue s
  | .frameReceive port lane frame => Sys2Proof.Machine.execFrameReceive port lane frame s
  | .llrAck port lane ackSeq => Sys2Proof.Machine.execLlrAck port lane ackSeq s
  | .llrNak port lane nakSeq => Sys2Proof.Machine.execLlrNak port lane nakSeq s
  | .powerFrame port lane entries => Sys2Proof.Machine.execPowerFrame port lane entries s
  | .linkState port lane up => Sys2Proof.Machine.execLinkState port lane up s
  | .linkStateSend port lane => Sys2Proof.Machine.execLinkStateSend port lane s
  | .llrAckIdle port lane => Sys2Proof.Machine.execLlrAckIdle port lane s
  | .fxLlrExhausted port lane => Sys2Proof.Machine.execFxLlrExhausted port lane s
  | .linkLockLoss port lane => Sys2Proof.Machine.execLinkLockLoss port lane s
  | .linkUpTimeout port lane => Sys2Proof.Machine.execLinkUpTimeout port lane s
  | .planeSkipExpiry peer plane => Sys2Proof.Machine.execPlaneSkipExpiry peer plane s
  | .ack p => Sys2Proof.Machine.execAck p s
  | .readReq p => Sys2Proof.Machine.execReadReq p s
  | .readResp p => Sys2Proof.Machine.execReadResp p s
  | .write p => Sys2Proof.Machine.execWrite p s
  | .signalMessage p => Sys2Proof.Machine.execSignalMessage p s
  | .atomic p => Sys2Proof.Machine.execAtomic p s
  | .atomicResp p => Sys2Proof.Machine.execAtomicResp p s
  | .splice p => Sys2Proof.Machine.execSplice p s
  | .coilMsgCopy p => Sys2Proof.Machine.execCoilMsgCopy p s
  | .coilMsgWrite p => Sys2Proof.Machine.execCoilMsgWrite p s
  | .coilMsgAppend p => Sys2Proof.Machine.execCoilMsgAppend p s
  | .coilMsgRelease p => Sys2Proof.Machine.execCoilMsgRelease p s
  | .coilMsgFetch p => Sys2Proof.Machine.execCoilMsgFetch p s
  | .coilMsgData p => Sys2Proof.Machine.execCoilMsgData p s
  | .coilMsgStore p => Sys2Proof.Machine.execCoilMsgStore p s
  | .packetApply engine => Sys2Proof.Machine.execPacketApply engine s
  | .hello p => Sys2Proof.Machine.execHello p s
  | .helloSend => Sys2Proof.Machine.execHelloSend s
  | .coordinatorElection => Sys2Proof.Machine.execCoordinatorElection s
  | .keepaliveSend => Sys2Proof.Machine.execKeepaliveSend s
  | .keepalive p => Sys2Proof.Machine.execKeepalive p s
  | .gtCoordLost => Sys2Proof.Machine.execGtCoordLost s
  | .demandReportSend => Sys2Proof.Machine.execDemandReportSend s
  | .demand p => Sys2Proof.Machine.execDemand p s
  | .channelAssignment => Sys2Proof.Machine.execChannelAssignment s
  | .assign p => Sys2Proof.Machine.execAssign p s
  | .assignAcceptStop port lane => Sys2Proof.Machine.execAssignAcceptStop port lane s
  | .assignActivation port lane => Sys2Proof.Machine.execAssignActivation port lane s
  | .members p => Sys2Proof.Machine.execMembers p s
  | .routes p => Sys2Proof.Machine.execRoutes p s
  | .peerDown p => Sys2Proof.Machine.execPeerDown p s
  | .ackTimerExpiry peer psn => Sys2Proof.Machine.execAckTimerExpiry peer psn s
  | .busyResend peer psn => Sys2Proof.Machine.execBusyResend peer psn s
  | .timeExchange => Sys2Proof.Machine.execTimeExchange s
  | .timeReq p => Sys2Proof.Machine.execTimeReq p s
  | .timeResp p => Sys2Proof.Machine.execTimeResp p s
  | .ppsEdge => Sys2Proof.Machine.execPpsEdge s
  | .tmPpsMissing => Sys2Proof.Machine.execTmPpsMissing s
  | .ppsOutSecond => Sys2Proof.Machine.execPpsOutSecond s
  | .partitionCreate src part => Sys2Proof.Machine.execPartitionCreate src part s
  | .partitionRelease src part => Sys2Proof.Machine.execPartitionRelease src part s
  | .paReleased part => Sys2Proof.Machine.execPaReleased part s
  | .keySwitch src part => Sys2Proof.Machine.execKeySwitch src part s
  | .fkeyWordWrite src part keyId word data => Sys2Proof.Machine.execFkeyWordWrite src part keyId word data s
  | .previousKeyDrop part => Sys2Proof.Machine.execPreviousKeyDrop part s
  | .granuleReassign src granule owner => Sys2Proof.Machine.execGranuleReassign src granule owner s
  | .granuleZeroed granule => Sys2Proof.Machine.execGranuleZeroed granule s
  | .engineOwnerChange engine => Sys2Proof.Machine.execEngineOwnerChange engine s
  | .quantumExpiry tile => Sys2Proof.Machine.execQuantumExpiry tile s
  | .tileHandover tile => Sys2Proof.Machine.execTileHandover tile s
  | .paMboxReq src => Sys2Proof.Machine.execPaMboxReq src s
  | .paMboxRsp src part => Sys2Proof.Machine.execPaMboxRsp src part s
  | .breakpointHit core bp pc => Sys2Proof.Machine.execBreakpointHit core bp pc s
  | .ccHalt src core => Sys2Proof.Machine.execCcHalt src core s
  | .ccResume src core => Sys2Proof.Machine.execCcResume src core s
  | .ccStep src core => Sys2Proof.Machine.execCcStep src core s
  | .ccDrainEnd core => Sys2Proof.Machine.execCcDrainEnd core s
  | .veHalt src engine => Sys2Proof.Machine.execVeHalt src engine s
  | .veResume src engine => Sys2Proof.Machine.execVeResume src engine s
  | .traceSnapshot part => Sys2Proof.Machine.execTraceSnapshot part s
  | .trTail src part value => Sys2Proof.Machine.execTrTail src part value s
  | .veEngineFault engine => Sys2Proof.Machine.execVeEngineFault engine s
  | .ccPairSplit core => Sys2Proof.Machine.execCcPairSplit core s
  | .ccFwHalt pair => Sys2Proof.Machine.execCcFwHalt pair s
  | .resetInputRecognisedHigh input holdMs => Sys2Proof.Machine.execResetInputRecognisedHigh input holdMs s
  | .pcieLinkUp speed width => Sys2Proof.Machine.execPcieLinkUp speed width s
  | .laneAlignmentFecLock port lane => Sys2Proof.Machine.execLaneAlignmentFecLock port lane s
  | .pcieCompletionTimeout queue engine seq => Sys2Proof.Machine.execPcieCompletionTimeout queue engine seq s
  | .routerAdvertisement port router => Sys2Proof.Machine.execRouterAdvertisement port router s
  | .neighborDiscovery port mac => Sys2Proof.Machine.execNeighborDiscovery port mac s
  | .arpReply port mac => Sys2Proof.Machine.execArpReply port mac s
  | .pausePfcFrame port => Sys2Proof.Machine.execPausePfcFrame port s
  | .heaterBitstreamPeriod tile => Sys2Proof.Machine.execHeaterBitstreamPeriod tile s
  | .hintComparatorRearm tile leg => Sys2Proof.Machine.execHintComparatorRearm tile leg s
  | .sequencerCcFault core => Sys2Proof.Machine.execSequencerCcFault core s
  | .retainedBiasWrite comb => Sys2Proof.Machine.execRetainedBiasWrite comb s

end Sys2Proof.Machine
end

