-- ==== Sys2Proof/Machine/Tick.lean ====
section
/-! DEFINITION. One nanosecond of the module: the time bases, the symbol slots of the tiles, and the counters of time (R62, R255,
R272, R339, R340, R359, R422). It is what a step does where no command waits. -/
namespace Sys2Proof.Machine

/-- Fabric time advances by 16, or by 15 or 17 on one cycle in 256 while a slew stands (R340); it starts in BOOT (R373). -/
def Dev.tickTime (s : Dev) : Dev :=
  if s.bootState < 2 then { s with mono := s.mono + 16 }
  else
    let x := s.fabric.time
    if x.slew = 0 ∨ x.since < 255 then (s.pass 16).tm (fun x => { x with since := min (x.since + 1) 255 })
    else
      let d : Int := if 0 < x.slew then 1 else -1
      let s : Dev := { s with now := ((s.now : Int) + 16 + d).toNat % 2 ^ 64, mono := s.mono + 16 }
      (s.tm (fun x => { x with slew := x.slew - d, since := 0 })).bump Reg.TM_SLEW_CYCLES 0 1

/-- The symbol slots of one nanosecond of a tile: those its activation, column-sum, replay and refresh symbols take, and gap
slots, which carry probe symbols of a calibration run (R62, R170). -/
def Dev.tickSlots (s : Dev) (t : Nat) : Dev :=
  let n := s.slotsPerNs t
  let x := s.tile t
  let used := min x.debt n
  let s := if used = 0 then s else s.modTile t (fun x => { x with debt := x.debt - used })
  if used = n then s
  else (s.bump (s.gapKind t) t (n - used)).calProbe t (List.range 8) (n - used)

/-- Whether a queue's oldest finished command waits for room in its completion ring (R255). -/
def Dev.ringWaits (s : Dev) (q : Nat) : Bool :=
  match (s.queue q).done with
  | [] => false
  | d :: _ => !((s.queue q).silent || (d.c.quiet && d.status == 0)) && (s.rd Reg.QM_Q_STATE_CQ_TAIL q + 1) % s.cqSize q == (s.queue q).cqHead

/-- Add a nanosecond to a counter of time while its condition holds. -/
def Dev.during (s : Dev) (on : Bool) (f : Field) (i : Nat) : Dev := if on then s.bump f i 1 else s

/-- Counters of time at a bound, while work is held there (R273; no memory request outlasts its command, log entry 59), below the nominal core voltage, and with a permitted partition waiting for a tile. -/
def Dev.tickCounts (s : Dev) : Dev :=
  let used := s.slotsOf true + s.slotsOf false
  let waits := fun (q : Nat) => s.flag Reg.QM_CTRL_EN 0 && s.qState q == 1 && s.rd Reg.QM_Q_STATE_SQ_HEAD q != (s.queue q).sqTail
  let room := fun (q : Nat) => decide ((s.queue q).slots.length < 64)
  let qs := s.queues.map (fun e => e.1)
  let s := (s.during (decide (3840 ≤ s.slotsOf false) && qs.any (fun q => s.qClass q != 0 && waits q && room q)) Reg.QM_BOUND_SLOTS_NS 0).during
    (decide (4096 ≤ used) && qs.any (fun q => waits q && room q)) Reg.QM_BOUND_URG_NS 0
  let s := (s.during (s.fabric.msgs.any s.boundMsg) Reg.QM_BOUND_XPORT_NS 0).during (s.fabric.msgs.any s.boundPeer) Reg.QM_BOUND_PEER_NS 0
  let s := s.during (s.queues.any (fun e => s.ringWaits e.1)) Reg.QM_BOUND_CQ_NS 0
  let s := qs.foldl (fun s q => s.during (waits q && !room q) Reg.QM_Q_BOUND_NS q) s
  let s := s.during (s.flag Reg.PM_THERM_LIMITING 0) Reg.PM_LIMIT_NS 0
  (s.tiles.filter (fun e => !(s.waitingParts e.1).isEmpty)).foldl (fun s e => s.during true Reg.PA_SHARE_WAIT_NS e.1) s

/-- Memory errors of this nanosecond (R438, R454), where memory is in use: a corrected one is counted, an uncorrectable one stands
in its unit until a write clears it. Which come is free. -/
def Dev.memoryErrors (s : Dev) : Dev :=
  match Config.memoryError s.seed with
  | none => s.fresh
  | some (.inl d) => if d < 10 then s.fresh.pf 0 (0x48 + d) 1 else s.fresh
  | some (.inr a) => if (regionOf a = .hbm ∨ regionOf a = .lpddr) ∧ !s.deviceLost a then s.fresh.putBad a else s.fresh

/-- One nanosecond. The symbol clocks run from WARMUP on (R373). -/
def Dev.tick (s : Dev) : Dev :=
  let s := s.tickTime
  if s.bootState < 2 then s
  else
    let s := (List.range 20).foldl (fun s n => s.coreCode n) s.tickCounts
    if 5 ≤ s.bootState ∧ s.bootState ≤ 8 then (List.range 16).foldl (fun s t => s.tickSlots t) s.memoryErrors else s

end Sys2Proof.Machine
end

