-- ==== Sys2Proof/Safety.lean ====
section
/-! DEFINITION. What counts as a safe run, in the terms the statements use. -/
namespace Sys2Proof.Machine

/-- The command `c` completes in state `s`: it answers a next state, the queue of waiting commands stays as it was, and the
module it leaves satisfies `P`. -/
def Completes (c : Instr) (s : State) (P : Dev → Prop) : Prop := ∃ d, exec c s = .next { dev := d, pending := s.pending } ∧ P d

/-- Event `e` of instance `i` shows in the PAGE_ERR of its page (R406). -/
def Dev.shows (d : Dev) (e : Event) (i : Nat) : Bool := (d.rd Reg.PAGE_ERR (pageOf e.blk i)).testBit e.bit

/-- Event `e` of instance `i` is masked (R406). -/
def Dev.masks (d : Dev) (e : Event) (i : Nat) : Bool := (d.rd Reg.PAGE_ERR_MASK (pageOf e.blk i)).testBit e.bit

/-- The module traces nothing: no trace record reaches memory (R446). -/
def Dev.untraced (d : Dev) : Prop := d.flag Reg.TR_CTRL_EN 0 = false

/-- Every byte of memory reads in `t` as in `s`. -/
def Dev.sameMemory (s t : Dev) : Prop := ∀ a, t.byte a = s.byte a

/-- The fields that logging writes: PAGE_ERR, and the place and counters of a trace ring. -/
def logged : List Field := [Reg.PAGE_ERR, Reg.TR_HEAD_RECORD, Reg.TR_HEAD_FULL, Reg.TR_RECORDS, Reg.TR_BYTES, Reg.TR_DROPPED,
  Reg.TR_DROPPED_ALL]

/-- Whether logging leaves a field alone. -/
def Field.plain (f : Field) : Bool := logged.all (fun g => g.id != f.id)

/-- `t` is `s` with events, interrupts and trace records added: PAGE_ERR, the places and counters of the trace rings, memory,
interrupts and the trace counts may differ, nothing else, and no bit of PAGE_ERR clears. -/
structure Dev.Logged (s t : Dev) : Prop where
  rest : t = { s with regs := t.regs, mem := t.mem, msix := t.msix, trSeq := t.trSeq, trLost := t.trLost }
  regs : ∀ f i, f.plain = true → t.rd f i = s.rd f i
  errs : ∀ p j, j < 64 → (s.rd Reg.PAGE_ERR p).testBit j = true → (t.rd Reg.PAGE_ERR p).testBit j = true

/-- `t` is `s` but for what reporting events does: `Logged`, and with tracing off no byte of memory changes. -/
def Dev.Reports (s t : Dev) : Prop := s.Logged t ∧ (s.untraced → t.mem = s.mem)

/-- Command `c` has ended between `s` and `t`: its completion, with no results, is the last that its queue is to write. -/
def Dev.ends (s t : Dev) (c : Cmd) (status : Nat) (executed : Bool) (d0 d1 : Nat) : Prop :=
  (t.queue c.queue).done = (s.queue c.queue).done ++ [⟨c, status, executed, 0, 0, d0, d1, s.now⟩]

/-- The sequencer of tile `t` has nothing to do: no command is held or in progress. -/
def Dev.calm (s : Dev) (t : Nat) : Prop := (s.tile t).held = [] ∧ (s.tile t).runs = []

/-- Nothing keeps a patch command of `c` from executing at once on its tile: the gate passes it, the sequencer runs and has
nothing to do, and no wait is in progress. -/
def Dev.takesPatch (s : Dev) (c : Cmd) : Prop :=
  s.gate c.tile (s.cPart c) = .pass ∧ s.calm c.tile ∧ (s.tile c.tile).dead = false ∧ s.seqStopped c.tile = false ∧ s.waits = []

/-- A regular pass of leadline unit `u` can start at once: the sequence is enabled and idle, its ring stands empty at record 0
and has room for the first entry, which names channels of the unit. -/
def Dev.passReady (s : Dev) (u : Nat) : Prop :=
  s.flag Reg.LL_CTRL_REG_EN u = true ∧ s.flag Reg.LL_STATUS_SYSCAL_BUSY u = false ∧ s.rd Reg.LL_STATUS_REG_STATE u = 1 ∧
  s.rd Reg.LL_RING_HEAD_RECORD u = 0 ∧ s.rd Reg.LL_RING_TAIL_RECORD u = 0 ∧ 0 < s.rd Reg.LL_LEN_REG_LEN u ∧
  entryIndices u 0 (NMap.get 0 (s.unit u).list 0) ≠ [] ∧
  (entryIndices u 0 (NMap.get 0 (s.unit u).list 0)).length + 2 ≤ s.ringRecords u

/-- Address `a` lies in a copy of the coil table (R231). -/
def Dev.inTable (s : Dev) (a : Nat) : Prop :=
  ∃ b ∈ [s.rd Reg.CS_TABLE0_BASE 0, s.rd Reg.CS_TABLE1_BASE 0], b * 65536 ≤ a ∧ a < b * 65536 + s.tableSlots * 128

/-- The context store takes command `c` on its slot, which holds the LIVE coil `k` that the handle names, and nothing holds a
coil or moves this one. -/
def Dev.takesCoil (s : Dev) (c : Cmd) (k : Coil) : Prop :=
  s.flag Reg.CS_CTRL_EN 0 = true ∧ s.flag Reg.CS_STATUS_READY 0 = true ∧ k = s.coilAt (hSlot c.handle) ∧
  hPart c.handle = s.cPart c ∧ hSlot c.handle < s.tableSlots ∧ k.state = 1 ∧ k.gen = hGen c.handle ∧ k.owner = hPart c.handle ∧
  k.group = s.rd Reg.QM_Q_CFG_GROUP c.queue ∧ s.coilOps = [] ∧ s.moveOf (hSlot c.handle) = none ∧
  k.xl + k.ext.length ≤ s.tableSlots * 8

/-- Every coil but that of `slot` is in `d` as in `s`. -/
def Dev.onlyCoil (s d : Dev) (slot : Nat) : Prop := ∀ j, j ≠ slot → d.coilAt j = s.coilAt j

/-- Every byte outside the copies of the coil table reads in `d` as in `s`. -/
def Dev.tableOnly (s d : Dev) : Prop := ∀ a, ¬ s.inTable a → d.byte a = s.byte a

/-- The fabric has no message to send, no packet in flight and nobody to tell. -/
def Dev.quiet (s : Dev) : Prop := s.fabric.msgs = [] ∧ s.fabric.out = [] ∧ s.fabric.told = []

/-- Packet `p` is for this module and authentic, and its sender is known in the incarnation it names (R318, R322, R327). -/
def Dev.hears (s : Dev) (p : Packet) : Prop :=
  s.flag Reg.GT_CTRL_EN 0 = true ∧ p.dst = s.fnid ∧ p.ce = false ∧ s.authentic p = true ∧ (s.peer p.src).former.contains p.inc = false ∧
  s.rd Reg.GT_PEER_STATE p.src ≠ 0 ∧ s.rd Reg.GT_PEER_INCARNATION p.src = p.inc ∧ (s.directPort p.port = true ∨ p.sumOk = true)

/-- The receive window of a packet's connection. -/
def Dev.winOf (s : Dev) (p : Packet) : RxWin := NMap.get {} (s.peer p.src).wins (winKey p)

/-- Packet `p` has been committed (R330). -/
def Dev.committed (s : Dev) (p : Packet) : Prop := p.psn < (s.winOf p).low ∨ p.psn ∈ (s.winOf p).seen

/-- Nothing keeps packet `p` from being committed and answered: its PSN is in the window and not yet committed, there is room,
the link it came on is up and an answer can leave on it. -/
def Dev.takesPacket (s : Dev) (p : Packet) : Prop :=
  s.hears p ∧ p.psn < 2 ^ 47 ∧ (s.winOf p).low ≤ p.psn ∧ p.psn < (s.winOf p).low + 1024 ∧ p.psn ∉ (s.winOf p).seen ∧
  s.fabric.rxq = [] ∧ p.size ≤ rxBuffer ∧ (s.sendKey 0).isSome ∧ (s.link (s.linkOf p.port p.lane)).up = true ∧
  (s.peer p.src).ackSeq < 2 ^ 47 ∧ (s.directPort p.port = true ∨ ((NMap.get ({} : Gateway) s.fabric.gateways p.port).mac).isSome)

/-- Among the frames that left between `s` and `d` is the ACK of packet `p`, with flags and status (R326). -/
def Dev.answers (s d : Dev) (p : Packet) (flags status : Nat) : Prop :=
  ∃ (l : List Sent) (f : Sent) (a : Packet), d.fabric.net = s.fabric.net ++ l ∧ f ∈ l ∧ f.wire = .packet a ∧ a.typ = 0 ∧
    a.dst = p.src ∧ a.idx = p.idx ∧ a.queue = p.queue ∧
    a.ext = [BitVec.ofNat 64 (p.psn + flags * 2 ^ 48), BitVec.ofNat 64 status]

/-- Packet `p` was committed, and its ACK says so. -/
def Dev.took (s d : Dev) (p : Packet) : Prop := d.committed p ∧ s.answers d p 0 0

/-- A message to `peer` of a type, with an extension and data, is in the transport of `d`. -/
def Dev.sends (d : Dev) (peer typ : Nat) (ext : List Nat) (data : List Byte) : Prop :=
  ∃ m ∈ d.fabric.msgs, m.peer = peer ∧ m.typ = typ ∧ m.ext = ext ∧ m.data = data

/-- Memory of `d` is that of `s` with some bytes written from address `a` on. -/
def Dev.stores (s d : Dev) (a : Nat) (bs : List Byte) : Prop :=
  ∀ x, d.byte x = if a ≤ x ∧ x < a + bs.length then bs.getD (x - a) 0 else s.byte x

/-- One frame left between `s` and `d`: on a lane of a port, with `w`. -/
def Dev.emits (s d : Dev) (port lane : Nat) (w : Wire) : Prop :=
  ∃ f : Sent, d.fabric.net = s.fabric.net ++ [f] ∧ f.port = port ∧ f.lane = lane ∧ f.wire = w

/-- A timer that runs out at `t` of the local clock has brought both clocks of `d` there; fabric time wraps (log entry 12). -/
def Dev.reached (s d : Dev) (t : Nat) : Prop := d.mono = max s.mono t ∧ d.now = (s.now + (d.mono - s.mono)) % 2 ^ 64

/-- An event that comes at fabric time `t` has brought both clocks of `d` there; fabric time wraps (log entry 12). -/
def Dev.reachedTime (s d : Dev) (t : Nat) : Prop := d.mono = s.mono + (t - s.now) ∧ d.now = (s.now + (t - s.now)) % 2 ^ 64

/-- Every tile but `t` is in `d` as in `s`. -/
def Dev.onlyTile (s d : Dev) (t : Nat) : Prop := ∀ u, u ≠ t → d.tile u = s.tile u

/-- The memory of the module has its canonical form: addresses rising, no byte listed that reads as an unlisted one. -/
abbrev Memory.wf (s : Dev) : Prop := NMap.wf 0 s.mem = true

/-- The flash has its canonical form. -/
abbrev Flash.wf (s : Dev) : Prop := NMap.wf 0xFF s.boot.flash = true

/-- What every command keeps: memory and flash in their canonical form. -/
def Dev.Canonical (d : Dev) : Prop := Memory.wf d ∧ Flash.wf d

end Sys2Proof.Machine
end

