-- ==== Sys2Proof/Certificates/Slice0/Obligations.lean ====
section
/-! DEFINITION. The statements for the provers. Each groups commands of one family: for every command its effect on the module, and
what it leaves unchanged, under hypotheses on the module and the command's operands alone. -/
open Sys2Proof Sys2Proof.Machine

/-- INPUT_POWER_VALID, INPUT_POWER_LOSS, RESET_RECOGNISED_LOW, RESET_RELEASE, RESET_INPUT_RECOGNISED_HIGH, BT_RESET_STUCK, REBOOT (R371, R376
to R379, R397, R463): where each leaves the module, what a reset loses and what outlives it. The memory that reads 0 afterwards is log
entry 2, what else outlives a reset log entry 17. -/
def Obligations.ResetInputs : Prop :=
  (∀ s : State, s.dev.boot.power = false →
    Completes .inputPowerValid s (fun d => d.boot.power = true ∧ d.bootState = 1 ∧ d.boot.flash = s.dev.boot.flash ∧
      d.sameMemory s.dev)) ∧
  (∀ s : State, s.dev.boot.power = true →
    Completes .inputPowerLoss s (fun d => d.boot.power = false ∧ d.bootState = 0 ∧ d.boot.bypass = false ∧
      d.flag Reg.BT_STATUS_STUCK_MOD 0 = false ∧ d.flag Reg.BT_STATUS_STUCK_PERST 0 = false ∧ ∀ a, d.byte a = 0)) ∧
  (∀ (s : State) (i : ResetInput), s.dev.boot.power = true → s.dev.bootState ≠ 1 → s.dev.boot.op = none →
    Completes (.resetRecognisedLow i) s (fun d => d.bootState = 1 ∧ d.inputLow i = true ∧ (∀ a, d.byte a = 0) ∧
      d.boot.flash = s.dev.boot.flash ∧ d.queues = [] ∧ d.tiles = [] ∧ d.knots = [] ∧ d.parts = [])) ∧
  (∀ (s : State) (i : ResetInput) (hold : Nat), s.dev.boot.power = true → s.dev.bootState = 1 → s.dev.boot.trip = 0 →
    s.dev.inputLow i = true → (∀ j, j ≠ i → s.dev.inputLow j = false) →
    Completes (.resetRelease i hold) s (fun d => d.bootState = 2 ∧ d.rd Reg.BT_RESET_LAST_HOLD_MS 0 = min hold (2 ^ 32 - 1) ∧
      d.rd Reg.PM_VCORE_SET_MV 0 = 750 ∧ d.inputLow i = false ∧
      d.boot.bypass = (if i = .modReset then decide (8000 ≤ hold) else s.dev.boot.bypass))) ∧
  (∀ (s : State) (i : ResetInput) (hold : Nat), s.dev.boot.power = true → s.dev.bootState = 1 →
    s.dev.inputLow i = true → (∃ j, j ≠ i ∧ s.dev.inputLow j = true) →
    Completes (.resetInputRecognisedHigh i hold) s (fun d => d.bootState = 1 ∧ d.inputLow i = false ∧ d.rd (stuckBit i) 0 = 0)) ∧
  (∀ (s : State) (i : ResetInput), s.dev.boot.power = true → s.dev.inputLow i = true → s.dev.masks Ev.BT_RESET_STUCK 0 = false →
    Completes (.btResetStuck i) s (fun d => (s.dev.wr (stuckBit i) 0 1).Reports d ∧ d.shows Ev.BT_RESET_STUCK 0 = true ∧
      d.alert = true)) ∧
  (∀ (s : State) (src : Src), s.dev.reaches src .BT = .ok → srcPart src = 0 → 7 ≤ s.dev.bootState → s.dev.boot.power = true →
    s.dev.boot.modLow = false → s.dev.boot.perstLow = false → s.dev.boot.trip = 0 →
    Completes (.reboot src) s (fun d => d.bootState = 2 ∧ d.rd Reg.BT_RESET_LAST_MOD 0 = 1 ∧ d.boot.bypass = false))

/-- PCIE_CONFIG_REQUEST, PCIE_LINK_UP, HI_LINK_DOWN (R373, R425 to R427): the answer to a configuration request, and what a link that comes up
or goes down leaves and reports. The fields that HI_LINK_DOWN clears and the test of the 100 ms are the model's (log entry 16). -/
def Obligations.HostLink : Prop :=
  (∀ (s : State) (ms : Nat), 2 ≤ s.dev.bootState →
    Completes (.pcieConfigRequest ms) s
      (fun d => d = { s.dev with boot := { s.dev.boot with cfgOut := s.dev.boot.cfgOut ++ [decide (100 ≤ ms)] } })) ∧
  (∀ (s : State) (speed width : Nat), 2 ≤ s.dev.bootState → 1 ≤ speed → speed ≤ 6 → width ∈ [1, 4, 8, 16] →
    s.dev.masks Ev.HI_SPEED_DEGRADED 0 = false →
    Completes (.pcieLinkUp speed width) s (fun d =>
      ((((s.dev.wr Reg.HI_LINK_SPEED 0 speed).wr Reg.HI_LINK_WIDTH 0 width).wr Reg.HI_LINK_FLIT 0 (b2n (speed == 6))).wr
        Reg.HI_LINK_UP 0 1).Reports d ∧ (speed < 6 ∨ width < 16 → d.shows Ev.HI_SPEED_DEGRADED 0 = true))) ∧
  (∀ s : State, s.dev.flag Reg.HI_LINK_UP 0 = true → s.dev.masks Ev.HI_LINK_DOWN 0 = false →
    Completes .hiLinkDown s (fun d =>
      (((((s.dev.wr Reg.HI_LINK_SPEED 0 0).wr Reg.HI_LINK_WIDTH 0 0).wr Reg.HI_LINK_FLIT 0 0).wr Reg.HI_LINK_UP 0 0).bump
        Reg.HI_LINK_DOWNS 0 1).Reports d ∧ d.shows Ev.HI_LINK_DOWN 0 = true))

/-- BOOT_COMPLETE, RESTORE_COMPLETE, FWLOAD_COMPLETE (R160, R181, R371, R374, R380, R387, R389 to R394): for every module in the state
that each command ends, the start-up state entered, or LIMITED with its cause, and what has been read from the flash and the calibration
store by then. Whether the factory record and the signatures are good is free (log entry 29). -/
def Obligations.StartUp : Prop :=
  (∀ (s : State) (f : Sfdp), s.dev.bootState = 2 → s.dev.boot.sfdp = some f → 26 ≤ f.log2 → f.log2 ≤ 28 →
    Completes .bootComplete s (fun d => d.rd Reg.FL_INFO_LOG2_SIZE 0 = f.log2 ∧ d.flag Reg.FL_INFO_SFDP_OK 0 = true ∧
      d.flag Reg.BT_STATUS_HDR_OK 0 = s.dev.header.isSome ∧
      d.rd Reg.BT_FW_SEL_SFW_PREF 0 = (s.dev.header.map (fun h => h.2.2.1 % 2)).getD 0 ∧
      d.rd Reg.BT_FW_SEL_PFW_PREF 0 = (s.dev.header.map (fun h => h.2.2.2 % 2)).getD 0 ∧
      if Config.factoryAccepted (NMap.range s.dev.boot.flash 0x2B10000 0x4000000) (s.dev.rd Reg.ID_SERIAL 0) = true then
        d.bootState = 3 ∧ d.flag Reg.BT_STATUS_FACTORY_OK 0 = true ∧ d.sameMemory s.dev
      else d.bootState = 9 ∧ d.rd Reg.BT_STATE_LIMIT 0 = 2)) ∧
  (∀ s : State, s.dev.bootState = 2 → (∀ f, s.dev.boot.sfdp = some f → f.log2 < 26 ∨ 28 < f.log2) →
    s.dev.masks Ev.BT_FLASH 0 = false →
    Completes .bootComplete s (fun d => d.bootState = 9 ∧ d.rd Reg.BT_STATE_LIMIT 0 = 1 ∧ d.shows Ev.BT_FLASH 0 = true)) ∧
  (∀ s : State, s.dev.bootState = 3 → Completes .restoreComplete s (fun d => d.bootState = 4 ∧ d.boot.bypass = false ∧
    (∀ t m, t < 16 → NMap.get none s.dev.boot.cal.maps t = some m → (d.tile t).subs = m) ∧
    (∀ t, t < 16 → s.dev.boot.cal.tables = true → NMap.get [] s.dev.boot.cal.points t ≠ [] →
      (d.ringTile t).image = NMap.get [] s.dev.boot.cal.points t ∧ d.flag Reg.LK_STATUS_SP_OK t = true) ∧
    (∀ q b, q < 4 → NMap.get none s.dev.boot.cal.biases q = some b → (d.comb q).bias0 = some b) ∧
    (s.dev.boot.cal.tables = true → d.flag Reg.BT_STATUS_CALSTORE_OK 0 = true) ∧
    (s.dev.boot.cal.tables = false → d.flag Reg.BT_STATUS_FACTORY_START 0 = true) ∧
    (s.dev.activeCopy = none → d.rd Reg.BT_JOURNAL_COPY 0 = 0 ∧ d.rd Reg.BT_JOURNAL_GEN 0 = 1))) ∧
  (∀ s : State, s.dev.bootState = 4 → Completes .fwloadComplete s (fun d =>
    match s.dev.chooseSlot 1 (s.dev.rd Reg.BT_FW_SEL_SFW_PREF 0), s.dev.chooseSlot 2 (s.dev.rd Reg.BT_FW_SEL_PFW_PREF 0) with
    | some (a, fa), some (b, fb) =>
      d.rd Reg.BT_STATUS_SFW_SLOT 0 = a % 2 ∧ d.rd Reg.BT_STATUS_PFW_SLOT 0 = b % 2 ∧
      d.flag Reg.BT_STATUS_SFW_FALLBACK 0 = fa ∧ d.flag Reg.BT_STATUS_PFW_FALLBACK 0 = fb ∧
      if s.dev.imageLe 1 a 6 2 / 256 ≠ s.dev.imageLe 2 b 6 2 / 256 then d.bootState = 9 ∧ d.rd Reg.BT_STATE_LIMIT 0 = 4
      else if s.dev.imageLe 1 a 0xC 4 % 2 = 0 ∨ s.dev.imageLe 2 b 0xC 4 % 2 = 0 then d.bootState = 9 ∧ d.rd Reg.BT_STATE_LIMIT 0 = 5
      else d.bootState = 5 ∧ d.boot.warmAt = s.dev.mono ∧ d.rd Reg.BT_FW_SFW_IF_VER 0 = s.dev.imageLe 1 a 6 2 ∧
        d.rd Reg.BT_FW_PFW_IF_VER 0 = s.dev.imageLe 2 b 6 2 ∧ ∀ q, q < 4 → d.flag Reg.LS_CTRL_EN q = true
    | _, _ => d.bootState = 9 ∧ d.rd Reg.BT_STATE_LIMIT 0 = 3))

/-- FLASH commands FL_READ, FL_PROGRAM, FL_ERASE_4K, FL_ERASE_64K, FLASH_OPERATION_COMPLETE, FL_TIMEOUT (R382, R399, R400): a request that
nothing refuses is taken whole, and its end has its effect; a request that times out leaves the flash outside its range as it was. -/
def Obligations.FlashEngine : Prop :=
  (∀ (s : State) (src : Src), s.dev.reaches src .FL = .ok → srcPart src = 0 → s.dev.flag Reg.FL_STATUS_BUSY 0 = false →
    s.dev.rd Reg.FL_ADDR_ADDR 0 + (s.dev.rd Reg.FL_LEN_LEN_M1 0 + 1) ≤ 0x4000000 →
    s.dev.protectedAt 1 (s.dev.rd Reg.FL_ADDR_ADDR 0) (s.dev.rd Reg.FL_LEN_LEN_M1 0 + 1) = none →
    Completes (.flRead src) s (fun d => d = { s.dev with boot := { s.dev.boot with
      op := some ⟨1, s.dev.rd Reg.FL_ADDR_ADDR 0, s.dev.rd Reg.FL_LEN_LEN_M1 0 + 1, []⟩ } }.wr Reg.FL_STATUS_BUSY 0 1)) ∧
  (∀ (s : State) (src : Src), s.dev.reaches src .FL = .ok → srcPart src = 0 → s.dev.flag Reg.FL_STATUS_BUSY 0 = false →
    s.dev.rd Reg.FL_ADDR_ADDR 0 + (s.dev.rd Reg.FL_LEN_LEN_M1 0 + 1) ≤ 0x4000000 →
    s.dev.protectedAt 2 (s.dev.rd Reg.FL_ADDR_ADDR 0) (s.dev.rd Reg.FL_LEN_LEN_M1 0 + 1) = none →
    s.dev.notBlank (s.dev.rd Reg.FL_ADDR_ADDR 0) (s.dev.rd Reg.FL_LEN_LEN_M1 0 + 1) = none →
    Completes (.flProgram src) s (fun d => d = { s.dev with boot := { s.dev.boot with
      op := some ⟨2, s.dev.rd Reg.FL_ADDR_ADDR 0, s.dev.rd Reg.FL_LEN_LEN_M1 0 + 1,
        (List.range (s.dev.rd Reg.FL_LEN_LEN_M1 0 + 1)).map (fun i => NMap.get 0 s.dev.boot.flData i)⟩ } }.wr Reg.FL_STATUS_BUSY 0 1)) ∧
  (∀ (s : State) (src : Src), s.dev.reaches src .FL = .ok → srcPart src = 0 → s.dev.flag Reg.FL_STATUS_BUSY 0 = false →
    s.dev.rd Reg.FL_ADDR_ADDR 0 % 4096 = 0 → s.dev.rd Reg.FL_ADDR_ADDR 0 + 4096 ≤ 0x4000000 →
    s.dev.protectedAt 3 (s.dev.rd Reg.FL_ADDR_ADDR 0) 4096 = none →
    Completes (.flErase4k src) s (fun d => d = { s.dev with boot := { s.dev.boot with
      op := some ⟨3, s.dev.rd Reg.FL_ADDR_ADDR 0, 4096, []⟩ } }.wr Reg.FL_STATUS_BUSY 0 1)) ∧
  (∀ (s : State) (src : Src), s.dev.reaches src .FL = .ok → srcPart src = 0 → s.dev.flag Reg.FL_STATUS_BUSY 0 = false →
    s.dev.rd Reg.FL_ADDR_ADDR 0 % 65536 = 0 → s.dev.rd Reg.FL_ADDR_ADDR 0 + 65536 ≤ 0x4000000 →
    s.dev.protectedAt 4 (s.dev.rd Reg.FL_ADDR_ADDR 0) 65536 = none →
    Completes (.flErase64k src) s (fun d => d = { s.dev with boot := { s.dev.boot with
      op := some ⟨4, s.dev.rd Reg.FL_ADDR_ADDR 0, 65536, []⟩ } }.wr Reg.FL_STATUS_BUSY 0 1)) ∧
  (∀ (s : State) (o : FlashOp), s.dev.boot.op = some o → o.op = 2 →
    Completes (.flashOperationComplete true) s (fun d => d.flag Reg.FL_STATUS_BUSY 0 = false ∧ d.boot.op = none ∧
      d.rd Reg.FL_STATUS_RESULT 0 = 0 ∧ d.sameMemory s.dev ∧
      ∀ a, d.flByte a = if o.addr ≤ a ∧ a < o.addr + o.data.length then o.data.getD (a - o.addr) 0 else s.dev.flByte a)) ∧
  (∀ (s : State) (o : FlashOp) (r : Bool), s.dev.boot.op = some o → 3 ≤ o.op →
    Completes (.flashOperationComplete r) s (fun d => d.flag Reg.FL_STATUS_BUSY 0 = false ∧ d.boot.op = none ∧
      d.rd Reg.FL_STATUS_RESULT 0 = 0 ∧ d.sameMemory s.dev ∧
      ∀ a, d.flByte a = if o.addr ≤ a ∧ a < o.addr + o.len then 0xFF else s.dev.flByte a)) ∧
  (∀ (s : State) (o : FlashOp), s.dev.boot.op = some o → s.dev.masks Ev.FL_TIMEOUT 0 = false →
    Completes .flTimeout s (fun d => d.flag Reg.FL_STATUS_BUSY 0 = false ∧ d.boot.op = none ∧ d.rd Reg.FL_STATUS_RESULT 0 = 4 ∧
      d.shows Ev.FL_TIMEOUT 0 = true ∧ ∀ a, a < o.addr ∨ o.addr + o.len ≤ a → d.flByte a = s.dev.flByte a))

/-- PACE_UPDATE, POWER_LIMITER_TICK, THERMAL_CHECK, PM_INPUT_RANGE, PM_RAIL_FAULT (R3, R421 to R424, R463, R464): the events reported, the
step of PM_VCORE_SET in each direction, and the trip above 105 degrees. 700 mV as the lower end is the rule's; its corners are log entry
19. -/
def Obligations.PowerAndHeat : Prop :=
  (∀ s : State, s.dev.boot.power = true → s.dev.masks Ev.PM_INPUT_RANGE 0 = false →
    Completes .pmInputRange s (fun d => s.dev.Reports d ∧ d.shows Ev.PM_INPUT_RANGE 0 = true)) ∧
  (∀ (s : State) (rail : Nat), s.dev.boot.power = true → s.dev.masks Ev.PM_RAIL_FAULT 0 = false →
    Completes (.pmRailFault rail) s (fun d => s.dev.Reports d ∧ d.shows Ev.PM_RAIL_FAULT 0 = true)) ∧
  (∀ (s : State) (steps : Nat), 2 ≤ s.dev.bootState →
    Completes (.paceUpdate steps) s (fun d => d = s.dev.wr Reg.PM_PACE_STEPS_US 0 steps)) ∧
  (∀ (s : State) (watts vin iin mv : Nat), 2 ≤ s.dev.bootState → s.dev.flag Reg.PM_THERM_OVER 0 = false →
    s.dev.rd Reg.PM_PWR_LIMIT_LIMIT_W 0 < watts → 700 ≤ s.dev.rd Reg.PM_VCORE_SET_MV 0 →
    Completes (.powerLimiterTick watts vin iin mv) s (fun d =>
      d.rd Reg.PM_VCORE_SET_MV 0 = max 700 (s.dev.rd Reg.PM_VCORE_SET_MV 0 - 10) % 2 ^ Reg.PM_VCORE_SET_MV.width ∧
      (s.dev.rd Reg.PM_VCORE_SET_MV 0 = 700 → s.dev.masks Ev.PM_PWR_LIMIT_HIT 0 = false → s.dev.boot.hit = false →
        d.shows Ev.PM_PWR_LIMIT_HIT 0 = true))) ∧
  (∀ (s : State) (watts vin iin mv : Nat), 2 ≤ s.dev.bootState → s.dev.flag Reg.PM_THERM_OVER 0 = false →
    watts + 50 < s.dev.rd Reg.PM_PWR_LIMIT_LIMIT_W 0 →
    Completes (.powerLimiterTick watts vin iin mv) s (fun d =>
      d.rd Reg.PM_VCORE_SET_MV 0 = min 750 (s.dev.rd Reg.PM_VCORE_SET_MV 0 + 10) ∧ d.mem = s.dev.mem)) ∧
  (∀ (s : State) (sensor : Nat) (temp : Int), sensor ≤ 30 → 105 * 16 < temp → s.dev.boot.power = true → s.dev.boot.trip = 0 →
    s.dev.masks Ev.PM_THERMTRIP 0 = false →
    Completes (.thermalCheck sensor temp) s (fun d => d.bootState = 1 ∧ d.boot.trip = 1 ∧ d.shows Ev.PM_THERMTRIP 0 = true))

/-- SMBUS_SET_POINTER, SMBUS_BLOCK_READ, SMBUS_ALERT_RESPONSE (R420): the whole effect of each. A NACK is shown as none in the list of answers
(log entry 19). -/
def Obligations.Smbus : Prop :=
  (∀ (s : State) (count off : Nat), s.dev.boot.power = true →
    Completes (.smbusSetPointer count off) s (fun d => d = { s.dev with boot :=
      if count = 3 ∧ off % 8 = 0 ∧ off < 0x3000 then { s.dev.boot with smPtr := off }
      else { s.dev.boot with smOut := s.dev.boot.smOut ++ [none] } })) ∧
  (∀ (s : State), s.dev.boot.power = true → s.dev.boot.smPtr < 0x3000 →
    Completes .smbusBlockRead s (fun d => ∃ b i, pageAt s.dev.boot.smPtr = some (b, i) ∧ d = { s.dev with boot := { s.dev.boot with
      smPtr := s.dev.boot.smPtr + 8
      smOut := s.dev.boot.smOut ++ [some (s.dev.view b i (s.dev.boot.smPtr % 0x1000) .smbus)] } })) ∧
  (∀ (s : State), s.dev.boot.power = true → 0x3000 ≤ s.dev.boot.smPtr →
    Completes .smbusBlockRead s (fun d => d = { s.dev with boot := { s.dev.boot with smOut := s.dev.boot.smOut ++ [none] } })) ∧
  (∀ (s : State), s.dev.alert = true →
    Completes .smbusAlertResponse s (fun d => d = { s.dev with boot := { s.dev.boot with smOut := s.dev.boot.smOut ++ [some 0x2C] } }))

/-- JOURNAL_PROGRAM, SAVE, BOOT_HEADER_WRITE, FACTORY_TABLE_COPY, CAL_STORE_MAP_WRITE, SET_POINT_IMAGE_WRITE, RETAINED_BIAS_WRITE (R157, R181,
R213, R381, R384, R386, R391): what each puts into the flash or the calibration store: the journal record of a setting and of a key, the
records of a SAVE over blank slots, the boot header, the tables, the maps of a tile, the set points of the moment, the bias of a comb. The
journal's slots and the structured store are log entry 27; that CAL_TEMP is the QTEMP of the write is log entry 63. -/
def Obligations.StoredSettings : Prop :=
  (∀ (s : State) (x : Nat × Nat) (r : List (Nat × Nat)), s.dev.boot.pending = x :: r → settingFields x.1 ≠ [] →
    s.dev.rd Reg.BT_JOURNAL_USED 0 + 513 ≤ 16384 →
    s.dev.notBlank (journalBase (s.dev.rd Reg.BT_JOURNAL_COPY 0) + 32 * s.dev.rd Reg.BT_JOURNAL_USED 0) 32 = none →
    Completes .journalProgram s (fun d => d.boot.pending = r ∧ d.rd Reg.BT_JOURNAL_USED 0 = s.dev.rd Reg.BT_JOURNAL_USED 0 + 1 ∧
      d.slotBytes (s.dev.rd Reg.BT_JOURNAL_COPY 0) (s.dev.rd Reg.BT_JOURNAL_USED 0) 1 = s.dev.settingRecord x.1 x.2 ∧
      d.sameMemory s.dev)) ∧
  (∀ (s : State) (k : FKey), s.dev.boot.pending = [] → s.dev.boot.pendingKey = true → (s.dev.part 0).newest = some k →
    s.dev.rd Reg.BT_JOURNAL_USED 0 + 514 ≤ 16384 →
    s.dev.notBlank (journalBase (s.dev.rd Reg.BT_JOURNAL_COPY 0) + 32 * s.dev.rd Reg.BT_JOURNAL_USED 0) 64 = none →
    Completes .journalProgram s (fun d => d.boot.pendingKey = false ∧ d.boot.wrapped = some (k.keyId, Config.keyWrap k.words) ∧
      d.rd Reg.BT_JOURNAL_USED 0 = s.dev.rd Reg.BT_JOURNAL_USED 0 + 2 ∧
      d.slotBytes (s.dev.rd Reg.BT_JOURNAL_COPY 0) (s.dev.rd Reg.BT_JOURNAL_USED 0) 2 = keyRecord k.keyId (Config.keyWrap k.words) ∧
      d.sameMemory s.dev)) ∧
  (∀ (s : State) (src : Src), s.dev.reaches src .BT = .ok → srcPart src = 0 → 7 ≤ s.dev.bootState →
    Completes (.save src) s (fun d => d.boot.pending = [] ∧ d.boot.pendingKey = false)) ∧
  (∀ (s : State) (src : Src) (n c : Nat), s.dev.reaches src .BT = .ok → srcPart src = 0 → 7 ≤ s.dev.bootState →
    s.dev.boot.pendingKey = false → (∀ x ∈ s.dev.boot.pending, settingFields x.1 ≠ []) →
    n = s.dev.rd Reg.BT_JOURNAL_USED 0 → c = s.dev.rd Reg.BT_JOURNAL_COPY 0 → n + s.dev.boot.pending.length + 512 ≤ 16384 →
    s.dev.notBlank (journalBase c + 32 * n) (32 * s.dev.boot.pending.length) = none →
    Completes (.save src) s (fun d => d.rd Reg.BT_JOURNAL_USED 0 = n + s.dev.boot.pending.length ∧ d.sameMemory s.dev ∧
      ∀ k x, s.dev.boot.pending[k]? = some x → d.slotBytes c (n + k) 1 = s.dev.settingRecord x.1 x.2)) ∧
  (∀ (s : State) (src : Src) (sfw pfw : Nat), s.dev.reaches src .BT = .ok → srcPart src = 0 → sfw < 2 → pfw < 2 →
    s.dev.rd Reg.BT_FW_SEL_SFW_PREF 0 ≠ sfw → s.dev.header = none →
    Completes (.bootHeaderWrite src sfw pfw) s (fun d => d.rd Reg.BT_FW_SEL_SFW_PREF 0 = sfw ∧ d.rd Reg.BT_FW_SEL_PFW_PREF 0 = pfw ∧
      d.flLe 0 4 = 0x48424448 ∧ d.flLe 4 4 = 1 ∧ d.flByte 8 = BitVec.ofNat 8 sfw ∧ d.flByte 9 = BitVec.ofNat 8 pfw ∧
      ∀ a, 0x1000 ≤ a → d.flByte a = s.dev.flByte a)) ∧
  (∀ s : State, s.dev.bootState = 7 ∨ s.dev.bootState = 8 → s.dev.flag Reg.BT_STATUS_FACTORY_START 0 = true →
    Completes .factoryTableCopy s (fun d => d =
      { s.dev with boot := { s.dev.boot with cal := { s.dev.boot.cal with tables := true } } })) ∧
  (∀ (s : State) (t : Nat), (s.dev.tile t).mapDirty = true → s.dev.masks Ev.PM_CAL_STORE 0 = false →
    Completes (.calStoreMapWrite t false) s (fun d =>
      (s.dev.modTile t (fun x => { x with mapDirty := false })).Reports d ∧ d.shows Ev.PM_CAL_STORE 0 = true)) ∧
  (∀ (s : State) (t : Nat), (s.dev.tile t).mapDirty = true →
    Completes (.calStoreMapWrite t true) s (fun d => (d.tile t).mapDirty = false ∧ d.sameMemory s.dev ∧ d.regs = s.dev.regs ∧
      NMap.get none d.boot.cal.maps t = some (s.dev.tile t).subs ∧
      ∀ u, u ≠ t → NMap.get none d.boot.cal.maps u = NMap.get none s.dev.boot.cal.maps u)) ∧
  (∀ (s : State) (t : Nat) (codes : List Nat), (s.dev.ringTile t).pointDue = true → NMap.get 0 s.dev.boot.pointAt t = 0 →
    codes = (List.range (groupsPerTile * 16)).map (fun r => (s.dev.ring t r).int / 4096) →
    Completes (.setPointImageWrite t true) s (fun d => (d.ringTile t).pointDue = false ∧ (d.ringTile t).image = codes ∧
      NMap.get [] d.boot.cal.points t = codes ∧ d.flag Reg.LK_STATUS_SP_OK t = true ∧
      d.rd Reg.HM_TEMP_CAL_TEMP t = s.dev.rd Reg.HM_TEMP_QTEMP t % 2 ^ 16 ∧
      (∃ m, NMap.get none d.boot.cal.maps t = some m ∧ m.slices = (s.dev.tile t).subs.slices) ∧
      NMap.get 0 d.boot.pointAt t = s.dev.mono + 1 ∧ d.sameMemory s.dev)) ∧
  (∀ (s : State) (q : Nat), s.dev.flag Reg.LS_STATUS_ON q = true → s.dev.flag Reg.LS_STATUS_RAMPING q = false →
    (s.dev.comb q).biasDue = true →
    Completes (.retainedBiasWrite q) s (fun d => (d.comb q).bias0 = some (s.dev.rd Reg.LS_BIAS_BIAS q) ∧
      NMap.get none d.boot.cal.biases q = some (s.dev.rd Reg.LS_BIAS_BIAS q) ∧ d.regs = s.dev.regs ∧ d.mem = s.dev.mem))

/-- BAD_WIDTH, HI_UNMAPPED, BT_EARLY_ACCESS, HOST_BAR2_ACCESS (R403, R413 to R418): where an access that is not a good register access shows,
and what a BAR2 access reads and writes. The states in which BAR2 acts are log entry 16. -/
def Obligations.HostAccesses : Prop :=
  (∀ (s : State) (src : Src) (off len : Nat) (w : Bool) (b : Blk) (i : Nat), pageAt off = some (b, i) →
    ¬(len = 8 ∧ off % 8 = 0) → ¬(w = false ∧ len = 4 ∧ off % 4 = 0) → s.dev.accessReach src b w = .ok →
    s.dev.mayWrite (srcPart src) b i (off % 0x1000 / 8 * 8) = true →
    Completes (.badWidth src off len w) s (fun d => d = s.dev.wr Reg.PAGE_STATUS_BAD_WIDTH (pageOf b i) 1)) ∧
  (∀ (s : State) (src : Src) (off : Nat) (w : Bool), 2 ≤ s.dev.bootState → pageAt off = none → isDoorbell off = false →
    s.dev.masks Ev.HI_UNMAPPED 0 = false →
    Completes (.hiUnmapped src 0 off w) s (fun d => (s.dev.bump Reg.HI_UNMAPPED_CNT 0 1).Reports d ∧
      d.shows Ev.HI_UNMAPPED 0 = true)) ∧
  (∀ (s : State) (src : Src) (off : Nat) (b : Blk) (i : Nat), pageAt off = some (b, i) → s.dev.accessReach src b true = .early →
    s.dev.masks Ev.BT_EARLY_ACCESS 0 = false →
    Completes (.btEarlyAccess src off true) s (fun d => s.dev.Reports d ∧ d.shows Ev.BT_EARLY_ACCESS 0 = true)) ∧
  (∀ (s : State) (fn off : Nat) (bs : List Byte), s.dev.bootState = 7 ∨ s.dev.bootState = 8 → bs ≠ [] →
    bar2Hole (s.dev.bar2Addr fn off) = false → bar2Hole (s.dev.bar2Addr fn off + (bs.length - 1)) = false →
    s.dev.probeWrite fn (s.dev.bar2Addr fn off) bs.length = .ok →
    Completes (.hostBar2Access fn off (.write bs)) s (fun d => d.regs = s.dev.regs ∧ d.boot = s.dev.boot ∧
      ∀ a, d.byte a = if s.dev.bar2Addr fn off ≤ a ∧ a < s.dev.bar2Addr fn off + bs.length then bs.getD (a - s.dev.bar2Addr fn off) 0
        else s.dev.byte a)) ∧
  (∀ (s : State) (fn off n : Nat), s.dev.bootState = 7 ∨ s.dev.bootState = 8 → 0 < n →
    bar2Hole (s.dev.bar2Addr fn off) = false → bar2Hole (s.dev.bar2Addr fn off + (n - 1)) = false →
    s.dev.probeRead fn (s.dev.bar2Addr fn off) n = .ok →
    Completes (.hostBar2Access fn off (.read n)) s (fun d => d = { s.dev with boot := { s.dev.boot with
      bar2Out := s.dev.boot.bar2Out ++ [some (s.dev.bytes (s.dev.bar2Addr fn off) n)] } }))

/-- REGISTER_WRITE and CNT_CLEAR (R404, R406 to R408): a write of PAGE_ERR clears exactly the bits written as 1, a write of PAGE_ERR_MASK
stores its value, both leave every other field as it was, and CNT_CLEAR zeroes every counter of the page and no field of another block. -/
def Obligations.RegisterAccess : Prop :=
  (∀ (s : State) (src : Src) (off : Nat) (b : Blk) (i : Nat) (v : Word), pageAt off = some (b, i) → off % 0x1000 = 0x20 →
    s.dev.reaches src b = .ok → s.dev.mayWrite (srcPart src) b i 0x20 = true →
    Completes (.registerWrite src off v []) s (fun d => d.sameMemory s.dev ∧
      (∀ f k, f.id ≠ Reg.PAGE_ERR.id ∨ k ≠ pageOf b i → d.rd f k = s.dev.rd f k) ∧
      ∀ j, j < 64 → (d.rd Reg.PAGE_ERR (pageOf b i)).testBit j =
        ((s.dev.rd Reg.PAGE_ERR (pageOf b i)).testBit j && !v.toNat.testBit j))) ∧
  (∀ (s : State) (src : Src) (off : Nat) (b : Blk) (i : Nat) (v : Word), pageAt off = some (b, i) → off % 0x1000 = 0x28 →
    s.dev.reaches src b = .ok → s.dev.mayWrite (srcPart src) b i 0x28 = true →
    Completes (.registerWrite src off v []) s (fun d => d.sameMemory s.dev ∧ d.rd Reg.PAGE_ERR_MASK (pageOf b i) = v.toNat ∧
      (∀ f k, f.id ≠ Reg.PAGE_ERR_MASK.id ∨ k ≠ pageOf b i → d.rd f k = s.dev.rd f k))) ∧
  (∀ (s : State) (src : Src) (page : Nat) (b : Blk) (i : Nat), pageOfIndex page = some (b, i) → b ≠ .PF →
    s.dev.reaches src b = .ok → s.dev.mayWrite (srcPart src) b i 0x10 = true →
    Completes (.cntClear src page []) s (fun d => d.sameMemory s.dev ∧
      (∀ f ∈ Reg.table, f.blk = b → f.acc = .rwh → f.id ≠ Reg.QS_SENT_DATA.id → f.id ≠ Reg.SY_KNOT_VAL_VALUE.id →
        ∀ k, (manyInst b = true → k % 128 = i) → d.rd f k = 0) ∧
      (∀ f, f.blk ≠ b → f.off < 4096 → f.lo < 64 → ∀ k, d.rd f k = s.dev.rd f k)))

/-- QUEUE_CREATE, QUEUE_DELETE, RESET_ERROR, DOORBELL_WRITE, CONTINUE, FLUSH (R253, R256 to R258, R302): the state each gives its queue, and
for QUEUE_CREATE, QUEUE_DELETE and DOORBELL_WRITE that no other queue changes. -/
def Obligations.QueueOperations : Prop :=
  (∀ (s : State) (src : Src) (q : Nat), s.dev.reaches src .QM = .ok → srcPart src = 0 → s.dev.qState q = 0 →
    4 ≤ s.dev.rd Reg.QM_Q_CFG_SQ_LOG2 q → 4 ≤ s.dev.rd Reg.QM_Q_CFG_CQ_LOG2 q → s.dev.rd Reg.QM_Q_CFG_WEIGHT q ≠ 0 →
    s.dev.rd Reg.QM_Q_CFG_VECTOR q < vectorCount (s.dev.qPart q) →
    s.dev.rd Reg.QM_Q_CFG_DRV_MAJOR q = s.dev.rd Reg.BT_FW_SFW_IF_VER 0 / 256 →
    Completes (.queueCreate src q) s (fun d => d.qState q = 1 ∧ d.rd Reg.QM_Q_STATE_SQ_HEAD q = 0 ∧
      d.rd Reg.QM_Q_STATE_CQ_TAIL q = 0 ∧ d.rd Reg.QM_Q_STATE_CQ_PHASE q = 1 ∧ d.rd Reg.QM_Q_STATE_INFLIGHT q = 0 ∧
      d.queue q = {} ∧ ∀ r, r ≠ q → d.qState r = s.dev.qState r ∧ d.queue r = s.dev.queue r)) ∧
  (∀ (s : State) (src : Src) (q : Nat), s.dev.reaches src .QM = .ok → srcPart src = 0 → s.dev.qState q = 1 ∨ s.dev.qState q = 4 →
    s.dev.waits = [] → (s.dev.queue q).slots = [] → (s.dev.queue q).done = [] → (s.dev.queue q).failedHead = false →
    Completes (.queueDelete src q) s (fun d => d.qState q = 0 ∧ d.sameMemory s.dev ∧
      ∀ r, r ≠ q → d.qState r = s.dev.qState r ∧ d.queue r = s.dev.queue r)) ∧
  (∀ (s : State) (src : Src) (q : Nat), s.dev.reaches src .QM = .ok → srcPart src = 0 → s.dev.qState q = 4 →
    Completes (.resetError src q) s (fun d => d = s.dev.wr Reg.QM_Q_STATE_STATE q (if s.dev.headHeld q then 2 else 1))) ∧
  (∀ (s : State) (src : Src) (q : Nat) (w : Word), s.dev.qState q = 1 ∨ s.dev.qState q = 2 → srcPart src = s.dev.qPart q →
    bit w 32 = true → bit w 33 = true → s.dev.tailOk q (bits w 15 0) = true → s.dev.headOk q (bits w 31 16) = true →
    Completes (.doorbellWrite src q w) s (fun d => d.regs = s.dev.regs ∧ d.mem = s.dev.mem ∧
      d.queue q = { s.dev.queue q with sqTail := bits w 15 0, cqHead := bits w 31 16 } ∧ ∀ r, r ≠ q → d.queue r = s.dev.queue r)) ∧
  (∀ (s : State) (src : Src) (q : Nat) (w : Word), s.dev.qState q = 1 ∨ s.dev.qState q = 2 → srcPart src = s.dev.qPart q →
    bit w 32 = true → bit w 33 = false → s.dev.tailOk q (bits w 15 0) = false → s.dev.masks Ev.QM_DB_BAD 0 = false →
    Completes (.doorbellWrite src q w) s (fun d => (s.dev.wr Reg.QM_Q_STATE_STATE q 4).Reports d ∧ d.shows Ev.QM_DB_BAD 0 = true)) ∧
  (∀ (s : State) (src : Src) (q : Nat), s.dev.reaches src .SY = .ok → srcPart src = 0 → (s.dev.queue q).failedHead = true →
    s.dev.qState q = 2 →
    Completes (.continue src q) s (fun d => d =
      (s.dev.modQueue q (fun x => { x with failedHead := false })).wr Reg.QM_Q_STATE_STATE q 1)) ∧
  (∀ (s : State) (src : Src) (q : Nat), s.dev.reaches src .SY = .ok → srcPart src = 0 → (s.dev.queue q).failedHead = true →
    s.dev.qState q = 2 → s.dev.rd Reg.QM_Q_STATE_SQ_HEAD q = (s.dev.queue q).sqTail →
    (∀ x ∈ (s.dev.queue q).slots, x.c.queue = q) →
    Completes (.flush src q) s (fun d => d.qState q = 1 ∧ (d.queue q).failedHead = false ∧
      (d.queue q).done = (s.dev.queue q).done ++ ((s.dev.queue q).slots.filter (fun x => !x.dispatched)).map
        (fun x => ⟨x.c, stFlushed, false, 0, 0, 0, 0, s.dev.now⟩)))

/-- QUEUE_FETCH, COMMAND_DISPATCH, COMMAND_COMPLETION, COALESCING_TIMEOUT, NOP (R254, R255, R259, R260, R265, R267, R272): fetched,
dispatched, completed, and shown by an entry and an interrupt. -/
def Obligations.QueueFlow : Prop :=
  (∀ (s : State) (d0 : Dev) (q : Nat) (b : List Byte), s.dev.flag Reg.QM_CTRL_EN 0 = true → s.dev.arbitrate = (d0, some q) →
    d0.ringRead q (d0.rd Reg.QM_Q_STATE_SQ_HEAD q) = some b →
    Completes (.queueFetch true) s (fun d =>
      (d.queue q).slots = (d0.queue q).slots ++ [⟨cmdOf q b, d0.rd Reg.QM_Q_STATE_SQ_HEAD q, false, false, 0⟩] ∧
      d.rd Reg.QM_Q_STATE_SQ_HEAD q = (d0.rd Reg.QM_Q_STATE_SQ_HEAD q + 1) % d0.sqSize q % 65536 ∧ d.mem = d0.mem)) ∧
  (∀ (s : State) (q : Nat) (x : Slot), (s.dev.queue q).slots.find? (fun y => !y.dispatched) = some x →
    s.dev.qState q = 1 → x.c.fence = false → opcodeOk x.c.opcode = true → s.dev.fwHalted = [] →
    Completes (.commandDispatch q) s (fun d => (d.queue q).slots = dispatchFirst s.dev.now (s.dev.queue q).slots ∧
      (d.queue q).done = (s.dev.queue q).done)) ∧
  (∀ (s : State) (q : Nat) (x : Done) (r : List Done) (ok : Bool), (s.dev.queue q).done = x :: r → x.c.quiet = true → x.status = 0 →
    Completes (.commandCompletion q ok) s (fun d => (d.queue q).done = r ∧ (d.queue q).slots = freeSlot x.c (s.dev.queue q).slots ∧
      d.rd Reg.QM_Q_STATE_CQ_TAIL q = s.dev.rd Reg.QM_Q_STATE_CQ_TAIL q)) ∧
  (∀ (s : State) (q : Nat) (x : Done) (r : List Done) (a n t : Nat), (s.dev.queue q).done = x :: r → x.status ≠ 0 →
    (s.dev.queue q).silent = false → n = s.dev.cqSize q → t = s.dev.rd Reg.QM_Q_STATE_CQ_TAIL q →
    (t + 1) % n ≠ (s.dev.queue q).cqHead → a = ringAddr (s.dev.rd Reg.QM_Q_CQ_LOC q) (s.dev.rd Reg.QM_Q_CQ_BASE q) t →
    s.dev.probeWrite (s.dev.qPart q) a 64 = .ok → s.dev.untraced →
    Completes (.commandCompletion q true) s (fun d => (d.queue q).done = r ∧ d.rd Reg.QM_Q_STATE_CQ_TAIL q = (t + 1) % n % 65536 ∧
      ∃ start, d.bytes a 64 = s.dev.completionBytes q x start)) ∧
  (∀ (s : State) (q : Nat), (s.dev.queue q).uncovered ≠ 0 →
    Completes (.coalescingTimeout q) s (fun d => (d.queue q).uncovered = 0 ∧ d.regs = s.dev.regs ∧ d.mem = s.dev.mem ∧
      d.msix = s.dev.msix ++ [(s.dev.qPart q, s.dev.rd Reg.QM_Q_CFG_VECTOR q)])) ∧
  (∀ (s : State) (c : Cmd), Completes (.nop c) s (fun d => d = s.dev.finish c 0 true 0 0 0 0))

/-- KNOT_ADD, KNOT_SUB, KNOT_SET, KNOT_CONFIG, SIGNAL, SY_KNOT_VAL (R285 to R289, R293): the value each leaves in a knot without waiters, and
that no other knot changes; an ADD that arrives in the cycle of a SUB, or of a register write, is done before the SUB and after the write. -/
def Obligations.KnotValues : Prop :=
  (∀ (s : State) (a : Agent) (k n : Nat), s.dev.agentRuns a = true → knotOk k = true → s.dev.knotPart k = s.dev.agentPart a →
    (s.dev.knot k).waiters = [] → (s.dev.knot k).val + n < 2 ^ 32 →
    Completes (.knotAdd a k ⟨n, []⟩) s (fun d => (d.knot k).val = (s.dev.knot k).val + n ∧ (∀ j, j ≠ k → d.knot j = s.dev.knot j) ∧
      d.queues = s.dev.queues ∧ d.engines = s.dev.engines ∧ d.waits = s.dev.waits ∧ (s.dev.untraced → d.sameMemory s.dev))) ∧
  (∀ (s : State) (a : Agent) (k n : Nat), s.dev.agentRuns a = true → knotOk k = true → s.dev.knotPart k = s.dev.agentPart a →
    (s.dev.knot k).waiters = [] → n ≤ (s.dev.knot k).val →
    Completes (.knotSub a k ⟨n, []⟩) s (fun d => (d.knot k).val = (s.dev.knot k).val - n ∧ (∀ j, j ≠ k → d.knot j = s.dev.knot j) ∧
      d.queues = s.dev.queues ∧ d.engines = s.dev.engines ∧ d.waits = s.dev.waits)) ∧
  (∀ (s : State) (p k n m : Nat), knotOk k = true → s.dev.knotPart k = p → (s.dev.knot k).waiters = [] →
    (s.dev.knot k).val + m < 2 ^ 32 → n ≤ (s.dev.knot k).val + m →
    Completes (.knotSub (.reg p) k ⟨n, [⟨.reg p, 0, m, none⟩]⟩) s (fun d => (d.knot k).val = (s.dev.knot k).val + m - n ∧
      ∀ j, j ≠ k → d.knot j = s.dev.knot j)) ∧
  (∀ (s : State) (a : Agent) (k v : Nat), s.dev.agentRuns a = true → knotOk k = true → s.dev.knotPart k = s.dev.agentPart a →
    (s.dev.knot k).waiters = [] →
    Completes (.knotSet a k ⟨v, []⟩) s (fun d => (d.knot k).val = v % 2 ^ 32 ∧ (∀ j, j ≠ k → d.knot j = s.dev.knot j) ∧
      d.queues = s.dev.queues ∧ d.engines = s.dev.engines ∧ d.waits = s.dev.waits)) ∧
  (∀ (s : State) (a : Agent) (k : Nat) (e : Bool), s.dev.agentRuns a = true → knotOk k = true → s.dev.knotPart k = s.dev.agentPart a →
    Completes (.knotConfig a k ⟨e, []⟩) s (fun d => d.knot k = { s.dev.knot k with external := e } ∧
      (∀ j, j ≠ k → d.knot j = s.dev.knot j) ∧ d.regs = s.dev.regs ∧ d.mem = s.dev.mem)) ∧
  (∀ (s : State) (c : Cmd) (k : Nat), k = bits c.w2 12 0 → bits c.w2 15 13 = 0 → bit c.w2 16 = false → knotOk k = true →
    s.dev.knotPart k = s.dev.cPart c → (s.dev.knot k).waiters = [] → (s.dev.knot k).val + bits c.w3 31 0 < 2 ^ 32 →
    Completes (.signal c) s (fun d => (d.knot k).val = (s.dev.knot k).val + bits c.w3 31 0 ∧
      (∀ j, j ≠ k → d.knot j = s.dev.knot j) ∧
      (d.queue c.queue).done = (s.dev.queue c.queue).done ++ [⟨c, 0, true, 0, 0, 0, 0, s.dev.now⟩])) ∧
  (∀ (s : State) (src : Src) (k v : Nat), s.dev.reaches src .SY = .ok → srcPart src = 0 → knotOk k = true →
    (s.dev.knot k).waiters = [] →
    Completes (.syKnotVal src k v []) s (fun d => (d.knot k).val = v % 2 ^ 32 ∧ (∀ j, j ≠ k → d.knot j = s.dev.knot j))) ∧
  (∀ (s : State) (src : Src) (p k v n : Nat), s.dev.reaches src .SY = .ok → srcPart src = 0 → knotOk k = true → s.dev.knotPart k = p →
    (s.dev.knot k).waiters = [] → v % 2 ^ 32 + n < 2 ^ 32 →
    Completes (.syKnotVal src k v [⟨.reg p, 0, n, none⟩]) s (fun d => (d.knot k).val = v % 2 ^ 32 + n ∧
      ∀ j, j ≠ k → d.knot j = s.dev.knot j))

/-- KNOT_ADD and KNOT_SUB (R288): one that would leave the range of a knot, or meets a knot of another partition, changes no knot and is
reported. -/
def Obligations.KnotMisuse : Prop :=
  (∀ (s : State) (p k n : Nat), knotOk k = true → s.dev.knotPart k = p → 2 ^ 32 ≤ (s.dev.knot k).val + n →
    s.dev.masks Ev.SY_OVERFLOW 0 = false →
    Completes (.knotAdd (.reg p) k ⟨n, []⟩) s (fun d => d.knots = s.dev.knots ∧ d.shows Ev.SY_OVERFLOW 0 = true)) ∧
  (∀ (s : State) (p k n : Nat), knotOk k = true → s.dev.knotPart k = p → (s.dev.knot k).val < n →
    s.dev.masks Ev.SY_UNDERFLOW 0 = false →
    Completes (.knotSub (.reg p) k ⟨n, []⟩) s (fun d => d.knots = s.dev.knots ∧ d.shows Ev.SY_UNDERFLOW 0 = true)) ∧
  (∀ (s : State) (p k n : Nat), knotOk k = true → s.dev.knotPart k ≠ p → s.dev.masks Ev.SY_FOREIGN 0 = false →
    Completes (.knotAdd (.reg p) k ⟨n, []⟩) s (fun d => d.knots = s.dev.knots ∧ d.shows Ev.SY_FOREIGN 0 = true))

/-- WAIT, KNOT_WAIT, SY_WAIT_TIMEOUT, DEADLOCK_EVALUATION (R287, R290, R292, R298 to R301): a threshold that is met is taken at once, one that
is not met waits, a wait of a queue that runs out of time fails its command, and an evaluation shows for every partition how many of its
queues are blocked and whether it is stalled, and for how long, and reports a stall that has lasted. The instants of the two timers are
log entries 12 and 51. -/
def Obligations.Waits : Prop :=
  (∀ (s : State) (c : Cmd) (k : Nat), k = bits c.w2 12 0 → bit c.w2 16 = false → knotOk k = true → s.dev.knotPart k = s.dev.cPart c →
    (s.dev.knot k).waiters = [] → s.dev.waits = [] → 0 < bits c.w3 31 0 → bits c.w3 31 0 ≤ (s.dev.knot k).val → bit c.w2 13 = true →
    Completes (.wait c) s (fun d => (d.knot k).val = (s.dev.knot k).val - bits c.w3 31 0 ∧ d.waits = [] ∧
      (d.queue c.queue).done = (s.dev.queue c.queue).done ++ [⟨c, 0, true, 0, 0, 0, 0, s.dev.now⟩])) ∧
  (∀ (s : State) (c : Cmd) (k : Nat), k = bits c.w2 12 0 → bit c.w2 16 = false → knotOk k = true → s.dev.knotPart k = s.dev.cPart c →
    (s.dev.knot k).waiters = [] → (s.dev.knot k).val < bits c.w3 31 0 → s.dev.rd Reg.QM_Q_STATE_STATE c.queue = 1 →
    bits c.w3 63 32 ≠ 0 →
    Completes (.wait c) s (fun d => d.rd Reg.QM_Q_STATE_STATE c.queue = 2 ∧ d.queues = s.dev.queues ∧
      d.waits = s.dev.waits ++ [⟨s.dev.nextWait, .knot k, .queue c.queue, s.dev.cPart c, s.dev.now, bits c.w3 63 32, some c⟩])) ∧
  (∀ (s : State) (e k v : Nat) (consume : Bool), s.dev.engineRuns e = true → knotOk k = true → s.dev.knotPart k = s.dev.engineOwner e →
    k / 64 = e → e < 64 → (s.dev.knot k).waiters = [] → s.dev.waits = [] → (s.dev.eng e).haltPending = false → v ≤ (s.dev.knot k).val →
    Completes (.knotWait e k v consume) s (fun d => d.rd Reg.VE_STATUS_STATE e = 1 ∧ d.waits = [] ∧
      (d.knot k).val = if consume then (s.dev.knot k).val - v else (s.dev.knot k).val)) ∧
  (∀ (s : State) (e k v : Nat) (consume : Bool), s.dev.engineRuns e = true → knotOk k = true → s.dev.knotPart k = s.dev.engineOwner e →
    k / 64 = e → e < 64 → (s.dev.knot k).waiters = [] → (s.dev.knot k).val < v →
    Completes (.knotWait e k v consume) s (fun d => d.rd Reg.VE_STATUS_STATE e = 2 ∧ (d.knot k).val = (s.dev.knot k).val ∧
      d.waits = s.dev.waits ++ [⟨s.dev.nextWait, .knot k, engineAgent e, s.dev.engineOwner e, s.dev.now,
        s.dev.rd Reg.SY_PART_TMO_DEFAULT (s.dev.engineOwner e), none⟩])) ∧
  (∀ (s : State) (w : Wait) (c : Cmd) (k : Nat), s.dev.waits.find? (fun x => x.id = w.id) = some w → w.obj = .knot k → w.c = some c →
    s.dev.masks Ev.SY_WAIT_TIMEOUT 0 = false →
    Completes (.syWaitTimeout w.id) s (fun d => d.shows Ev.SY_WAIT_TIMEOUT 0 = true ∧ (d.queue c.queue).failedHead = true ∧
      d.waits = s.dev.waits.filter (fun x => x.id ≠ w.id) ∧ (d.knot k).val = (s.dev.knot k).val ∧
      d.now = (s.dev.now + (w.limit * 16000 - (s.dev.now + 2 ^ 64 - w.start) % 2 ^ 64)) % 2 ^ 64 ∧
      (d.queue c.queue).done = (s.dev.queue c.queue).done ++ [⟨c, Ev.SY_WAIT_TIMEOUT.status, false, 0, 0, 0, 0, d.now⟩])) ∧
  (∀ s : State, s.dev.flag Reg.SY_CTRL_DL_EN 0 = true → s.dev.queues = [] →
    Completes .deadlockEvaluation s (fun d => d.now = (s.dev.now + ((s.dev.now / 16000 + 1) * 16000 - s.dev.now)) % 2 ^ 64 ∧
      ∀ p, p < 64 → d.rd Reg.SY_PART_STATE_STALLED p = 0 ∧ d.rd Reg.SY_PART_STATE_BLOCKED p = 0)) ∧
  (∀ s : State, s.dev.flag Reg.SY_CTRL_DL_EN 0 = true → s.dev.flag Reg.SY_CTRL_DL_ACTION 0 = false → s.dev.untraced →
    Completes .deadlockEvaluation s (fun d => d.waits = s.dev.waits ∧ d.queues = s.dev.queues ∧ ∀ p, p < 64 →
      d.rd Reg.SY_PART_STATE_BLOCKED p = (s.dev.blockedQueues p).length % 2 ^ Reg.SY_PART_STATE_BLOCKED.width ∧
      d.flag Reg.SY_PART_STATE_STALLED p = s.dev.stalled p ∧
      d.rd Reg.SY_PART_STATE_STALLED_US p = (if s.dev.stalled p && s.dev.flag Reg.SY_PART_STATE_STALLED p then
        min (s.dev.rd Reg.SY_PART_STATE_STALLED_US p + 1) (2 ^ 20 - 1) else 0))) ∧
  (∀ (s : State) (p : Nat), s.dev.flag Reg.SY_CTRL_DL_EN 0 = true → s.dev.flag Reg.SY_CTRL_DL_ACTION 0 = false → s.dev.untraced → p < 64 →
    s.dev.stalled p = true → s.dev.flag Reg.SY_PART_STATE_STALLED p = true → s.dev.dlReported.contains p = false →
    s.dev.rd Reg.SY_CTRL_DL_TIME 0 ≤ min (s.dev.rd Reg.SY_PART_STATE_STALLED_US p + 1) (2 ^ 20 - 1) →
    s.dev.masks Ev.SY_DEADLOCK 0 = false →
    Completes .deadlockEvaluation s (fun d => d.shows Ev.SY_DEADLOCK 0 = true ∧ d.dlReported.contains p = true)) ∧
  (∀ (s : State) (p q k : Nat) (c : Cmd) (w : Wait), s.dev.flag Reg.SY_CTRL_DL_EN 0 = true → s.dev.flag Reg.SY_CTRL_DL_ACTION 0 = true →
    s.dev.untraced → p < 64 → s.dev.queues.map (fun e => e.1) = [q] → s.dev.stalled p = true →
    s.dev.flag Reg.SY_PART_STATE_STALLED p = true → s.dev.dlReported.contains p = false →
    s.dev.rd Reg.SY_CTRL_DL_TIME 0 ≤ min (s.dev.rd Reg.SY_PART_STATE_STALLED_US p + 1) (2 ^ 20 - 1) →
    s.dev.inFlightOf q = [c] → c.queue = q → s.dev.waits = [w] → w.c = some c → w.obj = .knot k →
    Completes .deadlockEvaluation s (fun d => d.waits = [] ∧ (d.queue q).failedHead = true ∧
      (d.queue q).done = (s.dev.queue q).done ++ [⟨c, Ev.SY_DEADLOCK.status, false, 0, 0, 0, 0, d.now⟩]))

/-- READ_FULL, TAKE, PUT, FILL, CLEAR (R282 to R284, R290): for an engine that runs the data access and the bit change together, and a TAKE
of an empty word waits. -/
def Obligations.FullEmpty : Prop :=
  (∀ (s : State) (e a : Nat), s.dev.engineRuns e = true → s.dev.feParked = [] → feWordOk a = true →
    s.dev.probe (s.dev.engineOwner e) a 8 = .ok → (s.dev.fe a).full = true → (s.dev.fe a).waiters = [] →
    Completes (.readFull e a) s (fun d => d.served = s.dev.served ++ [⟨e, a, BitVec.ofNat 64 (s.dev.le a 8)⟩] ∧
      (d.fe a).full = true ∧ d.mem = s.dev.mem ∧ d.regs = s.dev.regs)) ∧
  (∀ (s : State) (e a : Nat), s.dev.engineRuns e = true → s.dev.feParked = [] → feWordOk a = true →
    s.dev.probe (s.dev.engineOwner e) a 8 = .ok → (s.dev.fe a).full = true → (s.dev.fe a).waiters = [] →
    Completes (.take e a) s (fun d => d.served = s.dev.served ++ [⟨e, a, BitVec.ofNat 64 (s.dev.le a 8)⟩] ∧
      (d.fe a).full = false ∧ d.mem = s.dev.mem ∧ d.regs = s.dev.regs)) ∧
  (∀ (s : State) (e a : Nat), s.dev.engineRuns e = true → feWordOk a = true → s.dev.probe (s.dev.engineOwner e) a 8 = .ok →
    (s.dev.fe a).full = false → (s.dev.fe a).waiters = [] → e < 64 →
    Completes (.take e a) s (fun d => d.served = s.dev.served ∧ (d.fe a).full = false ∧ d.rd Reg.VE_STATUS_STATE e = 2 ∧
      d.mem = s.dev.mem ∧ d.waits = s.dev.waits ++ [⟨s.dev.nextWait, .word a, .ve e, s.dev.engineOwner e, s.dev.now,
        s.dev.rd Reg.SY_PART_TMO_DEFAULT (s.dev.engineOwner e), none⟩])) ∧
  (∀ (s : State) (e a : Nat) (v : Word), s.dev.engineRuns e = true → s.dev.feParked = [] → feWordOk a = true →
    s.dev.probe (s.dev.engineOwner e) a 8 = .ok → (s.dev.fe a).full = false → (s.dev.fe a).waiters = [] →
    Completes (.put e a v) s (fun d => (d.fe a).full = true ∧ d.regs = s.dev.regs ∧
      ∀ x, d.byte x = if a ≤ x ∧ x < a + 8 then (leBytes 8 v.toNat).getD (x - a) 0 else s.dev.byte x)) ∧
  (∀ (s : State) (e a : Nat) (v : Word), s.dev.engineRuns e = true → s.dev.feParked = [] → feWordOk a = true →
    s.dev.probe (s.dev.engineOwner e) a 8 = .ok → (s.dev.fe a).waiters = [] →
    Completes (.fill e a v) s (fun d => (d.fe a).full = true ∧ d.regs = s.dev.regs ∧
      ∀ x, d.byte x = if a ≤ x ∧ x < a + 8 then (leBytes 8 v.toNat).getD (x - a) 0 else s.dev.byte x)) ∧
  (∀ (s : State) (e a : Nat), s.dev.engineRuns e = true → s.dev.feParked = [] → feWordOk a = true →
    s.dev.probe (s.dev.engineOwner e) a 8 = .ok → (s.dev.fe a).waiters = [] →
    Completes (.clear e a) s (fun d => (d.fe a).full = false ∧ d.mem = s.dev.mem ∧ d.regs = s.dev.regs))

/-- VE_LAUNCH, VE_RETURN, VE_EXCEPTION, VE_ENGINE_FAULT (R53, R264, R301, R436): a launch occupies the engine it names, a return and an
exception complete its command and free it, and a fault clears its local memory. The INT8 arithmetic of a routine leaves the saturated
sum in its accumulator and VE_STATUS.INT_SAT where it saturated; where nothing saturated the sum is exact. -/
def Obligations.VectorEngines : Prop :=
  (∀ (s : State) (c : Cmd) (h : List Byte), bits c.w4 12 0 = 0 → c.engine < 63 → s.dev.engineOwner c.engine = s.dev.cPart c →
    s.dev.engineFree c.engine = true → bits c.w2 47 0 % 4096 = 0 → s.dev.loadFor (s.dev.cPart c) (bits c.w2 47 0) 64 = (h, .ok) →
    s.dev.routineOk h 0 = true →
    Completes (.veLaunch c) s (fun d => (d.eng c.engine).cmd = some c ∧ d.rd Reg.VE_STATUS_STATE c.engine = 1 ∧
      (∀ e, e ≠ c.engine → d.eng e = s.dev.eng e) ∧ d.sameMemory s.dev)) ∧
  (∀ (s : State) (e : Nat) (c : Cmd) (w : Word) (steps : Nat), s.dev.engineRuns e = true → (s.dev.eng e).cmd = some c →
    s.dev.launches = [] →
    Completes (.veReturn e w ⟨steps, []⟩) s (fun d => d.eng e = {} ∧ (∀ x, x ≠ e → d.eng x = s.dev.eng x) ∧ d.mem = s.dev.mem ∧
      (d.queue c.queue).done = (s.dev.queue c.queue).done ++ [⟨c, 0, true, w.toNat, steps, 0, 0, s.dev.now⟩])) ∧
  (∀ (s : State) (e : Nat) (c : Cmd) (w : Word) (steps acc a b n : Nat) (z x y : List Byte) (r : Int) (sat : Bool),
    s.dev.engineRuns e = true → (s.dev.eng e).cmd = some c → s.dev.launches = [] →
    s.dev.probeRead (s.dev.cPart c) acc 4 = .ok → s.dev.probeRead (s.dev.cPart c) a n = .ok → s.dev.probeRead (s.dev.cPart c) b n = .ok →
    s.dev.probeWrite (s.dev.cPart c) acc 4 = .ok → z = s.dev.bytes acc 4 → x = s.dev.bytes a n → y = s.dev.bytes b n →
    (r, sat) = macs (toSigned 32 (leNat z)) ((x.zip y).map (fun q => (q.1.toInt, q.2.toInt))) → s.dev.untraced →
    Completes (.veReturn e w ⟨steps, [.mac acc a b n]⟩) s (fun d => s.dev.stores d acc (leBytes 4 (BitVec.ofInt 32 r).toNat) ∧
      d.flag Reg.VE_STATUS_INT_SAT e = (sat || s.dev.flag Reg.VE_STATUS_INT_SAT e) ∧ d.eng e = {})) ∧
  (∀ (acc : Int) (l : List (Int × Int)), (macs acc l).2 = false → (macs acc l).1 = acc + (l.map (fun q => q.1 * q.2)).sum) ∧
  (∀ (s : State) (e : Nat) (c : Cmd) (status steps : Nat), s.dev.engineRuns e = true → (s.dev.eng e).cmd = some c → s.dev.launches = [] →
    s.dev.feParked = [] →
    Completes (.veException e status ⟨steps, []⟩) s (fun d => d.eng e = {} ∧ d.mem = s.dev.mem ∧
      (∀ w ∈ d.waits, w.agent ≠ engineAgent e) ∧
      (d.queue c.queue).done = (s.dev.queue c.queue).done ++ [⟨c, status, false, 0, 0, e, 0, s.dev.now⟩])) ∧
  (∀ (s : State) (e : Nat), e < 64 → s.dev.feParked = [] → s.dev.masks Ev.VE_ENGINE_FAULT e = false →
    Completes (.veEngineFault e) s (fun d => d.flag Reg.VE_STATUS_FAULTED e = true ∧ d.shows Ev.VE_ENGINE_FAULT e = true ∧
      ∀ a, veBase e ≤ a → a < veBase e + 0x200000 → d.byte a = 0))

/-- DMA_FILL, DMA_COPY, DMA_TRANSFER_COMPLETE, PCIE_COMPLETION_TIMEOUT (R256, R277, R295): one run is moved whole (read whole before it is
written: log entry 38), and a transfer that its destination acknowledges completes its command; one to host memory that draws no completion fails. -/
def Obligations.Transfers : Prop :=
  (∀ (s : State) (c : Cmd), c.opcode = 0x31 → dmaBad c = false → c.sigEn = false → c.engine < 8 → s.dev.dmaFree c.engine = true →
    c.outer = 1 → s.dev.dmaFault c = none → s.dev.probeWrite (s.dev.cPart c) (c.dstRun 0) c.inner = .ok →
    Completes (.dmaFill c) s (fun d => d.xfers = s.dev.xfers ++ [⟨c.engine, s.dev.nextXfer, c, c.inner, 0, 0⟩] ∧
      ∀ a, d.byte a = if c.dstRun 0 ≤ a ∧ a < c.dstRun 0 + c.inner then (leBytes 8 c.w2.toNat).getD ((a - c.dstRun 0) % 8) 0
        else s.dev.byte a)) ∧
  (∀ (s : State) (c : Cmd), c.opcode = 0x30 → dmaBad c = false → c.sigEn = false → c.engine < 8 → s.dev.dmaFree c.engine = true →
    c.outer = 1 → s.dev.dmaFault c = none → s.dev.probeRead (s.dev.cPart c) (c.srcRun 0) c.inner = .ok →
    s.dev.probeWrite (s.dev.cPart c) (c.dstRun 0) c.inner = .ok →
    Completes (.dmaCopy c) s (fun d => d.xfers = s.dev.xfers ++ [⟨c.engine, s.dev.nextXfer, c, c.inner, 0, 0⟩] ∧
      ∀ a, d.byte a = if c.dstRun 0 ≤ a ∧ a < c.dstRun 0 + c.inner then s.dev.byte (c.srcRun 0 + (a - c.dstRun 0))
        else s.dev.byte a)) ∧
  (∀ (s : State) (x : Xfer), s.dev.xfers.find? (fun y => y.engine = x.engine ∧ y.seq = x.seq) = some x → x.status = 0 →
    x.c.sigEn = false → s.dev.dmaWait = [] →
    Completes (.dmaTransferComplete x.engine x.seq 0) s (fun d => d.mem = s.dev.mem ∧
      d.xfers = s.dev.xfers.filter (fun y => !(y.engine == x.engine && y.seq == x.seq)) ∧
      (d.queue x.c.queue).done = (s.dev.queue x.c.queue).done ++ [⟨x.c, 0, true, 0, 0, 0, 0, s.dev.now⟩])) ∧
  (∀ (s : State) (q e seq : Nat), s.dev.xfers = [] → s.dev.qState q = 1 → s.dev.rd Reg.QM_Q_SQ_LOC q = 1 →
    s.dev.masks Ev.QM_RING_FAULT 0 = false →
    Completes (.pcieCompletionTimeout q e seq) s (fun d => (s.dev.wr Reg.QM_Q_STATE_STATE q 4).Reports d ∧
      d.shows Ev.QM_RING_FAULT 0 = true)) ∧
  (∀ (s : State) (q : Nat) (x : Xfer), s.dev.xfers = [x] → x.toHost = true → x.status = 0 → s.dev.dmaWait = [] →
    Completes (.pcieCompletionTimeout q x.engine x.seq) s (fun d => d.xfers = [] ∧
      ∃ y : Done, y.c = x.c ∧ y.status = Ev.DM_DEST_ERROR.status ∧ y.executed = false ∧
        (d.queue x.c.queue).done = (s.dev.queue x.c.queue).done ++ [y]))

/-- PARTITION_CREATE, PA_RELEASED, KEY_SWITCH, FKEY_WORD_WRITE, PREVIOUS_KEY_DROP (R349, R356, R357, R364): what each leaves of a partition's
state and keys. -/
def Obligations.Partitions : Prop :=
  (∀ (s : State) (src : Src) (p : Nat), s.dev.reaches src .PA = .ok → srcPart src = 0 → p ≠ 0 → p < 64 →
    s.dev.rd Reg.PA_PART_CFG_STATE p = 0 →
    Completes (.partitionCreate src p) s (fun d => d.rd Reg.PA_PART_CFG_STATE p = 1 ∧ d.partActive p = true ∧
      (d.part p).cur = none ∧ (d.part p).newest = none ∧ (∀ r, r ≠ p → d.part r = s.dev.part r) ∧ d.mem = s.dev.mem)) ∧
  (∀ (s : State) (p : Nat), s.dev.rd Reg.PA_PART_CFG_STATE p = 2 → s.dev.granulesIn p = [] → (∀ t, t < 16 → s.dev.holder t ≠ p) →
    p < 64 → s.dev.masks Ev.PA_RELEASED 0 = false →
    Completes (.paReleased p) s (fun d => d.rd Reg.PA_PART_CFG_STATE p = 0 ∧ d.partActive p = false ∧
      d.shows Ev.PA_RELEASED 0 = true)) ∧
  (∀ (s : State) (src : Src) (p : Nat) (k : FKey), s.dev.reaches src .PA = .ok → srcPart src = 0 → (s.dev.part p).newest = some k →
    s.dev.fabric = {} →
    Completes (.keySwitch src p) s (fun d => (d.part p).cur = some k ∧ (d.part p).prev = (s.dev.part p).cur ∧
      (d.part p).newest = none ∧ (d.part p).switched = s.dev.mono)) ∧
  (∀ (s : State) (src : Src) (p keyId word : Nat) (v : Word), s.dev.reaches src .PA = .ok → srcPart src = 0 →
    s.dev.partActive p = true → word < 3 →
    Completes (.fkeyWordWrite src p keyId word v) s (fun d =>
      d = s.dev.modPart p (fun x => { x with words := NMap.set 0 x.words (keyId * 4 + word) v.toNat }))) ∧
  (∀ (s : State) (src : Src) (p keyId : Nat) (v : Word), s.dev.reaches src .PA = .ok → srcPart src = 0 →
    s.dev.partActive p = true →
    Completes (.fkeyWordWrite src p keyId 3 v) s (fun d => (d.part p).newest = some ⟨keyId,
      (List.range 3).map (fun i => NMap.get 0 (s.dev.part p).words (keyId * 4 + i)) ++ [v.toNat]⟩ ∧
      (d.part p).cur = (s.dev.part p).cur ∧ d.boot.pendingKey = (decide (p = 0) || s.dev.boot.pendingKey))) ∧
  (∀ (s : State) (p : Nat) (k : FKey), (s.dev.part p).prev = some k →
    Completes (.previousKeyDrop p) s (fun d => (d.part p).prev = none ∧ (d.part p).cur = (s.dev.part p).cur ∧
      d.rd Reg.PA_PART_CFG_PREV_VALID p = 0 ∧ s.dev.reached d ((s.dev.part p).switched + 100 * 16000000)))

/-- GRANULE_REASSIGN, GRANULE_ZEROED, ENGINE_OWNER_CHANGE, QUANTUM_EXPIRY, PA_MBOX_REQ, PA_MBOX_RSP (R304, R352, R355, R361, R362, R369): a
granule and an engine's local memory read 0 when they pass to their new owner; once its quantum has run out a shared tile passes on where
another partition waits for it; the mailbox bits. The old owner shown during zeroing is log entry 24. -/
def Obligations.Scrubs : Prop :=
  (∀ (s : State) (src : Src) (g owner : Nat), s.dev.reaches src .PA = .ok → srcPart src = 0 → g < 24832 →
    s.dev.flag Reg.PA_MEM_OWNER_ASSIGNED g = true → s.dev.rd Reg.PA_MEM_OWNER_OWNER g ≠ owner → s.dev.coil.chunks = [] →
    s.dev.holdsTable g = false → s.dev.holdsSave g = false → s.dev.deviceLost (granuleRange g).1 = false →
    Completes (.granuleReassign src g owner) s (fun d => d =
      { s.dev with zeroing := NMap.set 0 s.dev.zeroing g (owner + 1) }.wr Reg.PA_MEM_OWNER_ASSIGNED g 0)) ∧
  (∀ (s : State) (g o : Nat), NMap.get 0 s.dev.zeroing g = o + 1 → o < 64 → s.dev.feParked = [] →
    Completes (.granuleZeroed g) s (fun d => d.rd Reg.PA_MEM_OWNER_OWNER g = o ∧ d.flag Reg.PA_MEM_OWNER_ASSIGNED g = true ∧
      NMap.get 0 d.zeroing g = 0 ∧ ∀ a, d.byte a = if (granuleRange g).1 ≤ a ∧ a < (granuleRange g).1 + (granuleRange g).2 then 0
        else s.dev.byte a)) ∧
  (∀ (s : State) (e : Nat), s.dev.engineOwner e ≠ s.dev.rd Reg.PA_ENG_OWNER_OWNER e → (s.dev.eng e).cmd = none → s.dev.waits = [] →
    s.dev.launches = [] → s.dev.feParked = [] →
    Completes (.engineOwnerChange e) s (fun d => d.engineOwner e = s.dev.rd Reg.PA_ENG_OWNER_OWNER e ∧
      (∀ k, k / 64 = e → d.knot k = {}) ∧ (∀ k, k / 64 ≠ e → d.knot k = s.dev.knot k) ∧
      ∀ a, e < 64 → veBase e ≤ a → a < veBase e + 0x200000 → d.byte a = 0)) ∧
  (∀ (s : State) (t : Nat), (s.dev.tile t).shared = true →
    Completes (.quantumExpiry t) s (fun d => d.regs = s.dev.regs ∧ d.mem = s.dev.mem ∧ d.tiles = s.dev.tiles ∧
      d.quantumOver t = true ∧ (s.dev.waitingParts t ≠ [] → d.handoverDue t = true) ∧
      s.dev.reached d ((s.dev.tile t).tookAt + s.dev.rd Reg.PA_TILE_CFG_QUANTUM_US t * 16000))) ∧
  (∀ (s : State) (src : Src), s.dev.reaches src .PA = .ok → srcPart src ≠ 0 → s.dev.masks Ev.PA_MBOX_REQ 0 = false →
    Completes (.paMboxReq src) s (fun d => ((s.dev.wr Reg.PA_MBOX_CTRL_REQ (srcPart src) 1).wr Reg.PA_MBOX_CTRL_RSP (srcPart src) 0).Reports d ∧
      d.shows Ev.PA_MBOX_REQ 0 = true)) ∧
  (∀ (s : State) (src : Src) (p : Nat), s.dev.reaches src .PA = .ok → srcPart src = 0 →
    Completes (.paMboxRsp src p) s (fun d => d = { (s.dev.wr Reg.PA_MBOX_CTRL_RSP p 1).wr Reg.PA_MBOX_CTRL_REQ p 0 with
      msix := s.dev.msix ++ [(p, 0)] }))

/-- WARMUP_COMPLETE, WARMUP_BOUND_EXPIRY, DISCOVERY_COMPLETE, DISCOVERY_TIMEOUT (R79, R319, R321, R371, R372, R374): DISCOVER begins with the
ports, their lasers and the transport switched on (log entry 18); at the bound of WARMUP every tile that is still OFF or STARTING goes out
of service; the end of DISCOVER enters READY, or DEGRADED where a cause stands. The timers move the clock (log entry 12). -/
def Obligations.WarmupAndDiscover : Prop :=
  (∀ s : State, s.dev.bootState = 5 → s.dev.memoryDone = true → (∀ t, t < 16 → 2 ≤ s.dev.svc t) →
    Completes .warmupComplete s (fun d => d.bootState = 6 ∧ d.mem = s.dev.mem ∧ d.flag Reg.GT_CTRL_EN 0 = true ∧
      d.boot.discAt = s.dev.mono ∧ (∀ e, e < 4 → d.flag Reg.LS_CTRL_EN (4 + e) = true) ∧
      (∀ p, p < 32 → d.flag Reg.FX_CTRL_EN p = true))) ∧
  (∀ s : State, s.dev.bootState = 5 →
    (∀ t, t < 16 → s.dev.svc t ≤ 1 → (s.dev.tile t).held = [] ∧ (s.dev.tile t).waiting = [] ∧ (s.dev.tile t).runs = [] ∧
      s.dev.masks Ev.PT_OUT_OF_SERVICE t = false) →
    Completes .warmupBoundExpiry s (fun d => d.bootState = 5 ∧
      (∀ t, t < 16 → s.dev.svc t ≤ 1 → d.svc t = 4 ∧ d.rd Reg.PT_OOS_TIME_TIME t = d.now ∧ d.shows Ev.PT_OUT_OF_SERVICE t = true ∧
        (d.rd Reg.BT_STATE_DEGR 0).testBit Cause.tile.bit = true) ∧
      ∀ t, t < 16 → 2 ≤ s.dev.svc t → d.svc t = s.dev.svc t)) ∧
  (∀ s : State, s.dev.bootState = 5 → (∀ t, t < 16 → 2 ≤ s.dev.svc t) →
    Completes .warmupBoundExpiry s (fun d => d.regs = s.dev.regs ∧ d.mem = s.dev.mem ∧
      s.dev.reached d (s.dev.boot.warmAt + (if s.dev.flag Reg.BT_STATUS_FACTORY_START 0 then 89 else 8) * 16 * 10 ^ 9))) ∧
  (∀ s : State, s.dev.bootState = 6 → s.dev.fnidClaimed = false → s.dev.discovered = true → s.dev.rd Reg.BT_STATE_DEGR 0 = 0 →
    (∀ q, q < 4 → s.dev.flag Reg.LS_STATUS_AT_TARGET q = true ∧ s.dev.flag Reg.HM_STATUS_RAIL_OPEN (4 * q) = false) →
    Completes .discoveryComplete s (fun d => d.bootState = 7 ∧ d.mem = s.dev.mem ∧ d.boot.beenReady = true ∧
      (s.dev.boot.beenReady = false → d.flag Reg.QM_CTRL_EN 0 = true))) ∧
  (∀ s : State, s.dev.bootState = 8 → s.dev.fnidClaimed = false → s.dev.discovered = true →
    s.dev.rd Reg.BT_STATE_DEGR 0 = 2 ^ Cause.discover.bit →
    Completes .discoveryComplete s (fun d => d.bootState = 7 ∧ d.rd Reg.BT_STATE_DEGR 0 = 0 ∧ d.mem = s.dev.mem)) ∧
  (∀ s : State, s.dev.bootState = 6 → s.dev.fnidClaimed = false → s.dev.masks Ev.BT_DEGRADED 0 = false →
    Completes .discoveryTimeout s (fun d => d.bootState = 8 ∧ (d.rd Reg.BT_STATE_DEGR 0).testBit 0 = true ∧
      d.shows Ev.BT_DEGRADED 0 = true ∧ d.boot.beenReady = true ∧
      s.dev.reached d (s.dev.boot.discAt + 5 * 16 * 10 ^ 9)))

/-- TILE_HANDOVER and PARTITION_RELEASE (R349, R354, R362, R364): a tile without a save area passes scrubbed, and a partition that is released
gives up its shares, its keys and its save area at once. -/
def Obligations.Handovers : Prop :=
  (∀ (s : State) (t : Nat), t < 16 → s.dev.handoverPoint t = true → s.dev.flag Reg.PA_TILE_CFG_SHARED t = false → (s.dev.tile t).shared = false →
    s.dev.holder t ≠ s.dev.rd Reg.PA_TILE_CFG_OWNER t → s.dev.rd Reg.PA_TILE_CFG_OWNER t < 64 → (s.dev.tile t).held = [] → (s.dev.tile t).waiting = [] →
    s.dev.saveOk (s.dev.rd Reg.PA_TILE_CFG_OWNER t) = false → s.dev.flag Reg.QS_ROWBUF_EN t = false →
    Completes (.tileHandover t) s (fun d => d.holder t = s.dev.rd Reg.PA_TILE_CFG_OWNER t ∧ (d.tile t).desc = [] ∧ (d.tile t).static = [] ∧
      (d.tile t).bankA = { map := (s.dev.tile t).map } ∧ (d.tile t).bankB = { map := (s.dev.tile t).map } ∧ d.rd Reg.QS_CLIPS t = 0 ∧
      (∀ u, u ≠ t → d.tile u = s.dev.tile u) ∧
      ∀ a, d.byte a = if acBase t ≤ a ∧ a < acBase t + 0x400000 then 0 else s.dev.byte a)) ∧
  (∀ (s : State) (src : Src) (p : Nat), s.dev.reaches src .PA = .ok → srcPart src = 0 → p ≠ 0 → p < 64 →
    s.dev.rd Reg.PA_PART_CFG_STATE p = 1 → s.dev.queues = [] → s.dev.launches = [] → s.dev.dmaWait = [] → s.dev.coilOps = [] → s.dev.fabric = {} →
    s.dev.coil = {} → (∀ e, e < 84 → s.dev.engineOwner e ≠ p ∧ s.dev.rd Reg.PA_ENG_OWNER_OWNER e ≠ p) →
    (∀ t, t < 16 → s.dev.holder t ≠ p ∧ s.dev.rd Reg.PA_TILE_CFG_OWNER t ≠ p ∧ (s.dev.tile t).waiting = []) →
    s.dev.granulesIn p = [] →
    Completes (.partitionRelease src p) s (fun d => d.rd Reg.PA_PART_CFG_STATE p = 2 ∧ d.part p = {} ∧ d.rd Reg.PA_SAVE_BASE_BASE p = 0 ∧
      (∀ t, t < 16 → d.inShare t p = false) ∧ d.mem = s.dev.mem ∧ d.knots = s.dev.knots ∧ ∀ r, r ≠ p → d.part r = s.dev.part r))

/-- BREAKPOINT_HIT, CC_HALT, CC_RESUME, CC_STEP, CC_DRAIN_END, VE_HALT, VE_RESUME, CC_PAIR_SPLIT, CC_FW_HALT, SEQUENCER_CC_FAULT (R434, R437,
R450, R452, R453): a core or an engine that is stopped and continued, firmware that halts, and a faulty sequencer, whose tile goes out of
service and whose patch commands fail. That STEP and HALT count alike is log entry 40. -/
def Obligations.Debugging : Prop :=
  (∀ (s : State) (n bp pc : Nat), s.dev.flag Reg.CC_BP_EN (win n bp) = true → s.dev.haltOk n (s.dev.corePart n) = true →
    s.dev.rd Reg.CC_STATUS_STATE n = 0 → s.dev.masks Ev.CC_BREAK n = false →
    Completes (.breakpointHit n bp pc) s (fun d => d.rd Reg.CC_STATUS_STATE n = 1 ∧
      d.rd Reg.CC_PC_PC n = pc % 2 ^ Reg.CC_PC_PC.width ∧ d.rd Reg.CC_STATUS_LAST_BP n = bp % 2 ^ Reg.CC_STATUS_LAST_BP.width ∧
      d.shows Ev.CC_BREAK n = true ∧ d.tiles = s.dev.tiles ∧ (s.dev.untraced → d.mem = s.dev.mem))) ∧
  (∀ (s : State) (src : Src) (n : Nat), s.dev.reaches src .CC = .ok → s.dev.haltOk n (srcPart src) = true →
    s.dev.rd Reg.CC_STATUS_STATE n = 0 → s.dev.masks Ev.CC_BREAK n = false →
    Completes (.ccHalt src n) s (fun d => d.rd Reg.CC_STATUS_STATE n = 1 ∧ d.shows Ev.CC_BREAK n = true ∧ d.tiles = s.dev.tiles ∧
      (s.dev.untraced → d.mem = s.dev.mem))) ∧
  (∀ (s : State) (src : Src) (n : Nat), s.dev.reaches src .CC = .ok → s.dev.haltOk n (srcPart src) = true →
    s.dev.rd Reg.CC_STATUS_STATE n ≠ 0 → (s.dev.tile n).held = [] → (s.dev.tile n).runs = [] →
    Completes (.ccResume src n) s (fun d =>
      d = ({ s.dev with brk := NMap.set 0 s.dev.brk n 0 }).wr Reg.CC_STATUS_STATE n 0)) ∧
  (∀ (s : State) (src : Src) (n : Nat), s.dev.reaches src .CC = .ok → s.dev.haltOk n (srcPart src) = true →
    s.dev.rd Reg.CC_STATUS_STATE n = 2 → s.dev.masks Ev.CC_BREAK n = false →
    Completes (.ccStep src n) s (fun d => d.rd Reg.CC_STATUS_STATE n = 2 ∧ d.shows Ev.CC_BREAK n = true ∧ d.tiles = s.dev.tiles ∧
      (s.dev.untraced → d.mem = s.dev.mem))) ∧
  (∀ (s : State) (n : Nat), s.dev.rd Reg.CC_STATUS_STATE n = 1 → s.dev.handoverPoint n = true →
    Completes (.ccDrainEnd n) s (fun d => d = ({ s.dev with brk := NMap.set 0 s.dev.brk n 0 }).wr Reg.CC_STATUS_STATE n 2)) ∧
  (∀ (s : State) (src : Src) (e : Nat), s.dev.reaches src .VE = .ok → s.dev.engineOwner e = srcPart src → e < 64 →
    s.dev.rd Reg.VE_STATUS_STATE e = 1 →
    Completes (.veHalt src e) s (fun d => d.rd Reg.VE_STATUS_STATE e = 3 ∧ d.eng e = s.dev.eng e ∧ d.mem = s.dev.mem)) ∧
  (∀ (s : State) (src : Src) (e : Nat), s.dev.reaches src .VE = .ok → s.dev.engineOwner e = srcPart src → e < 64 →
    s.dev.rd Reg.VE_STATUS_STATE e = 2 →
    Completes (.veHalt src e) s (fun d => d = s.dev.setEng e { s.dev.eng e with haltPending := true })) ∧
  (∀ (s : State) (src : Src) (e : Nat), s.dev.reaches src .VE = .ok → s.dev.engineOwner e = srcPart src → e < 64 →
    s.dev.rd Reg.VE_STATUS_STATE e = 3 →
    Completes (.veResume src e) s (fun d => d.rd Reg.VE_STATUS_STATE e = 1 ∧ (d.eng e).haltPending = false ∧ d.mem = s.dev.mem)) ∧
  (∀ (s : State) (n : Nat), 16 ≤ n → s.dev.masks Ev.CC_PAIR_SPLIT n = false →
    Completes (.ccPairSplit n) s (fun d => d.flag Reg.CC_STATUS_SPLIT n = true ∧ d.rd Reg.CC_STATUS_STATE n = 2 ∧
      d.shows Ev.CC_PAIR_SPLIT n = true ∧ d.branchRec n = {} ∧ d.tiles = s.dev.tiles ∧ d.queues = s.dev.queues ∧
      (s.dev.untraced → d.mem = s.dev.mem))) ∧
  (∀ (s : State) (pair : Nat), s.dev.flag Reg.CC_STATUS_SPLIT (16 + 2 * pair) = true → s.dev.fwHalted.contains pair = false → pair < 2 →
    s.dev.masks Ev.CC_FW_HALT (16 + 2 * pair) = false → s.dev.masks Ev.CC_FW_HALT (17 + 2 * pair) = false →
    Completes (.ccFwHalt pair) s (fun d => d.fwHalted = s.dev.fwHalted ++ [pair] ∧ d.shows Ev.CC_FW_HALT (16 + 2 * pair) = true ∧
      d.shows Ev.CC_FW_HALT (17 + 2 * pair) = true ∧ d.rd Reg.CC_STATUS_STATE (16 + 2 * pair) = 2 ∧
      d.rd Reg.CC_STATUS_STATE (17 + 2 * pair) = 2 ∧ d.tiles = s.dev.tiles)) ∧
  (∀ (s : State) (n : Nat), n < 16 → s.dev.svc n ≠ 4 → (s.dev.tile n).held = [] → (s.dev.tile n).runs = [] →
    (s.dev.tile n).waiting = [] → s.dev.masks Ev.PT_OUT_OF_SERVICE n = false →
    Completes (.sequencerCcFault n) s (fun d => d.svc n = 4 ∧ (d.tile n).dead = true ∧ d.rd Reg.PT_OOS_TIME_TIME n = s.dev.now % 2 ^ 64 ∧
      d.shows Ev.PT_OUT_OF_SERVICE n = true ∧ (d.rd Reg.BT_STATE_DEGR 0).testBit Cause.tile.bit = true ∧ s.dev.onlyTile d n)) ∧
  (∀ (s : State) (n : Nat) (h : Held), n < 16 → s.dev.svc n = 4 → (s.dev.tile n).held = [h] → h.op ≠ 0x10 → (s.dev.tile n).runs = [] →
    Completes (.sequencerCcFault n) s (fun d => d.svc n = 4 ∧ (d.tile n).dead = true ∧ (d.tile n).held = [] ∧ s.dev.onlyTile d n ∧
      s.dev.ends d h.c Ev.PT_OUT_OF_SERVICE.status false n 0))

/-- TRACE_SNAPSHOT, TR_TAIL (R446, R448, R449, R456): a snapshot is one record of 64 bytes at the place that TR_HEAD names; a write of TR_TAIL
frees room. -/
def Obligations.Tracing : Prop :=
  (∀ (s : State) (p : Nat), s.dev.flag Reg.TR_PCTRL_SNAP_EN p = true → s.dev.traceOn p = true → s.dev.traceFull p = false →
    s.dev.flag Reg.TR_PCTRL_STOP p = false → NMap.get 0 s.dev.trLost p = 0 →
    Completes (.traceSnapshot p) s (fun d => d.rd Reg.TR_HEAD_RECORD p =
        (s.dev.rd Reg.TR_HEAD_RECORD p + 1) % s.dev.traceSize p % 2 ^ Reg.TR_HEAD_RECORD.width ∧
      NMap.get 0 d.trSeq p = NMap.get 0 s.dev.trSeq p + 1 ∧ d.queues = s.dev.queues ∧ d.tiles = s.dev.tiles ∧
      ∀ a, a < s.dev.rd Reg.TR_REGION_BASE p * 2 ^ 26 + s.dev.rd Reg.TR_HEAD_RECORD p * 64 ∨
        s.dev.rd Reg.TR_REGION_BASE p * 2 ^ 26 + s.dev.rd Reg.TR_HEAD_RECORD p * 64 + 64 ≤ a → d.byte a = s.dev.byte a)) ∧
  (∀ (s : State) (src : Src) (p v : Nat), s.dev.reaches src .TR = .ok → (srcPart src = 0 ∨ srcPart src = p) →
    s.dev.flag Reg.TR_PCTRL_STOP p = false →
    Completes (.trTail src p v) s (fun d => d = (s.dev.wr Reg.TR_TAIL_RECORD p v).wr Reg.TR_HEAD_FULL p 0))

/-- PATCH_OPEN, PATCH_CLEAR, PATCH_CLOSE, PATCH_RETRIEVE (R120, R122 to R124, R130): each on a patch in IDLE, with what it leaves of
descriptors, accumulators and memory. -/
def Obligations.PatchCommands : Prop :=
  (∀ (s : State) (c : Cmd) (t i : Nat), t = c.tile → i = bits c.w2 6 0 → s.dev.takesPatch c → bits c.w2 8 7 ≠ 3 →
    dValid (s.dev.desc t i) = false → bits c.w2 26 15 + patchBlocks (bits c.w2 14 9 + 1) (bits c.w2 8 7) ≤ 4096 →
    s.dev.meetsPatch t (bits c.w2 26 15) (patchBlocks (bits c.w2 14 9 + 1) (bits c.w2 8 7)) 128 = false →
    s.dev.meetsPpb t (bits c.w2 26 15) (patchBlocks (bits c.w2 14 9 + 1) (bits c.w2 8 7)) = false →
    Completes (.patchOpen c) s (fun d => s.dev.ends d c 0 true 0 0 ∧ s.dev.onlyTile d t ∧ d.regs = s.dev.regs ∧
      d.desc t i = mkDesc (bits c.w2 8 7) (bits c.w2 14 9) (bits c.w2 26 15) (s.dev.cPart c) ∧
      (∀ j, j ≠ i → d.desc t j = s.dev.desc t j) ∧
      ∀ a, d.byte a = if acBase t + bits c.w2 26 15 * 1024 ≤ a ∧
          a < acBase t + bits c.w2 26 15 * 1024 + dBlocks (d.desc t i) * 1024 then 0 else s.dev.byte a)) ∧
  (∀ (s : State) (c : Cmd) (t i : Nat), t = c.tile → i = bits c.w2 6 0 → s.dev.takesPatch c →
    patchOf (s.dev.desc t i) (s.dev.cPart c) = true → dState (s.dev.desc t i) = 0 →
    Completes (.patchClear c) s (fun d => s.dev.ends d c 0 true 0 0 ∧ s.dev.onlyTile d t ∧ d.regs = s.dev.regs ∧
      d.desc t i = mkDesc (dFmt (s.dev.desc t i)) (dRows (s.dev.desc t i) - 1) (dBase (s.dev.desc t i)) (dOwner (s.dev.desc t i)) ∧
      (∀ j, j ≠ i → d.desc t j = s.dev.desc t j) ∧
      ∀ a, d.byte a = if acBase t + dBase (s.dev.desc t i) * 1024 ≤ a ∧
          a < acBase t + dBase (s.dev.desc t i) * 1024 + dBlocks (s.dev.desc t i) * 1024 then 0 else s.dev.byte a)) ∧
  (∀ (s : State) (c : Cmd) (t i : Nat), t = c.tile → i = bits c.w2 6 0 → s.dev.takesPatch c →
    patchOf (s.dev.desc t i) (s.dev.cPart c) = true → dState (s.dev.desc t i) = 0 →
    Completes (.patchClose c) s (fun d => s.dev.ends d c 0 true 0 0 ∧ s.dev.onlyTile d t ∧ d.regs = s.dev.regs ∧
      dValid (d.desc t i) = false ∧ (∀ j, j ≠ i → d.desc t j = s.dev.desc t j) ∧ d.mem = s.dev.mem)) ∧
  (∀ (s : State) (c : Cmd) (t i p : Nat), t = c.tile → i = bits c.w2 6 0 → p = s.dev.cPart c → s.dev.takesPatch c →
    patchOf (s.dev.desc t i) p = true → dState (s.dev.desc t i) = 0 → dFmt (s.dev.desc t i) = 0 → dRows (s.dev.desc t i) = 1 →
    dIncomplete (s.dev.desc t i) = false → dSat (s.dev.desc t i) = false →
    bits c.w2 9 7 = 0 → bits c.w5 47 0 = 0 → s.dev.probeWrite p (bits c.w3 47 0) 1536 = .ok →
    Completes (.patchRetrieve c) s (fun d => s.dev.ends d c 0 true 0 0 ∧ s.dev.onlyTile d t ∧
      (∀ j, d.desc t j = s.dev.desc t j) ∧
      ∀ a, d.byte a = if bits c.w3 47 0 ≤ a ∧ a < bits c.w3 47 0 + 1536 then
          s.dev.byte (acBase t + dBase (s.dev.desc t i) * 1024 + (a - bits c.w3 47 0)) else s.dev.byte a))

/-- SPLICE_LOCAL, PATCH_STATE_IDLE (R123, R124, R133, R134): one accumulator added to another, and a command that waited for a patch proceeds
when it is IDLE. -/
def Obligations.Splices : Prop :=
  (∀ (s : State) (c : Cmd) (t r j : Nat), t = c.tile → s.dev.takesPatch c → (s.dev.tile t).shared = false →
    nbits (bits c.w3 36 0) 3 0 = t → regionField (bits c.w3 36 0) = ⟨r, r, j, j⟩ →
    s.dev.spliceSrc (.live (bits c.w2 3 0)) (bits c.w2 10 4) (s.dev.cPart c) ⟨r, r, j, j⟩
      (bits c.w2 3 0 = t ∧ bits c.w2 10 4 = nbits (bits c.w3 36 0) 10 4) = none →
    s.dev.spliceDst (.live t) (nbits (bits c.w3 36 0) 10 4) (s.dev.cPart c) ⟨r, r, j, j⟩ false = none →
    dState (s.dev.desc (bits c.w2 3 0) (bits c.w2 10 4)) = 0 →
    (accAdd 0 (s.dev.accRead (.live t) (s.dev.desc t (nbits (bits c.w3 36 0) 10 4)) r j)
      (s.dev.accRead (.live (bits c.w2 3 0)) (s.dev.desc (bits c.w2 3 0) (bits c.w2 10 4)) r j)).2 = false →
    Completes (.spliceLocal c) s (fun d => s.dev.ends d c 0 true 0 0 ∧ s.dev.onlyTile d t ∧
      d.mem = (s.dev.putLe (s.dev.accAddr (.live t) (s.dev.desc t (nbits (bits c.w3 36 0) 10 4)) r j) 12
        (ofSigned 96 (s.dev.accRead (.live t) (s.dev.desc t (nbits (bits c.w3 36 0) 10 4)) r j +
          s.dev.accRead (.live (bits c.w2 3 0)) (s.dev.desc (bits c.w2 3 0) (bits c.w2 10 4)) r j))).mem)) ∧
  (∀ (s : State) (w : Wait) (h : Held) (t i : Nat), w.obj = .patch t i → w.c = some h.c → s.dev.waits = [w] → h.c.tile = t →
    h.op = 0x14 → i = bits h.c.w2 6 0 → (s.dev.tile t).held = [h] → (s.dev.tile t).runs = [] → (s.dev.tile t).dead = false →
    s.dev.seqStopped t = false → patchOf (s.dev.desc t i) (s.dev.cPart h.c) = true → dState (s.dev.desc t i) = 0 →
    Completes (.patchStateIdle t i) s (fun d => d.waits = [] ∧ s.dev.ends d h.c 0 true 0 0 ∧ dValid (d.desc t i) = false ∧
      d.mem = s.dev.mem ∧ d.regs = s.dev.regs))

/-- EPOCH, BANK_LOAD_COMPLETE, COLUMN_SUM_CHECK, BANK_SWAP (R81, R86 to R88, R261, R262): an EPOCH with LOAD = 1 that a tile accepts is held
and its images are loaded into the idle bank; the bank is checked by its column sums and swapped in, and the command starts. -/
def Obligations.BankEpochs : Prop :=
  (∀ (s : State) (c : Cmd) (t n : Nat) (lv : List Int) (sc : List Nat) (z : Nat), t = c.tile → n = (s.dev.tile t).nextSeq →
    s.dev.gate t (s.dev.cPart c) = .pass → s.dev.svc t = 2 → s.dev.flag Reg.PT_CTRL_TILE_EN t = false → s.dev.calm t →
    (s.dev.tile t).dead = false → (s.dev.tile t).loads = [] → (s.dev.tile t).bankA.loaded = false → (s.dev.tile t).bankB.loaded = false →
    (s.dev.tile t).shared = false → (s.dev.rd Reg.QM_TILE_PREEMPT_BITS 0).testBit t = false →
    epochBad c = false → c.pmode ≠ 0 → c.load = true → c.isPair = false → s.dev.readImages t c false (s.dev.tile t).nextSubs = .ok lv sc z →
    s.dev.probeRead (s.dev.cPart c) c.wtAddr (128 * weightBytes c.wfmt) = .ok →
    s.dev.probeRead (s.dev.cPart c) c.scaleAddr (256 * groupCount c.gsize) = .ok →
    Completes (.epoch c) s (fun d => (d.tile t).held = [⟨0x10, c, n, n, c⟩] ∧ (d.tile t).runs = [] ∧ d.mem = s.dev.mem ∧
      d.queues = s.dev.queues ∧ s.dev.onlyTile d t ∧ (d.tile t).nextSeq = n + 1 ∧
      (d.tile t).loads = [⟨!s.dev.activeB t, 2 * n, lv, sc, c.wfmt, c.gsize, (s.dev.tile t).mapNext,
        s.dev.loadVisit t (!s.dev.activeB t), 0, false, false, some c⟩])) ∧
  (∀ (s : State) (t : Nat) (l : Load), (s.dev.tile t).loads = [l] → l.sent = false → s.dev.calm t →
    Completes (.bankLoadComplete t) s (fun d => (d.tile t).loads = [{ l with sent := true }] ∧
      (d.tile t).air = (s.dev.tile t).air ++ [.colsum l.bankB] ∧ ((d.tile t).bank l.bankB).loaded = true ∧
      ((d.tile t).bank l.bankB).verified = false ∧ ((d.tile t).bank l.bankB).levels = l.levels ∧
      ((d.tile t).bank l.bankB).scales = l.scales ∧ ((d.tile t).bank l.bankB).key = l.key ∧
      (d.tile t).bank (!l.bankB) = (s.dev.tile t).bank (!l.bankB) ∧ d.mem = s.dev.mem ∧ s.dev.onlyTile d t)) ∧
  (∀ (s : State) (t : Nat) (l : Load), (s.dev.tile t).loads = [l] → l.sent = true → s.dev.calm t →
    (∀ g, g < 8 → NMap.get [] (s.dev.tile t).colsumSeen (8 * b2n l.bankB + g) = levelSums l.levels g) →
    ((s.dev.tile t).bank l.bankB).loaded = true → ((s.dev.tile t).bank l.bankB).key = l.key →
    Completes (.columnSumCheck t) s (fun d => (d.tile t).loads = [] ∧ ((d.tile t).bank l.bankB).verified = true ∧
      ((d.tile t).bank l.bankB).csum = groupSums (s.dev.tile t).colsumSeen l.bankB l.gsize ∧ d.regs = s.dev.regs ∧
      d.mem = s.dev.mem ∧ s.dev.onlyTile d t)) ∧
  (∀ (s : State) (t : Nat) (h : Held), s.dev.inService t = true → (s.dev.tile t).runs = [] → (s.dev.tile t).held = [h] →
    s.dev.headWantsSwap t = some h → h.c.isPair = false → s.dev.flag Reg.PM_CAL_TILE_RUNNING t = false → (s.dev.tile t).stages = [] →
    h.img = h.c → (s.dev.idle t).map = (s.dev.tile t).map →
    (h.c.pmode = 1 → s.dev.probeRead (s.dev.cPart h.c) h.c.tsv (4 * h.c.rows) = .ok) →
    Completes (.bankSwap t) s (fun d => s.dev.activeB t = !d.activeB t ∧ (d.tile t).held = [] ∧ (d.tile t).epochActive = true ∧
      (d.tile t).epochStart = s.dev.mono ∧ d.active t = s.dev.idle t ∧ d.mem = s.dev.mem ∧ d.queues = s.dev.queues ∧
      (d.tile t).runs = [{ id := h.seq, c := h.c, target := h.target, img := h.img, firstHi := (s.dev.idle t).key % 2 == 1,
                           limit := h.c.rows, recs := s.dev.recordsOf h.c }]))

/-- PACKER_ROW, TILE_ROW_START, PLANE_CHECK, REPLAY_BLOCK, RECOMPUTATION, ROW_ADDENDS_ADD (R61, R64, R68, R71, R75, R76, R89, R101, R102): one
row on its way through the tile. The field debt is the model's own (log entry 6). -/
def Obligations.RowsInProgress : Prop :=
  (∀ (s : State) (t a n : Nat) (r : Run) (e : Word) (k : Packed), (s.dev.tile t).runs = [r] → r.ended = false → s.dev.inService t = true →
    r.packed < r.limit → r.pass = 0 → r.c.exports = false → rowRange r.c r.packed = (a, n) → s.dev.probeRead (s.dev.runPart r) a n = .ok →
    e = (if r.packed = 0 then NMap.get 0 (s.dev.tile t).static r.c.staticIdx else r.entry) →
    (r.c.pmode = 2 → r.packed = 0 → entryCheck t r.c e = none) → (r.c.pmode = 2 → r.packed + 1 ≠ r.c.rows) →
    k = packRow r.c e (r.recs.getD r.packed 0) (s.dev.bytes a n) → k.nonfinite = 0 → k.clamp = false →
    Completes (.packerRow t) s (fun d => d.queues = s.dev.queues ∧ s.dev.onlyTile d t ∧
      d.mem = (if r.c.pmode = 0 then (s.dev.putBytes (stagingBase + s.dev.rd Reg.QS_ROWBUF_BASE t * 4096 +
        (if (s.dev.tile t).rowbuf then 262144 else 0)) k.raw).mem else s.dev.mem) ∧
      (d.tile t).packedRows = (s.dev.tile t).packedRows ++ [⟨(s.dev.tile t).nextTag, r.id, r.packed, 0, r.c.afmt, k.codes,
        k.s, k.zp, r.key, [], [], false⟩] ∧
      ((d.tile t).runs.map (fun r => r.packed)) = [r.packed + 1])) ∧
  (∀ (s : State) (t : Nat) (r : Run) (row : Row) (rest : List Row), (s.dev.tile t).packedRows = row :: rest →
    (s.dev.tile t).current = some r → s.dev.inService t = true → NMap.get 0 s.dev.rate (quadOf t) = 0 →
    (s.dev.tile t).replayStop = false → row.run = r.id → (s.dev.tile t).bankGood (s.dev.active t) row.key = true →
    Completes (.tileRowStart t) s (fun d => (d.tile t).packedRows = rest ∧ (d.tile t).rows = (s.dev.tile t).rows ++ [row] ∧
      (d.tile t).air = (s.dev.tile t).air ++ (List.range row.width).map (fun p => .plane row.tag p) ∧
      (d.tile t).debt = (s.dev.tile t).debt + row.width ∧ d.mem = s.dev.mem ∧ d.queues = s.dev.queues ∧ s.dev.onlyTile d t)) ∧
  (∀ (s : State) (t tag p : Nat) (row : Row) (codes : List Int) (rest : List Sample), (s.dev.tile t).air = .plane tag p :: rest →
    (s.dev.tile t).rows = [row] → row.tag = tag → row.void = false → (∀ g, g < 8 → flaggedGroups (segOf (codes.map decided) g) = []) →
    Completes (.planeCheck t codes) s (fun d => (d.tile t).air = rest ∧ (d.tile t).winChecked = (s.dev.tile t).winChecked + 64 ∧
      (d.tile t).winFlagged = (s.dev.tile t).winFlagged ∧ d.mem = s.dev.mem ∧ s.dev.onlyTile d t ∧
      ∃ row', (d.tile t).rows = [row'] ∧ row'.codes = row.codes ∧ ∀ g, g < 8 → NMap.get [] row'.dec (p * 8 + g) = segOf (codes.map decided) g)) ∧
  (∀ (s : State) (t tag p seg : Nat) (row : Row) (codes : List Int) (rest : List Sample),
    (s.dev.tile t).air = .replay tag p seg :: rest → (s.dev.tile t).rows = [row] → row.tag = tag → row.void = false →
    (s.dev.tile t).runs = [] → (s.dev.tile t).replayWait = [] → (s.dev.tile t).replayQ.length + rest.countP Sample.isReplay < 16 →
    flaggedGroups (segOf (codes.map decided) 0) ≠ [] → s.dev.isLate t row = false → NMap.get 0 row.tries (p * 8 + seg) < 3 →
    Completes (.planeCheck t codes) s (fun d => (d.tile t).air = rest ∧
      (d.tile t).replayQ = (s.dev.tile t).replayQ ++ [.replay tag p seg] ∧ d.mem = s.dev.mem ∧
      (d.tile t).winFlagged = (s.dev.tile t).winFlagged + (flaggedGroups (segOf (codes.map decided) 0)).length)) ∧
  (∀ (s : State) (t : Nat) (q : Sample) (rest : List Sample), (s.dev.tile t).replayQ = q :: rest →
    Completes (.replayBlock t) s (fun d => (d.tile t).replayQ = rest ∧ (d.tile t).air = (s.dev.tile t).air ++ [q] ∧
      (d.tile t).debt = (s.dev.tile t).debt + 12 ∧ d.mem = s.dev.mem ∧ d.queues = s.dev.queues ∧ s.dev.onlyTile d t)) ∧
  (∀ (s : State) (t tag p seg : Nat) (row : Row) (b : Bank) (rest : List Sample), (s.dev.tile t).recompQ = .replay tag p seg :: rest →
    (s.dev.tile t).rows = [row] → row.tag = tag → row.void = false → (s.dev.tile t).recompWait = [] →
    (s.dev.tile t).byKey row.key = some b →
    Completes (.recomputation t) s (fun d => (d.tile t).recompQ = rest ∧ d.mem = s.dev.mem ∧ s.dev.onlyTile d t ∧
      (d.tile t).rows = [{ row with dec := NMap.insert row.dec (p * 8 + seg) (exactSegment b.levels row.codes p seg) }])) ∧
  (∀ (s : State) (t : Nat) (row : Row) (r : Run) (b : Bank), (s.dev.tile t).readyRow = some (row, r, b) → r.c.isPair = true →
    row.pass = 0 → (s.dev.tile t).runs = [r] →
    Completes (.rowAddendsAdd t) s (fun d => (d.tile t).rows = (s.dev.tile t).rows.filter (fun y => y.tag ≠ row.tag) ∧
      (d.tile t).runs = [{ r with stored := r.stored + 1 }] ∧ d.regs = s.dev.regs ∧ s.dev.onlyTile d t ∧
      (∀ g j, g < groupCount r.c.gsize → j < 128 →
        d.le (ppbAddr t (s.dev.tile t) r.c row.idx g j) 4 = ofSigned 32 (groupPartial row r.c.gsize g j)) ∧
      ∀ a, a < ppbAddr t (s.dev.tile t) r.c row.idx 0 0 ∨
        ppbAddr t (s.dev.tile t) r.c row.idx 0 0 + groupCount r.c.gsize * 512 ≤ a → d.byte a = s.dev.byte a)) ∧
  (∀ (s : State) (t : Nat) (row : Row) (r : Run) (b : Bank) (dsc : Nat × Nat) (n : Nat → Nat → Int),
    (s.dev.tile t).readyRow = some (row, r, b) → r.c.isPair = false → (s.dev.tile t).runs = [r] → (s.dev.tile t).held = [] → s.dev.untraced →
    r.added + 1 < r.limit → (r.ended = true ∨ (s.dev.tile t).bankGood (s.dev.active t) r.key = true) →
    dsc = s.dev.desc t (r.c.patchFor row.idx) →
    (∀ g j, n g j = if r.c.accfmt = 0
      then addend (s.dev.corrected t r row b g j) (b.scales.getD (j * 8 + g) 0) row.stok (r.c.wfmt == 0) else s.dev.corrected t r row b g j) →
    Completes (.rowAddendsAdd t) s (fun d => ((d.tile t).runs.map (fun r => r.added)) = [r.added + 1] ∧ s.dev.onlyTile d t ∧
      d.queues = s.dev.queues ∧
      (∀ j, j < 128 → d.le (s.dev.accAddr (.live t) dsc (row.idx % 64) j) (accWidth (dFmt dsc)) =
        ofSigned (accBits (dFmt dsc)) ((List.range (groupCount r.c.gsize)).foldl (fun a g => (accAdd (dFmt dsc) a (n g j)).1)
          (s.dev.accRead (.live t) dsc (row.idx % 64) j))) ∧
      ∀ a, a < s.dev.accAddr (.live t) dsc (row.idx % 64) 0 ∨ s.dev.accAddr (.live t) dsc (row.idx % 64) 128 ≤ a →
        d.byte a = s.dev.byte a))

/-- STATIC_ENTRY_WIDENING, REFRESH_BURST, IDLE_BANK_REFRESH, EPOCH_COMMAND_END, BANK_IDLE_RELEASE, SUPERVISION_WINDOW_CLOSE (R77, R78, R83,
R84, R112 to R114, R262, R266): what each leaves of the tile, which alone changes. The field debt is the model's own (log entry 6), and
the timers move the clock (log entry 12). -/
def Obligations.TileUpkeep : Prop :=
  (∀ (s : State) (t i : Nat) (w : Widen), (s.dev.tile t).widen = [w] → w.entry = i → s.dev.calm t →
    NMap.get 0 (s.dev.tile t).static i = w.word →
    Completes (.staticEntryWidening t i none) s (fun d => (d.tile t).widen = [] ∧ d.queues = s.dev.queues ∧ s.dev.onlyTile d t ∧
      NMap.get 0 (d.tile t).static i = BitVec.ofNat 64 (w.word.toNat / 2 ^ 32 * 2 ^ 32 +
        (if seSym w.word then bits w.word 31 16 else (widened w.word w.lo w.hi).zp) * 2 ^ 16 + (widened w.word w.lo w.hi).s))) ∧
  (∀ (s : State) (t i : Nat) (w : Widen) (v : Word), (s.dev.tile t).widen = [w] → w.entry = i → s.dev.calm t →
    Completes (.staticEntryWidening t i (some v)) s (fun d => (d.tile t).widen = [] ∧
      NMap.get 0 (d.tile t).static i = staticWord (NMap.get 0 (s.dev.tile t).static i) v ∧
      d.rd Reg.PAGE_STATUS_HW_LOST (pageOf .QS t) = 1 ∧ s.dev.onlyTile d t)) ∧
  (∀ (s : State) (t i : Nat) (w : Widen), (s.dev.tile t).widen = [w] → w.entry = i → s.dev.calm t →
    NMap.get 0 (s.dev.tile t).static i ≠ w.word →
    Completes (.staticEntryWidening t i none) s (fun d => (d.tile t).widen = [] ∧
      NMap.get 0 (d.tile t).static i = NMap.get 0 (s.dev.tile t).static i ∧
      d.rd Reg.PAGE_STATUS_HW_LOST (pageOf .QS t) = 1 ∧ s.dev.onlyTile d t)) ∧
  (∀ (s : State) (t : Nat), (s.dev.tile t).epochActive = true → (s.dev.active t).loaded = true → s.dev.svc t ≠ 4 →
    (s.dev.tile t).replayQ = [] →
    Completes (.refreshBurst t) s (fun d => (d.tile t).bursts = (s.dev.tile t).bursts + 1 ∧ d.mem = s.dev.mem ∧
      s.dev.reached d ((s.dev.tile t).epochStart + ((s.dev.tile t).bursts + 1) * 80000) ∧
      (d.tile t).debt = (s.dev.tile t).debt + 36 * s.dev.slotsPerNs t ∧ s.dev.onlyTile d t)) ∧
  (∀ (s : State) (t seg : Nat),
    Completes (.idleBankRefresh t seg) s (fun d => d = s.dev.modTile t (fun x => { x with idleSeg := (seg + 1) % 8 }))) ∧
  (∀ (s : State) (t : Nat) (r : Run), (s.dev.tile t).runs = [r] → r.ended = false → r.limit ≤ r.started → r.added < r.limit →
    r.c.isPair = false → (s.dev.tile t).held = [] →
    Completes (.epochCommandEnd t) s (fun d => (d.tile t).runs = [{ r with ended := true }] ∧ (d.tile t).released = r.c.release ∧
      (d.tile t).lastEpochEnd = s.dev.mono ∧ d.queues = s.dev.queues ∧ d.mem = s.dev.mem ∧ d.regs = s.dev.regs)) ∧
  (∀ (s : State) (t : Nat) (r : Run), (s.dev.tile t).runs = [r] → r.ended = false → r.limit ≤ r.started → r.limit ≤ r.added →
    r.c.isPair = false → (s.dev.tile t).held = [] → r.touched = [] → r.status = 0 → (∀ y ∈ (s.dev.tile t).rows, y.run ≠ r.id) →
    Completes (.epochCommandEnd t) s (fun d => (d.tile t).runs = [] ∧ s.dev.ends d r.c 0 true 0 0 ∧ d.mem = s.dev.mem ∧
      d.regs = s.dev.regs)) ∧
  (∀ (s : State) (t : Nat), (s.dev.tile t).released = false → (s.dev.tile t).epochActive = true → s.dev.calm t →
    (s.dev.tile t).lastCmd ≤ (s.dev.tile t).lastEpochEnd →
    Completes (.bankIdleRelease t) s (fun d => d.regs = s.dev.regs ∧ d.mem = s.dev.mem ∧
      s.dev.reached d ((s.dev.tile t).lastEpochEnd + s.dev.rd Reg.QM_CTRL_IDLE_REL 0 * 16000) ∧
      d.tile t = { s.dev.tile t with released := true } ∧ s.dev.onlyTile d t)) ∧
  (∀ (s : State) (t : Nat), 2 ^ 24 ≤ (s.dev.tile t).winChecked → (s.dev.svc t = 2 ∨ s.dev.svc t = 3) →
    (s.dev.tile t).winFlagged * 1000000 ≤ (s.dev.tile t).winChecked →
    Completes (.supervisionWindowClose t) s (fun d => (d.tile t).winChecked = 0 ∧ (d.tile t).winFlagged = 0 ∧ (d.tile t).persist = 0 ∧
      d.svc t = s.dev.svc t ∧ d.mem = s.dev.mem ∧ s.dev.onlyTile d t ∧
      d.rd Reg.PT_SUP_WIN_CHECKED t = (s.dev.tile t).winChecked % 2 ^ Reg.PT_SUP_WIN_CHECKED.width ∧
      d.rd Reg.PT_SUP_WIN_FLAGGED t = (s.dev.tile t).winFlagged % 2 ^ Reg.PT_SUP_WIN_FLAGGED.width)) ∧
  (∀ (s : State) (t : Nat), 2 ^ 24 ≤ (s.dev.tile t).winChecked → s.dev.svc t = 2 →
    (s.dev.tile t).winFlagged * 10000 ≤ (s.dev.tile t).winChecked → (s.dev.tile t).winChecked < (s.dev.tile t).winFlagged * 1000000 →
    (s.dev.tile t).persist = 0 → s.dev.refinOk = true → s.dev.flag Reg.PM_CAL_TILE_RUNNING t = false →
    (s.dev.tile t).cal.waitRefin = false → s.dev.masks Ev.PT_RATE_HIGH t = false →
    Completes (.supervisionWindowClose t) s (fun d => (d.tile t).winChecked = 0 ∧ d.svc t = 3 ∧ d.shows Ev.PT_RATE_HIGH t = true ∧
      d.flag Reg.PM_CAL_TILE_RUNNING t = true ∧ d.rd Reg.PM_CAL_TILE_TRIGGER t = 2 ∧ s.dev.onlyTile d t)) ∧
  (∀ (s : State) (t : Nat), 2 ^ 24 ≤ (s.dev.tile t).winChecked → s.dev.svc t = 2 → s.dev.calm t → (s.dev.tile t).waiting = [] →
    (s.dev.tile t).winChecked < (s.dev.tile t).winFlagged * 10000 → s.dev.masks Ev.PT_OUT_OF_SERVICE t = false →
    Completes (.supervisionWindowClose t) s (fun d => (d.tile t).winChecked = 0 ∧ d.svc t = 4 ∧ d.shows Ev.PT_OUT_OF_SERVICE t = true ∧
      (d.tile t).passed = false ∧ s.dev.onlyTile d t))

/-- QRATE, RATE_CHANGE_DRAINED, RATE_CHANGE_LOCKED, TILE_EN, RETURN (R80, R90, R93): the rate in force and the service state each leaves. -/
def Obligations.TileService : Prop :=
  (∀ (s : State) (src : Src) (q r : Nat), s.dev.reaches src .PT = .ok → srcPart src = 0 → r < 3 → NMap.get 0 s.dev.rate q = 0 →
    r ≠ s.dev.rateOf (4 * q) →
    Completes (.qrate src q r) s (fun d => NMap.get 0 d.rate q = 1 ∧ (∀ i, i < 4 → d.rd Reg.PT_CTRL_QRATE (4 * q + i) = r) ∧
      (∀ i, i < 4 → s.dev.inService (4 * q + i) = true → d.svc (4 * q + i) = 5) ∧ d.mem = s.dev.mem)) ∧
  (∀ (s : State) (q : Nat), NMap.get 0 s.dev.rate q = 1 → (∀ i, i < 4 → (s.dev.tile (4 * q + i)).rows = [] ∧ (s.dev.tile (4 * q + i)).air = [] ∧
      (s.dev.tile (4 * q + i)).replayQ = [] ∧ (s.dev.tile (4 * q + i)).recompQ = [] ∧ (s.dev.tile (4 * q + i)).replayWait = [] ∧
      (s.dev.tile (4 * q + i)).recompWait = []) →
    Completes (.rateChangeDrained q) s (fun d =>
      d = { s.dev with rate := NMap.set 0 s.dev.rate q (2 + s.dev.rd Reg.PT_CTRL_QRATE (4 * q)) })) ∧
  (∀ (s : State) (q r : Nat), NMap.get 0 s.dev.rate q = 2 + r → r < 3 → s.dev.rd Reg.PT_CTRL_QRATE (4 * q) = r →
    (∀ i, i < 4 → s.dev.calm (4 * q + i) ∧ (s.dev.active (4 * q + i)).loaded = false ∧
      s.dev.flag Reg.PM_CAL_TILE_RUNNING (4 * q + i) = false ∧ s.dev.svc (4 * q + i) = 5 ∧ (s.dev.tile (4 * q + i)).svcBack = 2) →
    Completes (.rateChangeLocked q) s (fun d => NMap.get 0 d.rate q = 0 ∧ d.mem = s.dev.mem ∧ (∀ u, quadOf u ≠ q → d.tile u = s.dev.tile u) ∧
      (∀ i, i < 4 → d.rd Reg.PT_STATUS_QRATE_NOW (4 * q + i) = r) ∧ ∀ i, i < 4 → d.svc (4 * q + i) = 2)) ∧
  (∀ (s : State) (src : Src) (t : Nat) (on : Bool), s.dev.reaches src .PT = .ok → s.dev.mayPt src t = true → s.dev.calm t →
    Completes (.tileEn src t on) s (fun d => d.flag Reg.PT_CTRL_TILE_EN t = on ∧ d.mem = s.dev.mem ∧ s.dev.onlyTile d t ∧
      d.tile t = { s.dev.tile t with everOn := on || (s.dev.tile t).everOn })) ∧
  (∀ (s : State) (src : Src) (t : Nat), s.dev.reaches src .PT = .ok → srcPart src = 0 → s.dev.svc t = 4 → (s.dev.tile t).passed = true →
    NMap.get 0 s.dev.rate (quadOf t) = 0 → s.dev.calm t →
    Completes (.returnSet src t) s (fun d => d.svc t = 2 ∧ d.tile t = { s.dev.tile t with epochActive := false, dead := false } ∧
      s.dev.onlyTile d t ∧ (s.dev.untraced → d.mem = s.dev.mem))) ∧
  (∀ (s : State) (src : Src) (t : Nat), s.dev.reaches src .PT = .ok → srcPart src = 0 → s.dev.svc t = 4 → (s.dev.tile t).passed = true →
    NMap.get 0 s.dev.rate (quadOf t) ≠ 0 → s.dev.calm t →
    Completes (.returnSet src t) s (fun d => d.svc t = 5 ∧
      d.tile t = { s.dev.tile t with epochActive := false, dead := false, svcBack := 2 } ∧ s.dev.onlyTile d t))

/-- CAL_TRIGGER_EVALUATION, REQUEST, CALIBRATION_LOAD, CALIBRATION_SWAP, PM_CAL_LATE (R65, R168, R169, R171, R175): a trigger and a request
start a run, its load goes into the idle bank, its swap makes that bank active, and a run of a second is reported. -/
def Obligations.CalibrationRuns : Prop :=
  (∀ (s : State) (t : Nat), s.dev.flag Reg.PM_CAL_TILE_RUNNING t = false → s.dev.refinOk = true →
    (s.dev.tile t).cal.waitRefin = false →
    s.dev.tempMoved t (s.dev.rdS Reg.PM_CAL_RUN_TEMP t) (s.dev.rd Reg.PM_CAL_CTRL_DT_CAL 0) = true →
    Completes (.calTriggerEvaluation t) s (fun d => d.flag Reg.PM_CAL_TILE_RUNNING t = true ∧ d.rd Reg.PM_CAL_TILE_TRIGGER t = 1 ∧
      d.flag Reg.PT_STATUS_CAL_OK t = false ∧ (d.tile t).cal =
        { start := s.dev.mono, dt := s.dev.rd Reg.PM_CAL_CTRL_DT_CAL 0, temp := s.dev.rdS Reg.HM_TEMP_QTEMP t } ∧
      d.svc t = s.dev.svc t ∧ d.mem = s.dev.mem ∧ s.dev.onlyTile d t)) ∧
  (∀ (s : State) (t : Nat), s.dev.flag Reg.PM_CAL_TILE_RUNNING t = true → s.dev.rd Reg.PM_CAL_TILE_TRIGGER t ≠ 2 →
    s.dev.tempMoved t (s.dev.tile t).cal.temp (s.dev.tile t).cal.dt = true → (s.dev.tile t).cal.restarts < 3 →
    Completes (.calTriggerEvaluation t) s (fun d => d.flag Reg.PM_CAL_TILE_RUNNING t = true ∧
      d.rd Reg.PM_CAL_TILE_TRIGGER t = s.dev.rd Reg.PM_CAL_TILE_TRIGGER t ∧ (d.tile t).cal =
        { start := (s.dev.tile t).cal.start, late := (s.dev.tile t).cal.late, dt := (s.dev.tile t).cal.dt,
          restarts := (s.dev.tile t).cal.restarts + 1, temp := s.dev.rdS Reg.HM_TEMP_QTEMP t } ∧
      d.svc t = s.dev.svc t ∧ d.mem = s.dev.mem ∧ s.dev.onlyTile d t)) ∧
  (∀ (s : State) (src : Src) (t : Nat), s.dev.reaches src .PM = .ok → srcPart src = 0 → t < 16 → s.dev.refinOk = true →
    s.dev.flag Reg.PM_CAL_TILE_RUNNING t = false → (s.dev.tile t).cal.waitRefin = false →
    Completes (.request src (2 ^ t)) s (fun d => d.flag Reg.PM_CAL_TILE_RUNNING t = true ∧ d.rd Reg.PM_CAL_TILE_TRIGGER t = 4 ∧
      (d.rd Reg.PM_CAL_CTRL_REQ 0).testBit t = false ∧ d.mem = s.dev.mem ∧ s.dev.onlyTile d t)) ∧
  (∀ (s : State) (t : Nat), s.dev.idlePeriod t = true → (s.dev.tile t).loads = [] →
    Completes (.calibrationLoad t) s (fun d => d.mem = s.dev.mem ∧ d.queues = s.dev.queues ∧ s.dev.onlyTile d t ∧
      (d.tile t).loads = [⟨!s.dev.activeB t, 0, [], [], 0, 0, (s.dev.tile t).mapNext, s.dev.loadVisit t (!s.dev.activeB t), 0, false,
        true, none⟩] ∧
      (d.idle t).loaded = false ∧ d.active t = s.dev.active t)) ∧
  (∀ (s : State) (t : Nat), s.dev.idlePeriod t = true → (s.dev.idle t).loaded = true → (s.dev.idle t).key = 0 →
    (s.dev.tile t).map = (s.dev.idle t).map → (s.dev.tile t).stages = [] → s.dev.flag Reg.PM_CAL_TILE_RUNNING t = false →
    Completes (.calibrationSwap t) s (fun d => d.activeB t = !s.dev.activeB t ∧ d.active t = s.dev.idle t ∧
      (d.tile t).epochActive = false ∧ d.mem = s.dev.mem ∧ s.dev.onlyTile d t)) ∧
  (∀ (s : State) (t : Nat), s.dev.flag Reg.PM_CAL_TILE_RUNNING t = true → (s.dev.tile t).cal.late = false →
    s.dev.masks Ev.PM_CAL_LATE 0 = false →
    Completes (.pmCalLate t) s (fun d => (d.tile t).cal.late = true ∧ d.shows Ev.PM_CAL_LATE 0 = true ∧ s.dev.onlyTile d t ∧
      s.dev.reached d ((s.dev.tile t).cal.start + 16 * 10 ^ 9)))

/-- LOCK_GROUP_UPDATE (R147 to R151): the output of each ring of the group whose turn it is is its lock demand, cut to the lower of the group's
ceiling and the tile's, and falls due at the second frame event after its conversions; while the loops are held only the errors are shown
(R156). The tables are free (log entry 32). -/
def Obligations.LockUpdate : Prop :=
  (∀ (s : State) (t g n : Nat) (conv : List Int) (late : Bool), (s.dev.ringTile t).on = true → (s.dev.ringTile t).search = none →
    s.dev.convFrame t g = some n → s.dev.loopsHeld t = false →
    Completes (.lockGroupUpdate t g conv late) s (fun d => ∃ dm : List Nat,
      dm = (List.range 16).map (fun i => lockDemand (s.dev.ring t (g * 16 + i)).int (s.dev.rd Reg.LK_GAIN_KP t)
        (lockError t (g * 16 + i) (conv.getD i 0)) (s.dev.feedForward t (g * 16 + i))) ∧
      (∀ i, i < 16 → (d.ring t (g * 16 + i)).err = lockError t (g * 16 + i) (conv.getD i 0) ∧
        (d.ring t (g * 16 + i)).out = min (dm.getD i 0)
          (min (groupCeiling (s.dev.rd Reg.HM_GRP_LIMIT_LIMIT t) dm) (s.dev.rd Reg.HM_STATUS_TILE_CEIL t))) ∧
      (((d.ringTile t).group g).conv, ((d.ringTile t).group g).due) = (n, n + 2 + b2n late) ∧
      ∀ r, r / 16 ≠ g → d.ring t r = s.dev.ring t r)) ∧
  (∀ (s : State) (t g n : Nat) (conv : List Int) (late : Bool), (s.dev.ringTile t).on = true → (s.dev.ringTile t).search = none →
    s.dev.convFrame t g = some n → s.dev.loopsHeld t = true →
    Completes (.lockGroupUpdate t g conv late) s (fun d => d.regs = s.dev.regs ∧ d.mem = s.dev.mem ∧
      (∀ i, i < 16 → d.ring t (g * 16 + i) =
        { s.dev.ring t (g * 16 + i) with err := lockError t (g * 16 + i) (conv.getD i 0) }) ∧
      ∀ r, r / 16 ≠ g → d.ring t r = s.dev.ring t r))

/-- FRAME_EVENT, HEATER_BITSTREAM_PERIOD, HEATER_RAMP_END, RING_SEARCH_DONE, FREEZE, HOTSPOT_LIMITER (R142, R143, R152, R156, R158, R160):
what each leaves of the rings and of the tile's ceiling. What a search shows is log entry 35. -/
def Obligations.Heaters : Prop :=
  (∀ (s : State) (t r : Nat) (x : RingTile) (v : Ring), t < 16 → s.dev.rings = [(t, x)] → x.rings = [(r, v)] → x.groups = [] → x.on = true →
    x.ramp = none → x.search = none → x.offDue = false → x.clearDue = false → s.dev.flag Reg.HM_CTRL_DITHER_EN t = false →
    Completes .frameEvent s (fun d => d.frames = s.dev.frames + 1 ∧
      d.ring t r = { v with strobed := v.out, applied := min v.out 0xF000 } ∧ d.mem = s.dev.mem ∧ d.tiles = s.dev.tiles)) ∧
  (∀ (s : State) (t r : Nat) (v : Ring), (s.dev.ringTile t).on = true → (s.dev.ringTile t).rings = [(r, v)] → v.state ≠ 0 →
    Completes (.heaterBitstreamPeriod t) s (fun d => d.ring t r = v.period ∧ d.regs = s.dev.regs ∧ d.mem = s.dev.mem)) ∧
  (∀ (s : State) (t : Nat), (s.dev.ringTile t).ramp = some 10000 →
    Completes (.heaterRampEnd t) s (fun d =>
      d = (s.dev.modRings t (fun x => { x with ramp := none, supervised := true })).wr Reg.HM_STATUS_RAMPING t 0)) ∧
  (∀ (s : State) (t : Nat) (codes : List Nat), (s.dev.ringTile t).search ≠ none →
    Completes (.ringSearchDone t codes) s (fun d => d.flag Reg.LK_STATUS_SP_OK t = true ∧ (d.ringTile t).search = none ∧
      (d.ringTile t).supervised = true ∧ d.mem = s.dev.mem ∧
      ∀ r, r < groupsPerTile * 16 → (d.ringTile t).image.getD r 0 = min (codes.getD r 0) 0xF000 ∧
        d.ring t r = { s.dev.ring t r with state := 1, int := min (codes.getD r 0) 0xF000 * 4096 })) ∧
  (∀ (s : State) (src : Src) (t : Nat) (on : Bool), s.dev.reaches src .LK = .ok → srcPart src = 0 →
    NMap.rising (s.dev.ringTile t).rings = true →
    Completes (.freeze src t on) s (fun d => d.flag Reg.LK_CTRL_FREEZE t = on ∧ d.mem = s.dev.mem ∧ d.queues = s.dev.queues ∧
      ∀ r, (d.ring t r).int = (s.dev.ring t r).int)) ∧
  (∀ (s : State) (t : Nat), s.dev.flag Reg.LL_STATUS_SYSCAL_BUSY t = false →
    Completes (.hotspotLimiter t) s (fun d => d.tiles = s.dev.tiles ∧ d.rings = s.dev.rings ∧ (s.dev.untraced → d.mem = s.dev.mem) ∧
      d.rd Reg.HM_STATUS_TILE_CEIL t =
        (if (s.dev.rd Reg.HM_HOT_HOT_LIMIT t * 16 : Nat) < s.dev.rdS Reg.HM_TEMP_HOTSPOT t then
           s.dev.rd Reg.HM_STATUS_TILE_CEIL t - s.dev.rd Reg.HM_HOT_HOT_STEP t
         else if s.dev.rdS Reg.HM_TEMP_HOTSPOT t <
             (s.dev.rd Reg.HM_HOT_HOT_LIMIT t * 16 : Nat) - (s.dev.rd Reg.HM_HOT_HYST t * 16 : Nat) then
           min (s.dev.rd Reg.HM_STATUS_TILE_CEIL t + s.dev.rd Reg.HM_HOT_HOT_STEP t) 0xF000
         else s.dev.rd Reg.HM_STATUS_TILE_CEIL t) % 2 ^ Reg.HM_STATUS_TILE_CEIL.width)) ∧
  (∀ (s : State) (t : Nat), s.dev.flag Reg.LL_STATUS_SYSCAL_BUSY t = true →
    Completes (.hotspotLimiter t) s (fun d => d.rd Reg.HM_STATUS_TILE_CEIL t = s.dev.rd Reg.HM_STATUS_TILE_CEIL t ∧
      d.tiles = s.dev.tiles ∧ d.rings = s.dev.rings ∧ d.mem = s.dev.mem))

/-- HEAT_EN_SET, HEAT_EN_CLEAR (R158, R159): the rings of a tile start from its set-point image in ACQUIRE, and stop in OFF. The strobe at
which the heaters go dark is log entry 35. -/
def Obligations.HeatersOnAndOff : Prop :=
  (∀ (s : State) (src : Src) (t : Nat), s.dev.reaches src .HM = .ok → srcPart src = 0 → s.dev.flag Reg.HM_CTRL_HEAT_EN t = false →
    s.dev.flag Reg.HM_STATUS_RAIL_OPEN t = false → (s.dev.rail (quadOf t)).rising = false → s.dev.flag Reg.LK_STATUS_SP_OK t = true →
    Completes (.heatEnSet src t) s (fun d => d.flag Reg.HM_CTRL_HEAT_EN t = true ∧ d.flag Reg.HM_STATUS_RAMPING t = true ∧
      (d.ringTile t).on = true ∧ (d.ringTile t).ramp = some 0 ∧ (d.ringTile t).legFrom = s.dev.mono ∧ d.mem = s.dev.mem ∧
      ∀ r, r < groupsPerTile * 16 → d.ring t r = { s.dev.ring t r with state := 1, int := (s.dev.ringTile t).point r })) ∧
  (∀ (s : State) (src : Src) (t : Nat), s.dev.reaches src .HM = .ok → srcPart src = 0 → s.dev.flag Reg.HM_CTRL_HEAT_EN t = true →
    Completes (.heatEnClear src t) s (fun d => d.flag Reg.HM_CTRL_HEAT_EN t = false ∧ d.flag Reg.HM_STATUS_RAMPING t = false ∧
      (d.ringTile t).on = false ∧ (d.ringTile t).offDue = true ∧ d.mem = s.dev.mem ∧
      ∀ r, (d.ring t r).state = 0 ∧ (d.ring t r).int = 0 ∧
        (NMap.rising (s.dev.ringTile t).rings = true → (d.ring t r).applied = (s.dev.ring t r).applied)))

/-- LEG_ENABLE, LEG_HINT, HINT_COMPARATOR_REARM, LEG_TRIP, LEG_BLANKING_END, LEG_TRIP_WINDOW_END, HM_LEG_REARM (R198 to R200, R203): the
switches, the comparator and the latch of one leg. The timers move the clock (log entry 12). -/
def Obligations.PowerLegs : Prop :=
  (∀ (s : State) (t leg : Nat), (s.dev.ringTile t).legDue.testBit leg = true → s.dev.flag Reg.HM_STATUS_RAIL_OPEN t = false →
    (s.dev.rail (quadOf t)).rising = false → (s.dev.rd Reg.HM_LEG_STATE t).testBit leg = false →
    Completes (.legEnable t leg) s (fun d => (d.ringTile t).legOn.testBit leg = true ∧ (d.ringTile t).legDue.testBit leg = false ∧
      s.dev.reached d ((s.dev.ringTile t).legFrom + 1600 * leg) ∧ d.regs = s.dev.regs ∧ d.mem = s.dev.mem ∧
      NMap.get 0 (d.ringTile t).blank leg = d.mono + 160 * s.dev.rd Reg.HM_LEG_CFG_BLANK t + 1)) ∧
  (∀ (s : State) (t leg : Nat), (s.dev.ringTile t).hintSpent.testBit leg = false → s.dev.flag Reg.LL_CTRL_INJ_HINT t = true →
    Completes (.legHint t leg) s (fun d => (d.ringTile t).hintSpent.testBit leg = true ∧ d.mem = s.dev.mem ∧
      (d.unit t).raised = (s.dev.unit t).raised ++ [⟨3, 0, leg⟩])) ∧
  (∀ (s : State) (t leg : Nat),
    Completes (.hintComparatorRearm t leg) s (fun d =>
      d = s.dev.modRings t (fun x => { x with hintSpent := putBit x.hintSpent leg false }))) ∧
  (∀ (s : State) (t leg : Nat), s.dev.flag Reg.HM_STATUS_RAIL_OPEN t = false → (s.dev.ringTile t).legOn.testBit leg = true → leg < 64 →
    (s.dev.rail (quadOf t)).trips = [] → s.dev.calm t → (s.dev.tile t).waiting = [] →
    Completes (.legTrip t leg true) s (fun d => (d.ringTile t).legOn.testBit leg = false ∧
      (d.rd Reg.HM_LEG_STATE t).testBit leg = true ∧ d.flag Reg.HM_LEG_LAST_HARD t = true ∧ d.svc t = 4 ∧
      (s.dev.untraced → d.mem = s.dev.mem) ∧ (d.rail (quadOf t)).trips = [(s.dev.mono, t, leg)] ∧ s.dev.onlyTile d t)) ∧
  (∀ (s : State) (t leg : Nat), 0 < NMap.get 0 (s.dev.ringTile t).blank leg → s.dev.flag Reg.HM_STATUS_RAIL_OPEN t = false →
    (s.dev.ringTile t).legOn.testBit leg = true → leg < 64 → (s.dev.rail (quadOf t)).trips = [] → s.dev.calm t → (s.dev.tile t).waiting = [] →
    Completes (.legBlankingEnd t leg true) s (fun d => NMap.get 0 (d.ringTile t).blank leg = 0 ∧
      (d.ringTile t).legOn.testBit leg = false ∧ (d.rd Reg.HM_LEG_STATE t).testBit leg = true ∧ d.flag Reg.HM_LEG_LAST_HARD t = false ∧
      d.flag Reg.HM_LEG_LAST_IN_BLANK t = false ∧ d.svc t = 4 ∧ (d.rail (quadOf t)).trips = [(d.mono, t, leg)])) ∧
  (∀ (s : State) (t leg : Nat), 0 < NMap.get 0 (s.dev.ringTile t).blank leg →
    Completes (.legBlankingEnd t leg false) s (fun d => NMap.get 0 (d.ringTile t).blank leg = 0 ∧ d.regs = s.dev.regs ∧
      d.mem = s.dev.mem ∧ s.dev.reached d (NMap.get 0 (s.dev.ringTile t).blank leg - 1))) ∧
  (∀ (s : State) (t leg a : Nat), (s.dev.rail (quadOf t)).trips = [(a, t, leg)] → s.dev.svc t = 4 → s.dev.calm t →
    s.dev.masks Ev.HM_LEG_TRIP t = false →
    Completes (.legTripWindowEnd t) s (fun d => (d.rail (quadOf t)).trips = [] ∧ (d.ringTile t).clearDue = true ∧
      d.shows Ev.HM_LEG_TRIP t = true ∧ s.dev.reached d (a + 16000))) ∧
  (∀ (s : State) (src : Src) (t leg : Nat), s.dev.reaches src .HM = .ok → srcPart src = 0 → leg < 64 →
    s.dev.flag Reg.HM_STATUS_RAIL_OPEN t = false → s.dev.flag Reg.HM_CTRL_HEAT_EN t = false →
    (s.dev.rd Reg.HM_LEG_STATE t).testBit leg = true →
    Completes (.hmLegRearm src t (BitVec.ofNat 64 (2 ^ leg))) s (fun d => (d.rd Reg.HM_LEG_STATE t).testBit leg = false ∧
      (d.ringTile t).legOn.testBit leg = true ∧ d.mem = s.dev.mem ∧ d.tiles = s.dev.tiles))

/-- CLOSE, RAIL_RISEN (R202): the heater rail of a quadrant closes where CLOSE is allowed and is refused where it is closed already, and its
legs are enabled in turn. -/
def Obligations.HeaterRails : Prop :=
  (∀ (s : State) (src : Src) (q : Nat), s.dev.reaches src .HM = .ok → srcPart src = 0 → q < 4 →
    s.dev.flag Reg.HM_STATUS_RAIL_OPEN (4 * q) = true → (∀ i, i < 4 → s.dev.rd Reg.HM_LEG_STATE (4 * q + i) = 0) →
    (s.dev.rail q).openAt + 160000000 ≤ s.dev.mono → s.dev.rd Reg.HM_RAIL_RAIL_MV (4 * q) < 100 →
    Completes (.close src (4 * q)) s (fun d => (d.rail q).rising = true ∧ d.tiles = s.dev.tiles ∧ d.rings = s.dev.rings ∧
      ∀ i, i < 4 → d.flag Reg.HM_STATUS_RAIL_OPEN (4 * q + i) = false)) ∧
  (∀ (s : State) (src : Src) (q : Nat), s.dev.reaches src .HM = .ok → srcPart src = 0 → q < 4 →
    s.dev.flag Reg.HM_STATUS_RAIL_OPEN (4 * q) = false → s.dev.masks Ev.HM_RAIL_REFUSED (4 * q) = false →
    Completes (.close src (4 * q)) s (fun d => s.dev.Reports d ∧ d.shows Ev.HM_RAIL_REFUSED (4 * q) = true)) ∧
  (∀ (s : State) (q : Nat), (s.dev.rail q).rising = true → (∀ i, i < 4 → s.dev.flag Reg.HM_CTRL_HEAT_EN (4 * q + i) = false) →
    Completes (.railRisen q) s (fun d => (d.rail q).rising = false ∧ d.regs = s.dev.regs ∧ d.mem = s.dev.mem ∧
      ∀ i, i < 4 → (d.ringTile (4 * q + i)).legDue = 2 ^ 64 - 1 ∧ (d.ringTile (4 * q + i)).legFrom = s.dev.mono))

/-- LL_REGULAR_TRIGGER, REG_GO, LL_SET_CONVERTED, LL_RING_TAIL, LL_HOUSEKEEPING (R187 to R190, R193): a pass starts, a trigger during one is
counted as missed, one set of its first entry is converted, and housekeeping sums the temperatures. The form of the operands is log entry
33. -/
def Obligations.LeadlinePasses : Prop :=
  (∀ (s : State) (u trig a : Nat) (l : List Nat), s.dev.passReady u → trig = s.dev.rd Reg.LL_CTRL_REG_TRIG u →
    (trig = 0 ∧ (s.dev.unit u).regAt = a :: l ∨ trig = 1 ∧ a = (s.dev.unit u).timerAt + 160 * s.dev.rd Reg.LL_TIMER_PERIOD u) →
    Completes (.llRegularTrigger u trig) s (fun d => d.rd Reg.LL_STATUS_REG_STATE u = 2 ∧ d.rd Reg.LL_STATUS_CUR_ENTRY u = 0 ∧
      s.dev.reached d a ∧ (d.unit u).regAt = (if trig = 0 then l else (s.dev.unit u).regAt) ∧
      (d.unit u).timerAt = (if trig = 0 then (s.dev.unit u).timerAt else a) ∧ (d.unit u).cur = 0 ∧ d.rd Reg.LL_RING_HEAD_RECORD u = 1 ∧ (d.unit u).passes = (s.dev.unit u).passes + 1 ∧ (d.unit u).sets = 0)) ∧
  (∀ (s : State) (src : Src) (u : Nat), s.dev.reaches src .LL = .ok → srcPart src = 0 → s.dev.passReady u →
    s.dev.rd Reg.LL_CTRL_REG_TRIG u = 2 →
    Completes (.regGo src u) s (fun d => d.rd Reg.LL_STATUS_REG_STATE u = 2 ∧ d.rd Reg.LL_STATUS_CUR_ENTRY u = 0 ∧
      d.rd Reg.LL_RING_HEAD_RECORD u = 1 ∧ (d.unit u).passes = (s.dev.unit u).passes + 1 ∧ (d.unit u).sets = 0)) ∧
  (∀ (s : State) (u trig a : Nat) (l : List Nat), s.dev.flag Reg.LL_CTRL_REG_EN u = true → trig = s.dev.rd Reg.LL_CTRL_REG_TRIG u →
    (trig = 0 ∧ (s.dev.unit u).regAt = a :: l ∨ trig = 1 ∧ a = (s.dev.unit u).timerAt + 160 * s.dev.rd Reg.LL_TIMER_PERIOD u) →
    2 ≤ s.dev.rd Reg.LL_STATUS_REG_STATE u → s.dev.masks Ev.LL_TRIG_MISSED u = false →
    Completes (.llRegularTrigger u trig) s (fun d => d.shows Ev.LL_TRIG_MISSED u = true ∧ s.dev.reached d a ∧
      d.rd Reg.LL_TRIG_MISSED u = (s.dev.bump Reg.LL_TRIG_MISSED u 1).rd Reg.LL_TRIG_MISSED u ∧
      d.rd Reg.LL_STATUS_REG_STATE u = s.dev.rd Reg.LL_STATUS_REG_STATE u ∧ (d.unit u).passes = (s.dev.unit u).passes ∧
      (d.unit u).cur = (s.dev.unit u).cur ∧ (s.dev.untraced → d.mem = s.dev.mem))) ∧
  (∀ (s : State) (u : Nat) (codes : List Int), s.dev.flag Reg.LL_STATUS_SYSCAL_BUSY u = false → (s.dev.unit u).inj = none →
    (s.dev.unit u).injPending = none → s.dev.rd Reg.LL_STATUS_REG_STATE u = 2 → 8 * ((s.dev.unit u).sets + 1) <
      (entryIndices u 0 (NMap.get 0 (s.dev.unit u).list (s.dev.unit u).cur)).length →
    Completes (.llSetConverted u codes) s (fun d => (d.unit u).sets = (s.dev.unit u).sets + 1 ∧ d.mem = s.dev.mem ∧
      (d.unit u).buf = (s.dev.unit u).buf ++ (List.range 8).map (fun j => s.dev.reading u j (codes.getD j 0)) ∧
      d.rd Reg.LL_STATUS_REG_STATE u = 2)) ∧
  (∀ (s : State) (src : Src) (u v : Nat), s.dev.reaches src .LL = .ok → srcPart src = 0 → s.dev.rd Reg.LL_STATUS_REG_STATE u ≠ 3 →
    Completes (.llRingTail src u v) s (fun d => d = s.dev.wr Reg.LL_RING_TAIL_RECORD u v)) ∧
  (∀ (s : State) (src : Src) (u v : Nat) (l : List Nat), s.dev.reaches src .LL = .ok → srcPart src = 0 →
    s.dev.rd Reg.LL_STATUS_REG_STATE u = 3 → s.dev.flag Reg.LL_STATUS_SYSCAL_BUSY u = false → (s.dev.unit u).startDue = false →
    (s.dev.unit u).cur < s.dev.rd Reg.LL_LEN_REG_LEN u → l = entryIndices u 0 (NMap.get 0 (s.dev.unit u).list (s.dev.unit u).cur) →
    l ≠ [] → l.length ≤ (s.dev.wr Reg.LL_RING_TAIL_RECORD u v).ringRoom u →
    Completes (.llRingTail src u v) s (fun d => d = ((s.dev.wr Reg.LL_RING_TAIL_RECORD u v).wr Reg.LL_STATUS_REG_STATE u 2).modUnit u
      (fun x => { x with sets := 0, buf := [], repeating := false }))) ∧
  (∀ (s : State) (u : Nat) (readings : List Int), u < 16 → s.dev.flag Reg.LL_STATUS_SYSCAL_BUSY u = false →
    (s.dev.unit u).groupDue = true → (s.dev.unit u).inj = none → (s.dev.unit u).injPending = none →
    (∃ i, i < 4 ∧ 4 * (u / 4) + i ≠ u ∧ (s.dev.unit (4 * (u / 4) + i)).tempsNew = false) →
    Completes (.llHousekeeping u readings) s (fun d => (d.unit u).tempsNew = true ∧ (d.unit u).groupDue = false ∧ d.mem = s.dev.mem ∧ d.tiles = s.dev.tiles ∧
      (d.unit u).temps = ((List.range 32).map (fun i => temp1024 (s.dev.reading u (i % 8) (readings.getD i 0)))).sum))

/-- INJ_GO, INJECTION_START, INJECTION_END (R189, R191): an injection by software or frame starts at once and abandons the entry in progress,
and at its end its results replace those of the one before. -/
def Obligations.Injections : Prop :=
  (∀ (s : State) (src : Src) (u : Nat), s.dev.reaches src .LL = .ok → srcPart src = 0 → s.dev.flag Reg.LL_STATUS_SYSCAL_BUSY u = false →
    (s.dev.unit u).inj = none → (s.dev.unit u).injPending = none →
    Completes (.injGo src u) s (fun d => (d.unit u).inj = some ⟨0, 0, 0⟩ ∧ d.flag Reg.LL_STATUS_INJ_ACTIVE u = true ∧
      d.rd Reg.LL_INJ_CAUSE_CAUSE u = 0 ∧ (d.unit u).injSets = 0 ∧ (d.unit u).sets = 0 ∧ (d.unit u).buf = [] ∧
      d.mem = s.dev.mem ∧ d.tiles = s.dev.tiles)) ∧
  (∀ (s : State) (u a : Nat) (l : List Nat), s.dev.flag Reg.LL_CTRL_INJ_FRAME u = true → s.dev.flag Reg.LL_STATUS_SYSCAL_BUSY u = false →
    (s.dev.unit u).inj = none → (s.dev.unit u).injPending = none → (s.dev.unit u).injAt = a :: l →
    Completes (.injectionStart u 1 0 0) s (fun d => (d.unit u).inj = some ⟨1, 0, 0⟩ ∧ d.flag Reg.LL_STATUS_INJ_ACTIVE u = true ∧
      d.rd Reg.LL_INJ_CAUSE_CAUSE u = 1 ∧ (d.unit u).injSets = 0 ∧ (d.unit u).injAt = l ∧ s.dev.reached d a ∧ d.mem = s.dev.mem)) ∧
  (∀ (s : State) (u : Nat) (g : InjTrig), (g.cause = 2 ∧ g.leg = 0 ∨ g.cause = 3 ∧ g.ring = 0) → (s.dev.unit u).raised = [g] →
    s.dev.flag Reg.LL_STATUS_SYSCAL_BUSY u = false → (s.dev.unit u).inj = none → (s.dev.unit u).injPending = none →
    Completes (.injectionStart u g.cause g.ring g.leg) s (fun d => (d.unit u).inj = some g ∧ (d.unit u).raised = [] ∧
      d.flag Reg.LL_STATUS_INJ_ACTIVE u = true ∧ d.rd Reg.LL_INJ_CAUSE_CAUSE u = g.cause ∧ (d.unit u).injSets = 0 ∧ d.mem = s.dev.mem)) ∧
  (∀ (s : State) (u : Nat) (g : InjTrig), (s.dev.unit u).inj = some g → (s.dev.unit u).injRun.length ≤ (s.dev.unit u).injSets →
    s.dev.flag Reg.LL_STATUS_SYSCAL_BUSY u = false → (s.dev.unit u).injPending = none →
    Completes (.injectionEnd u) s (fun d => (d.unit u).inj = none ∧ (d.unit u).results = (s.dev.unit u).injBuf ∧
      d.flag Reg.LL_STATUS_INJ_ACTIVE u = false ∧ d.mem = s.dev.mem ∧ d.tiles = s.dev.tiles))

/-- SYSCAL_ZERO, SYSCAL_FULL, SYSCAL_STEP_DONE, SYSCAL_COMMIT (R196): the steps of a system calibration that succeed. The sums of 4096 samples
are log entry 34. -/
def Obligations.SystemCalibration : Prop :=
  (∀ (s : State) (src : Src), s.dev.reaches src .LL = .ok → srcPart src = 0 → s.dev.syscal.step = 0 → s.dev.refinCoarse = true →
    Completes (.syscalZero src) s (fun d => d.syscal = { s.dev.syscal with step := 1 } ∧ d.rd Reg.LL_SYSCAL_STATE 16 = 3 ∧
      (∀ u, u < 17 → d.flag Reg.LL_STATUS_SYSCAL_BUSY u = true) ∧ d.mem = s.dev.mem ∧ d.ll = s.dev.ll)) ∧
  (∀ (s : State) (src : Src), s.dev.reaches src .LL = .ok → srcPart src = 0 → s.dev.syscal.step = 0 → s.dev.refinCoarse = true →
    (s.dev.rd Reg.LL_SYSCAL_STATE 16 = 1 ∨ s.dev.rd Reg.LL_SYSCAL_STATE 16 = 2) →
    Completes (.syscalFull src) s (fun d => d.syscal = { s.dev.syscal with step := 2 } ∧ d.rd Reg.LL_SYSCAL_STATE 16 = 3 ∧
      (∀ u, u < 17 → d.flag Reg.LL_STATUS_SYSCAL_BUSY u = true) ∧ d.mem = s.dev.mem ∧ d.ll = s.dev.ll)) ∧
  (∀ (s : State) (sums : List Int), s.dev.syscal.step = 1 → sums.length = 136 → (∀ m ∈ sums, m.natAbs ≤ 20 * 4096) →
    (∀ u, u < 17 → s.dev.rd Reg.LL_STATUS_REG_STATE u ≠ 3) →
    Completes (.syscalStepDone sums) s (fun d => d.syscal = { s.dev.syscal with step := 0, offsets := sums.map (fun m => rhe m 256) } ∧
      d.rd Reg.LL_SYSCAL_STATE 16 = 1 ∧ (∀ u, u < 17 → d.flag Reg.LL_STATUS_SYSCAL_BUSY u = false) ∧ d.mem = s.dev.mem ∧
      d.ll = s.dev.ll)) ∧
  (∀ (s : State) (sums diffs : List Int), s.dev.syscal.step = 2 → sums.length = 136 → s.dev.syscal.offsets.length = 136 →
    diffs = (List.range 136).map (fun i => sums.getD i 0 - s.dev.syscal.offsets.getD i 0 * 256) →
    (∀ v ∈ diffs, (v - 1536 * 4096).natAbs ≤ 31 * 4096) → (∀ u, u < 17 → s.dev.rd Reg.LL_STATUS_REG_STATE u ≠ 3) →
    Completes (.syscalStepDone sums) s (fun d => d.syscal = { s.dev.syscal with
        step := 0, gains := diffs.map (fun v => (rhe (1536 * 32768 * 4096) v.toNat).toNat) } ∧
      d.rd Reg.LL_SYSCAL_STATE 16 = 2 ∧ (∀ u, u < 17 → d.flag Reg.LL_STATUS_SYSCAL_BUSY u = false) ∧ d.mem = s.dev.mem ∧
      d.ll = s.dev.ll)) ∧
  (∀ (s : State) (src : Src), s.dev.reaches src .LL = .ok → srcPart src = 0 → s.dev.syscal.step = 0 → s.dev.refinCoarse = true →
    s.dev.rd Reg.LL_SYSCAL_STATE 16 = 2 →
    Completes (.syscalCommit src) s (fun d => d.rd Reg.LL_SYSCAL_STATE 16 = 0 ∧ d.mem = s.dev.mem ∧
      (∀ u c, u < 17 → c < 8 → NMap.get (0, 0) (d.unit u).coefs c =
        (s.dev.syscal.offsets.getD (u * 8 + c) 0, s.dev.syscal.gains.getD (u * 8 + c) 0)) ∧
      (d.unit 16).ratioRef = (s.dev.unit 16).ratio ∧ d.boot.cal.ratio = (s.dev.unit 16).ratio))

/-- COMB_BIAS_UPDATE, COMB_RAMP_END, LANE_BIAS_UPDATE (R210, R211, R213, R218): one step of each bias loop, and the bias a source runs at
after its ramp (log entry 37). -/
def Obligations.BiasLoops : Prop :=
  (∀ (s : State) (q : Nat) (powers : List Int), s.dev.flag Reg.LS_STATUS_ON q = true → s.dev.flag Reg.LS_STATUS_RAMPING q = false →
    s.dev.usedLines q ≠ [] →
    Completes (.combBiasUpdate q powers) s (fun d => ∃ mean err : Int,
      mean = rhe ((s.dev.usedLines q).map (fun l => powers.getD l 0)).sum (s.dev.usedLines q).length ∧
      err = s.dev.rdS Reg.LS_TARGET_TARGET q - mean ∧ (d.comb q).powers = powers ∧
      d.rd Reg.LS_BIAS_BIAS q = (if 10 < err then min (s.dev.rd Reg.LS_BIAS_BIAS q + s.dev.rd Reg.LS_TARGET_STEP q) (s.dev.rd Reg.LS_BIAS_BIAS_MAX q)
        else if err < -10 then s.dev.rd Reg.LS_BIAS_BIAS q - s.dev.rd Reg.LS_TARGET_STEP q else s.dev.rd Reg.LS_BIAS_BIAS q)
          % 2 ^ Reg.LS_BIAS_BIAS.width)) ∧
  (∀ (s : State) (q : Nat), s.dev.flag Reg.LS_STATUS_RAMPING q = true →
    Completes (.combRampEnd q) s (fun d => s.dev.reached d ((s.dev.comb q).rampAt + rampTime) ∧
      d.regs = ((s.dev.wr Reg.LS_STATUS_RAMPING q 0).wr Reg.LS_BIAS_BIAS q (s.dev.comb q).rampEnd).regs ∧
      d.comb q = { s.dev.comb q with steady := 0, lowRun := 0, lost := [] } ∧ d.mem = s.dev.mem)) ∧
  (∀ (s : State) (e lane : Nat) (power : Int), s.dev.flag Reg.LF_STATUS_ON (4 + e) = true → (s.dev.optic (e * 64 + lane)).blanked = false →
    Completes (.laneBiasUpdate e lane power) s (fun d => ∃ err : Int, err = s.dev.rdS Reg.LF_TX_TARGET_TX_TARGET (4 + e) - power ∧
      (d.optic (e * 64 + lane)).txPower = power ∧
      (d.optic (e * 64 + lane)).bias =
        (if 10 < err then min ((s.dev.optic (e * 64 + lane)).bias + s.dev.rd Reg.LF_TX_TARGET_STEP (4 + e)) 1500
         else if err < -10 then (s.dev.optic (e * 64 + lane)).bias - s.dev.rd Reg.LF_TX_TARGET_STEP (4 + e)
         else (s.dev.optic (e * 64 + lane)).bias) ∧
      (∀ k, k ≠ e * 64 + lane → d.optic k = s.dev.optic k) ∧ (s.dev.untraced → d.mem = s.dev.mem)))

/-- LS_EN_SET, LS_EN_CLEAR, REARM, LS_DRV_OC (R204, R213, R214): a driver that trips turns its source off and latches, and starts again only
once it is re-armed; all links of a fabric engine that trips go down. -/
def Obligations.LaserDrivers : Prop :=
  (∀ (s : State) (src : Src) (q : Nat), s.dev.reaches src .LS = .ok → srcPart src = 0 → q < 4 → s.dev.flag Reg.LS_CTRL_EN q = false →
    s.dev.flag Reg.LS_STATUS_DRV_TRIPPED q = false →
    Completes (.lsEnSet src q) s (fun d => d = ((((s.dev.wr Reg.LS_CTRL_EN q 1).wr Reg.LS_STATUS_ON q 1).wr Reg.LS_STATUS_RAMPING q 1).wr
      Reg.LS_BIAS_BIAS q 0).modComb q (fun c => { c with rampAt := s.dev.mono }))) ∧
  (∀ (s : State) (src : Src) (q : Nat), s.dev.reaches src .LS = .ok → srcPart src = 0 → q < 4 → s.dev.flag Reg.LS_CTRL_EN q = false →
    s.dev.flag Reg.LS_STATUS_DRV_TRIPPED q = true →
    Completes (.lsEnSet src q) s (fun d => d = s.dev.wr Reg.LS_CTRL_EN q 1)) ∧
  (∀ (s : State) (src : Src) (n : Nat), s.dev.reaches src .LF = .ok → srcPart src = 0 → 4 ≤ n → s.dev.flag Reg.LS_CTRL_EN n = true →
    Completes (.lsEnClear src n) s (fun d => d = (s.dev.wr Reg.LS_CTRL_EN n 0).wr Reg.LF_STATUS_ON (4 + (n - 4)) 0)) ∧
  (∀ (s : State) (src : Src) (q : Nat), s.dev.reaches src .LS = .ok → srcPart src = 0 → q < 4 → s.dev.flag Reg.LS_CTRL_EN q = true →
    s.dev.flag Reg.LS_STATUS_DRV_TRIPPED q = true →
    Completes (.rearm src q) s (fun d => d = ((((s.dev.wr Reg.LS_STATUS_DRV_TRIPPED q 0).wr Reg.LS_STATUS_ON q 1).wr Reg.LS_STATUS_RAMPING q
      1).wr Reg.LS_BIAS_BIAS q 0).modComb q (fun c => { c with rampAt := s.dev.mono }))) ∧
  (∀ (s : State) (q : Nat), q < 4 → s.dev.flag Reg.LS_STATUS_ON q = true → (∀ i, i < 4 → s.dev.svc (4 * q + i) = 4 ∧ s.dev.calm (4 * q + i)) →
    Completes (.lsDrvOc q) s (fun d => d.flag Reg.LS_STATUS_DRV_TRIPPED q = true ∧ d.flag Reg.LS_STATUS_ON q = false ∧
      d.rd Reg.LS_BIAS_BIAS q = 0 ∧ (d.comb q).hold = true ∧ d.rd Reg.LS_CTRL_EN q = s.dev.rd Reg.LS_CTRL_EN q)) ∧
  (∀ (s : State) (n : Nat), 4 ≤ n → n < 8 → s.dev.flag Reg.LF_STATUS_ON n = true → s.dev.quiet →
    (∀ k, k / 64 = n - 4 → (s.dev.link k).txq = [] ∧ (s.dev.link k).replay = []) → s.dev.masks Ev.LS_DRV_OC n = false →
    Completes (.lsDrvOc n) s (fun d => d.flag Reg.LF_STATUS_DRV_TRIPPED n = true ∧ d.flag Reg.LF_STATUS_ON n = false ∧
      d.shows Ev.LS_DRV_OC n = true ∧ (∀ k, k / 64 = n - 4 → (d.link k).up = false) ∧ ∀ k, k / 64 ≠ n - 4 → d.link k = s.dev.link k))

/-- LANE_RETUNE, LANE_TUNED, LS_TUNE_FAIL, RX_POWER_READING, POWER, POWER_REPORT_SEND, LS_PEER_STALE (R219 to R221, R315): a retuned lane is
dark until it is tuned, a low reading raises its flag at the third in a row, and a peer's report is shown until it is stale. The timers
move the clock (log entry 12). -/
def Obligations.FabricLanes : Prop :=
  (∀ (s : State) (e lane c k : Nat), k = e * 64 + lane → s.dev.directPort (k / 8) = true → s.dev.quiet →
    (s.dev.link k).txq = [] → (s.dev.link k).replay = [] →
    Completes (.laneRetune e lane c) s (fun d => d.mem = s.dev.mem ∧
      d.optic k = { s.dev.optic k with blanked := true, tuned := false, target := c, retuneAt := s.dev.mono } ∧
      d.link k = { s.dev.link k with locked := false, stop := true, up := false, upSent := 0, upRcvd := 0 } ∧
      ∀ j, j ≠ k → d.optic j = s.dev.optic j ∧ d.link j = s.dev.link j)) ∧
  (∀ (s : State) (e lane : Nat), (s.dev.optic (e * 64 + lane)).blanked = true →
    Completes (.laneTuned e lane) s (fun d => d.mem = s.dev.mem ∧ d.fabric = s.dev.fabric ∧
      d.optic (e * 64 + lane) = { s.dev.optic (e * 64 + lane) with
        blanked := false, tuned := true, channel := (s.dev.optic (e * 64 + lane)).target
        rxChannel := (s.dev.optic (e * 64 + lane)).target } ∧
      ∀ k, k ≠ e * 64 + lane → d.optic k = s.dev.optic k)) ∧
  (∀ (s : State) (e lane : Nat), (s.dev.optic (e * 64 + lane)).blanked = true → s.dev.fabric = {} →
    s.dev.masks Ev.LS_TUNE_FAIL (4 + e) = false →
    Completes (.lsTuneFail e lane) s (fun d => d.shows Ev.LS_TUNE_FAIL (4 + e) = true ∧ d.optics = s.dev.optics ∧ d.fabric = {} ∧
      s.dev.reached d ((s.dev.optic (e * 64 + lane)).retuneAt + 160000))) ∧
  (∀ (s : State) (e lane : Nat) (power : Int), (s.dev.optic (e * 64 + lane)).blanked = false → (s.dev.link (e * 64 + lane)).stop = false →
    (s.dev.optic (e * 64 + lane)).los = false → (s.dev.optic (e * 64 + lane)).setRuns = [2, 0, 0, 0] →
    power < s.dev.rdS Reg.LF_RX_THR_WARN_LO (4 + e) → -900 ≤ power → (s.dev.optic (e * 64 + lane)).warnLo = false →
    s.dev.masks Ev.LS_RX_WARN (4 + e) = false →
    Completes (.rxPowerReading e lane power) s (fun d => (d.optic (e * 64 + lane)).warnLo = true ∧
      (d.optic (e * 64 + lane)).rxPower = power ∧ (d.optic (e * 64 + lane)).los = false ∧ d.shows Ev.LS_RX_WARN (4 + e) = true ∧
      d.fabric = s.dev.fabric)) ∧
  (∀ (s : State) (port lane : Nat) (es : List PowerEntry) (x : PowerEntry), s.dev.directPort port = true →
    s.dev.selfLink (laneKey port lane) = false →
    es.find? (fun y => y.channel = (s.dev.optic (laneKey port lane)).channel) = some x →
    Completes (.powerFrame port lane es) s (fun d => d.mem = s.dev.mem ∧ (d.link (laneKey port lane)).report = s.dev.mono ∧
      d.optic (laneKey port lane) = { s.dev.optic (laneKey port lane) with
        peerValid := true, peerTx := x.tx, peerRx := x.rx, peerTuned := x.tuned, peerLos := x.los })) ∧
  (∀ (s : State) (port : Nat), s.dev.directPort port = true → (∀ l, l < 8 → s.dev.carries (laneKey port l) = decide (l = 0)) →
    Completes (.powerReportSend port) s (fun d => d.mem = s.dev.mem ∧ ∃ x, d.fabric.net = s.dev.fabric.net ++ [x] ∧ x.port = port ∧
      x.lane = 0 ∧ x.wire = .power ((List.range 8).map (fun l =>
        ⟨(s.dev.optic (laneKey port l)).txPower, (s.dev.optic (laneKey port l)).rxPower, (s.dev.optic (laneKey port l)).channel,
         (s.dev.optic (laneKey port l)).tuned, (s.dev.optic (laneKey port l)).los⟩)))) ∧
  (∀ (s : State) (port lane : Nat), s.dev.directPort port = true → (s.dev.link (laneKey port lane)).up = true →
    s.dev.masks Ev.LS_PEER_STALE (4 + port / 8) = false →
    Completes (.lsPeerStale port lane) s (fun d => (d.optic (laneKey port lane)).peerValid = false ∧ d.fabric = s.dev.fabric ∧
      d.shows Ev.LS_PEER_STALE (4 + port / 8) = true ∧
      s.dev.reached d ((s.dev.link (laneKey port lane)).report + 160000000)))

/-- COIL_ALLOC, COIL_FREE, COIL_QUERY, COIL_PIN, COIL_UNPIN, COIL_POLICY (R225 to R233, R240, R241): what each leaves of its coil and of its
completion, that no other coil changes, and but for COIL_ALLOC that no byte outside the table changes. -/
def Obligations.CoilCommands : Prop :=
  (∀ (s : State) (c : Cmd) (p t slot n b : Nat) (l : List Nat) (u : Dev), s.dev.flag Reg.CS_CTRL_EN 0 = true →
    s.dev.flag Reg.CS_STATUS_READY 0 = true → p = s.dev.cPart c → n = bits c.w2 10 5 + 1 → n ≤ 4 → bits c.w2 4 1 ≠ 15 →
    bits c.w2 14 11 ≤ 9 → (bit c.w2 0 = true ∨ bits c.w2 14 11 = 0) → s.dev.nextSlot = some slot →
    s.dev.rd Reg.CS_PART_SLOTS_LIVE p < s.dev.rd Reg.CS_PART_SLOTS_SLOT_QUOTA p → s.dev.rd Reg.CS_PART_SLOTS_SLOT_QUOTA p < 2 ^ 32 →
    t = polHome (s.dev.policy p (bits c.w2 18 15)) → t < 2 → s.dev.place p t (bits c.w2 4 1) n (List.range 8) true = some (u, b, l) →
    Completes (.coilAlloc c) s (fun d => s.dev.onlyCoil d slot ∧
      d.rd Reg.CS_PART_SLOTS_LIVE p = s.dev.rd Reg.CS_PART_SLOTS_LIVE p + 1 ∧
      d.coilAt slot = { state := 1, ring := bit c.w2 0, cls := bits c.w2 4 1, ext := l, tier := t, policy := bits c.w2 18 15, owner := p,
                        gen := (s.dev.coilAt slot).gen, nbhd := b, group := s.dev.rd Reg.QM_Q_CFG_GROUP c.queue, rsz := bits c.w2 14 11 } ∧
      (d.queue c.queue).done = (s.dev.queue c.queue).done ++
        [⟨c, 0, true, mkHandle p (s.dev.coilAt slot).gen slot, 0, 0, 0, s.dev.now⟩])) ∧
  (∀ (s : State) (c : Cmd) (k : Coil), s.dev.takesCoil c k → k.tier < 2 → k.mirrored = false → nextGen k.gen ≠ s.dev.startGen →
    Completes (.coilFree c) s (fun d => s.dev.ends d c 0 true 0 0 ∧ s.dev.onlyCoil d (hSlot c.handle) ∧ s.dev.tableOnly d ∧
      (d.coilAt (hSlot c.handle)).state = 0 ∧ (d.coilAt (hSlot c.handle)).gen = nextGen k.gen ∧
      d.coil.freed = s.dev.coil.freed ++ [hSlot c.handle] ∧ d.coilOps = [])) ∧
  (∀ (s : State) (c : Cmd) (k : Coil), s.dev.takesCoil c k →
    Completes (.coilQuery c) s (fun d => d.coil = s.dev.coil ∧ d.coilOps = [] ∧ d.regs = s.dev.regs ∧ d.mem = s.dev.mem ∧
      (d.queue c.queue).done = (s.dev.queue c.queue).done ++ [⟨c, 0, true, (k.words 0).getD 0 0, (k.words 0).getD 1 0,
        (k.words 0).getD 2 0, (k.words 0).getD 3 0, s.dev.now⟩])) ∧
  (∀ (s : State) (c : Cmd) (k : Coil), s.dev.takesCoil c k →
    Completes (.coilPin c) s (fun d => s.dev.ends d c 0 true 0 0 ∧ s.dev.onlyCoil d (hSlot c.handle) ∧ s.dev.tableOnly d ∧
      d.coilAt (hSlot c.handle) = { k with pinned := true } ∧ d.coilOps = [] ∧ d.regs = s.dev.regs)) ∧
  (∀ (s : State) (c : Cmd) (k : Coil), s.dev.takesCoil c k →
    Completes (.coilUnpin c) s (fun d => s.dev.ends d c 0 true 0 0 ∧ s.dev.onlyCoil d (hSlot c.handle) ∧ s.dev.tableOnly d ∧
      d.coilAt (hSlot c.handle) = { k with pinned := false } ∧ d.coilOps = [] ∧ d.regs = s.dev.regs)) ∧
  (∀ (s : State) (c : Cmd) (w i : Nat), s.dev.flag Reg.CS_CTRL_EN 0 = true → s.dev.flag Reg.CS_STATUS_READY 0 = true →
    w = c.w3.toNat % 2 ^ 50 → i = s.dev.cPart c + 64 * bits c.w2 3 0 → polWin w ≠ 0 → polWin w ≤ 1000 → polIdle w ≠ 0 →
    Completes (.coilPolicy c) s (fun d => s.dev.ends d c 0 true 0 0 ∧ d.rd Reg.CS_POL_DATA i = w ∧
      d.regs = (s.dev.wr Reg.CS_POL_DATA i w).regs ∧ d.coil = s.dev.coil ∧ d.mem = s.dev.mem))

/-- COIL_FREE, COIL_WRITE, COIL_PIN (R233, R234): a handle whose generation is not the slot's is stale, and its command changes no coil, no
byte of memory where nothing is traced, and completes with CS_STALE_HANDLE. -/
def Obligations.StaleHandles : Prop :=
  ∀ (s : State) (c : Cmd), s.dev.flag Reg.CS_CTRL_EN 0 = true → s.dev.flag Reg.CS_STATUS_READY 0 = true →
    hPart c.handle = s.dev.cPart c → hSlot c.handle < s.dev.tableSlots → (s.dev.coilAt (hSlot c.handle)).gen ≠ hGen c.handle →
    s.dev.masks Ev.CS_STALE_HANDLE 0 = false →
    ∀ i ∈ [Instr.coilFree c, .coilWrite c, .coilPin c], Completes i s (fun d => d.coil = s.dev.coil ∧ d.coilOps = s.dev.coilOps ∧
      (s.dev.untraced → d.mem = s.dev.mem) ∧ d.shows Ev.CS_STALE_HANDLE 0 = true ∧
      (d.queue c.queue).done = (s.dev.queue c.queue).done ++
        [⟨c, Ev.CS_STALE_HANDLE.status, false, 0, 0, hSlot c.handle, 0, s.dev.now⟩])

/-- COIL_READ, COIL_WRITE, COIL_APPEND, COIL_SCAN, COIL_MIGRATE, COIL_MIRROR on a coil in this module (R228, R232, R238, R244, R245, R264):
each on a coil in this module: the bytes moved, the descriptor after, and that no other coil changes; a mirror's peer is sent the coil as
ciphertext. The words a scan gives its routine and a migration to the own tier are log entry 43. -/
def Obligations.CoilData : Prop :=
  (∀ (s : State) (c : Cmd) (k : Coil) (dst n : Nat) (bs : List Byte), s.dev.takesCoil c k → k.tier = 0 →
    c.w3.toNat + bits c.w4 31 0 ≤ (if k.ring then k.count else k.size) →
    (∀ x ∈ k.reads c.w3.toNat (bits c.w4 31 0), s.dev.deviceLost x.1 = false ∧ ∀ j, j < x.2 → ¬ s.dev.inTable (x.1 + j)) →
    s.dev.piecesBad (k.reads c.w3.toNat (bits c.w4 31 0)) = none → bs = s.dev.gather (k.reads c.w3.toNat (bits c.w4 31 0)) →
    dst = bits c.w5 47 0 → n = bs.length → s.dev.probeWrite (s.dev.cPart c) dst n = .ok →
    Completes (.coilRead c) s (fun d => s.dev.ends d c 0 true 0 0 ∧ s.dev.onlyCoil d (hSlot c.handle) ∧ d.coilOps = [] ∧
      (d.coilAt (hSlot c.handle)).ext = k.ext ∧ (d.coilAt (hSlot c.handle)).touched = true ∧
      (∀ j, j < n → d.byte (dst + j) = bs.getD j 0) ∧
      ∀ a, a < dst ∨ dst + n ≤ a → ¬ s.dev.inTable a → d.byte a = s.dev.byte a)) ∧
  (∀ (s : State) (c : Cmd) (k : Coil) (n : Nat) (bs : List Byte), s.dev.takesCoil c k → k.tier = 0 → k.ring = false →
    k.mirrored = false → n = bits c.w4 31 0 → 0 < n → c.w3.toNat + n ≤ k.size →
    (∀ x ∈ k.span c.w3.toNat n, s.dev.deviceLost x.1 = false) → s.dev.piecesPartial (k.span c.w3.toNat n) = none →
    (∀ j, j < n → ¬ s.dev.inTable (bits c.w5 47 0 + j)) → s.dev.loadFor (s.dev.cPart c) (bits c.w5 47 0) n = (bs, .ok) →
    Completes (.coilWrite c) s (fun d => s.dev.ends d c 0 true 0 0 ∧ s.dev.onlyCoil d (hSlot c.handle) ∧ d.coilOps = [] ∧
      (d.coilAt (hSlot c.handle)).ext = k.ext ∧ (d.coilAt (hSlot c.handle)).touched = true ∧
      ∀ a, ¬ s.dev.inTable a → d.byte a = (Dev.scatter (k.span c.w3.toNat n) bs s.dev).byte a)) ∧
  (∀ (s : State) (c : Cmd) (k : Coil) (n : Nat) (bs : List Byte), s.dev.takesCoil c k → k.tier = 0 → k.ring = true →
    k.mirrored = false → n = bits c.w4 31 0 → 0 < n → n ≤ k.cap →
    (∀ x ∈ k.records k.head n, s.dev.deviceLost x.1 = false) → s.dev.piecesPartial (k.records k.head n) = none →
    (∀ j, j < n * k.record → ¬ s.dev.inTable (bits c.w5 47 0 + j)) →
    s.dev.loadFor (s.dev.cPart c) (bits c.w5 47 0) (n * k.record) = (bs, .ok) →
    Completes (.coilAppend c) s (fun d => s.dev.onlyCoil d (hSlot c.handle) ∧ d.coilOps = [] ∧
      (d.coilAt (hSlot c.handle)).head = (k.head + n) % k.cap ∧ (d.coilAt (hSlot c.handle)).count = min (k.count + n) k.cap ∧
      (d.queue c.queue).done = (s.dev.queue c.queue).done ++
        [⟨c, 0, true, (k.head + n) % k.cap + min (k.count + n) k.cap * 2 ^ 32, 0, 0, 0, s.dev.now⟩] ∧
      ∀ a, ¬ s.dev.inTable a → d.byte a = (Dev.scatter (k.records k.head n) bs s.dev).byte a)) ∧
  (∀ (s : State) (c : Cmd) (k : Coil) (e : Nat) (h : List Byte), s.dev.takesCoil c k → k.tier = 0 → bits c.w5 12 0 = 0 →
    (∀ a ∈ k.ext, s.dev.deviceLost a = false) → e < 64 → e / 8 = k.nbhd → s.dev.engineOwner e = s.dev.cPart c →
    s.dev.engineFree e = true → (∀ f, f < 64 → f / 8 = k.nbhd → f ≠ e → s.dev.engineOwner f ≠ s.dev.cPart c) →
    bits c.w3 47 0 % 4096 = 0 → (∀ j, j < 64 → ¬ s.dev.inTable (bits c.w3 47 0 + j)) →
    s.dev.loadFor (s.dev.cPart c) (bits c.w3 47 0) 64 = (h, .ok) → s.dev.routineOk h 0 = true →
    Completes (.coilScan c) s (fun d => (d.eng e).cmd = some c ∧ (d.eng e).coil = some (hSlot c.handle) ∧
      d.rd Reg.VE_STATUS_STATE e = 1 ∧ (∀ f, f ≠ e → d.eng f = s.dev.eng f) ∧ d.queues = s.dev.queues ∧
      s.dev.onlyCoil d (hSlot c.handle) ∧ d.coilOps.map (fun o => (o.c, o.admitted, o.wait)) = [(c, true, .scan)] ∧
      ∀ j, j < 32 → d.byte (veBase e + leNat ((h.drop 20).take 4) + j) =
        ((([c.handle, k.size] ++ (if k.ring then [k.head + k.count * 2 ^ 32, k.record] else [0, 0])).map (leBytes 8)).flatten).getD j 0)) ∧
  (∀ (s : State) (c : Cmd) (k : Coil) (t b : Nat) (l : List Nat) (u : Dev), s.dev.takesCoil c k → k.pinned = false → k.tier < 2 →
    bit c.w3 2 = false → t = bits c.w3 1 0 → t < 2 → t ≠ k.tier → (∀ a ∈ k.ext, s.dev.deviceLost a = false) →
    s.dev.place k.owner t k.cls k.ext.length [k.nbhd] false = some (u, b, l) →
    Completes (.coilMigrate c) s (fun d => s.dev.onlyCoil d (hSlot c.handle) ∧ d.queues = s.dev.queues ∧
      (d.coilAt (hSlot c.handle)).state = 2 ∧ (d.coilAt (hSlot c.handle)).ext = k.ext ∧ (d.coilAt (hSlot c.handle)).tier = k.tier ∧
      d.coil.moves = s.dev.coil.moves ++ [{ slot := hSlot c.handle, gen := k.gen, kind := .explicit, tier := t, dst := l, started := true }] ∧
      d.coilOps.map (fun o => (o.c, o.admitted, o.wait)) = [(c, true, .move)])) ∧
  (∀ (s : State) (c : Cmd) (k : Coil), s.dev.takesCoil c k → k.pinned = false → k.tier < 2 → bit c.w3 2 = false →
    bits c.w3 1 0 = k.tier → (∀ a ∈ k.ext, s.dev.deviceLost a = false) →
    Completes (.coilMigrate c) s (fun d => s.dev.ends d c 0 true 0 0 ∧ s.dev.onlyCoil d (hSlot c.handle) ∧ s.dev.tableOnly d ∧
      (d.coilAt (hSlot c.handle)).ext = k.ext ∧ (d.coilAt (hSlot c.handle)).tier = k.tier ∧ d.regs = s.dev.regs)) ∧
  (∀ (s : State) (c : Cmd) (k : Coil), s.dev.takesCoil c k → bits c.w3 15 0 = 0xFFFF → k.mirrored = false →
    Completes (.coilMirror c) s (fun d => s.dev.ends d c 0 true 0 0 ∧ s.dev.onlyCoil d (hSlot c.handle) ∧ s.dev.tableOnly d ∧
      d.coilAt (hSlot c.handle) = { k with mirrored := false, degraded := false } ∧ d.regs = s.dev.regs)) ∧
  (∀ (s : State) (c : Cmd) (k : Coil) (n : Nat), s.dev.takesCoil c k → n = bits c.w3 15 0 → n ≠ 0xFFFF →
    s.dev.peerRefused (s.dev.cPart c) n = 0 → k.tier < 2 → (∀ a ∈ k.ext, s.dev.deviceLost a = false) →
    s.dev.piecesBad (k.span 0 k.size) = none → s.dev.quiet →
    Completes (.coilMirror c) s (fun d => d.queues = s.dev.queues ∧ d.mem = s.dev.mem ∧ (∀ j, d.coilAt j = s.dev.coilAt j) ∧
      d.coilOps.map (fun o => (o.c, o.admitted, o.wait)) = [(c, true, .mirror)] ∧
      (∀ m ∈ d.fabric.msgs, m.peer = n ∧ m.typ = 8 ∧ m.part = k.owner) ∧
      (d.fabric.msgs.map (fun m => m.data)).flatten = s.dev.coilCipher (hSlot c.handle) k))

/-- COIL_ADMISSION, MIRROR_SETUP_DONE, CLOCK_SWEEP, MIGRATION_START, MIGRATION_SWITCH, FRAME_ZEROING_DONE (R235, R236, R239, R242, R245): what
each leaves of its coil, of its queue and of the memory moved. A sweep of one whole neighbourhood is log entry 44, a mirror's outcome log
entry 43. -/
def Obligations.CoilUpkeep : Prop :=
  (∀ (s : State) (o : CoilOp) (k : Coil), s.dev.coilOps = [o] → o.admitted = false → o.op = 7 → k = s.dev.coilAt o.slot →
    k.gen = o.gen → k.state = 1 →
    Completes (.coilAdmission o.slot) s (fun d => s.dev.ends d o.c 0 true 0 0 ∧ s.dev.onlyCoil d o.slot ∧ d.coilOps = [] ∧
      d.coilAt o.slot = { k with pinned := true } ∧ d.regs = s.dev.regs)) ∧
  (∀ (s : State) (o : CoilOp), s.dev.coilOps = [o] → o.admitted = true → o.wait = .mirror → o.told = some 0 →
    ((s.dev.coilAt o.slot).mirrored = false ∨ (s.dev.coilAt o.slot).mirrorPeer = bits o.c.w3 15 0) →
    Completes (.mirrorSetupDone o.slot none) s (fun d => s.dev.ends d o.c 0 true 0 0 ∧ s.dev.onlyCoil d o.slot ∧ d.coilOps = [] ∧
      d.coilAt o.slot = { s.dev.coilAt o.slot with mirrored := true, degraded := false, mirrorPeer := bits o.c.w3 15 0 } ∧
      d.regs = s.dev.regs)) ∧
  (∀ (s : State) (n : Nat), s.dev.flag Reg.CS_CTRL_EN 0 = true → s.dev.flag Reg.CS_STATUS_READY 0 = true →
    s.dev.flag Reg.CS_CTRL_MIG_EN 0 = false → s.dev.coil.marks = [] → s.dev.coil.moves = [] →
    s.dev.rd Reg.CS_STATUS_LOST_STACKS 0 = 0 → s.dev.rd Reg.CS_STATUS_LOST_LPDDR 0 = 0 → NMap.rising s.dev.coil.coils = true →
    Completes (.clockSweep n) s (fun d => d.regs = s.dev.regs ∧ d.queues = s.dev.queues ∧ ∀ slot, d.coilAt slot =
      if (s.dev.coilAt slot).tier = 0 ∧ (s.dev.coilAt slot).state = 1 ∧ (s.dev.coilAt slot).nbhd = n then
        { s.dev.coilAt slot with touched := false } else s.dev.coilAt slot)) ∧
  (∀ (s : State) (n : Nat) (m : Move) (k : Coil), s.dev.flag Reg.CS_CTRL_EN 0 = true → s.dev.flag Reg.CS_CTRL_MIG_EN 0 = true →
    s.dev.coil.moves = [m] → m.kind = .policy → m.started = false → m.seeking = false → m.after = 0 → k = s.dev.coilAt m.slot →
    k.nbhd = n → k.gen = m.gen → k.state = 1 → k.pinned = false → m.dst ≠ [] → k.tier ≠ 2 → m.tier ≠ 2 →
    Completes (.migrationStart n) s (fun d => d.coil.moves = [{ m with started := true }] ∧ s.dev.onlyCoil d m.slot ∧
      d.coilAt m.slot = { k with state := 2 } ∧ d.regs = s.dev.regs ∧ d.queues = s.dev.queues)) ∧
  (∀ (s : State) (m : Move) (k : Coil), s.dev.coil.moves = [m] → m.started = true → m.kind = .policy → m.told = none →
    k = s.dev.coilAt m.slot → k.tier < 2 → m.tier < 2 → s.dev.coilOps = [] → s.dev.piecesBad (k.span 0 k.size) = none →
    m.dst.length = k.ext.length → m.dst.Pairwise (fun a b => a + frameSize k.cls ≤ b ∨ b + frameSize k.cls ≤ a) →
    (∀ a ∈ m.dst, ∀ j, j < frameSize k.cls → ¬ s.dev.inTable (a + j)) → m.slot < s.dev.tableSlots → k.xl + k.ext.length ≤ s.dev.tableSlots * 8 →
    Completes (.migrationSwitch m.slot none) s (fun d => d.coil.moves = [] ∧ s.dev.onlyCoil d m.slot ∧ d.queues = s.dev.queues ∧
      d.coilAt m.slot = { k with state := 1, tier := m.tier, ext := m.dst, away := [], replica := false, peer := 0 } ∧
      d.coilBytes m.slot (d.coilAt m.slot) = s.dev.coilBytes m.slot k)) ∧
  (∀ (s : State) (n t g f : Nat) (k : Chunk), s.dev.flag Reg.CS_CTRL_EN 0 = true → s.dev.coil.chunks = [(g, k)] → chunkTier g = t →
    chunkNbhd g = n → k.dirty = [f] → k.used ≠ [] →
    Completes (.frameZeroingDone n t) s (fun d => d.coil.chunks = [(g, { k with dirty := [] })] ∧ d.coil.coils = s.dev.coil.coils ∧
      d.queues = s.dev.queues ∧ ∀ a, d.byte a = if s.dev.chunkAddr g + f * frameSize k.cls ≤ a ∧
        a < s.dev.chunkAddr g + f * frameSize k.cls + frameSize k.cls then 0 else s.dev.byte a))

/-- CS_EN_SET, CS_EN_CLEAR, CS_READY, MEMORY_DEVICE_LOST, TABLE_COPY_REBUILT (R231, R239, R248, R249, R477): when the store restarts, what
READY leaves, and what the loss of a stack does to the table. Where a rebuilt copy goes is log entry 46. -/
def Obligations.CoilStoreStart : Prop :=
  (∀ (s : State) (src : Src), s.dev.reaches src .CS = .ok → srcPart src = 0 → s.dev.flag Reg.CS_CTRL_EN 0 = false → s.dev.basesOk = true →
    s.dev.coil.cfg = (s.dev.wr Reg.CS_CTRL_EN 0 1).csConfig →
    Completes (.csEnSet src) s (fun d => d = s.dev.wr Reg.CS_CTRL_EN 0 1)) ∧
  (∀ (s : State) (src : Src), s.dev.reaches src .CS = .ok → srcPart src = 0 → s.dev.flag Reg.CS_CTRL_EN 0 = false → s.dev.basesOk = true →
    s.dev.coil.cfg ≠ (s.dev.wr Reg.CS_CTRL_EN 0 1).csConfig →
    Completes (.csEnSet src) s (fun d => d.flag Reg.CS_STATUS_READY 0 = false ∧ d.flag Reg.CS_CTRL_EN 0 = true ∧
      d.coil = { s.dev.coil with cfg := (s.dev.wr Reg.CS_CTRL_EN 0 1).csConfig } ∧ d.mem = s.dev.mem)) ∧
  (∀ (s : State) (src : Src), s.dev.reaches src .CS = .ok → srcPart src = 0 →
    Completes (.csEnClear src) s (fun d => d = s.dev.wr Reg.CS_CTRL_EN 0 0)) ∧
  (∀ s : State, s.dev.flag Reg.CS_CTRL_EN 0 = true → s.dev.flag Reg.CS_STATUS_READY 0 = false → s.dev.coil.held = [] →
    Completes .csReady s (fun d => d.flag Reg.CS_STATUS_READY 0 = true ∧ d.coil.chunks = [] ∧ d.coil.loans = [] ∧ d.coil.freed = [] ∧ d.coil.fresh = 0 ∧
      (∀ slot, slot < s.dev.tableSlots → (d.coilAt slot).gen = (s.dev.coilAt slot).gen ∧ (d.coilAt slot).exists = false) ∧
      d.queues = s.dev.queues ∧ (∀ i, i < 16 → ∀ g ∈ s.dev.poolChunks (i % 8) (i / 8), ∀ j, j < 2 ^ 26 →
        d.byte ((granuleRange g).1 + j) = 0))) ∧
  (∀ s : State, s.dev.bootState = 5 → s.dev.flag Reg.CS_CTRL_EN 0 = false → s.dev.basesOk = true →
    s.dev.flag Reg.CS_STATUS_READY 0 = false → s.dev.coil.held = [] →
    Completes .csReady s (fun d => d.flag Reg.CS_CTRL_EN 0 = true ∧ d.flag Reg.CS_STATUS_READY 0 = true ∧ d.coil.chunks = [])) ∧
  (∀ (s : State) (x : Nat), x < 8 → s.dev.deviceLost (x * 2 ^ 36) = false →
    (∀ b ∈ [s.dev.rd Reg.CS_TABLE0_BASE 0, s.dev.rd Reg.CS_TABLE1_BASE 0], b * 65536 / 2 ^ 36 ≠ x) → s.dev.coil.moves = [] → s.dev.bootState ≠ 5 → (∀ p, p < 64 → s.dev.rd Reg.TR_REGION_BASE p = 0) →
    Completes (.memoryDeviceLost x) s (fun d => d.deviceLost (x * 2 ^ 36) = true ∧
      (∀ y, y < 8 → y ≠ x → d.deviceLost (y * 2 ^ 36) = s.dev.deviceLost (y * 2 ^ 36)) ∧ d.coil = s.dev.coil ∧ d.queues = s.dev.queues)) ∧
  (∀ (s : State) (x : Nat), x < 8 → s.dev.deviceLost (x * 2 ^ 36) = false → s.dev.flag Reg.CS_STATUS_READY 0 = true →
    s.dev.rd Reg.CS_TABLE0_BASE 0 * 65536 / 2 ^ 36 = x → s.dev.basesOk = true → s.dev.flag Reg.CS_STATUS_TABLE_SINGLE 0 = false →
    s.dev.masks Ev.CS_TABLE_COPY 0 = false → s.dev.coil.moves = [] → (∀ p, p < 64 → s.dev.rd Reg.TR_REGION_BASE p = 0) →
    Completes (.memoryDeviceLost x) s (fun d => d.deviceLost (x * 2 ^ 36) = true ∧ d.flag Reg.CS_STATUS_TABLE_SINGLE 0 = true ∧
      d.shows Ev.CS_TABLE_COPY 0 = true ∧ d.coil = s.dev.coil)) ∧
  (∀ (s : State) (o b : Nat), s.dev.flag Reg.CS_STATUS_TABLE_SINGLE 0 = true →
    s.dev.deviceLost (s.dev.rd Reg.CS_TABLE0_BASE 0 * 65536) = true →
    o = s.dev.rd Reg.CS_TABLE1_BASE 0 * 65536 / 2 ^ 36 → b = (s.dev.rd Reg.CS_TABLE0_BASE 0 * 65536 / 2 ^ 36 + 1) % 8 → b ≠ o →
    s.dev.deviceLost (b * 2 ^ 36) = false →
    s.dev.tableSlots * 128 + s.dev.rd Reg.CS_POOL_POOL_CHUNKS b * 2 ^ 26 ≤ 2 ^ 36 →
    Completes .tableCopyRebuilt s (fun d => d.flag Reg.CS_STATUS_TABLE_SINGLE 0 = false ∧
      d.rd Reg.CS_TABLE0_BASE 0 * 65536 / 2 ^ 36 = b ∧ d.rd Reg.CS_TABLE1_BASE 0 = s.dev.rd Reg.CS_TABLE1_BASE 0 ∧
      d.coil = { s.dev.coil with cfg := d.coil.cfg } ∧ (s.dev.coil.cfg = s.dev.csConfig → d.coil.cfg = d.csConfig) ∧ d.queues = s.dev.queues))

/-- FRAME_RECEIVE, LLR_ACK, LLR_NAK, LLR_ACK_IDLE, FX_LLR_EXHAUSTED, LINK_LOCK_LOSS, LINK_STATE, LINK_STATE_SEND, LANE_ALIGNMENT_FEC_LOCK
(R315, R316): a direct link that takes a frame in order, asks for one that is missing or bad, replays, is exhausted, goes down and comes up,
and a switched port that comes up with its last lane. The fifth replay and the next LSEQ are log entry 47. -/
def Obligations.LinkFrames : Prop :=
  (∀ (s : State) (port lane k : Nat) (f : Frame), k = laneKey port lane → s.dev.directPort port = true → s.dev.carries k = true →
    f.bad = 0 → f.lseq = ((s.dev.link k).rxSeq + 1) % 65536 → f.packet.typ ≠ 0 → f.packet.dst = s.dev.fnid →
    (s.dev.link k).replay = [] → s.dev.quiet →
    Completes (.frameReceive port lane f) s (fun d => d.link k = { s.dev.link k with rxSeq := f.lseq } ∧
      (∀ j, j ≠ k → d.link j = s.dev.link j) ∧ d.fabric.net = s.dev.fabric.net ∧ d.queues = s.dev.queues ∧ d.mem = s.dev.mem ∧
      d.regs = ((s.dev.bump Reg.FX_FEC_CORR port f.corrected).bump Reg.FX_FRAMES_RX port 1).regs)) ∧
  (∀ (s : State) (port lane k : Nat) (f : Frame), k = laneKey port lane → lane < 8 → s.dev.directPort port = true →
    s.dev.carries k = true → f.bad ≠ 0 → f.bad ≤ 64 → (s.dev.link k).unc = [] →
    Completes (.frameReceive port lane f) s (fun d => (d.link k).rxSeq = (s.dev.link k).rxSeq ∧
      s.dev.emits d port lane (.llrNak (((s.dev.link k).rxSeq + 1) % 65536)) ∧ d.queues = s.dev.queues ∧ d.mem = s.dev.mem ∧
      d.regs = (((s.dev.bump Reg.FX_FEC_CORR port f.corrected).bump Reg.FX_FEC_UNCORR port f.bad).bump Reg.FX_FRAMES_TX port 1).regs)) ∧
  (∀ (s : State) (port lane k : Nat) (f : Frame), k = laneKey port lane → lane < 8 → s.dev.directPort port = true →
    s.dev.carries k = true → f.bad = 0 → f.packet.typ ≠ 0 → 0 < (f.lseq + 65536 - ((s.dev.link k).rxSeq + 1) % 65536) % 65536 →
    (f.lseq + 65536 - ((s.dev.link k).rxSeq + 1) % 65536) % 65536 < 32768 → (s.dev.link k).replay = [] → s.dev.quiet →
    Completes (.frameReceive port lane f) s (fun d => (d.link k).rxSeq = (s.dev.link k).rxSeq ∧
      s.dev.emits d port lane (.llrNak (((s.dev.link k).rxSeq + 1) % 65536)) ∧ d.queues = s.dev.queues ∧ d.mem = s.dev.mem)) ∧
  (∀ (s : State) (port lane k : Nat) (r : Replay) (a b : List Replay), k = laneKey port lane → s.dev.directPort port = true →
    (s.dev.link k).up = true → (s.dev.link k).replay = a ++ r :: b → (∀ x ∈ a, x.lseq ≠ r.lseq) → (s.dev.link k).txq = [] → s.dev.quiet →
    Completes (.llrAck port lane r.lseq) s (fun d => d.link k = { s.dev.link k with replay := b } ∧
      (∀ j, j ≠ k → d.link j = s.dev.link j) ∧ d.fabric.net = s.dev.fabric.net ∧ d.queues = s.dev.queues ∧ d.mem = s.dev.mem)) ∧
  (∀ (s : State) (port lane k : Nat) (r : Replay), k = laneKey port lane → lane < 8 → s.dev.directPort port = true →
    (s.dev.link k).up = true → (s.dev.link k).replay = [r] → r.lseq < 65536 → r.plays < 4 → s.dev.quiet →
    Completes (.llrNak port lane r.lseq) s (fun d => (d.link k).replay = [{ r with plays := r.plays + 1 }] ∧
      s.dev.emits d port lane (.packet r.packet) ∧ d.queues = s.dev.queues ∧ d.mem = s.dev.mem)) ∧
  (∀ (s : State) (port lane k : Nat) (r : Replay), k = laneKey port lane → lane < 8 → s.dev.directPort port = true →
    (s.dev.link k).up = true → (s.dev.link k).replay = [r] → r.lseq < 65536 → 4 ≤ r.plays → s.dev.quiet →
    s.dev.masks Ev.FX_LLR_EXHAUSTED port = false →
    Completes (.llrNak port lane r.lseq) s (fun d => (d.link k).up = false ∧ (d.link k).replay = [] ∧
      d.shows Ev.FX_LLR_EXHAUSTED port = true)) ∧
  (∀ (s : State) (port lane k : Nat), k = laneKey port lane → lane < 8 → s.dev.directPort port = true → (s.dev.link k).up = true →
    Completes (.llrAckIdle port lane) s (fun d => s.dev.emits d port lane .llrAck ∧ d.queues = s.dev.queues ∧ d.mem = s.dev.mem)) ∧
  (∀ (s : State) (port lane k : Nat), k = laneKey port lane → lane < 8 → (s.dev.link k).up = true → (s.dev.link k).replay ≠ [] →
    s.dev.quiet → s.dev.masks Ev.FX_LLR_EXHAUSTED port = false →
    Completes (.fxLlrExhausted port lane) s (fun d => (d.link k).up = false ∧ (d.link k).replay = [] ∧
      d.shows Ev.FX_LLR_EXHAUSTED port = true)) ∧
  (∀ (s : State) (port lane k : Nat), k = laneKey port lane → lane < 8 → s.dev.directPort port = true → (s.dev.link k).up = true →
    s.dev.quiet → s.dev.masks Ev.FX_LINK_DOWN port = false →
    Completes (.linkLockLoss port lane) s (fun d => (d.link k).up = false ∧ (d.link k).locked = false ∧ (d.link k).replay = [] ∧
      (∀ j, j ≠ k → d.link j = s.dev.link j) ∧ d.shows Ev.FX_LINK_DOWN port = true)) ∧
  (∀ (s : State) (port lane k : Nat), k = laneKey port lane → lane < 8 → s.dev.directPort port = true → (s.dev.link k).up = false →
    (s.dev.link k).locked = true → (s.dev.link k).upRcvd = 9 → 10 ≤ (s.dev.link k).upSent → s.dev.flag Reg.FX_CTRL_EN port = true →
    s.dev.selfLink k = false → s.dev.quiet →
    Completes (.linkState port lane true) s (fun d => (d.link k).up = true ∧ (d.link k).txSeq = 0 ∧ (d.link k).rxSeq = 65535 ∧
      (∀ j, j ≠ k → d.link j = s.dev.link j) ∧ d.queues = s.dev.queues ∧ d.mem = s.dev.mem)) ∧
  (∀ (s : State) (port lane k : Nat), k = laneKey port lane → lane < 8 → s.dev.directPort port = true → (s.dev.link k).up = false →
    (s.dev.link k).upSent < 9 → s.dev.flag Reg.FX_CTRL_EN port = true → s.dev.selfLink k = false → (s.dev.optic k).blanked = false → (s.dev.link k).locked = true →
    Completes (.linkStateSend port lane) s (fun d => (d.link k).upSent = (s.dev.link k).upSent + 1 ∧
      s.dev.emits d port lane (.linkState true) ∧ d.queues = s.dev.queues ∧ d.mem = s.dev.mem)) ∧
  (∀ (s : State) (port lane : Nat), s.dev.flag Reg.FX_CTRL_EN port = true → s.dev.directPort port = true → lane < 8 →
    (s.dev.optic (laneKey port lane)).blanked = false →
    Completes (.laneAlignmentFecLock port lane) s (fun d =>
      d = s.dev.modLink (laneKey port lane) (fun l => { l with locked := true }))) ∧
  (∀ (s : State) (port lane : Nat), s.dev.flag Reg.FX_CTRL_EN port = true → s.dev.directPort port = false →
    (s.dev.lanesOf port).contains lane = true → (s.dev.optic (laneKey port lane)).blanked = false →
    (∀ l ∈ s.dev.lanesOf port, l ≠ lane → (s.dev.link (laneKey port l)).locked = true) → (s.dev.link (laneKey port 0)).up = false →
    s.dev.quiet →
    Completes (.laneAlignmentFecLock port lane) s (fun d => (d.link (laneKey port 0)).up = true ∧
      (d.link (laneKey port lane)).locked = true ∧ d.queues = s.dev.queues ∧ d.mem = s.dev.mem))

/-- ASSIGN_ACCEPT_STOP, ASSIGN_ACTIVATION, LINK_UP_TIMEOUT, PLANE_SKIP_EXPIRY, PAUSE_PFC_FRAME, ROUTER_ADVERTISEMENT, NEIGHBOR_DISCOVERY,
ARP_REPLY (R309, R314, R317, R338): a retune stops, happens and fails at its instants, a skipped plane is tried again, PAUSE frames are
discarded, and routers are learnt. The timers move the clock (log entry 12); a retune without FX_LINK_DOWN is log entry 47. -/
def Obligations.RetunesAndGateways : Prop :=
  (∀ (s : State) (port lane k t : Nat), k = laneKey port lane → (s.dev.link k).tAct = some t → (s.dev.link k).next ≠ (s.dev.optic k).channel →
    Completes (.assignAcceptStop port lane) s (fun d => d.link k = { s.dev.link k with stop := true } ∧
      s.dev.reachedTime d (t - 160000) ∧ (∀ j, j ≠ k → d.link j = s.dev.link j) ∧ d.queues = s.dev.queues ∧ d.mem = s.dev.mem)) ∧
  (∀ (s : State) (port lane k t : Nat), k = laneKey port lane → lane < 8 → s.dev.directPort port = true → (s.dev.link k).tAct = some t →
    (s.dev.link k).next ≠ (s.dev.optic k).channel → s.dev.quiet →
    Completes (.assignActivation port lane) s (fun d => (d.link k).up = false ∧ (d.link k).stop = true ∧ (d.link k).replay = [] ∧
      (d.optic k).blanked = true ∧ (d.optic k).tuned = false ∧ (d.optic k).target = (s.dev.link k).next ∧ s.dev.reachedTime d t ∧
      (∀ j, j ≠ k → d.optic j = s.dev.optic j ∧ d.link j = s.dev.link j) ∧ d.queues = s.dev.queues)) ∧
  (∀ (s : State) (port lane k t : Nat), k = laneKey port lane → (s.dev.link k).tAct = some t → (s.dev.link k).up = false →
    (s.dev.link k).stop = true → s.dev.masks Ev.FX_LINK_DOWN port = false →
    Completes (.linkUpTimeout port lane) s (fun d => (d.link k).tAct = none ∧ d.shows Ev.FX_LINK_DOWN port = true ∧
      d.fabric.coord.failed = s.dev.fabric.coord.failed ++ [(port, (s.dev.link k).next)] ∧ s.dev.reachedTime d (t + 1600000))) ∧
  (∀ (s : State) (n plane : Nat), (NMap.get ({} : Path) (s.dev.peer n).paths plane).skipUntil ≠ 0 → s.dev.quiet →
    Completes (.planeSkipExpiry n plane) s (fun d => (NMap.get ({} : Path) (d.peer n).paths plane).skipUntil = 0 ∧
      d.regs = s.dev.regs ∧ d.queues = s.dev.queues ∧ d.mem = s.dev.mem)) ∧
  (∀ (s : State) (port : Nat), s.dev.flag Reg.FX_CTRL_EN port = true → s.dev.masks Ev.FX_CTRL_DISCARDED port = false →
    Completes (.pausePfcFrame port) s (fun d => (s.dev.bump Reg.FX_CTRL_DISCARDED port 1).Reports d ∧
      d.shows Ev.FX_CTRL_DISCARDED port = true)) ∧
  (∀ (s : State) (port router : Nat), s.dev.directPort port = false → s.dev.flag Reg.GT_CTRL_IPV4 0 = false →
    (NMap.get ({} : Gateway) s.dev.fabric.gateways port).router ≠ some router → s.dev.quiet →
    Completes (.routerAdvertisement port router) s (fun d =>
      NMap.get ({} : Gateway) d.fabric.gateways port = { router := some router, mac := none } ∧ d.regs = s.dev.regs ∧ d.mem = s.dev.mem)) ∧
  (∀ (s : State) (port router mac : Nat), s.dev.directPort port = false → s.dev.flag Reg.GT_CTRL_IPV4 0 = false →
    (NMap.get ({} : Gateway) s.dev.fabric.gateways port).router = some router → s.dev.quiet →
    Completes (.neighborDiscovery port mac) s (fun d =>
      NMap.get ({} : Gateway) d.fabric.gateways port = { router := some router, mac := some mac } ∧ d.regs = s.dev.regs ∧ d.mem = s.dev.mem)) ∧
  (∀ (s : State) (port mac : Nat), s.dev.directPort port = false → s.dev.flag Reg.GT_CTRL_IPV4 0 = true → s.dev.quiet →
    Completes (.arpReply port mac) s (fun d => (NMap.get ({} : Gateway) d.fabric.gateways port).mac = some mac ∧ d.regs = s.dev.regs ∧
      d.mem = s.dev.mem))

/-- WRITE, READ_REQ, READ_RESP, SIGNAL_MESSAGE, ATOMIC, ATOMIC_RESP, SPLICE, PACKET_APPLY (R133, R134, R287, R326, R329 to R333): a packet
that can be taken is committed and acknowledged, and has its effect. What the acknowledgement echoes is log entry 48. -/
def Obligations.PacketsReceived : Prop :=
  (∀ (s : State) (p : Packet), s.dev.takesPacket p → s.dev.quiet → regionOf (bits (p.word 0) 47 0) ≠ .reg →
    s.dev.probeWrite p.part (bits (p.word 0) 47 0) p.data.length = .ok →
    Completes (.write p) s (fun d => s.dev.took d p ∧ s.dev.stores d (bits (p.word 0) 47 0) p.data ∧ d.queues = s.dev.queues)) ∧
  (∀ (s : State) (p : Packet) (bs : List Byte), s.dev.takesPacket p → s.dev.quiet →
    s.dev.loadFor p.part (bits (p.word 0) 47 0) (bits (p.word 1) 31 0) = (bs, .ok) → s.dev.peerRefused p.part p.src = 0 →
    Completes (.readReq p) s (fun d => s.dev.took d p ∧ d.sends p.src 2 [p.psn, 0] bs ∧ d.mem = s.dev.mem ∧ d.queues = s.dev.queues)) ∧
  (∀ (s : State) (p : Packet) (m : Msg) (c : Cmd) (dst len : Nat), s.dev.takesPacket p → s.dev.fabric.msgs = [m] → s.dev.fabric.out = [] →
    s.dev.fabric.told = [] → m.fin = .read c dst len → m.typ = 1 → m.peer = p.src → m.part = p.part → m.key.isSome →
    m.base = bits (p.word 0) 47 0 → m.next = m.total → m.acked = m.total → m.bad = 0 → len ≤ m.got + p.data.length →
    s.dev.probeWrite p.part (dst + bits (p.word 1) 31 0) p.data.length = .ok →
    Completes (.readResp p) s (fun d => s.dev.took d p ∧ s.dev.stores d (dst + bits (p.word 1) 31 0) p.data ∧ d.fabric.msgs = [] ∧
      s.dev.ends d c 0 true 0 0)) ∧
  (∀ (s : State) (p : Packet) (k : Nat), s.dev.takesPacket p → s.dev.quiet → bits (p.word 0) 15 13 = 0 → k = bits (p.word 0) 12 0 →
    knotOk k = true → s.dev.knotPart k = p.part → (s.dev.knot k).waiters = [] → (s.dev.knot k).val + bits (p.word 1) 31 0 < 2 ^ 32 →
    Completes (.signalMessage p) s (fun d => s.dev.took d p ∧ (d.knot k).val = (s.dev.knot k).val + bits (p.word 1) 31 0 ∧
      (∀ j, j ≠ k → d.knot j = s.dev.knot j) ∧ d.queues = s.dev.queues ∧ (s.dev.untraced → d.sameMemory s.dev))) ∧
  (∀ (s : State) (p : Packet) (a op old : Nat), s.dev.takesPacket p → s.dev.quiet → a = bits (p.word 0) 47 0 → a % 8 = 0 →
    regionOf a ≠ .host → op = bits (p.word 0) 51 48 → op < 7 → s.dev.loadFor p.part a 8 = (s.dev.bytes a 8, .ok) →
    s.dev.probeWrite p.part a 8 = .ok → s.dev.peerRefused p.part p.src = 0 → old = s.dev.le a 8 →
    Completes (.atomic p) s (fun d => s.dev.took d p ∧ d.sends p.src 6 [p.psn, old] [] ∧ d.queues = s.dev.queues ∧
      s.dev.stores d a (leBytes 8 (atomicWord op old (p.word 1).toNat (p.word 2).toNat)))) ∧
  (∀ (s : State) (p : Packet) (m : Msg) (c : Cmd), s.dev.takesPacket p → s.dev.fabric.msgs = [m] → s.dev.fabric.out = [] →
    s.dev.fabric.told = [] → m.fin = .atomic c → m.typ = 5 → m.peer = p.src → m.part = p.part → m.key.isSome →
    m.base = bits (p.word 0) 47 0 → m.next = m.total → m.acked = m.total →
    Completes (.atomicResp p) s (fun d => s.dev.took d p ∧ d.fabric.msgs = [] ∧ d.mem = s.dev.mem ∧ (d.queue c.queue).done =
      (s.dev.queue c.queue).done ++ [⟨c, 0, true, (p.word 1).toNat, 0, 0, 0, s.dev.now⟩])) ∧
  (∀ (s : State) (p : Packet) (t i r j : Nat), s.dev.takesPacket p → s.dev.quiet → s.dev.fabric.splices = [] → p.idx = 0 → p.last = true →
    t = bits (p.word 0) 3 0 → i = bits (p.word 0) 10 4 → regionField (p.word 0).toNat = ⟨r, r, j, j⟩ → bits (p.word 0) 40 37 = 0 →
    bits (p.word 1) 31 0 = 0 → p.data.length = 12 → (s.dev.tile t).shared = false → NMap.get 0 (s.dev.tile t).adding i = 0 →
    s.dev.spliceDst (.live t) i p.part ⟨r, r, j, j⟩ false = none →
    (accAdd 0 (s.dev.accRead (.live t) (s.dev.desc t i) r j) (toSigned 96 (leNat p.data))).2 = false →
    Completes (.splice p) s (fun d => s.dev.took d p ∧ s.dev.onlyTile d t ∧ dState (d.desc t i) = 0 ∧ d.queues = s.dev.queues ∧
      d.mem = (s.dev.putLe (s.dev.accAddr (.live t) (s.dev.desc t i) r j) 12
        (ofSigned 96 (s.dev.accRead (.live t) (s.dev.desc t i) r j + toSigned 96 (leNat p.data)))).mem)) ∧
  (∀ (s : State) (e : Nat) (n : Nat × Nat) (r : List (Nat × Nat)), NMap.get [] s.dev.fabric.rxq e = n :: r →
    Completes (.packetApply e) s (fun d => NMap.get [] d.fabric.rxq e = r ∧ (∀ x, x ≠ e →
      NMap.get [] d.fabric.rxq x = NMap.get [] s.dev.fabric.rxq x) ∧ d.queues = s.dev.queues ∧ d.mem = s.dev.mem))

/-- COIL_MSG_COPY, COIL_MSG_WRITE, COIL_MSG_STORE, COIL_MSG_APPEND, COIL_MSG_RELEASE, COIL_MSG_FETCH, COIL_MSG_DATA (R243, R245 to R247): what
a peer sends for a coil it has lent to this module, or of a coil of this module that it holds. The lender's pages of 4 KiB and the record
size of an append are log entry 45. -/
def Obligations.CoilMessages : Prop :=
  (∀ (s : State) (p : Packet) (l : Loan) (off a : Nat), s.dev.takesPacket p → s.dev.quiet → hPart (p.word 0).toNat = p.part →
    s.dev.lends = true → s.dev.loanOf p.src (p.word 0).toNat = some l → off = (p.word 2).toNat → 0 < p.data.length →
    off % 4096 + p.data.length ≤ 4096 → NMap.get 0 l.pages (off / 4096) = a + 1 →
    ∀ i ∈ [Instr.coilMsgCopy p, .coilMsgWrite p, .coilMsgStore p], Completes i s (fun d => s.dev.took d p ∧
      s.dev.stores d (a + off % 4096) p.data ∧ d.loanOf p.src (p.word 0).toNat = some l ∧ d.queues = s.dev.queues)) ∧
  (∀ (s : State) (p : Packet) (l : Loan) (off a : Nat), s.dev.takesPacket p → s.dev.quiet → hPart (p.word 0).toNat = p.part →
    s.dev.lends = true → s.dev.loanOf p.src (p.word 0).toNat = some l → l.size ≠ 0 →
    off = ((p.word 2).toNat * (8 * 2 ^ Config.replicaRecord (p.word 0).toNat)) % l.size → off + p.data.length ≤ l.size → 0 < p.data.length →
    off % 4096 + p.data.length ≤ 4096 → NMap.get 0 l.pages (off / 4096) = a + 1 →
    Completes (.coilMsgAppend p) s (fun d => s.dev.took d p ∧ s.dev.stores d (a + off % 4096) p.data ∧
      d.loanOf p.src (p.word 0).toNat = some l ∧ d.queues = s.dev.queues)) ∧
  (∀ (s : State) (p : Packet) (l : Loan), s.dev.takesPacket p → s.dev.quiet → s.dev.loanOf p.src (p.word 0).toNat = some l →
    Completes (.coilMsgRelease p) s (fun d => s.dev.took d p ∧ d.loanOf p.src (p.word 0).toNat = none ∧ d.mem = s.dev.mem ∧
      d.queues = s.dev.queues)) ∧
  (∀ (s : State) (p : Packet) (l : Loan), s.dev.takesPacket p → s.dev.quiet → s.dev.loanOf p.src (p.word 0).toNat = some l →
    s.dev.peerRefused p.part p.src = 0 →
    Completes (.coilMsgFetch p) s (fun d => s.dev.took d p ∧ d.sends p.src 8 [(p.word 0).toNat, 5, (p.word 2).toNat]
      (s.dev.loanBytes l (p.word 2).toNat) ∧ d.mem = s.dev.mem ∧ d.queues = s.dev.queues)) ∧
  (∀ (s : State) (p : Packet) (m : Move), s.dev.takesPacket p → s.dev.quiet → s.dev.coil.moves = [m] → m.slot = hSlot (p.word 0).toNat →
    m.gen = hGen (p.word 0).toNat → (s.dev.coilAt m.slot).peer = p.src →
    Completes (.coilMsgData p) s (fun d => s.dev.took d p ∧
      d.coil.moves = [{ m with buf := m.buf ++ [((p.word 2).toNat, p.data)] }] ∧ d.mem = s.dev.mem ∧ d.queues = s.dev.queues))

/-- REMOTE_WRITE, REMOTE_READ, REMOTE_ATOMIC, REMOTE_SPLICE, ACK, ACK_TIMER_EXPIRY, BUSY_RESEND (R329, R333 to R336): messages that go out,
and what their answers and timers do. The reading of a message's bytes when it is handed over is log entry 48. -/
def Obligations.MessagesSent : Prop :=
  (∀ (s : State) (c : Cmd) (bs : List Byte), lengthBad c = false → s.dev.peerRefused (s.dev.cPart c) c.peer = 0 →
    s.dev.loadFor (s.dev.cPart c) (bits c.w2 47 0) c.length = (bs, .ok) → s.dev.quiet →
    Completes (.remoteWrite c) s (fun d => d.sends c.peer 3 [bits c.w3 47 0, c.length] bs ∧ d.mem = s.dev.mem ∧
      d.queues = s.dev.queues)) ∧
  (∀ (s : State) (c : Cmd), lengthBad c = false → s.dev.peerRefused (s.dev.cPart c) c.peer = 0 → s.dev.quiet →
    Completes (.remoteRead c) s (fun d => d.sends c.peer 1 [bits c.w3 47 0, c.length] [] ∧ d.mem = s.dev.mem ∧
      d.queues = s.dev.queues)) ∧
  (∀ (s : State) (c : Cmd), bits c.w3 51 48 < 7 → bits c.w3 47 0 % 8 = 0 → s.dev.peerRefused (s.dev.cPart c) c.peer = 0 → s.dev.quiet →
    Completes (.remoteAtomic c) s (fun d => d.sends c.peer 5 [bits c.w3 47 0 + bits c.w3 51 48 * 2 ^ 48, c.w4.toNat, c.w5.toNat, 0] [] ∧
      d.mem = s.dev.mem ∧ d.queues = s.dev.queues)) ∧
  (∀ (s : State) (c : Cmd) (t i : Nat), t = bits c.w2 3 0 → i = bits c.w2 10 4 → dState (s.dev.desc t i) = 0 → bit c.w2 11 = false →
    s.dev.spliceSrc (.live t) i (s.dev.cPart c) (regionField (bits c.w3 36 0)) false = none →
    s.dev.peerRefused (s.dev.cPart c) c.peer = 0 → s.dev.quiet →
    Completes (.remoteSplice c) s (fun d => d.sends c.peer 7 [bits c.w3 36 0 + b2n (dSat (s.dev.desc t i)) * 2 ^ 38 +
        b2n (dIncomplete (s.dev.desc t i)) * 2 ^ 39 + b2n (dNarrow (s.dev.desc t i)) * 2 ^ 40, 0]
        (laneBytes false (s.dev.laneValues (.live t) i (regionField (bits c.w3 36 0)))) ∧ d.mem = s.dev.mem ∧
      d.queues = s.dev.queues)) ∧
  (∀ (s : State) (p : Packet) (m : Msg) (o : Out) (c : Cmd), s.dev.hears p → s.dev.fabric.msgs = [m] → s.dev.fabric.out = [o] →
    s.dev.fabric.told = [] → o.msg = m.id → o.peer = p.src → o.psn = bits (p.word 0) 47 0 → bits (p.word 0) 51 48 = 0 → m.fin = .cmd c →
    m.total = m.acked + 1 → m.next = m.total →
    Completes (.ack p) s (fun d => d.fabric.msgs = [] ∧ d.fabric.out = [] ∧ s.dev.ends d c 0 true 0 0 ∧ d.mem = s.dev.mem)) ∧
  (∀ (s : State) (p : Packet) (m : Msg) (o : Out) (c : Cmd), s.dev.hears p → s.dev.fabric.msgs = [m] → s.dev.fabric.out = [o] →
    s.dev.fabric.told = [] → o.msg = m.id → o.peer = p.src → o.psn = bits (p.word 0) 47 0 → bits (p.word 0) 51 48 = 8 →
    bits (p.word 1) 15 0 ≠ 0 → m.fin = .cmd c →
    Completes (.ack p) s (fun d => d.fabric.msgs = [] ∧ d.fabric.out = [] ∧ s.dev.ends d c (bits (p.word 1) 15 0) false m.peer 0 ∧
      d.mem = s.dev.mem)) ∧
  (∀ (s : State) (p : Packet) (m : Msg) (o : Out), s.dev.hears p → s.dev.fabric.msgs = [m] → s.dev.fabric.out = [o] →
    s.dev.fabric.told = [] → o.msg = m.id → o.peer = p.src → o.psn = bits (p.word 0) 47 0 → bits (p.word 0) 51 48 = 4 →
    o.busy < 255 → m.next = m.total →
    Completes (.ack p) s (fun d => d.fabric.msgs = [m] ∧ d.queues = s.dev.queues ∧
      d.fabric.out = [{ o with busy := o.busy + 1, busyAt := some s.dev.mono, waiting := false }])) ∧
  (∀ (s : State) (m : Msg) (o : Out), s.dev.fabric.msgs = [m] → s.dev.fabric.out = [o] → s.dev.fabric.told = [] → o.busyAt = none →
    o.timer + o.links * s.dev.rd Reg.GT_TIMING_ACK_TMO 0 * 16000 ≤ s.dev.mono → o.retx < s.dev.rd Reg.GT_TIMING_RETX 0 →
    s.dev.switched = false → s.dev.ways o.peer = [] → m.next = m.total →
    Completes (.ackTimerExpiry o.peer o.psn) s (fun d => d.fabric.msgs = [m] ∧ d.queues = s.dev.queues ∧ d.mem = s.dev.mem ∧
      d.fabric.out = [{ o with retx := o.retx + 1, waiting := true, timer := s.dev.mono }])) ∧
  (∀ (s : State) (m : Msg) (o : Out) (c : Cmd), s.dev.fabric.msgs = [m] → s.dev.fabric.out = [o] → s.dev.fabric.told = [] →
    o.busyAt = none → o.msg = m.id → m.peer = o.peer → m.fin = .cmd c → s.dev.coil.coils = [] →
    o.timer + o.links * s.dev.rd Reg.GT_TIMING_ACK_TMO 0 * 16000 ≤ s.dev.mono → s.dev.rd Reg.GT_TIMING_RETX 0 ≤ o.retx →
    s.dev.isCoord = false → s.dev.coordinator = none → s.dev.masks Ev.GT_PEER_FAILED 0 = false →
    Completes (.ackTimerExpiry o.peer o.psn) s (fun d => d.rd Reg.GT_PEER_STATE o.peer = 2 ∧ d.shows Ev.GT_PEER_FAILED 0 = true ∧
      d.fabric.msgs = [] ∧ d.fabric.out = [] ∧ s.dev.ends d c Ev.GT_PEER_FAILED.status false o.peer 0)) ∧
  (∀ (s : State) (m : Msg) (o : Out) (w : Way) (k : FKey) (t : Nat), s.dev.fabric.msgs = [m] → s.dev.fabric.out = [o] →
    s.dev.fabric.told = [] → o.busyAt = some t → t + 64000 ≤ s.dev.mono → o.msg = m.id → m.key = some k → m.next = m.total →
    s.dev.ways o.peer = [w] → s.dev.wayFull o.peer w = false → s.dev.directPort (w.link / 8) = true → (s.dev.link w.link).txq = [] →
    (s.dev.link w.link).held + (s.dev.seal k (s.dev.packetOf m o.idx)).frameSize ≤ replayShare →
    Completes (.busyResend o.peer o.psn) s (fun d =>
      s.dev.emits d (w.link / 8) (w.link % 8) (.packet (s.dev.seal k (s.dev.packetOf m o.idx))) ∧ d.queues = s.dev.queues ∧
      d.fabric.out = [{ o with path := w.code, links := w.links, timer := s.dev.mono, waiting := false, busyAt := none }]))

/-- HELLO, HELLO_SEND, COORDINATOR_ELECTION, KEEPALIVE, KEEPALIVE_SEND, GT_COORD_LOST, MEMBERS, ROUTES, PEER_DOWN (R311, R319 to R323, R336):
what a module learns from each, and what it sends. The bytes of the tables are log entry 50. -/
def Obligations.Coordination : Prop :=
  (∀ (s : State) (p : Packet) (k n : Nat), k = laneKey p.port p.lane → s.dev.flag Reg.GT_CTRL_EN 0 = true → s.dev.authentic p = true →
    s.dev.switched = false → p.hops = 0 → bit (p.word 0) 16 = true → n = bits (p.word 0) 15 0 → n ≠ s.dev.fnid →
    (p.word 1).toNat ≠ s.dev.serial → s.dev.rd Reg.GT_PEER_STATE n = 0 → (s.dev.peer n).former = [] → p.inc < 65536 →
    bits (p.word 0) 31 27 = p.port → bits (p.word 0) 35 32 = (s.dev.optic k).channel →
    bits (p.word 0) 26 18 = s.dev.foldPeer p.port (s.dev.optic k).channel → s.dev.isCoord = false → s.dev.quiet →
    Completes (.hello p) s (fun d => (d.link k).peer = some n ∧ (d.link k).miswired = false ∧ d.rd Reg.GT_PEER_STATE n = 1 ∧
      d.rd Reg.GT_PEER_INCARNATION n = p.inc ∧ heardIn p (p.word 1).toNat ∈ d.fabric.coord.heard ∧ d.queues = s.dev.queues ∧
      d.mem = s.dev.mem)) ∧
  (∀ (s : State) (p : Packet) (k : Nat), k = laneKey p.port p.lane → s.dev.flag Reg.GT_CTRL_EN 0 = true → s.dev.authentic p = true →
    s.dev.switched = false → p.hops = 0 → bit (p.word 0) 16 = false → (p.word 1).toNat ≠ s.dev.serial →
    bits (p.word 0) 31 27 ≠ p.port → s.dev.masks Ev.FX_WIRING p.port = false →
    Completes (.hello p) s (fun d => (d.link k).miswired = true ∧ (∀ j, j ≠ k → d.link j = s.dev.link j) ∧
      d.shows Ev.FX_WIRING p.port = true ∧ d.fabric.coord = s.dev.fabric.coord)) ∧
  (∀ (s : State) (k n : Nat) (key : FKey), s.dev.flag Reg.GT_CTRL_EN 0 = true → s.dev.switched = false → s.dev.anchors = [k] →
    (s.dev.link k).peer = some n → s.dev.sendKey 0 = some key → (s.dev.link k).txq = [] → (s.dev.link k).replay = [] → (s.dev.peer n).ackSeq < 2 ^ 47 →
    Completes .helloSend s (fun d => s.dev.emits d (k / 8) (k % 8) (.packet (s.dev.seal key (s.dev.helloPacket (k / 8) (k % 8) n))) ∧
      d.queues = s.dev.queues ∧ d.mem = s.dev.mem)) ∧
  (∀ s : State, s.dev.flag Reg.GT_CTRL_EN 0 = true → s.dev.isCoord = false → s.dev.isCand = true → s.dev.bestKnown = s.dev.selfCand →
    s.dev.coordinator = none → s.dev.fabric.coord.heard = [] → s.dev.quiet →
    Completes .coordinatorElection s (fun d => d.isCoord = true ∧ d.coordinator = some (d.fnid % 65536) ∧ d.queues = s.dev.queues ∧
      d.fabric.coord.members.map (fun m => m.serial) = [s.dev.serial])) ∧
  (∀ (s : State) (p : Packet), s.dev.takesPacket p → s.dev.quiet → s.dev.isCoord = false → s.dev.coordinator = some p.src →
    Completes (.keepalive p) s (fun d => s.dev.took d p ∧ d.fabric.coord = { s.dev.fabric.coord with lastKeep := s.dev.mono } ∧
      d.queues = s.dev.queues ∧ d.mem = s.dev.mem)) ∧
  (∀ (s : State) (m : Member), s.dev.isCoord = true → s.dev.fabric.coord.members = [m] → m.serial ≠ s.dev.serial →
    s.dev.peerRefused 0 m.fnid = 0 → s.dev.quiet →
    Completes .keepaliveSend s (fun d => d.sends m.fnid 10 [7, 0] [] ∧ d.queues = s.dev.queues ∧ d.mem = s.dev.mem)) ∧
  (∀ (s : State) (c : Nat), s.dev.isCoord = false → s.dev.coordinator = some c → s.dev.masks Ev.GT_COORD_LOST 0 = false →
    Completes .gtCoordLost s (fun d => d.coordinator = none ∧ d.shows Ev.GT_COORD_LOST 0 = true ∧ d.fabric.coord.best = none ∧
      d.queues = s.dev.queues)) ∧
  (∀ (s : State) (p : Packet) (m : Member), s.dev.takesPacket p → s.dev.quiet → s.dev.isCoord = false →
    s.dev.coordinator = some p.src → (recs 24 p.data).map memberOf = [m] → m.serial = s.dev.serial → m.pps = false →
    s.dev.flag Reg.GT_NODE_STATIC 0 = false →
    Completes (.members p) s (fun d => s.dev.took d p ∧ d.fnid = m.fnid ∧ d.flag Reg.GT_NODE_VALID 0 = true ∧
      d.flag Reg.TM_CTRL_MASTER 0 = (m.depth == 0) ∧ d.fabric.coord.members = [m] ∧ d.queues = s.dev.queues)) ∧
  (∀ (s : State) (p : Packet) (n : Nat) (e : Word), s.dev.takesPacket p → s.dev.quiet → s.dev.isCoord = false →
    s.dev.coordinator = some p.src → n < 65536 → n ≠ s.dev.fnid → p.data = leBytes 8 n ++ leBytes 8 e.toNat →
    s.dev.flag Reg.GT_CTRL_STATIC_ROUTES 0 = false →
    Completes (.routes p) s (fun d => s.dev.took d p ∧ d.route n = s.dev.routeMask e.toNat ∧ (∀ j, j ≠ n → d.route j = s.dev.route j) ∧
      d.queues = s.dev.queues ∧ d.mem = s.dev.mem)) ∧
  (∀ (s : State) (p : Packet), s.dev.takesPacket p → s.dev.quiet → s.dev.isCoord = true →
    Completes (.peerDown p) s (fun d => s.dev.took d p ∧ (recField p.data 0 2, p.src) ∈ d.fabric.coord.down ∧ d.queues = s.dev.queues ∧
      d.mem = s.dev.mem))

/-- DEMAND_REPORT_SEND, DEMAND, CHANNEL_ASSIGNMENT, ASSIGN (R314): a report goes to the coordinator, its figures are taken, and an assigned
channel is prepared on the first free demand lane; the layout of the tables is the model's (log entry 50). -/
def Obligations.Demands : Prop :=
  (∀ (s : State) (c : Nat), s.dev.coordinator = some c → s.dev.isCoord = false → s.dev.peerRefused 0 c = 0 → s.dev.quiet →
    Completes .demandReportSend s (fun d => d.fabric.coord.failed = [] ∧ (∃ bs, d.sends c 10 [0, 0] bs) ∧ d.queues = s.dev.queues ∧
      d.mem = s.dev.mem)) ∧
  (∀ (s : State) (u : Dev) (p : Packet) (h : Nat), s.dev.takesPacket p → s.dev.quiet → s.dev.isCoord = true → h < 2 ^ 33 → p.data = leBytes 8 h →
    u = s.dev.takeDemand p.src [] (nbits h 32 1) (h.testBit 0) [] →
    (u.tree u.seats).map (fun m => m.1) = u.coord.members →
    Completes (.demand p) s (fun d => s.dev.took d p ∧ d.fabric.coord = u.fabric.coord ∧ d.queues = s.dev.queues ∧
      d.mem = s.dev.mem)) ∧
  (∀ s : State, s.dev.isCoord = true → s.dev.switched = false → s.dev.fabric.coord.members = [] → s.dev.quiet →
    Completes .channelAssignment s (fun d => d.fabric.coord.assigns = s.dev.assignList s.dev.seats ∧ d.fabric.coord.lost = [] ∧
      d.regs = s.dev.regs ∧ d.queues = s.dev.queues ∧ d.mem = s.dev.mem)) ∧
  (∀ (s : State) (p : Packet) (port ch n i : Nat), s.dev.takesPacket p → s.dev.quiet → s.dev.isCoord = false →
    s.dev.coordinator = some p.src → p.data = leBytes 2 s.dev.fnid ++ leBytes 2 n ++ leBytes 2 port ++ leBytes 2 ch → s.dev.fnid < 65536 →
    n < 65536 → port < 32 → ch < 16 → i < 8 → (∀ j, j < 8 → (s.dev.optic (laneKey port j)).channel ≠ ch) →
    (∀ j, j < i → (s.dev.optic (laneKey port j)).channel < 6) → 6 ≤ (s.dev.optic (laneKey port i)).channel →
    (s.dev.link (laneKey port i)).tAct = none → laneKey port i ≠ s.dev.linkOf p.port p.lane →
    Completes (.assign p) s (fun d => s.dev.took d p ∧ d.link (laneKey port i) =
      { s.dev.link (laneKey port i) with next := ch, nextPeer := n, tAct := some (p.word 1).toNat } ∧ d.queues = s.dev.queues ∧
      d.mem = s.dev.mem))

/-- TIME_EXCHANGE, TIME_REQ, TIME_RESP, PPS_EDGE, TM_PPS_MISSING, PPS_OUT_SECOND (R339 to R342): an exchange is begun, answered and judged, an
edge steps fabric time before READY and slews it after, and a missing pulse is reported. Roundings are free (log entry 30), and LOCKED at
the first estimate within the bound is log entry 52. -/
def Obligations.FabricTime : Prop :=
  (∀ s : State, s.dev.flag Reg.GT_CTRL_EN 0 = true → s.dev.flag Reg.TM_CTRL_MASTER 0 = false → s.dev.rd Reg.TM_PARENT_DEPTH 0 ≠ 0 →
    s.dev.peerRefused 0 (s.dev.rd Reg.TM_PARENT_FNID 0) = 0 → s.dev.quiet →
    Completes .timeExchange s (fun d => d.sends (s.dev.rd Reg.TM_PARENT_FNID 0) 10 [4, 0] [] ∧
      d.now = s.dev.now ∧ d.queues = s.dev.queues ∧ d.mem = s.dev.mem)) ∧
  (∀ (s : State) (p : Packet), s.dev.takesPacket p → s.dev.quiet → s.dev.peerRefused 0 p.src = 0 →
    Completes (.timeReq p) s (fun d => s.dev.took d p ∧ d.sends p.src 10 [5, s.dev.now] [] ∧ d.queues = s.dev.queues ∧
      d.mem = s.dev.mem)) ∧
  (∀ (s : State) (p : Packet) (t1 : Nat), s.dev.takesPacket p → s.dev.quiet → s.dev.fabric.time.t1 = some t1 →
    p.src = s.dev.rd Reg.TM_PARENT_FNID 0 → s.dev.fabric.time.last = [] →
    (est (((p.word 1).toNat - t1 : Int) - (s.dev.now - p.time)) 2).natAbs ≤ 320 →
    Completes (.timeResp p) s (fun d => s.dev.took d p ∧ d.fabric.time.t1 = none ∧ d.flag Reg.TM_CTRL_LOCKED 0 = true ∧
      d.fabric.time.last = [((s.dev.now : Int) - t1, est (((p.word 1).toNat - t1 : Int) - (s.dev.now - p.time)) 2)] ∧
      d.fabric.time.slew = est (((p.word 1).toNat - t1 : Int) - (s.dev.now - p.time)) 2 ∧ d.queues = s.dev.queues ∧
      d.mem = s.dev.mem)) ∧
  (∀ s : State, s.dev.ppsMaster = true → s.dev.boot.beenReady = false → s.dev.now < 2 ^ 64 →
    Completes .ppsEdge s (fun d => d.now = s.dev.rd Reg.TM_PPS_SEC_SECONDS 0 * 16000000000 % 2 ^ 64 ∧ d.rd Reg.TM_PPS_LAST 0 = s.dev.now ∧
      d.flag Reg.TM_CTRL_PPS_ACTIVE 0 = true ∧ d.mem = s.dev.mem ∧ d.queues = s.dev.queues)) ∧
  (∀ s : State, s.dev.ppsMaster = true → s.dev.boot.beenReady = true → s.dev.now < 2 ^ 64 →
    Completes .ppsEdge s (fun d => d.now = s.dev.now ∧ d.rd Reg.TM_PPS_LAST 0 = s.dev.now ∧
      d.fabric.time.slew = toSigned 64 (s.dev.rd Reg.TM_PPS_SEC_SECONDS 0 * 16000000000 + 2 ^ 64 - s.dev.now))) ∧
  (∀ (s : State) (t : Nat), s.dev.fabric.time.edge = some t → s.dev.fabric.time.missing = false → s.dev.ppsMaster = true →
    s.dev.masks Ev.TM_PPS_MISSING 0 = false →
    Completes .tmPpsMissing s (fun d => d.flag Reg.TM_CTRL_PPS_ACTIVE 0 = false ∧ d.shows Ev.TM_PPS_MISSING 0 = true ∧
      s.dev.reached d (t + 16000160000) ∧ d.fabric.time.slew = 0 ∧ d.queues = s.dev.queues)) ∧
  (∀ (s : State) (t : Nat), t = (s.dev.now + 16000000000 - 1) / 16000000000 * 16000000000 → s.dev.boot.ppsOut.getLast? ≠ some t →
    s.dev.started .TM = true → s.dev.flag Reg.TM_CTRL_PPS_OUT_EN 0 = true →
    Completes .ppsOutSecond s (fun d => d.now = t % 2 ^ 64 ∧ d.boot.ppsOut = s.dev.boot.ppsOut ++ [t % 2 ^ 64] ∧ d.regs = s.dev.regs ∧
      d.queues = s.dev.queues ∧ d.mem = s.dev.mem))

/-- COIL_READ of a ring-history coil (R229): logical index i is the record at (head - count + i) mod cap, several records come in the order of
their logical indices, and indices outside 0 to COUNT - 1 complete with CS_RANGE. -/
def Obligations.LogicalIndex : Prop :=
  (∀ (k : Coil) (i : Nat), k.ring = true → i < k.count → k.count ≤ k.cap →
    k.reads i 1 = k.span (((k.head + k.cap - k.count + i) % k.cap) * k.record) k.record) ∧
  (∀ (s : Dev) (k : Coil) (i n : Nat), k.ring = true → i + n ≤ k.count → k.count ≤ k.cap →
    s.gather (k.reads i n) = ((List.range n).map (fun j => s.gather (k.reads (i + j) 1))).flatten) ∧
  (∀ (s : State) (c : Cmd) (k : Coil), s.dev.takesCoil c k → k.ring = true → k.count < c.w3.toNat + bits c.w4 31 0 →
    Completes (.coilRead c) s (fun d => d.coil = s.dev.coil ∧ d.mem = s.dev.mem ∧ d.regs = s.dev.regs ∧ d.coilOps = [] ∧
      s.dev.ends d c 0x0942 false (hSlot c.handle) 0))

/-- PLANE_CHECK (R64): a code outside -480 to +480 flags the group-sample that contains it, whatever its residues are, and PT_OOR counts every
such code. Shown on a column-sum symbol and on the plane of a row whose bank is still active, whose flagged segments are sent again. -/
def Obligations.OutOfRangeDecisions : Prop :=
  (∀ (seg : List Int) (g : Nat) (c : Int), g < 8 → c ∈ groupSample seg g → c < -480 ∨ 480 < c → g ∈ flaggedGroups seg) ∧
  (∀ (s : State) (t : Nat) (b : Bool) (l : Load) (codes : List Int) (rest : List Sample), (s.dev.tile t).air = .colsum b :: rest →
    (s.dev.tile t).loads = [l] → l.bankB = b → l.sent = true → (s.dev.tile t).images = [] → (s.dev.tile t).replayWait = [] →
    (s.dev.tile t).replayQ.length + rest.countP Sample.isReplay ≤ 8 → (∀ y ∈ (s.dev.tile t).rows, y.void = false) →
    (∀ g, g < 8 → NMap.get 0 (s.dev.tile t).colsumTries (8 * b2n b + g) < 3) → codes.length = 1152 → t < 16 →
    s.dev.flag Reg.PAGE_CTRL_CNT_FREEZE (pageOf .PT t) = false → s.dev.rd Reg.PT_OOR t + 1152 < 2 ^ 64 →
    Completes (.planeCheck t codes) s (fun d => s.dev.onlyTile d t ∧ d.mem = s.dev.mem ∧ d.queues = s.dev.queues ∧
      d.rd Reg.PT_OOR t = s.dev.rd Reg.PT_OOR t + (codes.filter (fun c => decide (c < -480) || decide (480 < c))).length ∧
      (d.tile t).replayQ = (s.dev.tile t).replayQ ++
        ((List.range 8).filter (fun g => !(flaggedGroups (segOf (codes.map decided) g)).isEmpty)).map (fun g => .colsumReplay b g))) ∧
  (∀ (s : State) (t tag p : Nat) (row : Row) (codes : List Int) (rest : List Sample), (s.dev.tile t).air = .plane tag p :: rest →
    (s.dev.tile t).rows = [row] → row.tag = tag → row.void = false → s.dev.isLate t row = false → (s.dev.tile t).replayWait = [] →
    (s.dev.tile t).replayQ.length + rest.countP Sample.isReplay ≤ 8 → (∀ g, g < 8 → NMap.get 0 row.tries (p * 8 + g) < 3) →
    codes.length = 1152 → t < 16 → s.dev.flag Reg.PAGE_CTRL_CNT_FREEZE (pageOf .PT t) = false → s.dev.rd Reg.PT_OOR t + 1152 < 2 ^ 64 →
    Completes (.planeCheck t codes) s (fun d => d.mem = s.dev.mem ∧ d.queues = s.dev.queues ∧ d.engines = s.dev.engines ∧
      d.knots = s.dev.knots ∧
      d.rd Reg.PT_OOR t = s.dev.rd Reg.PT_OOR t + (codes.filter (fun c => decide (c < -480) || decide (480 < c))).length ∧
      (d.tile t).replayQ = (s.dev.tile t).replayQ ++
        ((List.range 8).filter (fun g => !(flaggedGroups (segOf (codes.map decided) g)).isEmpty)).map (fun g => .replay tag p g)))

/-- A step on a waiting command is that command run on the state with the rest of the queue. -/
def Obligations.StepRunsFront : Prop :=
  ∀ (c : Instr) (d : Dev) (rest : List Instr), step { dev := d, pending := c :: rest } = exec c { dev := d, pending := rest }

/-- A step on an empty queue lets a nanosecond pass (the model's choice, log entry 7): local time advances by 16 sixteenths, and so does
fabric time from BOOT on while no slew stands (R339, R340, R373); no command, wait or coil is touched. -/
def Obligations.EmptyQueue : Prop :=
  ∀ d : Dev, ∃ t : Dev, step { dev := d, pending := [] } = .next { dev := t, pending := [] } ∧ t.mono = d.mono + 16 ∧
    (2 ≤ d.bootState → d.fabric.time.slew = 0 → t.now = (d.now + 16) % 2 ^ 64) ∧ (d.bootState < 2 → t.now = d.now) ∧ (d.untraced → t.mem = d.mem) ∧
    t.waits = d.waits ∧ t.knots = d.knots ∧ t.coil = d.coil ∧ t.boot = d.boot ∧ t.queues = d.queues ∧ t.engines = d.engines ∧
    t.xfers = d.xfers

/-- At reset memory and flash have their canonical form, nothing waits, every full/empty bit is empty, every knot is zero, and the module is
in STANDBY (R282, R285, R376, R397); STANDBY, the empty memory and the blank flash are the model's choices (log entries 1 to 3). -/
def Obligations.ResetState : Prop :=
  State.reset.pending = [] ∧ State.reset.dev.Canonical ∧ State.reset.dev.bootState = 1 ∧ State.reset.dev.mem = [] ∧
  (∀ q, (State.reset.dev.queue q).done = [] ∧ State.reset.dev.qState q = 0) ∧ (∀ a, (State.reset.dev.fe a).full = false) ∧
  (∀ k, (State.reset.dev.knot k).val = 0)

/-- Every step keeps the canonical form of memory and flash: addresses rising, and no byte listed that reads as an unlisted one, so that equal
contents are equal data (R418, R379). -/
def Obligations.StepKeepsCanonical : Prop :=
  ∀ s t : State, s.dev.Canonical → step s = .next t → t.dev.Canonical
end

