-- ==== Sys2Proof/Laws/NMap.lean ====
section
/-! SUPPORT. Laws of sparse maps: reading after writing, and that every operation keeps the canonical form. -/
namespace Sys2Proof.Machine

variable {α : Type}

@[simp] theorem NMap.get_nil (d : α) (k : Nat) : NMap.get d [] k = d := rfl

theorem NMap.get_insert (d : α) (m : NMap α) (k j : Nat) (v : α) :
    NMap.get d (NMap.insert m k v) j = if k = j then v else NMap.get d m j := by
  induction m with
  | nil => simp [NMap.insert, NMap.get]
  | cons e r ih =>
    obtain ⟨a, w⟩ := e
    simp only [NMap.insert]
    split
    · simp [NMap.get]
    · split
      · subst_vars; simp only [NMap.get]; split <;> rfl
      · simp only [NMap.get, ih]
        split
        · rw [if_neg]; omega
        · rfl

theorem NMap.get_erase (d : α) (m : NMap α) (k j : Nat) :
    NMap.get d (NMap.erase m k) j = if k = j then d else NMap.get d m j := by
  induction m with
  | nil => simp [NMap.erase]
  | cons e r ih =>
    obtain ⟨a, w⟩ := e
    simp only [NMap.erase, List.filter_cons] at ih ⊢
    by_cases h : a = k
    · subst h; simp only [bne_self_eq_false, Bool.false_eq_true, if_false, ih, NMap.get]
      split <;> rfl
    · simp only [bne_iff_ne, ne_eq, h, not_false_eq_true, if_true, NMap.get, ih]
      split
      · rw [if_neg]; omega
      · rfl

/-- Reading after writing. -/
theorem NMap.get_set [DecidableEq α] (d : α) (m : NMap α) (k j : Nat) (v : α) :
    NMap.get d (NMap.set d m k v) j = if k = j then v else NMap.get d m j := by
  unfold NMap.set
  split
  · subst_vars; exact NMap.get_erase _ m k j
  · exact NMap.get_insert d m k j v

@[simp] theorem NMap.get_set_self [DecidableEq α] (d : α) (m : NMap α) (k : Nat) (v : α) :
    NMap.get d (NMap.set d m k v) k = v := by simp [NMap.get_set]

theorem NMap.get_set_ne [DecidableEq α] (d : α) (m : NMap α) {k j : Nat} (v : α) (h : k ≠ j) :
    NMap.get d (NMap.set d m k v) j = NMap.get d m j := by simp [NMap.get_set, h]

theorem NMap.get_clearRange (d : α) (m : NMap α) (lo hi j : Nat) :
    NMap.get d (NMap.clearRange m lo hi) j = if lo ≤ j ∧ j < hi then d else NMap.get d m j := by
  induction m with
  | nil => simp [NMap.clearRange]
  | cons e r ih =>
    obtain ⟨a, w⟩ := e
    simp only [NMap.clearRange, List.filter_cons] at ih ⊢
    by_cases h : lo ≤ a ∧ a < hi
    · simp only [h.1, h.2, decide_true, Bool.and_self, Bool.not_true, Bool.false_eq_true, if_false, ih, NMap.get]
      by_cases ha : a = j
      · subst ha; simp [h.1, h.2]
      · simp [ha]
    · have hb : (!(decide (lo ≤ a) && decide (a < hi))) = true := by
        simp only [Bool.not_eq_true', Bool.and_eq_false_iff, decide_eq_false_iff_not]; omega
      simp only [hb, if_true, NMap.get, ih]
      by_cases ha : a = j
      · subst ha; simp [h]
      · simp [ha]

/-! The canonical form -/

theorem NMap.above_trans {m : NMap α} {a b : Nat} (h : a ≤ b) (hm : NMap.above b m = true) : NMap.above a m = true := by
  cases m with
  | nil => rfl
  | cons e r => obtain ⟨j, w⟩ := e; simp only [NMap.above, Bool.and_eq_true, decide_eq_true_eq] at hm ⊢; exact ⟨by omega, hm.2⟩

theorem NMap.above_insert {m : NMap α} {b k : Nat} {v : α} (hk : b < k) (hm : NMap.above b m = true) :
    NMap.above b (NMap.insert m k v) = true := by
  induction m generalizing b with
  | nil => simp [NMap.insert, NMap.above, hk]
  | cons e r ih =>
    obtain ⟨j, w⟩ := e
    simp only [NMap.above, Bool.and_eq_true, decide_eq_true_eq] at hm
    simp only [NMap.insert]
    split
    · simp [NMap.above, hk, hm]; omega
    · split
      · subst_vars; simp [NMap.above, hm]
      · simp only [NMap.above, Bool.and_eq_true, decide_eq_true_eq]
        exact ⟨hm.1, ih (by omega) hm.2⟩

theorem NMap.above_filter {m : NMap α} {b : Nat} (p : Nat × α → Bool) (hm : NMap.above b m = true) :
    NMap.above b (m.filter p) = true := by
  induction m generalizing b with
  | nil => rfl
  | cons e r ih =>
    obtain ⟨j, w⟩ := e
    simp only [NMap.above, Bool.and_eq_true, decide_eq_true_eq] at hm
    simp only [List.filter_cons]
    split
    · simp only [NMap.above, Bool.and_eq_true, decide_eq_true_eq]; exact ⟨hm.1, ih hm.2⟩
    · exact NMap.above_trans (by omega) (ih hm.2)

theorem NMap.rising_of_above {m : NMap α} {b : Nat} (h : NMap.above b m = true) : NMap.rising m = true := by
  cases m with
  | nil => rfl
  | cons e r => obtain ⟨j, w⟩ := e; simp only [NMap.above, Bool.and_eq_true] at h; exact h.2

theorem NMap.rising_insert {m : NMap α} {k : Nat} {v : α} (h : NMap.rising m = true) :
    NMap.rising (NMap.insert m k v) = true := by
  cases m with
  | nil => rfl
  | cons e r =>
    obtain ⟨j, w⟩ := e
    simp only [NMap.rising] at h
    simp only [NMap.insert]
    split
    · simp [NMap.rising, NMap.above, h]; omega
    · split
      · subst_vars; exact h
      · exact NMap.above_insert (by omega) h

theorem NMap.rising_filter {m : NMap α} (p : Nat × α → Bool) (h : NMap.rising m = true) :
    NMap.rising (m.filter p) = true := by
  cases m with
  | nil => rfl
  | cons e r =>
    obtain ⟨j, w⟩ := e
    simp only [NMap.rising] at h
    simp only [List.filter_cons]
    split
    · exact NMap.above_filter p h
    · exact NMap.rising_of_above (NMap.above_filter p h)

theorem NMap.sparse_insert [DecidableEq α] {d : α} {m : NMap α} {k : Nat} {v : α} (hv : v ≠ d) (h : NMap.sparse d m = true) :
    NMap.sparse d (NMap.insert m k v) = true := by
  induction m with
  | nil => simp [NMap.insert, NMap.sparse, hv]
  | cons e r ih =>
    obtain ⟨j, w⟩ := e
    simp only [NMap.sparse, List.all_cons, Bool.and_eq_true, decide_eq_true_eq] at h
    simp only [NMap.insert]
    split
    · simp only [NMap.sparse, List.all_cons, Bool.and_eq_true, decide_eq_true_eq]; exact ⟨hv, h⟩
    · split
      · simp only [NMap.sparse, List.all_cons, Bool.and_eq_true, decide_eq_true_eq]; exact ⟨hv, h.2⟩
      · simp only [NMap.sparse, List.all_cons, Bool.and_eq_true, decide_eq_true_eq]; exact ⟨h.1, ih h.2⟩

theorem NMap.sparse_filter [DecidableEq α] {d : α} {m : NMap α} (p : Nat × α → Bool) (h : NMap.sparse d m = true) :
    NMap.sparse d (m.filter p) = true := by
  simp only [NMap.sparse, List.all_eq_true, List.mem_filter] at h ⊢
  exact fun e he => h e he.1

theorem NMap.wf_nil [DecidableEq α] (d : α) : NMap.wf d ([] : NMap α) = true := rfl

theorem NMap.wf_filter [DecidableEq α] {d : α} {m : NMap α} (p : Nat × α → Bool) (h : NMap.wf d m = true) :
    NMap.wf d (m.filter p) = true := by
  simp only [NMap.wf, Bool.and_eq_true] at h ⊢
  exact ⟨NMap.rising_filter p h.1, NMap.sparse_filter p h.2⟩

/-- A write keeps the canonical form. -/
theorem NMap.wf_set [DecidableEq α] {d : α} {m : NMap α} (k : Nat) (v : α) (h : NMap.wf d m = true) :
    NMap.wf d (NMap.set d m k v) = true := by
  unfold NMap.set
  split
  · exact NMap.wf_filter _ h
  · rename_i hv
    simp only [NMap.wf, Bool.and_eq_true] at h ⊢
    exact ⟨NMap.rising_insert h.1, NMap.sparse_insert hv h.2⟩

theorem NMap.wf_modify [DecidableEq α] {d : α} {m : NMap α} (k : Nat) (f : α → α) (h : NMap.wf d m = true) :
    NMap.wf d (NMap.modify d m k f) = true := NMap.wf_set k _ h

theorem NMap.wf_clearRange [DecidableEq α] {d : α} {m : NMap α} (lo hi : Nat) (h : NMap.wf d m = true) :
    NMap.wf d (NMap.clearRange m lo hi) = true := NMap.wf_filter _ h

theorem NMap.wf_range [DecidableEq α] {d : α} {m : NMap α} (lo hi : Nat) (h : NMap.wf d m = true) :
    NMap.wf d (NMap.range m lo hi) = true := NMap.wf_filter _ h

/-- A value of a canonical map is one it lists, or the default. -/
theorem NMap.get_mem (d : α) (m : NMap α) (k : Nat) : NMap.get d m k = d ∨ (k, NMap.get d m k) ∈ m := by
  induction m with
  | nil => exact .inl rfl
  | cons e r ih =>
    obtain ⟨j, w⟩ := e
    simp only [NMap.get]
    split
    · subst_vars; exact .inr (.head _)
    · exact ih.imp id (fun h => .tail _ h)

end Sys2Proof.Machine
end

