-- ==== Sys2Proof/Laws/State.lean ====
section
/-! SUPPORT. What each named update of the module leaves alone, one lemma a field, and reading after writing. -/
namespace Sys2Proof.Machine

/-! The state -/

@[simp] theorem State.on_eq (s : State) (f : Dev → Dev) : s.on f = .next { s with dev := f s.dev } := rfl
@[simp] theorem State.reset_dev : State.reset.dev = {} := rfl
@[simp] theorem State.reset_pending : State.reset.pending = [] := rfl

/-! Reads through updates of other fields -/

@[simp] theorem Dev.rd_mk (s : Dev) (f : Field) (i : Nat) {x1 x2 x3 x4 x5 x6 x7 x8 x9 x10 x11 x12 x13 x14 x15 x16 x17 x18 x19 x20 x21 x22 x23 x24 x25 x26 x27 x28 x29 x30 x31 x32 x33 x34 x35 x36 x37 x38 x39 x40 x41 x42 x43 x44 x45} :
    Dev.rd ⟨s.regs, x1, x2, x3, x4, x5, x6, x7, x8, x9, x10, x11, x12, x13, x14, x15, x16, x17, x18, x19, x20, x21, x22, x23, x24, x25, x26, x27, x28, x29, x30, x31, x32, x33, x34, x35, x36, x37, x38, x39, x40, x41, x42, x43, x44, x45⟩ f i = s.rd f i := rfl

@[simp] theorem Dev.byte_mk (s : Dev) (a : Nat) {x0 x2 x3 x4 x5 x6 x7 x8 x9 x10 x11 x12 x13 x14 x15 x16 x17 x18 x19 x20 x21 x22 x23 x24 x25 x26 x27 x28 x29 x30 x31 x32 x33 x34 x35 x36 x37 x38 x39 x40 x41 x42 x43 x44 x45} :
    Dev.byte ⟨x0, s.mem, x2, x3, x4, x5, x6, x7, x8, x9, x10, x11, x12, x13, x14, x15, x16, x17, x18, x19, x20, x21, x22, x23, x24, x25, x26, x27, x28, x29, x30, x31, x32, x33, x34, x35, x36, x37, x38, x39, x40, x41, x42, x43, x44, x45⟩ a = s.byte a := rfl

@[simp] theorem Dev.tile_mk (s : Dev) (t : Nat) {x0 x1 x2 x3 x4 x5 x6 x8 x9 x10 x11 x12 x13 x14 x15 x16 x17 x18 x19 x20 x21 x22 x23 x24 x25 x26 x27 x28 x29 x30 x31 x32 x33 x34 x35 x36 x37 x38 x39 x40 x41 x42 x43 x44 x45} :
    Dev.tile ⟨x0, x1, x2, x3, x4, x5, x6, s.tiles, x8, x9, x10, x11, x12, x13, x14, x15, x16, x17, x18, x19, x20, x21, x22, x23, x24, x25, x26, x27, x28, x29, x30, x31, x32, x33, x34, x35, x36, x37, x38, x39, x40, x41, x42, x43, x44, x45⟩ t = s.tile t := rfl

@[simp] theorem Dev.queue_mk (s : Dev) (q : Nat) {x0 x1 x2 x3 x4 x5 x6 x7 x9 x10 x11 x12 x13 x14 x15 x16 x17 x18 x19 x20 x21 x22 x23 x24 x25 x26 x27 x28 x29 x30 x31 x32 x33 x34 x35 x36 x37 x38 x39 x40 x41 x42 x43 x44 x45} :
    Dev.queue ⟨x0, x1, x2, x3, x4, x5, x6, x7, s.queues, x9, x10, x11, x12, x13, x14, x15, x16, x17, x18, x19, x20, x21, x22, x23, x24, x25, x26, x27, x28, x29, x30, x31, x32, x33, x34, x35, x36, x37, x38, x39, x40, x41, x42, x43, x44, x45⟩ q = s.queue q := rfl


/-! wr -/

@[simp] theorem Dev.wr_mem (s : Dev) (f : Field) (i v : Nat) : (s.wr f i v).mem = s.mem := rfl
@[simp] theorem Dev.wr_badMem (s : Dev) (f : Field) (i v : Nat) : (s.wr f i v).badMem = s.badMem := rfl
@[simp] theorem Dev.wr_now (s : Dev) (f : Field) (i v : Nat) : (s.wr f i v).now = s.now := rfl
@[simp] theorem Dev.wr_mono (s : Dev) (f : Field) (i v : Nat) : (s.wr f i v).mono = s.mono := rfl
@[simp] theorem Dev.wr_seed (s : Dev) (f : Field) (i v : Nat) : (s.wr f i v).seed = s.seed := rfl
@[simp] theorem Dev.wr_msix (s : Dev) (f : Field) (i v : Nat) : (s.wr f i v).msix = s.msix := rfl
@[simp] theorem Dev.wr_tiles (s : Dev) (f : Field) (i v : Nat) : (s.wr f i v).tiles = s.tiles := rfl
@[simp] theorem Dev.wr_queues (s : Dev) (f : Field) (i v : Nat) : (s.wr f i v).queues = s.queues := rfl
@[simp] theorem Dev.wr_sfwDrv (s : Dev) (f : Field) (i v : Nat) : (s.wr f i v).sfwDrv = s.sfwDrv := rfl
@[simp] theorem Dev.wr_arb (s : Dev) (f : Field) (i v : Nat) : (s.wr f i v).arb = s.arb := rfl
@[simp] theorem Dev.wr_work (s : Dev) (f : Field) (i v : Nat) : (s.wr f i v).work = s.work := rfl
@[simp] theorem Dev.wr_xfers (s : Dev) (f : Field) (i v : Nat) : (s.wr f i v).xfers = s.xfers := rfl
@[simp] theorem Dev.wr_dmaWait (s : Dev) (f : Field) (i v : Nat) : (s.wr f i v).dmaWait = s.dmaWait := rfl
@[simp] theorem Dev.wr_nextXfer (s : Dev) (f : Field) (i v : Nat) : (s.wr f i v).nextXfer = s.nextXfer := rfl
@[simp] theorem Dev.wr_engines (s : Dev) (f : Field) (i v : Nat) : (s.wr f i v).engines = s.engines := rfl
@[simp] theorem Dev.wr_launches (s : Dev) (f : Field) (i v : Nat) : (s.wr f i v).launches = s.launches := rfl
@[simp] theorem Dev.wr_coilOps (s : Dev) (f : Field) (i v : Nat) : (s.wr f i v).coilOps = s.coilOps := rfl
@[simp] theorem Dev.wr_coil (s : Dev) (f : Field) (i v : Nat) : (s.wr f i v).coil = s.coil := rfl
@[simp] theorem Dev.wr_knots (s : Dev) (f : Field) (i v : Nat) : (s.wr f i v).knots = s.knots := rfl
@[simp] theorem Dev.wr_feWords (s : Dev) (f : Field) (i v : Nat) : (s.wr f i v).feWords = s.feWords := rfl
@[simp] theorem Dev.wr_feParked (s : Dev) (f : Field) (i v : Nat) : (s.wr f i v).feParked = s.feParked := rfl
@[simp] theorem Dev.wr_waits (s : Dev) (f : Field) (i v : Nat) : (s.wr f i v).waits = s.waits := rfl
@[simp] theorem Dev.wr_nextWait (s : Dev) (f : Field) (i v : Nat) : (s.wr f i v).nextWait = s.nextWait := rfl
@[simp] theorem Dev.wr_syEvents (s : Dev) (f : Field) (i v : Nat) : (s.wr f i v).syEvents = s.syEvents := rfl
@[simp] theorem Dev.wr_dlList (s : Dev) (f : Field) (i v : Nat) : (s.wr f i v).dlList = s.dlList := rfl
@[simp] theorem Dev.wr_dlReported (s : Dev) (f : Field) (i v : Nat) : (s.wr f i v).dlReported = s.dlReported := rfl
@[simp] theorem Dev.wr_served (s : Dev) (f : Field) (i v : Nat) : (s.wr f i v).served = s.served := rfl
@[simp] theorem Dev.wr_parts (s : Dev) (f : Field) (i v : Nat) : (s.wr f i v).parts = s.parts := rfl
@[simp] theorem Dev.wr_zeroing (s : Dev) (f : Field) (i v : Nat) : (s.wr f i v).zeroing = s.zeroing := rfl
@[simp] theorem Dev.wr_engOwner (s : Dev) (f : Field) (i v : Nat) : (s.wr f i v).engOwner = s.engOwner := rfl
@[simp] theorem Dev.wr_trSeq (s : Dev) (f : Field) (i v : Nat) : (s.wr f i v).trSeq = s.trSeq := rfl
@[simp] theorem Dev.wr_trLost (s : Dev) (f : Field) (i v : Nat) : (s.wr f i v).trLost = s.trLost := rfl
@[simp] theorem Dev.wr_brk (s : Dev) (f : Field) (i v : Nat) : (s.wr f i v).brk = s.brk := rfl
@[simp] theorem Dev.wr_branches (s : Dev) (f : Field) (i v : Nat) : (s.wr f i v).branches = s.branches := rfl
@[simp] theorem Dev.wr_fwHalted (s : Dev) (f : Field) (i v : Nat) : (s.wr f i v).fwHalted = s.fwHalted := rfl
@[simp] theorem Dev.wr_rate (s : Dev) (f : Field) (i v : Nat) : (s.wr f i v).rate = s.rate := rfl
@[simp] theorem Dev.wr_frames (s : Dev) (f : Field) (i v : Nat) : (s.wr f i v).frames = s.frames := rfl
@[simp] theorem Dev.wr_rings (s : Dev) (f : Field) (i v : Nat) : (s.wr f i v).rings = s.rings := rfl
@[simp] theorem Dev.wr_rails (s : Dev) (f : Field) (i v : Nat) : (s.wr f i v).rails = s.rails := rfl
@[simp] theorem Dev.wr_ll (s : Dev) (f : Field) (i v : Nat) : (s.wr f i v).ll = s.ll := rfl
@[simp] theorem Dev.wr_syscal (s : Dev) (f : Field) (i v : Nat) : (s.wr f i v).syscal = s.syscal := rfl
@[simp] theorem Dev.wr_combs (s : Dev) (f : Field) (i v : Nat) : (s.wr f i v).combs = s.combs := rfl
@[simp] theorem Dev.wr_optics (s : Dev) (f : Field) (i v : Nat) : (s.wr f i v).optics = s.optics := rfl
@[simp] theorem Dev.wr_fabric (s : Dev) (f : Field) (i v : Nat) : (s.wr f i v).fabric = s.fabric := rfl
@[simp] theorem Dev.wr_boot (s : Dev) (f : Field) (i v : Nat) : (s.wr f i v).boot = s.boot := rfl

/-! wrS -/

@[simp] theorem Dev.wrS_mem (s : Dev) (f : Field) (i : Nat) (v : Int) : (s.wrS f i v).mem = s.mem := rfl
@[simp] theorem Dev.wrS_badMem (s : Dev) (f : Field) (i : Nat) (v : Int) : (s.wrS f i v).badMem = s.badMem := rfl
@[simp] theorem Dev.wrS_now (s : Dev) (f : Field) (i : Nat) (v : Int) : (s.wrS f i v).now = s.now := rfl
@[simp] theorem Dev.wrS_mono (s : Dev) (f : Field) (i : Nat) (v : Int) : (s.wrS f i v).mono = s.mono := rfl
@[simp] theorem Dev.wrS_seed (s : Dev) (f : Field) (i : Nat) (v : Int) : (s.wrS f i v).seed = s.seed := rfl
@[simp] theorem Dev.wrS_msix (s : Dev) (f : Field) (i : Nat) (v : Int) : (s.wrS f i v).msix = s.msix := rfl
@[simp] theorem Dev.wrS_tiles (s : Dev) (f : Field) (i : Nat) (v : Int) : (s.wrS f i v).tiles = s.tiles := rfl
@[simp] theorem Dev.wrS_queues (s : Dev) (f : Field) (i : Nat) (v : Int) : (s.wrS f i v).queues = s.queues := rfl
@[simp] theorem Dev.wrS_sfwDrv (s : Dev) (f : Field) (i : Nat) (v : Int) : (s.wrS f i v).sfwDrv = s.sfwDrv := rfl
@[simp] theorem Dev.wrS_arb (s : Dev) (f : Field) (i : Nat) (v : Int) : (s.wrS f i v).arb = s.arb := rfl
@[simp] theorem Dev.wrS_work (s : Dev) (f : Field) (i : Nat) (v : Int) : (s.wrS f i v).work = s.work := rfl
@[simp] theorem Dev.wrS_xfers (s : Dev) (f : Field) (i : Nat) (v : Int) : (s.wrS f i v).xfers = s.xfers := rfl
@[simp] theorem Dev.wrS_dmaWait (s : Dev) (f : Field) (i : Nat) (v : Int) : (s.wrS f i v).dmaWait = s.dmaWait := rfl
@[simp] theorem Dev.wrS_nextXfer (s : Dev) (f : Field) (i : Nat) (v : Int) : (s.wrS f i v).nextXfer = s.nextXfer := rfl
@[simp] theorem Dev.wrS_engines (s : Dev) (f : Field) (i : Nat) (v : Int) : (s.wrS f i v).engines = s.engines := rfl
@[simp] theorem Dev.wrS_launches (s : Dev) (f : Field) (i : Nat) (v : Int) : (s.wrS f i v).launches = s.launches := rfl
@[simp] theorem Dev.wrS_coilOps (s : Dev) (f : Field) (i : Nat) (v : Int) : (s.wrS f i v).coilOps = s.coilOps := rfl
@[simp] theorem Dev.wrS_coil (s : Dev) (f : Field) (i : Nat) (v : Int) : (s.wrS f i v).coil = s.coil := rfl
@[simp] theorem Dev.wrS_knots (s : Dev) (f : Field) (i : Nat) (v : Int) : (s.wrS f i v).knots = s.knots := rfl
@[simp] theorem Dev.wrS_feWords (s : Dev) (f : Field) (i : Nat) (v : Int) : (s.wrS f i v).feWords = s.feWords := rfl
@[simp] theorem Dev.wrS_feParked (s : Dev) (f : Field) (i : Nat) (v : Int) : (s.wrS f i v).feParked = s.feParked := rfl
@[simp] theorem Dev.wrS_waits (s : Dev) (f : Field) (i : Nat) (v : Int) : (s.wrS f i v).waits = s.waits := rfl
@[simp] theorem Dev.wrS_nextWait (s : Dev) (f : Field) (i : Nat) (v : Int) : (s.wrS f i v).nextWait = s.nextWait := rfl
@[simp] theorem Dev.wrS_syEvents (s : Dev) (f : Field) (i : Nat) (v : Int) : (s.wrS f i v).syEvents = s.syEvents := rfl
@[simp] theorem Dev.wrS_dlList (s : Dev) (f : Field) (i : Nat) (v : Int) : (s.wrS f i v).dlList = s.dlList := rfl
@[simp] theorem Dev.wrS_dlReported (s : Dev) (f : Field) (i : Nat) (v : Int) : (s.wrS f i v).dlReported = s.dlReported := rfl
@[simp] theorem Dev.wrS_served (s : Dev) (f : Field) (i : Nat) (v : Int) : (s.wrS f i v).served = s.served := rfl
@[simp] theorem Dev.wrS_parts (s : Dev) (f : Field) (i : Nat) (v : Int) : (s.wrS f i v).parts = s.parts := rfl
@[simp] theorem Dev.wrS_zeroing (s : Dev) (f : Field) (i : Nat) (v : Int) : (s.wrS f i v).zeroing = s.zeroing := rfl
@[simp] theorem Dev.wrS_engOwner (s : Dev) (f : Field) (i : Nat) (v : Int) : (s.wrS f i v).engOwner = s.engOwner := rfl
@[simp] theorem Dev.wrS_trSeq (s : Dev) (f : Field) (i : Nat) (v : Int) : (s.wrS f i v).trSeq = s.trSeq := rfl
@[simp] theorem Dev.wrS_trLost (s : Dev) (f : Field) (i : Nat) (v : Int) : (s.wrS f i v).trLost = s.trLost := rfl
@[simp] theorem Dev.wrS_brk (s : Dev) (f : Field) (i : Nat) (v : Int) : (s.wrS f i v).brk = s.brk := rfl
@[simp] theorem Dev.wrS_branches (s : Dev) (f : Field) (i : Nat) (v : Int) : (s.wrS f i v).branches = s.branches := rfl
@[simp] theorem Dev.wrS_fwHalted (s : Dev) (f : Field) (i : Nat) (v : Int) : (s.wrS f i v).fwHalted = s.fwHalted := rfl
@[simp] theorem Dev.wrS_rate (s : Dev) (f : Field) (i : Nat) (v : Int) : (s.wrS f i v).rate = s.rate := rfl
@[simp] theorem Dev.wrS_frames (s : Dev) (f : Field) (i : Nat) (v : Int) : (s.wrS f i v).frames = s.frames := rfl
@[simp] theorem Dev.wrS_rings (s : Dev) (f : Field) (i : Nat) (v : Int) : (s.wrS f i v).rings = s.rings := rfl
@[simp] theorem Dev.wrS_rails (s : Dev) (f : Field) (i : Nat) (v : Int) : (s.wrS f i v).rails = s.rails := rfl
@[simp] theorem Dev.wrS_ll (s : Dev) (f : Field) (i : Nat) (v : Int) : (s.wrS f i v).ll = s.ll := rfl
@[simp] theorem Dev.wrS_syscal (s : Dev) (f : Field) (i : Nat) (v : Int) : (s.wrS f i v).syscal = s.syscal := rfl
@[simp] theorem Dev.wrS_combs (s : Dev) (f : Field) (i : Nat) (v : Int) : (s.wrS f i v).combs = s.combs := rfl
@[simp] theorem Dev.wrS_optics (s : Dev) (f : Field) (i : Nat) (v : Int) : (s.wrS f i v).optics = s.optics := rfl
@[simp] theorem Dev.wrS_fabric (s : Dev) (f : Field) (i : Nat) (v : Int) : (s.wrS f i v).fabric = s.fabric := rfl
@[simp] theorem Dev.wrS_boot (s : Dev) (f : Field) (i : Nat) (v : Int) : (s.wrS f i v).boot = s.boot := rfl

/-! putByte -/

@[simp] theorem Dev.putByte_regs (s : Dev) (a : Nat) (b : Byte) : (s.putByte a b).regs = s.regs := rfl
@[simp] theorem Dev.putByte_badMem (s : Dev) (a : Nat) (b : Byte) : (s.putByte a b).badMem = s.badMem := rfl
@[simp] theorem Dev.putByte_now (s : Dev) (a : Nat) (b : Byte) : (s.putByte a b).now = s.now := rfl
@[simp] theorem Dev.putByte_mono (s : Dev) (a : Nat) (b : Byte) : (s.putByte a b).mono = s.mono := rfl
@[simp] theorem Dev.putByte_seed (s : Dev) (a : Nat) (b : Byte) : (s.putByte a b).seed = s.seed := rfl
@[simp] theorem Dev.putByte_msix (s : Dev) (a : Nat) (b : Byte) : (s.putByte a b).msix = s.msix := rfl
@[simp] theorem Dev.putByte_tiles (s : Dev) (a : Nat) (b : Byte) : (s.putByte a b).tiles = s.tiles := rfl
@[simp] theorem Dev.putByte_queues (s : Dev) (a : Nat) (b : Byte) : (s.putByte a b).queues = s.queues := rfl
@[simp] theorem Dev.putByte_sfwDrv (s : Dev) (a : Nat) (b : Byte) : (s.putByte a b).sfwDrv = s.sfwDrv := rfl
@[simp] theorem Dev.putByte_arb (s : Dev) (a : Nat) (b : Byte) : (s.putByte a b).arb = s.arb := rfl
@[simp] theorem Dev.putByte_work (s : Dev) (a : Nat) (b : Byte) : (s.putByte a b).work = s.work := rfl
@[simp] theorem Dev.putByte_xfers (s : Dev) (a : Nat) (b : Byte) : (s.putByte a b).xfers = s.xfers := rfl
@[simp] theorem Dev.putByte_dmaWait (s : Dev) (a : Nat) (b : Byte) : (s.putByte a b).dmaWait = s.dmaWait := rfl
@[simp] theorem Dev.putByte_nextXfer (s : Dev) (a : Nat) (b : Byte) : (s.putByte a b).nextXfer = s.nextXfer := rfl
@[simp] theorem Dev.putByte_engines (s : Dev) (a : Nat) (b : Byte) : (s.putByte a b).engines = s.engines := rfl
@[simp] theorem Dev.putByte_launches (s : Dev) (a : Nat) (b : Byte) : (s.putByte a b).launches = s.launches := rfl
@[simp] theorem Dev.putByte_coilOps (s : Dev) (a : Nat) (b : Byte) : (s.putByte a b).coilOps = s.coilOps := rfl
@[simp] theorem Dev.putByte_coil (s : Dev) (a : Nat) (b : Byte) : (s.putByte a b).coil = s.coil := rfl
@[simp] theorem Dev.putByte_knots (s : Dev) (a : Nat) (b : Byte) : (s.putByte a b).knots = s.knots := rfl
@[simp] theorem Dev.putByte_feWords (s : Dev) (a : Nat) (b : Byte) : (s.putByte a b).feWords = s.feWords := rfl
@[simp] theorem Dev.putByte_feParked (s : Dev) (a : Nat) (b : Byte) : (s.putByte a b).feParked = s.feParked := rfl
@[simp] theorem Dev.putByte_waits (s : Dev) (a : Nat) (b : Byte) : (s.putByte a b).waits = s.waits := rfl
@[simp] theorem Dev.putByte_nextWait (s : Dev) (a : Nat) (b : Byte) : (s.putByte a b).nextWait = s.nextWait := rfl
@[simp] theorem Dev.putByte_syEvents (s : Dev) (a : Nat) (b : Byte) : (s.putByte a b).syEvents = s.syEvents := rfl
@[simp] theorem Dev.putByte_dlList (s : Dev) (a : Nat) (b : Byte) : (s.putByte a b).dlList = s.dlList := rfl
@[simp] theorem Dev.putByte_dlReported (s : Dev) (a : Nat) (b : Byte) : (s.putByte a b).dlReported = s.dlReported := rfl
@[simp] theorem Dev.putByte_served (s : Dev) (a : Nat) (b : Byte) : (s.putByte a b).served = s.served := rfl
@[simp] theorem Dev.putByte_parts (s : Dev) (a : Nat) (b : Byte) : (s.putByte a b).parts = s.parts := rfl
@[simp] theorem Dev.putByte_zeroing (s : Dev) (a : Nat) (b : Byte) : (s.putByte a b).zeroing = s.zeroing := rfl
@[simp] theorem Dev.putByte_engOwner (s : Dev) (a : Nat) (b : Byte) : (s.putByte a b).engOwner = s.engOwner := rfl
@[simp] theorem Dev.putByte_trSeq (s : Dev) (a : Nat) (b : Byte) : (s.putByte a b).trSeq = s.trSeq := rfl
@[simp] theorem Dev.putByte_trLost (s : Dev) (a : Nat) (b : Byte) : (s.putByte a b).trLost = s.trLost := rfl
@[simp] theorem Dev.putByte_brk (s : Dev) (a : Nat) (b : Byte) : (s.putByte a b).brk = s.brk := rfl
@[simp] theorem Dev.putByte_branches (s : Dev) (a : Nat) (b : Byte) : (s.putByte a b).branches = s.branches := rfl
@[simp] theorem Dev.putByte_fwHalted (s : Dev) (a : Nat) (b : Byte) : (s.putByte a b).fwHalted = s.fwHalted := rfl
@[simp] theorem Dev.putByte_rate (s : Dev) (a : Nat) (b : Byte) : (s.putByte a b).rate = s.rate := rfl
@[simp] theorem Dev.putByte_frames (s : Dev) (a : Nat) (b : Byte) : (s.putByte a b).frames = s.frames := rfl
@[simp] theorem Dev.putByte_rings (s : Dev) (a : Nat) (b : Byte) : (s.putByte a b).rings = s.rings := rfl
@[simp] theorem Dev.putByte_rails (s : Dev) (a : Nat) (b : Byte) : (s.putByte a b).rails = s.rails := rfl
@[simp] theorem Dev.putByte_ll (s : Dev) (a : Nat) (b : Byte) : (s.putByte a b).ll = s.ll := rfl
@[simp] theorem Dev.putByte_syscal (s : Dev) (a : Nat) (b : Byte) : (s.putByte a b).syscal = s.syscal := rfl
@[simp] theorem Dev.putByte_combs (s : Dev) (a : Nat) (b : Byte) : (s.putByte a b).combs = s.combs := rfl
@[simp] theorem Dev.putByte_optics (s : Dev) (a : Nat) (b : Byte) : (s.putByte a b).optics = s.optics := rfl
@[simp] theorem Dev.putByte_fabric (s : Dev) (a : Nat) (b : Byte) : (s.putByte a b).fabric = s.fabric := rfl
@[simp] theorem Dev.putByte_boot (s : Dev) (a : Nat) (b : Byte) : (s.putByte a b).boot = s.boot := rfl

/-! setTile -/

@[simp] theorem Dev.setTile_regs (s : Dev) (t : Nat) (v : Tile) : (s.setTile t v).regs = s.regs := rfl
@[simp] theorem Dev.setTile_mem (s : Dev) (t : Nat) (v : Tile) : (s.setTile t v).mem = s.mem := rfl
@[simp] theorem Dev.setTile_badMem (s : Dev) (t : Nat) (v : Tile) : (s.setTile t v).badMem = s.badMem := rfl
@[simp] theorem Dev.setTile_now (s : Dev) (t : Nat) (v : Tile) : (s.setTile t v).now = s.now := rfl
@[simp] theorem Dev.setTile_mono (s : Dev) (t : Nat) (v : Tile) : (s.setTile t v).mono = s.mono := rfl
@[simp] theorem Dev.setTile_seed (s : Dev) (t : Nat) (v : Tile) : (s.setTile t v).seed = s.seed := rfl
@[simp] theorem Dev.setTile_msix (s : Dev) (t : Nat) (v : Tile) : (s.setTile t v).msix = s.msix := rfl
@[simp] theorem Dev.setTile_queues (s : Dev) (t : Nat) (v : Tile) : (s.setTile t v).queues = s.queues := rfl
@[simp] theorem Dev.setTile_sfwDrv (s : Dev) (t : Nat) (v : Tile) : (s.setTile t v).sfwDrv = s.sfwDrv := rfl
@[simp] theorem Dev.setTile_arb (s : Dev) (t : Nat) (v : Tile) : (s.setTile t v).arb = s.arb := rfl
@[simp] theorem Dev.setTile_work (s : Dev) (t : Nat) (v : Tile) : (s.setTile t v).work = s.work := rfl
@[simp] theorem Dev.setTile_xfers (s : Dev) (t : Nat) (v : Tile) : (s.setTile t v).xfers = s.xfers := rfl
@[simp] theorem Dev.setTile_dmaWait (s : Dev) (t : Nat) (v : Tile) : (s.setTile t v).dmaWait = s.dmaWait := rfl
@[simp] theorem Dev.setTile_nextXfer (s : Dev) (t : Nat) (v : Tile) : (s.setTile t v).nextXfer = s.nextXfer := rfl
@[simp] theorem Dev.setTile_engines (s : Dev) (t : Nat) (v : Tile) : (s.setTile t v).engines = s.engines := rfl
@[simp] theorem Dev.setTile_launches (s : Dev) (t : Nat) (v : Tile) : (s.setTile t v).launches = s.launches := rfl
@[simp] theorem Dev.setTile_coilOps (s : Dev) (t : Nat) (v : Tile) : (s.setTile t v).coilOps = s.coilOps := rfl
@[simp] theorem Dev.setTile_coil (s : Dev) (t : Nat) (v : Tile) : (s.setTile t v).coil = s.coil := rfl
@[simp] theorem Dev.setTile_knots (s : Dev) (t : Nat) (v : Tile) : (s.setTile t v).knots = s.knots := rfl
@[simp] theorem Dev.setTile_feWords (s : Dev) (t : Nat) (v : Tile) : (s.setTile t v).feWords = s.feWords := rfl
@[simp] theorem Dev.setTile_feParked (s : Dev) (t : Nat) (v : Tile) : (s.setTile t v).feParked = s.feParked := rfl
@[simp] theorem Dev.setTile_waits (s : Dev) (t : Nat) (v : Tile) : (s.setTile t v).waits = s.waits := rfl
@[simp] theorem Dev.setTile_nextWait (s : Dev) (t : Nat) (v : Tile) : (s.setTile t v).nextWait = s.nextWait := rfl
@[simp] theorem Dev.setTile_syEvents (s : Dev) (t : Nat) (v : Tile) : (s.setTile t v).syEvents = s.syEvents := rfl
@[simp] theorem Dev.setTile_dlList (s : Dev) (t : Nat) (v : Tile) : (s.setTile t v).dlList = s.dlList := rfl
@[simp] theorem Dev.setTile_dlReported (s : Dev) (t : Nat) (v : Tile) : (s.setTile t v).dlReported = s.dlReported := rfl
@[simp] theorem Dev.setTile_served (s : Dev) (t : Nat) (v : Tile) : (s.setTile t v).served = s.served := rfl
@[simp] theorem Dev.setTile_parts (s : Dev) (t : Nat) (v : Tile) : (s.setTile t v).parts = s.parts := rfl
@[simp] theorem Dev.setTile_zeroing (s : Dev) (t : Nat) (v : Tile) : (s.setTile t v).zeroing = s.zeroing := rfl
@[simp] theorem Dev.setTile_engOwner (s : Dev) (t : Nat) (v : Tile) : (s.setTile t v).engOwner = s.engOwner := rfl
@[simp] theorem Dev.setTile_trSeq (s : Dev) (t : Nat) (v : Tile) : (s.setTile t v).trSeq = s.trSeq := rfl
@[simp] theorem Dev.setTile_trLost (s : Dev) (t : Nat) (v : Tile) : (s.setTile t v).trLost = s.trLost := rfl
@[simp] theorem Dev.setTile_brk (s : Dev) (t : Nat) (v : Tile) : (s.setTile t v).brk = s.brk := rfl
@[simp] theorem Dev.setTile_branches (s : Dev) (t : Nat) (v : Tile) : (s.setTile t v).branches = s.branches := rfl
@[simp] theorem Dev.setTile_fwHalted (s : Dev) (t : Nat) (v : Tile) : (s.setTile t v).fwHalted = s.fwHalted := rfl
@[simp] theorem Dev.setTile_rate (s : Dev) (t : Nat) (v : Tile) : (s.setTile t v).rate = s.rate := rfl
@[simp] theorem Dev.setTile_frames (s : Dev) (t : Nat) (v : Tile) : (s.setTile t v).frames = s.frames := rfl
@[simp] theorem Dev.setTile_rings (s : Dev) (t : Nat) (v : Tile) : (s.setTile t v).rings = s.rings := rfl
@[simp] theorem Dev.setTile_rails (s : Dev) (t : Nat) (v : Tile) : (s.setTile t v).rails = s.rails := rfl
@[simp] theorem Dev.setTile_ll (s : Dev) (t : Nat) (v : Tile) : (s.setTile t v).ll = s.ll := rfl
@[simp] theorem Dev.setTile_syscal (s : Dev) (t : Nat) (v : Tile) : (s.setTile t v).syscal = s.syscal := rfl
@[simp] theorem Dev.setTile_combs (s : Dev) (t : Nat) (v : Tile) : (s.setTile t v).combs = s.combs := rfl
@[simp] theorem Dev.setTile_optics (s : Dev) (t : Nat) (v : Tile) : (s.setTile t v).optics = s.optics := rfl
@[simp] theorem Dev.setTile_fabric (s : Dev) (t : Nat) (v : Tile) : (s.setTile t v).fabric = s.fabric := rfl
@[simp] theorem Dev.setTile_boot (s : Dev) (t : Nat) (v : Tile) : (s.setTile t v).boot = s.boot := rfl

/-! modQueue -/

@[simp] theorem Dev.modQueue_regs (s : Dev) (q : Nat) (f : Queue → Queue) : (s.modQueue q f).regs = s.regs := rfl
@[simp] theorem Dev.modQueue_mem (s : Dev) (q : Nat) (f : Queue → Queue) : (s.modQueue q f).mem = s.mem := rfl
@[simp] theorem Dev.modQueue_badMem (s : Dev) (q : Nat) (f : Queue → Queue) : (s.modQueue q f).badMem = s.badMem := rfl
@[simp] theorem Dev.modQueue_now (s : Dev) (q : Nat) (f : Queue → Queue) : (s.modQueue q f).now = s.now := rfl
@[simp] theorem Dev.modQueue_mono (s : Dev) (q : Nat) (f : Queue → Queue) : (s.modQueue q f).mono = s.mono := rfl
@[simp] theorem Dev.modQueue_seed (s : Dev) (q : Nat) (f : Queue → Queue) : (s.modQueue q f).seed = s.seed := rfl
@[simp] theorem Dev.modQueue_msix (s : Dev) (q : Nat) (f : Queue → Queue) : (s.modQueue q f).msix = s.msix := rfl
@[simp] theorem Dev.modQueue_tiles (s : Dev) (q : Nat) (f : Queue → Queue) : (s.modQueue q f).tiles = s.tiles := rfl
@[simp] theorem Dev.modQueue_sfwDrv (s : Dev) (q : Nat) (f : Queue → Queue) : (s.modQueue q f).sfwDrv = s.sfwDrv := rfl
@[simp] theorem Dev.modQueue_arb (s : Dev) (q : Nat) (f : Queue → Queue) : (s.modQueue q f).arb = s.arb := rfl
@[simp] theorem Dev.modQueue_work (s : Dev) (q : Nat) (f : Queue → Queue) : (s.modQueue q f).work = s.work := rfl
@[simp] theorem Dev.modQueue_xfers (s : Dev) (q : Nat) (f : Queue → Queue) : (s.modQueue q f).xfers = s.xfers := rfl
@[simp] theorem Dev.modQueue_dmaWait (s : Dev) (q : Nat) (f : Queue → Queue) : (s.modQueue q f).dmaWait = s.dmaWait := rfl
@[simp] theorem Dev.modQueue_nextXfer (s : Dev) (q : Nat) (f : Queue → Queue) : (s.modQueue q f).nextXfer = s.nextXfer := rfl
@[simp] theorem Dev.modQueue_engines (s : Dev) (q : Nat) (f : Queue → Queue) : (s.modQueue q f).engines = s.engines := rfl
@[simp] theorem Dev.modQueue_launches (s : Dev) (q : Nat) (f : Queue → Queue) : (s.modQueue q f).launches = s.launches := rfl
@[simp] theorem Dev.modQueue_coilOps (s : Dev) (q : Nat) (f : Queue → Queue) : (s.modQueue q f).coilOps = s.coilOps := rfl
@[simp] theorem Dev.modQueue_coil (s : Dev) (q : Nat) (f : Queue → Queue) : (s.modQueue q f).coil = s.coil := rfl
@[simp] theorem Dev.modQueue_knots (s : Dev) (q : Nat) (f : Queue → Queue) : (s.modQueue q f).knots = s.knots := rfl
@[simp] theorem Dev.modQueue_feWords (s : Dev) (q : Nat) (f : Queue → Queue) : (s.modQueue q f).feWords = s.feWords := rfl
@[simp] theorem Dev.modQueue_feParked (s : Dev) (q : Nat) (f : Queue → Queue) : (s.modQueue q f).feParked = s.feParked := rfl
@[simp] theorem Dev.modQueue_waits (s : Dev) (q : Nat) (f : Queue → Queue) : (s.modQueue q f).waits = s.waits := rfl
@[simp] theorem Dev.modQueue_nextWait (s : Dev) (q : Nat) (f : Queue → Queue) : (s.modQueue q f).nextWait = s.nextWait := rfl
@[simp] theorem Dev.modQueue_syEvents (s : Dev) (q : Nat) (f : Queue → Queue) : (s.modQueue q f).syEvents = s.syEvents := rfl
@[simp] theorem Dev.modQueue_dlList (s : Dev) (q : Nat) (f : Queue → Queue) : (s.modQueue q f).dlList = s.dlList := rfl
@[simp] theorem Dev.modQueue_dlReported (s : Dev) (q : Nat) (f : Queue → Queue) : (s.modQueue q f).dlReported = s.dlReported := rfl
@[simp] theorem Dev.modQueue_served (s : Dev) (q : Nat) (f : Queue → Queue) : (s.modQueue q f).served = s.served := rfl
@[simp] theorem Dev.modQueue_parts (s : Dev) (q : Nat) (f : Queue → Queue) : (s.modQueue q f).parts = s.parts := rfl
@[simp] theorem Dev.modQueue_zeroing (s : Dev) (q : Nat) (f : Queue → Queue) : (s.modQueue q f).zeroing = s.zeroing := rfl
@[simp] theorem Dev.modQueue_engOwner (s : Dev) (q : Nat) (f : Queue → Queue) : (s.modQueue q f).engOwner = s.engOwner := rfl
@[simp] theorem Dev.modQueue_trSeq (s : Dev) (q : Nat) (f : Queue → Queue) : (s.modQueue q f).trSeq = s.trSeq := rfl
@[simp] theorem Dev.modQueue_trLost (s : Dev) (q : Nat) (f : Queue → Queue) : (s.modQueue q f).trLost = s.trLost := rfl
@[simp] theorem Dev.modQueue_brk (s : Dev) (q : Nat) (f : Queue → Queue) : (s.modQueue q f).brk = s.brk := rfl
@[simp] theorem Dev.modQueue_branches (s : Dev) (q : Nat) (f : Queue → Queue) : (s.modQueue q f).branches = s.branches := rfl
@[simp] theorem Dev.modQueue_fwHalted (s : Dev) (q : Nat) (f : Queue → Queue) : (s.modQueue q f).fwHalted = s.fwHalted := rfl
@[simp] theorem Dev.modQueue_rate (s : Dev) (q : Nat) (f : Queue → Queue) : (s.modQueue q f).rate = s.rate := rfl
@[simp] theorem Dev.modQueue_frames (s : Dev) (q : Nat) (f : Queue → Queue) : (s.modQueue q f).frames = s.frames := rfl
@[simp] theorem Dev.modQueue_rings (s : Dev) (q : Nat) (f : Queue → Queue) : (s.modQueue q f).rings = s.rings := rfl
@[simp] theorem Dev.modQueue_rails (s : Dev) (q : Nat) (f : Queue → Queue) : (s.modQueue q f).rails = s.rails := rfl
@[simp] theorem Dev.modQueue_ll (s : Dev) (q : Nat) (f : Queue → Queue) : (s.modQueue q f).ll = s.ll := rfl
@[simp] theorem Dev.modQueue_syscal (s : Dev) (q : Nat) (f : Queue → Queue) : (s.modQueue q f).syscal = s.syscal := rfl
@[simp] theorem Dev.modQueue_combs (s : Dev) (q : Nat) (f : Queue → Queue) : (s.modQueue q f).combs = s.combs := rfl
@[simp] theorem Dev.modQueue_optics (s : Dev) (q : Nat) (f : Queue → Queue) : (s.modQueue q f).optics = s.optics := rfl
@[simp] theorem Dev.modQueue_fabric (s : Dev) (q : Nat) (f : Queue → Queue) : (s.modQueue q f).fabric = s.fabric := rfl
@[simp] theorem Dev.modQueue_boot (s : Dev) (q : Nat) (f : Queue → Queue) : (s.modQueue q f).boot = s.boot := rfl

/-! Reading after writing -/

@[simp] theorem Dev.rd_wr_self (s : Dev) (f : Field) (i v : Nat) : (s.wr f i v).rd f i = v % 2 ^ f.width := by
  simp [Dev.rd, Dev.wr]

theorem Dev.rd_wr_key (s : Dev) (f : Field) {i j : Nat} (v : Nat) (h : i ≠ j) : (s.wr f i v).rd f j = s.rd f j := by
  simp [Dev.rd, Dev.wr, NMap.get_set, h]

theorem Dev.rd_wr_ne (s : Dev) {f g : Field} (i j v : Nat) (h : f.id ≠ g.id) : (s.wr f i v).rd g j = s.rd g j := by
  simp [Dev.rd, Dev.wr, NMap.get_set, h]

theorem Dev.rd_wr_same (s : Dev) (f : Field) (i j v : Nat) :
    (s.wr f i v).rd f j = if i = j then v % 2 ^ f.width else s.rd f j := by
  split
  · subst_vars; exact Dev.rd_wr_self s f _ v
  · rename_i h; exact Dev.rd_wr_key s f v h

@[simp] theorem Dev.rd_reset (f : Field) (i : Nat) : ({} : Dev).rd f i = f.rst := rfl

@[simp] theorem Dev.byte_putByte_self (s : Dev) (a : Nat) (b : Byte) : (s.putByte a b).byte a = b := by
  simp [Dev.byte, Dev.putByte]

theorem Dev.byte_putByte_ne (s : Dev) {a c : Nat} (b : Byte) (h : a ≠ c) : (s.putByte a b).byte c = s.byte c := by
  simp [Dev.byte, Dev.putByte, NMap.get_set, h]

@[simp] theorem Dev.rd_putByte (s : Dev) (a : Nat) (b : Byte) (f : Field) (i : Nat) : (s.putByte a b).rd f i = s.rd f i := rfl
@[simp] theorem Dev.rd_setTile (s : Dev) (t : Nat) (v : Tile) (f : Field) (i : Nat) : (s.setTile t v).rd f i = s.rd f i := rfl
@[simp] theorem Dev.rd_modQueue (s : Dev) (q : Nat) (g : Queue → Queue) (f : Field) (i : Nat) : (s.modQueue q g).rd f i = s.rd f i := rfl
@[simp] theorem Dev.byte_wr (s : Dev) (f : Field) (i v a : Nat) : (s.wr f i v).byte a = s.byte a := rfl
@[simp] theorem Dev.byte_setTile (s : Dev) (t : Nat) (v : Tile) (a : Nat) : (s.setTile t v).byte a = s.byte a := rfl
@[simp] theorem Dev.byte_modQueue (s : Dev) (q : Nat) (g : Queue → Queue) (a : Nat) : (s.modQueue q g).byte a = s.byte a := rfl
@[simp] theorem Dev.tile_wr (s : Dev) (f : Field) (i v t : Nat) : (s.wr f i v).tile t = s.tile t := rfl
@[simp] theorem Dev.tile_putByte (s : Dev) (a : Nat) (b : Byte) (t : Nat) : (s.putByte a b).tile t = s.tile t := rfl
@[simp] theorem Dev.tile_modQueue (s : Dev) (q : Nat) (g : Queue → Queue) (t : Nat) : (s.modQueue q g).tile t = s.tile t := rfl
@[simp] theorem Dev.queue_wr (s : Dev) (f : Field) (i v q : Nat) : (s.wr f i v).queue q = s.queue q := rfl
@[simp] theorem Dev.queue_putByte (s : Dev) (a : Nat) (b : Byte) (q : Nat) : (s.putByte a b).queue q = s.queue q := rfl
@[simp] theorem Dev.queue_setTile (s : Dev) (t : Nat) (v : Tile) (q : Nat) : (s.setTile t v).queue q = s.queue q := rfl

@[simp] theorem Dev.tile_setTile_self (s : Dev) (t : Nat) (v : Tile) : (s.setTile t v).tile t = v := by
  simp [Dev.tile, Dev.setTile]

theorem Dev.tile_setTile_ne (s : Dev) {t u : Nat} (v : Tile) (h : t ≠ u) : (s.setTile t v).tile u = s.tile u := by
  simp [Dev.tile, Dev.setTile, NMap.get_set, h]

@[simp] theorem Dev.queue_modQueue_self (s : Dev) (q : Nat) (f : Queue → Queue) : (s.modQueue q f).queue q = f (s.queue q) := by
  simp [Dev.queue, Dev.modQueue]

theorem Dev.queue_modQueue_ne (s : Dev) {q r : Nat} (f : Queue → Queue) (h : q ≠ r) : (s.modQueue q f).queue r = s.queue r := by
  simp [Dev.queue, Dev.modQueue, NMap.get_set, h]

end Sys2Proof.Machine
end

