-- ==== Sys2Proof/Laws/Ops.lean ====
section
/-! SUPPORT. What each shared operation can do, said once: counting, reporting an event, tracing, storing bytes, finishing a
command, and the access checks of a register write. -/
namespace Sys2Proof.Machine

/-! Counting -/

/-- Everything a counter update can do. -/
theorem Dev.bump_cases (s : Dev) (f : Field) (i n : Nat) : s.bump f i n = s ∨ s.bump f i n = s.wr f i (s.rd f i + n) := by
  unfold Dev.bump; split <;> simp

theorem Dev.rd_bump_ne (s : Dev) {f g : Field} (i j n : Nat) (h : f.id ≠ g.id) : (s.bump f i n).rd g j = s.rd g j := by
  obtain h' | h' := s.bump_cases f i n <;> rw [h']
  exact Dev.rd_wr_ne s i j _ h

theorem Dev.rd_bump_key (s : Dev) (f : Field) {i j : Nat} (n : Nat) (h : i ≠ j) : (s.bump f i n).rd f j = s.rd f j := by
  obtain h' | h' := s.bump_cases f i n <;> rw [h']
  exact Dev.rd_wr_key s f _ h

/-- A counter that is not frozen counts. -/
theorem Dev.rd_bump_self (s : Dev) (f : Field) (i n : Nat) (h : s.flag Reg.PAGE_CTRL_CNT_FREEZE (pageOfKey f i) = false) :
    (s.bump f i n).rd f i = (s.rd f i + n) % 2 ^ f.width := by
  simp [Dev.bump, h]

/-! Logging: events, interrupts and trace records -/

theorem Dev.Logged.refl (s : Dev) : s.Logged s := ⟨rfl, fun _ _ _ => rfl, fun _ _ _ h => h⟩

theorem Dev.Logged.trans {s t u : Dev} (h : s.Logged t) (k : t.Logged u) : s.Logged u := by
  refine ⟨?_, fun f i a => (k.regs f i a).trans (h.regs f i a), fun p j hj b => k.errs p j hj (h.errs p j hj b)⟩
  have hr := h.rest; have kr := k.rest
  rw [hr] at kr; exact kr

theorem Dev.Logged.of_wr (s : Dev) (f : Field) (i v : Nat) (h : f.plain = false) (h' : f.id ≠ Reg.PAGE_ERR.id) :
    s.Logged (s.wr f i v) := by
  refine ⟨rfl, fun g j a => Dev.rd_wr_ne s i j v ?_, fun p j _ b => ?_⟩
  · intro e; simp only [Field.plain, e] at h; simp only [Field.plain, h] at a; exact absurd a (by decide)
  · rw [Dev.rd_wr_ne s i p v h']; exact b

theorem Dev.Logged.of_bump (s : Dev) (f : Field) (i n : Nat) (h : f.plain = false) (h' : f.id ≠ Reg.PAGE_ERR.id) :
    s.Logged (s.bump f i n) := by
  obtain e | e := s.bump_cases f i n <;> rw [e]
  · exact .refl s
  · exact .of_wr s f i _ h h'

theorem Dev.Logged.of_putByte (s : Dev) (a : Nat) (b : Byte) : s.Logged (s.putByte a b) := ⟨rfl, fun _ _ _ => rfl, fun _ _ _ h => h⟩

theorem Dev.Logged.of_putBytes (s : Dev) (a : Nat) (bs : List Byte) : s.Logged (s.putBytes a bs) := by
  induction bs generalizing s a with
  | nil => exact .refl s
  | cons b r ih => exact (Dev.Logged.of_putByte s a b).trans (ih _ _)

theorem Dev.Logged.of_seq (u : Dev) (m l : NMap Nat) : u.Logged { u with trSeq := m, trLost := l } := ⟨rfl, fun _ _ _ => rfl, fun _ _ _ h => h⟩

theorem Dev.Logged.of_lost (u : Dev) (l : NMap Nat) : u.Logged { u with trLost := l } := ⟨rfl, fun _ _ _ => rfl, fun _ _ _ h => h⟩

theorem Dev.Logged.of_num (u : Dev) (m : NMap Nat) : u.Logged { u with trSeq := m } := ⟨rfl, fun _ _ _ => rfl, fun _ _ _ h => h⟩

/-- The bits that `setErr` leaves in PAGE_ERR. -/
theorem foldl_or_testBit (l : List Nat) (x j : Nat) :
    (l.foldl (fun e i => e ||| 2 ^ i) x).testBit j = (x.testBit j || decide (j ∈ l)) := by
  induction l generalizing x with
  | nil => simp
  | cons a r ih =>
    simp only [List.foldl_cons, ih, Nat.testBit_or, Nat.testBit_two_pow, List.mem_cons]
    by_cases h : a = j
    · subst h; simp
    · simp [h, Ne.symm h]

/-- An event that is not masked shows in PAGE_ERR, and no bit is lost. -/
theorem Dev.setErr_bit (s : Dev) (p m j : Nat) (hj : j < 64) :
    ((s.setErr p m).rd Reg.PAGE_ERR p).testBit j =
      ((s.rd Reg.PAGE_ERR p).testBit j || (m.testBit j && !(s.rd Reg.PAGE_ERR_MASK p).testBit j)) := by
  have : (s.setErr p m).rd Reg.PAGE_ERR p =
      (((bitsSet 64 m).filter (fun i => !(s.rd Reg.PAGE_ERR_MASK p).testBit i)).foldl (fun e i => e ||| 2 ^ i) (s.rd Reg.PAGE_ERR p)) % 2 ^ 64 := by
    unfold Dev.setErr Dev.irqEdge
    dsimp only
    split
    · show (s.wr _ _ _).rd _ _ = _; simp [Dev.rd_wr_self]; rfl
    · simp [Dev.rd_wr_self]; rfl
  rw [this, Nat.testBit_mod_two_pow, foldl_or_testBit]
  simp only [hj, decide_true, Bool.true_and, bitsSet, List.mem_filter, List.mem_range, Bool.not_eq_true']
  by_cases hb : m.testBit j <;> by_cases hm : (s.rd Reg.PAGE_ERR_MASK p).testBit j <;> simp [hb, hm]

theorem Dev.rd_setErr_ne (s : Dev) (p m : Nat) {q : Nat} (h : p ≠ q) : (s.setErr p m).rd Reg.PAGE_ERR q = s.rd Reg.PAGE_ERR q := by
  unfold Dev.setErr Dev.irqEdge
  dsimp only
  split
  · exact Dev.rd_wr_key s _ _ h
  · exact Dev.rd_wr_key s _ _ h

theorem Dev.setErr_logged (s : Dev) (p m : Nat) : s.Logged (s.setErr p m) := by
  refine ⟨?_, fun f i a => ?_, fun q j hj b => ?_⟩
  · unfold Dev.setErr Dev.irqEdge; dsimp only; split <;> rfl
  · have h : Reg.PAGE_ERR.id ≠ f.id := by
      intro e; simp only [Field.plain, ← e] at a; exact absurd a (by decide)
    unfold Dev.setErr Dev.irqEdge
    dsimp only
    split <;> exact Dev.rd_wr_ne s _ _ _ h
  · by_cases e : p = q
    · subst e; rw [Dev.setErr_bit s p m j hj, b]; rfl
    · rw [Dev.rd_setErr_ne s p m e]; exact b

theorem Dev.tracePut_logged (s : Dev) (p : Nat) (r : List Byte) : s.Logged (s.tracePut p r) := by
  unfold Dev.tracePut
  exact (((Dev.Logged.of_putBytes s _ r).trans (.of_wr _ Reg.TR_HEAD_RECORD p _ (by decide) (by decide))).trans
    (.of_num _ _)).trans ((Dev.Logged.of_bump _ Reg.TR_RECORDS p 1 (by decide) (by decide)).trans (.of_bump _ Reg.TR_BYTES 0 64 (by decide) (by decide)))

theorem Dev.traceShow_logged (s : Dev) (p : Nat) : s.Logged (s.traceShow p) := by
  unfold Dev.traceShow
  have h := fun v => Dev.Logged.of_wr s Reg.TR_HEAD_FULL p v (by decide) (by decide)
  dsimp only
  split
  · exact (h _).trans (Dev.setErr_logged _ _ _)
  · exact h _

theorem Dev.traceDrop_logged (s : Dev) (p : Nat) : s.Logged (s.traceDrop p) := by
  unfold Dev.traceDrop
  dsimp only
  refine Dev.Logged.trans ?_ (Dev.traceShow_logged _ p)
  refine Dev.Logged.trans ?_ (Dev.setErr_logged _ _ _)
  refine Dev.Logged.trans (Dev.Logged.trans ?_ (.of_bump _ Reg.TR_DROPPED p 1 (by decide) (by decide))) (.of_bump _ Reg.TR_DROPPED_ALL 0 1 (by decide) (by decide))
  exact .of_seq _ _ _

theorem Dev.trace_logged (s : Dev) (p typ agent status layer op : Nat) (pay : List Nat) :
    s.Logged (s.trace p typ agent status layer op pay) := by
  have key : ∀ (u : Dev) (x : Bool) (r : List Byte), s.Logged u →
      s.Logged (if x = true then u.traceDrop p else (u.tracePut p r).traceShow p) := by
    intro u x r hu
    split
    · exact hu.trans (Dev.traceDrop_logged u p)
    · exact (hu.trans (Dev.tracePut_logged u p r)).trans (Dev.traceShow_logged _ p)
  unfold Dev.trace
  split
  · exact .refl s
  · split
    · exact Dev.traceDrop_logged s p
    · refine key _ _ _ ?_
      split
      · exact .refl s
      · exact (Dev.tracePut_logged s p _).trans (.of_lost _ _)

/-- Everything reporting an event can do. -/
theorem Dev.reportAs_logged (s : Dev) (e : Event) (i p d0 d1 : Nat) (w : Option Cmd) : s.Logged (s.reportAs e i p d0 d1 w) := by
  unfold Dev.reportAs
  dsimp only
  split
  · exact (Dev.setErr_logged s _ _).trans (Dev.trace_logged _ _ _ _ _ _ _ _)
  · exact Dev.setErr_logged s _ _

theorem Dev.reportP_logged (s : Dev) (e : Event) (i p d0 d1 : Nat) : s.Logged (s.reportP e i p d0 d1) :=
  Dev.reportAs_logged s e i p d0 d1 none

theorem Dev.report_logged (s : Dev) (e : Event) (i : Nat) : s.Logged (s.report e i) := Dev.reportP_logged s e i _ 0 0

/-- An event that is not masked shows in PAGE_ERR once reported. -/
theorem Dev.shows_reportAs (s : Dev) (e : Event) (i p d0 d1 : Nat) (w : Option Cmd) (he : e.bit < 64) (h : s.masks e i = false) :
    (s.reportAs e i p d0 d1 w).shows e i = true := by
  unfold Dev.shows Dev.masks at *
  have k : ((s.setErr (pageOf e.blk i) (2 ^ e.bit)).rd Reg.PAGE_ERR (pageOf e.blk i)).testBit e.bit = true := by
    rw [Dev.setErr_bit _ _ _ _ he]; simp [h, Nat.testBit_two_pow_self]
  unfold Dev.reportAs
  dsimp only
  split
  · exact (Dev.trace_logged _ _ _ _ _ _ _ _).errs _ _ he k
  · exact k

theorem Dev.shows_reportP (s : Dev) (e : Event) (i p d0 d1 : Nat) (he : e.bit < 64) (h : s.masks e i = false) :
    (s.reportP e i p d0 d1).shows e i = true := Dev.shows_reportAs s e i p d0 d1 none he h

theorem Dev.shows_report (s : Dev) (e : Event) (i : Nat) (he : e.bit < 64) (h : s.masks e i = false) :
    (s.report e i).shows e i = true := Dev.shows_reportP s e i _ 0 0 he h

/-- Without a trace ring that runs, reporting writes no memory. -/
theorem Dev.reportAs_mem (s : Dev) (e : Event) (i p d0 d1 : Nat) (w : Option Cmd) (h : s.flag Reg.TR_CTRL_EN 0 = false) :
    (s.reportAs e i p d0 d1 w).mem = s.mem := by
  have he : ∀ m, (s.setErr (pageOf e.blk i) m).mem = s.mem := by intro m; unfold Dev.setErr Dev.irqEdge; dsimp only; split <;> rfl
  have hf : ∀ m, (s.setErr (pageOf e.blk i) m).traceOn p = false := by
    intro m
    have : (s.setErr (pageOf e.blk i) m).rd Reg.TR_CTRL_EN 0 = s.rd Reg.TR_CTRL_EN 0 := by
      unfold Dev.setErr Dev.irqEdge
      dsimp only
      split <;> exact Dev.rd_wr_ne s _ _ _ (by decide)
    simp only [Dev.flag] at h
    simp [Dev.traceOn, Dev.flag, this, h]
  unfold Dev.reportAs
  dsimp only
  split
  · simp [Dev.trace, hf, he]
  · exact he _

theorem Dev.reportP_mem (s : Dev) (e : Event) (i p d0 d1 : Nat) (h : s.flag Reg.TR_CTRL_EN 0 = false) :
    (s.reportP e i p d0 d1).mem = s.mem := Dev.reportAs_mem s e i p d0 d1 none h

theorem Dev.Reports.refl (s : Dev) : s.Reports s := ⟨.refl s, fun _ => rfl⟩

theorem Dev.Reports.trans {s t u : Dev} (h : s.Reports t) (k : t.Reports u) : s.Reports u := by
  refine ⟨h.1.trans k.1, fun a => ?_⟩
  have b : t.untraced := by
    unfold Dev.untraced Dev.flag at *
    rw [h.1.regs _ _ (by decide)]; exact a
  rw [k.2 b, h.2 a]

theorem Dev.reportAs_reports (s : Dev) (e : Event) (i p d0 d1 : Nat) (w : Option Cmd) : s.Reports (s.reportAs e i p d0 d1 w) :=
  ⟨Dev.reportAs_logged s e i p d0 d1 w, Dev.reportAs_mem s e i p d0 d1 w⟩

theorem Dev.reportP_reports (s : Dev) (e : Event) (i p d0 d1 : Nat) : s.Reports (s.reportP e i p d0 d1) :=
  ⟨Dev.reportP_logged s e i p d0 d1, Dev.reportP_mem s e i p d0 d1⟩

theorem Dev.report_reports (s : Dev) (e : Event) (i : Nat) : s.Reports (s.report e i) := Dev.reportP_reports s e i _ 0 0

theorem Dev.report_mem (s : Dev) (e : Event) (i : Nat) (h : s.flag Reg.TR_CTRL_EN 0 = false) : (s.report e i).mem = s.mem :=
  Dev.reportP_mem s e i _ 0 0 h


/-! setErr leaves everything but registers, memory, interrupts and the trace counters -/

@[simp] theorem Dev.setErr_badMem (s : Dev) (p m : Nat) : (s.setErr p m).badMem = s.badMem :=
  (congrArg Dev.badMem (Dev.setErr_logged s p m).rest :)
@[simp] theorem Dev.setErr_now (s : Dev) (p m : Nat) : (s.setErr p m).now = s.now :=
  (congrArg Dev.now (Dev.setErr_logged s p m).rest :)
@[simp] theorem Dev.setErr_mono (s : Dev) (p m : Nat) : (s.setErr p m).mono = s.mono :=
  (congrArg Dev.mono (Dev.setErr_logged s p m).rest :)
@[simp] theorem Dev.setErr_seed (s : Dev) (p m : Nat) : (s.setErr p m).seed = s.seed :=
  (congrArg Dev.seed (Dev.setErr_logged s p m).rest :)
@[simp] theorem Dev.setErr_tiles (s : Dev) (p m : Nat) : (s.setErr p m).tiles = s.tiles :=
  (congrArg Dev.tiles (Dev.setErr_logged s p m).rest :)
@[simp] theorem Dev.setErr_queues (s : Dev) (p m : Nat) : (s.setErr p m).queues = s.queues :=
  (congrArg Dev.queues (Dev.setErr_logged s p m).rest :)
@[simp] theorem Dev.setErr_sfwDrv (s : Dev) (p m : Nat) : (s.setErr p m).sfwDrv = s.sfwDrv :=
  (congrArg Dev.sfwDrv (Dev.setErr_logged s p m).rest :)
@[simp] theorem Dev.setErr_arb (s : Dev) (p m : Nat) : (s.setErr p m).arb = s.arb :=
  (congrArg Dev.arb (Dev.setErr_logged s p m).rest :)
@[simp] theorem Dev.setErr_work (s : Dev) (p m : Nat) : (s.setErr p m).work = s.work :=
  (congrArg Dev.work (Dev.setErr_logged s p m).rest :)
@[simp] theorem Dev.setErr_xfers (s : Dev) (p m : Nat) : (s.setErr p m).xfers = s.xfers :=
  (congrArg Dev.xfers (Dev.setErr_logged s p m).rest :)
@[simp] theorem Dev.setErr_dmaWait (s : Dev) (p m : Nat) : (s.setErr p m).dmaWait = s.dmaWait :=
  (congrArg Dev.dmaWait (Dev.setErr_logged s p m).rest :)
@[simp] theorem Dev.setErr_nextXfer (s : Dev) (p m : Nat) : (s.setErr p m).nextXfer = s.nextXfer :=
  (congrArg Dev.nextXfer (Dev.setErr_logged s p m).rest :)
@[simp] theorem Dev.setErr_engines (s : Dev) (p m : Nat) : (s.setErr p m).engines = s.engines :=
  (congrArg Dev.engines (Dev.setErr_logged s p m).rest :)
@[simp] theorem Dev.setErr_launches (s : Dev) (p m : Nat) : (s.setErr p m).launches = s.launches :=
  (congrArg Dev.launches (Dev.setErr_logged s p m).rest :)
@[simp] theorem Dev.setErr_coilOps (s : Dev) (p m : Nat) : (s.setErr p m).coilOps = s.coilOps :=
  (congrArg Dev.coilOps (Dev.setErr_logged s p m).rest :)
@[simp] theorem Dev.setErr_coil (s : Dev) (p m : Nat) : (s.setErr p m).coil = s.coil :=
  (congrArg Dev.coil (Dev.setErr_logged s p m).rest :)
@[simp] theorem Dev.setErr_knots (s : Dev) (p m : Nat) : (s.setErr p m).knots = s.knots :=
  (congrArg Dev.knots (Dev.setErr_logged s p m).rest :)
@[simp] theorem Dev.setErr_feWords (s : Dev) (p m : Nat) : (s.setErr p m).feWords = s.feWords :=
  (congrArg Dev.feWords (Dev.setErr_logged s p m).rest :)
@[simp] theorem Dev.setErr_feParked (s : Dev) (p m : Nat) : (s.setErr p m).feParked = s.feParked :=
  (congrArg Dev.feParked (Dev.setErr_logged s p m).rest :)
@[simp] theorem Dev.setErr_waits (s : Dev) (p m : Nat) : (s.setErr p m).waits = s.waits :=
  (congrArg Dev.waits (Dev.setErr_logged s p m).rest :)
@[simp] theorem Dev.setErr_nextWait (s : Dev) (p m : Nat) : (s.setErr p m).nextWait = s.nextWait :=
  (congrArg Dev.nextWait (Dev.setErr_logged s p m).rest :)
@[simp] theorem Dev.setErr_syEvents (s : Dev) (p m : Nat) : (s.setErr p m).syEvents = s.syEvents :=
  (congrArg Dev.syEvents (Dev.setErr_logged s p m).rest :)
@[simp] theorem Dev.setErr_dlList (s : Dev) (p m : Nat) : (s.setErr p m).dlList = s.dlList :=
  (congrArg Dev.dlList (Dev.setErr_logged s p m).rest :)
@[simp] theorem Dev.setErr_dlReported (s : Dev) (p m : Nat) : (s.setErr p m).dlReported = s.dlReported :=
  (congrArg Dev.dlReported (Dev.setErr_logged s p m).rest :)
@[simp] theorem Dev.setErr_served (s : Dev) (p m : Nat) : (s.setErr p m).served = s.served :=
  (congrArg Dev.served (Dev.setErr_logged s p m).rest :)
@[simp] theorem Dev.setErr_parts (s : Dev) (p m : Nat) : (s.setErr p m).parts = s.parts :=
  (congrArg Dev.parts (Dev.setErr_logged s p m).rest :)
@[simp] theorem Dev.setErr_zeroing (s : Dev) (p m : Nat) : (s.setErr p m).zeroing = s.zeroing :=
  (congrArg Dev.zeroing (Dev.setErr_logged s p m).rest :)
@[simp] theorem Dev.setErr_engOwner (s : Dev) (p m : Nat) : (s.setErr p m).engOwner = s.engOwner :=
  (congrArg Dev.engOwner (Dev.setErr_logged s p m).rest :)
@[simp] theorem Dev.setErr_brk (s : Dev) (p m : Nat) : (s.setErr p m).brk = s.brk :=
  (congrArg Dev.brk (Dev.setErr_logged s p m).rest :)
@[simp] theorem Dev.setErr_branches (s : Dev) (p m : Nat) : (s.setErr p m).branches = s.branches :=
  (congrArg Dev.branches (Dev.setErr_logged s p m).rest :)
@[simp] theorem Dev.setErr_fwHalted (s : Dev) (p m : Nat) : (s.setErr p m).fwHalted = s.fwHalted :=
  (congrArg Dev.fwHalted (Dev.setErr_logged s p m).rest :)
@[simp] theorem Dev.setErr_rate (s : Dev) (p m : Nat) : (s.setErr p m).rate = s.rate :=
  (congrArg Dev.rate (Dev.setErr_logged s p m).rest :)
@[simp] theorem Dev.setErr_frames (s : Dev) (p m : Nat) : (s.setErr p m).frames = s.frames :=
  (congrArg Dev.frames (Dev.setErr_logged s p m).rest :)
@[simp] theorem Dev.setErr_rings (s : Dev) (p m : Nat) : (s.setErr p m).rings = s.rings :=
  (congrArg Dev.rings (Dev.setErr_logged s p m).rest :)
@[simp] theorem Dev.setErr_rails (s : Dev) (p m : Nat) : (s.setErr p m).rails = s.rails :=
  (congrArg Dev.rails (Dev.setErr_logged s p m).rest :)
@[simp] theorem Dev.setErr_ll (s : Dev) (p m : Nat) : (s.setErr p m).ll = s.ll :=
  (congrArg Dev.ll (Dev.setErr_logged s p m).rest :)
@[simp] theorem Dev.setErr_syscal (s : Dev) (p m : Nat) : (s.setErr p m).syscal = s.syscal :=
  (congrArg Dev.syscal (Dev.setErr_logged s p m).rest :)
@[simp] theorem Dev.setErr_combs (s : Dev) (p m : Nat) : (s.setErr p m).combs = s.combs :=
  (congrArg Dev.combs (Dev.setErr_logged s p m).rest :)
@[simp] theorem Dev.setErr_optics (s : Dev) (p m : Nat) : (s.setErr p m).optics = s.optics :=
  (congrArg Dev.optics (Dev.setErr_logged s p m).rest :)
@[simp] theorem Dev.setErr_fabric (s : Dev) (p m : Nat) : (s.setErr p m).fabric = s.fabric :=
  (congrArg Dev.fabric (Dev.setErr_logged s p m).rest :)
@[simp] theorem Dev.setErr_boot (s : Dev) (p m : Nat) : (s.setErr p m).boot = s.boot :=
  (congrArg Dev.boot (Dev.setErr_logged s p m).rest :)
theorem Dev.rd_setErr (s : Dev) (p m : Nat) {f : Field} (j : Nat) (h : f.plain = true) : (s.setErr p m).rd f j = s.rd f j :=
  (Dev.setErr_logged s p m).regs f j h
@[simp] theorem Dev.tile_setErr (s : Dev) (p m : Nat) (t : Nat) : (s.setErr p m).tile t = s.tile t := by simp [Dev.tile]
@[simp] theorem Dev.queue_setErr (s : Dev) (p m : Nat) (t : Nat) : (s.setErr p m).queue t = s.queue t := by simp [Dev.queue]

/-! report leaves everything but registers, memory, interrupts and the trace counters -/

@[simp] theorem Dev.report_badMem (s : Dev) (e : Event) (i : Nat) : (s.report e i).badMem = s.badMem :=
  (congrArg Dev.badMem (Dev.report_logged s e i).rest :)
@[simp] theorem Dev.report_now (s : Dev) (e : Event) (i : Nat) : (s.report e i).now = s.now :=
  (congrArg Dev.now (Dev.report_logged s e i).rest :)
@[simp] theorem Dev.report_mono (s : Dev) (e : Event) (i : Nat) : (s.report e i).mono = s.mono :=
  (congrArg Dev.mono (Dev.report_logged s e i).rest :)
@[simp] theorem Dev.report_seed (s : Dev) (e : Event) (i : Nat) : (s.report e i).seed = s.seed :=
  (congrArg Dev.seed (Dev.report_logged s e i).rest :)
@[simp] theorem Dev.report_tiles (s : Dev) (e : Event) (i : Nat) : (s.report e i).tiles = s.tiles :=
  (congrArg Dev.tiles (Dev.report_logged s e i).rest :)
@[simp] theorem Dev.report_queues (s : Dev) (e : Event) (i : Nat) : (s.report e i).queues = s.queues :=
  (congrArg Dev.queues (Dev.report_logged s e i).rest :)
@[simp] theorem Dev.report_sfwDrv (s : Dev) (e : Event) (i : Nat) : (s.report e i).sfwDrv = s.sfwDrv :=
  (congrArg Dev.sfwDrv (Dev.report_logged s e i).rest :)
@[simp] theorem Dev.report_arb (s : Dev) (e : Event) (i : Nat) : (s.report e i).arb = s.arb :=
  (congrArg Dev.arb (Dev.report_logged s e i).rest :)
@[simp] theorem Dev.report_work (s : Dev) (e : Event) (i : Nat) : (s.report e i).work = s.work :=
  (congrArg Dev.work (Dev.report_logged s e i).rest :)
@[simp] theorem Dev.report_xfers (s : Dev) (e : Event) (i : Nat) : (s.report e i).xfers = s.xfers :=
  (congrArg Dev.xfers (Dev.report_logged s e i).rest :)
@[simp] theorem Dev.report_dmaWait (s : Dev) (e : Event) (i : Nat) : (s.report e i).dmaWait = s.dmaWait :=
  (congrArg Dev.dmaWait (Dev.report_logged s e i).rest :)
@[simp] theorem Dev.report_nextXfer (s : Dev) (e : Event) (i : Nat) : (s.report e i).nextXfer = s.nextXfer :=
  (congrArg Dev.nextXfer (Dev.report_logged s e i).rest :)
@[simp] theorem Dev.report_engines (s : Dev) (e : Event) (i : Nat) : (s.report e i).engines = s.engines :=
  (congrArg Dev.engines (Dev.report_logged s e i).rest :)
@[simp] theorem Dev.report_launches (s : Dev) (e : Event) (i : Nat) : (s.report e i).launches = s.launches :=
  (congrArg Dev.launches (Dev.report_logged s e i).rest :)
@[simp] theorem Dev.report_coilOps (s : Dev) (e : Event) (i : Nat) : (s.report e i).coilOps = s.coilOps :=
  (congrArg Dev.coilOps (Dev.report_logged s e i).rest :)
@[simp] theorem Dev.report_coil (s : Dev) (e : Event) (i : Nat) : (s.report e i).coil = s.coil :=
  (congrArg Dev.coil (Dev.report_logged s e i).rest :)
@[simp] theorem Dev.report_knots (s : Dev) (e : Event) (i : Nat) : (s.report e i).knots = s.knots :=
  (congrArg Dev.knots (Dev.report_logged s e i).rest :)
@[simp] theorem Dev.report_feWords (s : Dev) (e : Event) (i : Nat) : (s.report e i).feWords = s.feWords :=
  (congrArg Dev.feWords (Dev.report_logged s e i).rest :)
@[simp] theorem Dev.report_feParked (s : Dev) (e : Event) (i : Nat) : (s.report e i).feParked = s.feParked :=
  (congrArg Dev.feParked (Dev.report_logged s e i).rest :)
@[simp] theorem Dev.report_waits (s : Dev) (e : Event) (i : Nat) : (s.report e i).waits = s.waits :=
  (congrArg Dev.waits (Dev.report_logged s e i).rest :)
@[simp] theorem Dev.report_nextWait (s : Dev) (e : Event) (i : Nat) : (s.report e i).nextWait = s.nextWait :=
  (congrArg Dev.nextWait (Dev.report_logged s e i).rest :)
@[simp] theorem Dev.report_syEvents (s : Dev) (e : Event) (i : Nat) : (s.report e i).syEvents = s.syEvents :=
  (congrArg Dev.syEvents (Dev.report_logged s e i).rest :)
@[simp] theorem Dev.report_dlList (s : Dev) (e : Event) (i : Nat) : (s.report e i).dlList = s.dlList :=
  (congrArg Dev.dlList (Dev.report_logged s e i).rest :)
@[simp] theorem Dev.report_dlReported (s : Dev) (e : Event) (i : Nat) : (s.report e i).dlReported = s.dlReported :=
  (congrArg Dev.dlReported (Dev.report_logged s e i).rest :)
@[simp] theorem Dev.report_served (s : Dev) (e : Event) (i : Nat) : (s.report e i).served = s.served :=
  (congrArg Dev.served (Dev.report_logged s e i).rest :)
@[simp] theorem Dev.report_parts (s : Dev) (e : Event) (i : Nat) : (s.report e i).parts = s.parts :=
  (congrArg Dev.parts (Dev.report_logged s e i).rest :)
@[simp] theorem Dev.report_zeroing (s : Dev) (e : Event) (i : Nat) : (s.report e i).zeroing = s.zeroing :=
  (congrArg Dev.zeroing (Dev.report_logged s e i).rest :)
@[simp] theorem Dev.report_engOwner (s : Dev) (e : Event) (i : Nat) : (s.report e i).engOwner = s.engOwner :=
  (congrArg Dev.engOwner (Dev.report_logged s e i).rest :)
@[simp] theorem Dev.report_brk (s : Dev) (e : Event) (i : Nat) : (s.report e i).brk = s.brk :=
  (congrArg Dev.brk (Dev.report_logged s e i).rest :)
@[simp] theorem Dev.report_branches (s : Dev) (e : Event) (i : Nat) : (s.report e i).branches = s.branches :=
  (congrArg Dev.branches (Dev.report_logged s e i).rest :)
@[simp] theorem Dev.report_fwHalted (s : Dev) (e : Event) (i : Nat) : (s.report e i).fwHalted = s.fwHalted :=
  (congrArg Dev.fwHalted (Dev.report_logged s e i).rest :)
@[simp] theorem Dev.report_rate (s : Dev) (e : Event) (i : Nat) : (s.report e i).rate = s.rate :=
  (congrArg Dev.rate (Dev.report_logged s e i).rest :)
@[simp] theorem Dev.report_frames (s : Dev) (e : Event) (i : Nat) : (s.report e i).frames = s.frames :=
  (congrArg Dev.frames (Dev.report_logged s e i).rest :)
@[simp] theorem Dev.report_rings (s : Dev) (e : Event) (i : Nat) : (s.report e i).rings = s.rings :=
  (congrArg Dev.rings (Dev.report_logged s e i).rest :)
@[simp] theorem Dev.report_rails (s : Dev) (e : Event) (i : Nat) : (s.report e i).rails = s.rails :=
  (congrArg Dev.rails (Dev.report_logged s e i).rest :)
@[simp] theorem Dev.report_ll (s : Dev) (e : Event) (i : Nat) : (s.report e i).ll = s.ll :=
  (congrArg Dev.ll (Dev.report_logged s e i).rest :)
@[simp] theorem Dev.report_syscal (s : Dev) (e : Event) (i : Nat) : (s.report e i).syscal = s.syscal :=
  (congrArg Dev.syscal (Dev.report_logged s e i).rest :)
@[simp] theorem Dev.report_combs (s : Dev) (e : Event) (i : Nat) : (s.report e i).combs = s.combs :=
  (congrArg Dev.combs (Dev.report_logged s e i).rest :)
@[simp] theorem Dev.report_optics (s : Dev) (e : Event) (i : Nat) : (s.report e i).optics = s.optics :=
  (congrArg Dev.optics (Dev.report_logged s e i).rest :)
@[simp] theorem Dev.report_fabric (s : Dev) (e : Event) (i : Nat) : (s.report e i).fabric = s.fabric :=
  (congrArg Dev.fabric (Dev.report_logged s e i).rest :)
@[simp] theorem Dev.report_boot (s : Dev) (e : Event) (i : Nat) : (s.report e i).boot = s.boot :=
  (congrArg Dev.boot (Dev.report_logged s e i).rest :)
theorem Dev.rd_report (s : Dev) (e : Event) (i : Nat) {f : Field} (j : Nat) (h : f.plain = true) : (s.report e i).rd f j = s.rd f j :=
  (Dev.report_logged s e i).regs f j h
@[simp] theorem Dev.tile_report (s : Dev) (e : Event) (i : Nat) (t : Nat) : (s.report e i).tile t = s.tile t := by simp [Dev.tile]
@[simp] theorem Dev.queue_report (s : Dev) (e : Event) (i : Nat) (t : Nat) : (s.report e i).queue t = s.queue t := by simp [Dev.queue]

/-! reportP leaves everything but registers, memory, interrupts and the trace counters -/

@[simp] theorem Dev.reportP_badMem (s : Dev) (e : Event) (i p a b : Nat) : (s.reportP e i p a b).badMem = s.badMem :=
  (congrArg Dev.badMem (Dev.reportP_logged s e i p a b).rest :)
@[simp] theorem Dev.reportP_now (s : Dev) (e : Event) (i p a b : Nat) : (s.reportP e i p a b).now = s.now :=
  (congrArg Dev.now (Dev.reportP_logged s e i p a b).rest :)
@[simp] theorem Dev.reportP_mono (s : Dev) (e : Event) (i p a b : Nat) : (s.reportP e i p a b).mono = s.mono :=
  (congrArg Dev.mono (Dev.reportP_logged s e i p a b).rest :)
@[simp] theorem Dev.reportP_seed (s : Dev) (e : Event) (i p a b : Nat) : (s.reportP e i p a b).seed = s.seed :=
  (congrArg Dev.seed (Dev.reportP_logged s e i p a b).rest :)
@[simp] theorem Dev.reportP_tiles (s : Dev) (e : Event) (i p a b : Nat) : (s.reportP e i p a b).tiles = s.tiles :=
  (congrArg Dev.tiles (Dev.reportP_logged s e i p a b).rest :)
@[simp] theorem Dev.reportP_queues (s : Dev) (e : Event) (i p a b : Nat) : (s.reportP e i p a b).queues = s.queues :=
  (congrArg Dev.queues (Dev.reportP_logged s e i p a b).rest :)
@[simp] theorem Dev.reportP_sfwDrv (s : Dev) (e : Event) (i p a b : Nat) : (s.reportP e i p a b).sfwDrv = s.sfwDrv :=
  (congrArg Dev.sfwDrv (Dev.reportP_logged s e i p a b).rest :)
@[simp] theorem Dev.reportP_arb (s : Dev) (e : Event) (i p a b : Nat) : (s.reportP e i p a b).arb = s.arb :=
  (congrArg Dev.arb (Dev.reportP_logged s e i p a b).rest :)
@[simp] theorem Dev.reportP_work (s : Dev) (e : Event) (i p a b : Nat) : (s.reportP e i p a b).work = s.work :=
  (congrArg Dev.work (Dev.reportP_logged s e i p a b).rest :)
@[simp] theorem Dev.reportP_xfers (s : Dev) (e : Event) (i p a b : Nat) : (s.reportP e i p a b).xfers = s.xfers :=
  (congrArg Dev.xfers (Dev.reportP_logged s e i p a b).rest :)
@[simp] theorem Dev.reportP_dmaWait (s : Dev) (e : Event) (i p a b : Nat) : (s.reportP e i p a b).dmaWait = s.dmaWait :=
  (congrArg Dev.dmaWait (Dev.reportP_logged s e i p a b).rest :)
@[simp] theorem Dev.reportP_nextXfer (s : Dev) (e : Event) (i p a b : Nat) : (s.reportP e i p a b).nextXfer = s.nextXfer :=
  (congrArg Dev.nextXfer (Dev.reportP_logged s e i p a b).rest :)
@[simp] theorem Dev.reportP_engines (s : Dev) (e : Event) (i p a b : Nat) : (s.reportP e i p a b).engines = s.engines :=
  (congrArg Dev.engines (Dev.reportP_logged s e i p a b).rest :)
@[simp] theorem Dev.reportP_launches (s : Dev) (e : Event) (i p a b : Nat) : (s.reportP e i p a b).launches = s.launches :=
  (congrArg Dev.launches (Dev.reportP_logged s e i p a b).rest :)
@[simp] theorem Dev.reportP_coilOps (s : Dev) (e : Event) (i p a b : Nat) : (s.reportP e i p a b).coilOps = s.coilOps :=
  (congrArg Dev.coilOps (Dev.reportP_logged s e i p a b).rest :)
@[simp] theorem Dev.reportP_coil (s : Dev) (e : Event) (i p a b : Nat) : (s.reportP e i p a b).coil = s.coil :=
  (congrArg Dev.coil (Dev.reportP_logged s e i p a b).rest :)
@[simp] theorem Dev.reportP_knots (s : Dev) (e : Event) (i p a b : Nat) : (s.reportP e i p a b).knots = s.knots :=
  (congrArg Dev.knots (Dev.reportP_logged s e i p a b).rest :)
@[simp] theorem Dev.reportP_feWords (s : Dev) (e : Event) (i p a b : Nat) : (s.reportP e i p a b).feWords = s.feWords :=
  (congrArg Dev.feWords (Dev.reportP_logged s e i p a b).rest :)
@[simp] theorem Dev.reportP_feParked (s : Dev) (e : Event) (i p a b : Nat) : (s.reportP e i p a b).feParked = s.feParked :=
  (congrArg Dev.feParked (Dev.reportP_logged s e i p a b).rest :)
@[simp] theorem Dev.reportP_waits (s : Dev) (e : Event) (i p a b : Nat) : (s.reportP e i p a b).waits = s.waits :=
  (congrArg Dev.waits (Dev.reportP_logged s e i p a b).rest :)
@[simp] theorem Dev.reportP_nextWait (s : Dev) (e : Event) (i p a b : Nat) : (s.reportP e i p a b).nextWait = s.nextWait :=
  (congrArg Dev.nextWait (Dev.reportP_logged s e i p a b).rest :)
@[simp] theorem Dev.reportP_syEvents (s : Dev) (e : Event) (i p a b : Nat) : (s.reportP e i p a b).syEvents = s.syEvents :=
  (congrArg Dev.syEvents (Dev.reportP_logged s e i p a b).rest :)
@[simp] theorem Dev.reportP_dlList (s : Dev) (e : Event) (i p a b : Nat) : (s.reportP e i p a b).dlList = s.dlList :=
  (congrArg Dev.dlList (Dev.reportP_logged s e i p a b).rest :)
@[simp] theorem Dev.reportP_dlReported (s : Dev) (e : Event) (i p a b : Nat) : (s.reportP e i p a b).dlReported = s.dlReported :=
  (congrArg Dev.dlReported (Dev.reportP_logged s e i p a b).rest :)
@[simp] theorem Dev.reportP_served (s : Dev) (e : Event) (i p a b : Nat) : (s.reportP e i p a b).served = s.served :=
  (congrArg Dev.served (Dev.reportP_logged s e i p a b).rest :)
@[simp] theorem Dev.reportP_parts (s : Dev) (e : Event) (i p a b : Nat) : (s.reportP e i p a b).parts = s.parts :=
  (congrArg Dev.parts (Dev.reportP_logged s e i p a b).rest :)
@[simp] theorem Dev.reportP_zeroing (s : Dev) (e : Event) (i p a b : Nat) : (s.reportP e i p a b).zeroing = s.zeroing :=
  (congrArg Dev.zeroing (Dev.reportP_logged s e i p a b).rest :)
@[simp] theorem Dev.reportP_engOwner (s : Dev) (e : Event) (i p a b : Nat) : (s.reportP e i p a b).engOwner = s.engOwner :=
  (congrArg Dev.engOwner (Dev.reportP_logged s e i p a b).rest :)
@[simp] theorem Dev.reportP_brk (s : Dev) (e : Event) (i p a b : Nat) : (s.reportP e i p a b).brk = s.brk :=
  (congrArg Dev.brk (Dev.reportP_logged s e i p a b).rest :)
@[simp] theorem Dev.reportP_branches (s : Dev) (e : Event) (i p a b : Nat) : (s.reportP e i p a b).branches = s.branches :=
  (congrArg Dev.branches (Dev.reportP_logged s e i p a b).rest :)
@[simp] theorem Dev.reportP_fwHalted (s : Dev) (e : Event) (i p a b : Nat) : (s.reportP e i p a b).fwHalted = s.fwHalted :=
  (congrArg Dev.fwHalted (Dev.reportP_logged s e i p a b).rest :)
@[simp] theorem Dev.reportP_rate (s : Dev) (e : Event) (i p a b : Nat) : (s.reportP e i p a b).rate = s.rate :=
  (congrArg Dev.rate (Dev.reportP_logged s e i p a b).rest :)
@[simp] theorem Dev.reportP_frames (s : Dev) (e : Event) (i p a b : Nat) : (s.reportP e i p a b).frames = s.frames :=
  (congrArg Dev.frames (Dev.reportP_logged s e i p a b).rest :)
@[simp] theorem Dev.reportP_rings (s : Dev) (e : Event) (i p a b : Nat) : (s.reportP e i p a b).rings = s.rings :=
  (congrArg Dev.rings (Dev.reportP_logged s e i p a b).rest :)
@[simp] theorem Dev.reportP_rails (s : Dev) (e : Event) (i p a b : Nat) : (s.reportP e i p a b).rails = s.rails :=
  (congrArg Dev.rails (Dev.reportP_logged s e i p a b).rest :)
@[simp] theorem Dev.reportP_ll (s : Dev) (e : Event) (i p a b : Nat) : (s.reportP e i p a b).ll = s.ll :=
  (congrArg Dev.ll (Dev.reportP_logged s e i p a b).rest :)
@[simp] theorem Dev.reportP_syscal (s : Dev) (e : Event) (i p a b : Nat) : (s.reportP e i p a b).syscal = s.syscal :=
  (congrArg Dev.syscal (Dev.reportP_logged s e i p a b).rest :)
@[simp] theorem Dev.reportP_combs (s : Dev) (e : Event) (i p a b : Nat) : (s.reportP e i p a b).combs = s.combs :=
  (congrArg Dev.combs (Dev.reportP_logged s e i p a b).rest :)
@[simp] theorem Dev.reportP_optics (s : Dev) (e : Event) (i p a b : Nat) : (s.reportP e i p a b).optics = s.optics :=
  (congrArg Dev.optics (Dev.reportP_logged s e i p a b).rest :)
@[simp] theorem Dev.reportP_fabric (s : Dev) (e : Event) (i p a b : Nat) : (s.reportP e i p a b).fabric = s.fabric :=
  (congrArg Dev.fabric (Dev.reportP_logged s e i p a b).rest :)
@[simp] theorem Dev.reportP_boot (s : Dev) (e : Event) (i p a b : Nat) : (s.reportP e i p a b).boot = s.boot :=
  (congrArg Dev.boot (Dev.reportP_logged s e i p a b).rest :)
theorem Dev.rd_reportP (s : Dev) (e : Event) (i p a b : Nat) {f : Field} (j : Nat) (h : f.plain = true) : (s.reportP e i p a b).rd f j = s.rd f j :=
  (Dev.reportP_logged s e i p a b).regs f j h
@[simp] theorem Dev.tile_reportP (s : Dev) (e : Event) (i p a b : Nat) (t : Nat) : (s.reportP e i p a b).tile t = s.tile t := by simp [Dev.tile]
@[simp] theorem Dev.queue_reportP (s : Dev) (e : Event) (i p a b : Nat) (t : Nat) : (s.reportP e i p a b).queue t = s.queue t := by simp [Dev.queue]

/-! reportAs leaves everything but registers, memory, interrupts and the trace counters -/

@[simp] theorem Dev.reportAs_badMem (s : Dev) (e : Event) (i p a b : Nat) (w : Option Cmd) : (s.reportAs e i p a b w).badMem = s.badMem :=
  (congrArg Dev.badMem (Dev.reportAs_logged s e i p a b w).rest :)
@[simp] theorem Dev.reportAs_now (s : Dev) (e : Event) (i p a b : Nat) (w : Option Cmd) : (s.reportAs e i p a b w).now = s.now :=
  (congrArg Dev.now (Dev.reportAs_logged s e i p a b w).rest :)
@[simp] theorem Dev.reportAs_mono (s : Dev) (e : Event) (i p a b : Nat) (w : Option Cmd) : (s.reportAs e i p a b w).mono = s.mono :=
  (congrArg Dev.mono (Dev.reportAs_logged s e i p a b w).rest :)
@[simp] theorem Dev.reportAs_seed (s : Dev) (e : Event) (i p a b : Nat) (w : Option Cmd) : (s.reportAs e i p a b w).seed = s.seed :=
  (congrArg Dev.seed (Dev.reportAs_logged s e i p a b w).rest :)
@[simp] theorem Dev.reportAs_tiles (s : Dev) (e : Event) (i p a b : Nat) (w : Option Cmd) : (s.reportAs e i p a b w).tiles = s.tiles :=
  (congrArg Dev.tiles (Dev.reportAs_logged s e i p a b w).rest :)
@[simp] theorem Dev.reportAs_queues (s : Dev) (e : Event) (i p a b : Nat) (w : Option Cmd) : (s.reportAs e i p a b w).queues = s.queues :=
  (congrArg Dev.queues (Dev.reportAs_logged s e i p a b w).rest :)
@[simp] theorem Dev.reportAs_sfwDrv (s : Dev) (e : Event) (i p a b : Nat) (w : Option Cmd) : (s.reportAs e i p a b w).sfwDrv = s.sfwDrv :=
  (congrArg Dev.sfwDrv (Dev.reportAs_logged s e i p a b w).rest :)
@[simp] theorem Dev.reportAs_arb (s : Dev) (e : Event) (i p a b : Nat) (w : Option Cmd) : (s.reportAs e i p a b w).arb = s.arb :=
  (congrArg Dev.arb (Dev.reportAs_logged s e i p a b w).rest :)
@[simp] theorem Dev.reportAs_work (s : Dev) (e : Event) (i p a b : Nat) (w : Option Cmd) : (s.reportAs e i p a b w).work = s.work :=
  (congrArg Dev.work (Dev.reportAs_logged s e i p a b w).rest :)
@[simp] theorem Dev.reportAs_xfers (s : Dev) (e : Event) (i p a b : Nat) (w : Option Cmd) : (s.reportAs e i p a b w).xfers = s.xfers :=
  (congrArg Dev.xfers (Dev.reportAs_logged s e i p a b w).rest :)
@[simp] theorem Dev.reportAs_dmaWait (s : Dev) (e : Event) (i p a b : Nat) (w : Option Cmd) : (s.reportAs e i p a b w).dmaWait = s.dmaWait :=
  (congrArg Dev.dmaWait (Dev.reportAs_logged s e i p a b w).rest :)
@[simp] theorem Dev.reportAs_nextXfer (s : Dev) (e : Event) (i p a b : Nat) (w : Option Cmd) : (s.reportAs e i p a b w).nextXfer = s.nextXfer :=
  (congrArg Dev.nextXfer (Dev.reportAs_logged s e i p a b w).rest :)
@[simp] theorem Dev.reportAs_engines (s : Dev) (e : Event) (i p a b : Nat) (w : Option Cmd) : (s.reportAs e i p a b w).engines = s.engines :=
  (congrArg Dev.engines (Dev.reportAs_logged s e i p a b w).rest :)
@[simp] theorem Dev.reportAs_launches (s : Dev) (e : Event) (i p a b : Nat) (w : Option Cmd) : (s.reportAs e i p a b w).launches = s.launches :=
  (congrArg Dev.launches (Dev.reportAs_logged s e i p a b w).rest :)
@[simp] theorem Dev.reportAs_coilOps (s : Dev) (e : Event) (i p a b : Nat) (w : Option Cmd) : (s.reportAs e i p a b w).coilOps = s.coilOps :=
  (congrArg Dev.coilOps (Dev.reportAs_logged s e i p a b w).rest :)
@[simp] theorem Dev.reportAs_coil (s : Dev) (e : Event) (i p a b : Nat) (w : Option Cmd) : (s.reportAs e i p a b w).coil = s.coil :=
  (congrArg Dev.coil (Dev.reportAs_logged s e i p a b w).rest :)
@[simp] theorem Dev.reportAs_knots (s : Dev) (e : Event) (i p a b : Nat) (w : Option Cmd) : (s.reportAs e i p a b w).knots = s.knots :=
  (congrArg Dev.knots (Dev.reportAs_logged s e i p a b w).rest :)
@[simp] theorem Dev.reportAs_feWords (s : Dev) (e : Event) (i p a b : Nat) (w : Option Cmd) : (s.reportAs e i p a b w).feWords = s.feWords :=
  (congrArg Dev.feWords (Dev.reportAs_logged s e i p a b w).rest :)
@[simp] theorem Dev.reportAs_feParked (s : Dev) (e : Event) (i p a b : Nat) (w : Option Cmd) : (s.reportAs e i p a b w).feParked = s.feParked :=
  (congrArg Dev.feParked (Dev.reportAs_logged s e i p a b w).rest :)
@[simp] theorem Dev.reportAs_waits (s : Dev) (e : Event) (i p a b : Nat) (w : Option Cmd) : (s.reportAs e i p a b w).waits = s.waits :=
  (congrArg Dev.waits (Dev.reportAs_logged s e i p a b w).rest :)
@[simp] theorem Dev.reportAs_nextWait (s : Dev) (e : Event) (i p a b : Nat) (w : Option Cmd) : (s.reportAs e i p a b w).nextWait = s.nextWait :=
  (congrArg Dev.nextWait (Dev.reportAs_logged s e i p a b w).rest :)
@[simp] theorem Dev.reportAs_syEvents (s : Dev) (e : Event) (i p a b : Nat) (w : Option Cmd) : (s.reportAs e i p a b w).syEvents = s.syEvents :=
  (congrArg Dev.syEvents (Dev.reportAs_logged s e i p a b w).rest :)
@[simp] theorem Dev.reportAs_dlList (s : Dev) (e : Event) (i p a b : Nat) (w : Option Cmd) : (s.reportAs e i p a b w).dlList = s.dlList :=
  (congrArg Dev.dlList (Dev.reportAs_logged s e i p a b w).rest :)
@[simp] theorem Dev.reportAs_dlReported (s : Dev) (e : Event) (i p a b : Nat) (w : Option Cmd) : (s.reportAs e i p a b w).dlReported = s.dlReported :=
  (congrArg Dev.dlReported (Dev.reportAs_logged s e i p a b w).rest :)
@[simp] theorem Dev.reportAs_served (s : Dev) (e : Event) (i p a b : Nat) (w : Option Cmd) : (s.reportAs e i p a b w).served = s.served :=
  (congrArg Dev.served (Dev.reportAs_logged s e i p a b w).rest :)
@[simp] theorem Dev.reportAs_parts (s : Dev) (e : Event) (i p a b : Nat) (w : Option Cmd) : (s.reportAs e i p a b w).parts = s.parts :=
  (congrArg Dev.parts (Dev.reportAs_logged s e i p a b w).rest :)
@[simp] theorem Dev.reportAs_zeroing (s : Dev) (e : Event) (i p a b : Nat) (w : Option Cmd) : (s.reportAs e i p a b w).zeroing = s.zeroing :=
  (congrArg Dev.zeroing (Dev.reportAs_logged s e i p a b w).rest :)
@[simp] theorem Dev.reportAs_engOwner (s : Dev) (e : Event) (i p a b : Nat) (w : Option Cmd) : (s.reportAs e i p a b w).engOwner = s.engOwner :=
  (congrArg Dev.engOwner (Dev.reportAs_logged s e i p a b w).rest :)
@[simp] theorem Dev.reportAs_brk (s : Dev) (e : Event) (i p a b : Nat) (w : Option Cmd) : (s.reportAs e i p a b w).brk = s.brk :=
  (congrArg Dev.brk (Dev.reportAs_logged s e i p a b w).rest :)
@[simp] theorem Dev.reportAs_branches (s : Dev) (e : Event) (i p a b : Nat) (w : Option Cmd) : (s.reportAs e i p a b w).branches = s.branches :=
  (congrArg Dev.branches (Dev.reportAs_logged s e i p a b w).rest :)
@[simp] theorem Dev.reportAs_fwHalted (s : Dev) (e : Event) (i p a b : Nat) (w : Option Cmd) : (s.reportAs e i p a b w).fwHalted = s.fwHalted :=
  (congrArg Dev.fwHalted (Dev.reportAs_logged s e i p a b w).rest :)
@[simp] theorem Dev.reportAs_rate (s : Dev) (e : Event) (i p a b : Nat) (w : Option Cmd) : (s.reportAs e i p a b w).rate = s.rate :=
  (congrArg Dev.rate (Dev.reportAs_logged s e i p a b w).rest :)
@[simp] theorem Dev.reportAs_frames (s : Dev) (e : Event) (i p a b : Nat) (w : Option Cmd) : (s.reportAs e i p a b w).frames = s.frames :=
  (congrArg Dev.frames (Dev.reportAs_logged s e i p a b w).rest :)
@[simp] theorem Dev.reportAs_rings (s : Dev) (e : Event) (i p a b : Nat) (w : Option Cmd) : (s.reportAs e i p a b w).rings = s.rings :=
  (congrArg Dev.rings (Dev.reportAs_logged s e i p a b w).rest :)
@[simp] theorem Dev.reportAs_rails (s : Dev) (e : Event) (i p a b : Nat) (w : Option Cmd) : (s.reportAs e i p a b w).rails = s.rails :=
  (congrArg Dev.rails (Dev.reportAs_logged s e i p a b w).rest :)
@[simp] theorem Dev.reportAs_ll (s : Dev) (e : Event) (i p a b : Nat) (w : Option Cmd) : (s.reportAs e i p a b w).ll = s.ll :=
  (congrArg Dev.ll (Dev.reportAs_logged s e i p a b w).rest :)
@[simp] theorem Dev.reportAs_syscal (s : Dev) (e : Event) (i p a b : Nat) (w : Option Cmd) : (s.reportAs e i p a b w).syscal = s.syscal :=
  (congrArg Dev.syscal (Dev.reportAs_logged s e i p a b w).rest :)
@[simp] theorem Dev.reportAs_combs (s : Dev) (e : Event) (i p a b : Nat) (w : Option Cmd) : (s.reportAs e i p a b w).combs = s.combs :=
  (congrArg Dev.combs (Dev.reportAs_logged s e i p a b w).rest :)
@[simp] theorem Dev.reportAs_optics (s : Dev) (e : Event) (i p a b : Nat) (w : Option Cmd) : (s.reportAs e i p a b w).optics = s.optics :=
  (congrArg Dev.optics (Dev.reportAs_logged s e i p a b w).rest :)
@[simp] theorem Dev.reportAs_fabric (s : Dev) (e : Event) (i p a b : Nat) (w : Option Cmd) : (s.reportAs e i p a b w).fabric = s.fabric :=
  (congrArg Dev.fabric (Dev.reportAs_logged s e i p a b w).rest :)
@[simp] theorem Dev.reportAs_boot (s : Dev) (e : Event) (i p a b : Nat) (w : Option Cmd) : (s.reportAs e i p a b w).boot = s.boot :=
  (congrArg Dev.boot (Dev.reportAs_logged s e i p a b w).rest :)
theorem Dev.rd_reportAs (s : Dev) (e : Event) (i p a b : Nat) (w : Option Cmd) {f : Field} (j : Nat) (h : f.plain = true) : (s.reportAs e i p a b w).rd f j = s.rd f j :=
  (Dev.reportAs_logged s e i p a b w).regs f j h
@[simp] theorem Dev.tile_reportAs (s : Dev) (e : Event) (i p a b : Nat) (w : Option Cmd) (t : Nat) : (s.reportAs e i p a b w).tile t = s.tile t := by simp [Dev.tile]
@[simp] theorem Dev.queue_reportAs (s : Dev) (e : Event) (i p a b : Nat) (w : Option Cmd) (t : Nat) : (s.reportAs e i p a b w).queue t = s.queue t := by simp [Dev.queue]

/-! trace leaves everything but registers, memory, interrupts and the trace counters -/

@[simp] theorem Dev.trace_badMem (s : Dev) (p a b c d e : Nat) (l : List Nat) : (s.trace p a b c d e l).badMem = s.badMem :=
  (congrArg Dev.badMem (Dev.trace_logged s p a b c d e l).rest :)
@[simp] theorem Dev.trace_now (s : Dev) (p a b c d e : Nat) (l : List Nat) : (s.trace p a b c d e l).now = s.now :=
  (congrArg Dev.now (Dev.trace_logged s p a b c d e l).rest :)
@[simp] theorem Dev.trace_mono (s : Dev) (p a b c d e : Nat) (l : List Nat) : (s.trace p a b c d e l).mono = s.mono :=
  (congrArg Dev.mono (Dev.trace_logged s p a b c d e l).rest :)
@[simp] theorem Dev.trace_seed (s : Dev) (p a b c d e : Nat) (l : List Nat) : (s.trace p a b c d e l).seed = s.seed :=
  (congrArg Dev.seed (Dev.trace_logged s p a b c d e l).rest :)
@[simp] theorem Dev.trace_tiles (s : Dev) (p a b c d e : Nat) (l : List Nat) : (s.trace p a b c d e l).tiles = s.tiles :=
  (congrArg Dev.tiles (Dev.trace_logged s p a b c d e l).rest :)
@[simp] theorem Dev.trace_queues (s : Dev) (p a b c d e : Nat) (l : List Nat) : (s.trace p a b c d e l).queues = s.queues :=
  (congrArg Dev.queues (Dev.trace_logged s p a b c d e l).rest :)
@[simp] theorem Dev.trace_sfwDrv (s : Dev) (p a b c d e : Nat) (l : List Nat) : (s.trace p a b c d e l).sfwDrv = s.sfwDrv :=
  (congrArg Dev.sfwDrv (Dev.trace_logged s p a b c d e l).rest :)
@[simp] theorem Dev.trace_arb (s : Dev) (p a b c d e : Nat) (l : List Nat) : (s.trace p a b c d e l).arb = s.arb :=
  (congrArg Dev.arb (Dev.trace_logged s p a b c d e l).rest :)
@[simp] theorem Dev.trace_work (s : Dev) (p a b c d e : Nat) (l : List Nat) : (s.trace p a b c d e l).work = s.work :=
  (congrArg Dev.work (Dev.trace_logged s p a b c d e l).rest :)
@[simp] theorem Dev.trace_xfers (s : Dev) (p a b c d e : Nat) (l : List Nat) : (s.trace p a b c d e l).xfers = s.xfers :=
  (congrArg Dev.xfers (Dev.trace_logged s p a b c d e l).rest :)
@[simp] theorem Dev.trace_dmaWait (s : Dev) (p a b c d e : Nat) (l : List Nat) : (s.trace p a b c d e l).dmaWait = s.dmaWait :=
  (congrArg Dev.dmaWait (Dev.trace_logged s p a b c d e l).rest :)
@[simp] theorem Dev.trace_nextXfer (s : Dev) (p a b c d e : Nat) (l : List Nat) : (s.trace p a b c d e l).nextXfer = s.nextXfer :=
  (congrArg Dev.nextXfer (Dev.trace_logged s p a b c d e l).rest :)
@[simp] theorem Dev.trace_engines (s : Dev) (p a b c d e : Nat) (l : List Nat) : (s.trace p a b c d e l).engines = s.engines :=
  (congrArg Dev.engines (Dev.trace_logged s p a b c d e l).rest :)
@[simp] theorem Dev.trace_launches (s : Dev) (p a b c d e : Nat) (l : List Nat) : (s.trace p a b c d e l).launches = s.launches :=
  (congrArg Dev.launches (Dev.trace_logged s p a b c d e l).rest :)
@[simp] theorem Dev.trace_coilOps (s : Dev) (p a b c d e : Nat) (l : List Nat) : (s.trace p a b c d e l).coilOps = s.coilOps :=
  (congrArg Dev.coilOps (Dev.trace_logged s p a b c d e l).rest :)
@[simp] theorem Dev.trace_coil (s : Dev) (p a b c d e : Nat) (l : List Nat) : (s.trace p a b c d e l).coil = s.coil :=
  (congrArg Dev.coil (Dev.trace_logged s p a b c d e l).rest :)
@[simp] theorem Dev.trace_knots (s : Dev) (p a b c d e : Nat) (l : List Nat) : (s.trace p a b c d e l).knots = s.knots :=
  (congrArg Dev.knots (Dev.trace_logged s p a b c d e l).rest :)
@[simp] theorem Dev.trace_feWords (s : Dev) (p a b c d e : Nat) (l : List Nat) : (s.trace p a b c d e l).feWords = s.feWords :=
  (congrArg Dev.feWords (Dev.trace_logged s p a b c d e l).rest :)
@[simp] theorem Dev.trace_feParked (s : Dev) (p a b c d e : Nat) (l : List Nat) : (s.trace p a b c d e l).feParked = s.feParked :=
  (congrArg Dev.feParked (Dev.trace_logged s p a b c d e l).rest :)
@[simp] theorem Dev.trace_waits (s : Dev) (p a b c d e : Nat) (l : List Nat) : (s.trace p a b c d e l).waits = s.waits :=
  (congrArg Dev.waits (Dev.trace_logged s p a b c d e l).rest :)
@[simp] theorem Dev.trace_nextWait (s : Dev) (p a b c d e : Nat) (l : List Nat) : (s.trace p a b c d e l).nextWait = s.nextWait :=
  (congrArg Dev.nextWait (Dev.trace_logged s p a b c d e l).rest :)
@[simp] theorem Dev.trace_syEvents (s : Dev) (p a b c d e : Nat) (l : List Nat) : (s.trace p a b c d e l).syEvents = s.syEvents :=
  (congrArg Dev.syEvents (Dev.trace_logged s p a b c d e l).rest :)
@[simp] theorem Dev.trace_dlList (s : Dev) (p a b c d e : Nat) (l : List Nat) : (s.trace p a b c d e l).dlList = s.dlList :=
  (congrArg Dev.dlList (Dev.trace_logged s p a b c d e l).rest :)
@[simp] theorem Dev.trace_dlReported (s : Dev) (p a b c d e : Nat) (l : List Nat) : (s.trace p a b c d e l).dlReported = s.dlReported :=
  (congrArg Dev.dlReported (Dev.trace_logged s p a b c d e l).rest :)
@[simp] theorem Dev.trace_served (s : Dev) (p a b c d e : Nat) (l : List Nat) : (s.trace p a b c d e l).served = s.served :=
  (congrArg Dev.served (Dev.trace_logged s p a b c d e l).rest :)
@[simp] theorem Dev.trace_parts (s : Dev) (p a b c d e : Nat) (l : List Nat) : (s.trace p a b c d e l).parts = s.parts :=
  (congrArg Dev.parts (Dev.trace_logged s p a b c d e l).rest :)
@[simp] theorem Dev.trace_zeroing (s : Dev) (p a b c d e : Nat) (l : List Nat) : (s.trace p a b c d e l).zeroing = s.zeroing :=
  (congrArg Dev.zeroing (Dev.trace_logged s p a b c d e l).rest :)
@[simp] theorem Dev.trace_engOwner (s : Dev) (p a b c d e : Nat) (l : List Nat) : (s.trace p a b c d e l).engOwner = s.engOwner :=
  (congrArg Dev.engOwner (Dev.trace_logged s p a b c d e l).rest :)
@[simp] theorem Dev.trace_brk (s : Dev) (p a b c d e : Nat) (l : List Nat) : (s.trace p a b c d e l).brk = s.brk :=
  (congrArg Dev.brk (Dev.trace_logged s p a b c d e l).rest :)
@[simp] theorem Dev.trace_branches (s : Dev) (p a b c d e : Nat) (l : List Nat) : (s.trace p a b c d e l).branches = s.branches :=
  (congrArg Dev.branches (Dev.trace_logged s p a b c d e l).rest :)
@[simp] theorem Dev.trace_fwHalted (s : Dev) (p a b c d e : Nat) (l : List Nat) : (s.trace p a b c d e l).fwHalted = s.fwHalted :=
  (congrArg Dev.fwHalted (Dev.trace_logged s p a b c d e l).rest :)
@[simp] theorem Dev.trace_rate (s : Dev) (p a b c d e : Nat) (l : List Nat) : (s.trace p a b c d e l).rate = s.rate :=
  (congrArg Dev.rate (Dev.trace_logged s p a b c d e l).rest :)
@[simp] theorem Dev.trace_frames (s : Dev) (p a b c d e : Nat) (l : List Nat) : (s.trace p a b c d e l).frames = s.frames :=
  (congrArg Dev.frames (Dev.trace_logged s p a b c d e l).rest :)
@[simp] theorem Dev.trace_rings (s : Dev) (p a b c d e : Nat) (l : List Nat) : (s.trace p a b c d e l).rings = s.rings :=
  (congrArg Dev.rings (Dev.trace_logged s p a b c d e l).rest :)
@[simp] theorem Dev.trace_rails (s : Dev) (p a b c d e : Nat) (l : List Nat) : (s.trace p a b c d e l).rails = s.rails :=
  (congrArg Dev.rails (Dev.trace_logged s p a b c d e l).rest :)
@[simp] theorem Dev.trace_ll (s : Dev) (p a b c d e : Nat) (l : List Nat) : (s.trace p a b c d e l).ll = s.ll :=
  (congrArg Dev.ll (Dev.trace_logged s p a b c d e l).rest :)
@[simp] theorem Dev.trace_syscal (s : Dev) (p a b c d e : Nat) (l : List Nat) : (s.trace p a b c d e l).syscal = s.syscal :=
  (congrArg Dev.syscal (Dev.trace_logged s p a b c d e l).rest :)
@[simp] theorem Dev.trace_combs (s : Dev) (p a b c d e : Nat) (l : List Nat) : (s.trace p a b c d e l).combs = s.combs :=
  (congrArg Dev.combs (Dev.trace_logged s p a b c d e l).rest :)
@[simp] theorem Dev.trace_optics (s : Dev) (p a b c d e : Nat) (l : List Nat) : (s.trace p a b c d e l).optics = s.optics :=
  (congrArg Dev.optics (Dev.trace_logged s p a b c d e l).rest :)
@[simp] theorem Dev.trace_fabric (s : Dev) (p a b c d e : Nat) (l : List Nat) : (s.trace p a b c d e l).fabric = s.fabric :=
  (congrArg Dev.fabric (Dev.trace_logged s p a b c d e l).rest :)
@[simp] theorem Dev.trace_boot (s : Dev) (p a b c d e : Nat) (l : List Nat) : (s.trace p a b c d e l).boot = s.boot :=
  (congrArg Dev.boot (Dev.trace_logged s p a b c d e l).rest :)
theorem Dev.rd_trace (s : Dev) (p a b c d e : Nat) (l : List Nat) {f : Field} (j : Nat) (h : f.plain = true) : (s.trace p a b c d e l).rd f j = s.rd f j :=
  (Dev.trace_logged s p a b c d e l).regs f j h
@[simp] theorem Dev.tile_trace (s : Dev) (p a b c d e : Nat) (l : List Nat) (t : Nat) : (s.trace p a b c d e l).tile t = s.tile t := by simp [Dev.tile]
@[simp] theorem Dev.queue_trace (s : Dev) (p a b c d e : Nat) (l : List Nat) (t : Nat) : (s.trace p a b c d e l).queue t = s.queue t := by simp [Dev.queue]

/-! Counting touches registers only -/

@[simp] theorem Dev.bump_mem (s : Dev) (f : Field) (i k : Nat) : (s.bump f i k).mem = s.mem := by unfold Dev.bump; split <;> rfl
@[simp] theorem Dev.bump_badMem (s : Dev) (f : Field) (i k : Nat) : (s.bump f i k).badMem = s.badMem := by unfold Dev.bump; split <;> rfl
@[simp] theorem Dev.bump_now (s : Dev) (f : Field) (i k : Nat) : (s.bump f i k).now = s.now := by unfold Dev.bump; split <;> rfl
@[simp] theorem Dev.bump_mono (s : Dev) (f : Field) (i k : Nat) : (s.bump f i k).mono = s.mono := by unfold Dev.bump; split <;> rfl
@[simp] theorem Dev.bump_seed (s : Dev) (f : Field) (i k : Nat) : (s.bump f i k).seed = s.seed := by unfold Dev.bump; split <;> rfl
@[simp] theorem Dev.bump_msix (s : Dev) (f : Field) (i k : Nat) : (s.bump f i k).msix = s.msix := by unfold Dev.bump; split <;> rfl
@[simp] theorem Dev.bump_tiles (s : Dev) (f : Field) (i k : Nat) : (s.bump f i k).tiles = s.tiles := by unfold Dev.bump; split <;> rfl
@[simp] theorem Dev.bump_queues (s : Dev) (f : Field) (i k : Nat) : (s.bump f i k).queues = s.queues := by unfold Dev.bump; split <;> rfl
@[simp] theorem Dev.bump_sfwDrv (s : Dev) (f : Field) (i k : Nat) : (s.bump f i k).sfwDrv = s.sfwDrv := by unfold Dev.bump; split <;> rfl
@[simp] theorem Dev.bump_arb (s : Dev) (f : Field) (i k : Nat) : (s.bump f i k).arb = s.arb := by unfold Dev.bump; split <;> rfl
@[simp] theorem Dev.bump_work (s : Dev) (f : Field) (i k : Nat) : (s.bump f i k).work = s.work := by unfold Dev.bump; split <;> rfl
@[simp] theorem Dev.bump_xfers (s : Dev) (f : Field) (i k : Nat) : (s.bump f i k).xfers = s.xfers := by unfold Dev.bump; split <;> rfl
@[simp] theorem Dev.bump_dmaWait (s : Dev) (f : Field) (i k : Nat) : (s.bump f i k).dmaWait = s.dmaWait := by unfold Dev.bump; split <;> rfl
@[simp] theorem Dev.bump_nextXfer (s : Dev) (f : Field) (i k : Nat) : (s.bump f i k).nextXfer = s.nextXfer := by unfold Dev.bump; split <;> rfl
@[simp] theorem Dev.bump_engines (s : Dev) (f : Field) (i k : Nat) : (s.bump f i k).engines = s.engines := by unfold Dev.bump; split <;> rfl
@[simp] theorem Dev.bump_launches (s : Dev) (f : Field) (i k : Nat) : (s.bump f i k).launches = s.launches := by unfold Dev.bump; split <;> rfl
@[simp] theorem Dev.bump_coilOps (s : Dev) (f : Field) (i k : Nat) : (s.bump f i k).coilOps = s.coilOps := by unfold Dev.bump; split <;> rfl
@[simp] theorem Dev.bump_coil (s : Dev) (f : Field) (i k : Nat) : (s.bump f i k).coil = s.coil := by unfold Dev.bump; split <;> rfl
@[simp] theorem Dev.bump_knots (s : Dev) (f : Field) (i k : Nat) : (s.bump f i k).knots = s.knots := by unfold Dev.bump; split <;> rfl
@[simp] theorem Dev.bump_feWords (s : Dev) (f : Field) (i k : Nat) : (s.bump f i k).feWords = s.feWords := by unfold Dev.bump; split <;> rfl
@[simp] theorem Dev.bump_feParked (s : Dev) (f : Field) (i k : Nat) : (s.bump f i k).feParked = s.feParked := by unfold Dev.bump; split <;> rfl
@[simp] theorem Dev.bump_waits (s : Dev) (f : Field) (i k : Nat) : (s.bump f i k).waits = s.waits := by unfold Dev.bump; split <;> rfl
@[simp] theorem Dev.bump_nextWait (s : Dev) (f : Field) (i k : Nat) : (s.bump f i k).nextWait = s.nextWait := by unfold Dev.bump; split <;> rfl
@[simp] theorem Dev.bump_syEvents (s : Dev) (f : Field) (i k : Nat) : (s.bump f i k).syEvents = s.syEvents := by unfold Dev.bump; split <;> rfl
@[simp] theorem Dev.bump_dlList (s : Dev) (f : Field) (i k : Nat) : (s.bump f i k).dlList = s.dlList := by unfold Dev.bump; split <;> rfl
@[simp] theorem Dev.bump_dlReported (s : Dev) (f : Field) (i k : Nat) : (s.bump f i k).dlReported = s.dlReported := by unfold Dev.bump; split <;> rfl
@[simp] theorem Dev.bump_served (s : Dev) (f : Field) (i k : Nat) : (s.bump f i k).served = s.served := by unfold Dev.bump; split <;> rfl
@[simp] theorem Dev.bump_parts (s : Dev) (f : Field) (i k : Nat) : (s.bump f i k).parts = s.parts := by unfold Dev.bump; split <;> rfl
@[simp] theorem Dev.bump_zeroing (s : Dev) (f : Field) (i k : Nat) : (s.bump f i k).zeroing = s.zeroing := by unfold Dev.bump; split <;> rfl
@[simp] theorem Dev.bump_engOwner (s : Dev) (f : Field) (i k : Nat) : (s.bump f i k).engOwner = s.engOwner := by unfold Dev.bump; split <;> rfl
@[simp] theorem Dev.bump_trSeq (s : Dev) (f : Field) (i k : Nat) : (s.bump f i k).trSeq = s.trSeq := by unfold Dev.bump; split <;> rfl
@[simp] theorem Dev.bump_trLost (s : Dev) (f : Field) (i k : Nat) : (s.bump f i k).trLost = s.trLost := by unfold Dev.bump; split <;> rfl
@[simp] theorem Dev.bump_brk (s : Dev) (f : Field) (i k : Nat) : (s.bump f i k).brk = s.brk := by unfold Dev.bump; split <;> rfl
@[simp] theorem Dev.bump_branches (s : Dev) (f : Field) (i k : Nat) : (s.bump f i k).branches = s.branches := by unfold Dev.bump; split <;> rfl
@[simp] theorem Dev.bump_fwHalted (s : Dev) (f : Field) (i k : Nat) : (s.bump f i k).fwHalted = s.fwHalted := by unfold Dev.bump; split <;> rfl
@[simp] theorem Dev.bump_rate (s : Dev) (f : Field) (i k : Nat) : (s.bump f i k).rate = s.rate := by unfold Dev.bump; split <;> rfl
@[simp] theorem Dev.bump_frames (s : Dev) (f : Field) (i k : Nat) : (s.bump f i k).frames = s.frames := by unfold Dev.bump; split <;> rfl
@[simp] theorem Dev.bump_rings (s : Dev) (f : Field) (i k : Nat) : (s.bump f i k).rings = s.rings := by unfold Dev.bump; split <;> rfl
@[simp] theorem Dev.bump_rails (s : Dev) (f : Field) (i k : Nat) : (s.bump f i k).rails = s.rails := by unfold Dev.bump; split <;> rfl
@[simp] theorem Dev.bump_ll (s : Dev) (f : Field) (i k : Nat) : (s.bump f i k).ll = s.ll := by unfold Dev.bump; split <;> rfl
@[simp] theorem Dev.bump_syscal (s : Dev) (f : Field) (i k : Nat) : (s.bump f i k).syscal = s.syscal := by unfold Dev.bump; split <;> rfl
@[simp] theorem Dev.bump_combs (s : Dev) (f : Field) (i k : Nat) : (s.bump f i k).combs = s.combs := by unfold Dev.bump; split <;> rfl
@[simp] theorem Dev.bump_optics (s : Dev) (f : Field) (i k : Nat) : (s.bump f i k).optics = s.optics := by unfold Dev.bump; split <;> rfl
@[simp] theorem Dev.bump_fabric (s : Dev) (f : Field) (i k : Nat) : (s.bump f i k).fabric = s.fabric := by unfold Dev.bump; split <;> rfl
@[simp] theorem Dev.bump_boot (s : Dev) (f : Field) (i k : Nat) : (s.bump f i k).boot = s.boot := by unfold Dev.bump; split <;> rfl
@[simp] theorem Dev.tile_bump (s : Dev) (f : Field) (i k t : Nat) : (s.bump f i k).tile t = s.tile t := by simp [Dev.tile]
@[simp] theorem Dev.queue_bump (s : Dev) (f : Field) (i k t : Nat) : (s.bump f i k).queue t = s.queue t := by simp [Dev.queue]
@[simp] theorem Dev.byte_bump (s : Dev) (f : Field) (i k a : Nat) : (s.bump f i k).byte a = s.byte a := by simp [Dev.byte]

/-! Finishing a command -/

/-- Everything finishing a command does: its slot is marked and its completion waits in its queue. -/
theorem Dev.finish_queue (s : Dev) (c : Cmd) (st : Nat) (x : Bool) (a b d e : Nat) :
    (s.finish c st x a b d e).queue c.queue = { s.queue c.queue with
      slots := markDone c (s.queue c.queue).slots
      done := (s.queue c.queue).done ++ [⟨c, st, x, a, b, d, e, s.now⟩] } := by
  simp [Dev.finish]

theorem Dev.finish_queue_ne (s : Dev) (c : Cmd) (st : Nat) (x : Bool) (a b d e : Nat) {q : Nat} (h : c.queue ≠ q) :
    (s.finish c st x a b d e).queue q = s.queue q := Dev.queue_modQueue_ne s _ h

@[simp] theorem Dev.rd_finish (s : Dev) (c : Cmd) (st : Nat) (x : Bool) (a b d e : Nat) (f : Field) (i : Nat) :
    (s.finish c st x a b d e).rd f i = s.rd f i := rfl
@[simp] theorem Dev.byte_finish (s : Dev) (c : Cmd) (st : Nat) (x : Bool) (a b d e m : Nat) :
    (s.finish c st x a b d e).byte m = s.byte m := rfl
@[simp] theorem Dev.tile_finish (s : Dev) (c : Cmd) (st : Nat) (x : Bool) (a b d e t : Nat) :
    (s.finish c st x a b d e).tile t = s.tile t := rfl

@[simp] theorem Dev.finish_regs (s : Dev) (c : Cmd) (st : Nat) (x : Bool) (a b d e : Nat) : (s.finish c st x a b d e).regs = s.regs := rfl
@[simp] theorem Dev.finish_mem (s : Dev) (c : Cmd) (st : Nat) (x : Bool) (a b d e : Nat) : (s.finish c st x a b d e).mem = s.mem := rfl
@[simp] theorem Dev.finish_badMem (s : Dev) (c : Cmd) (st : Nat) (x : Bool) (a b d e : Nat) : (s.finish c st x a b d e).badMem = s.badMem := rfl
@[simp] theorem Dev.finish_now (s : Dev) (c : Cmd) (st : Nat) (x : Bool) (a b d e : Nat) : (s.finish c st x a b d e).now = s.now := rfl
@[simp] theorem Dev.finish_mono (s : Dev) (c : Cmd) (st : Nat) (x : Bool) (a b d e : Nat) : (s.finish c st x a b d e).mono = s.mono := rfl
@[simp] theorem Dev.finish_seed (s : Dev) (c : Cmd) (st : Nat) (x : Bool) (a b d e : Nat) : (s.finish c st x a b d e).seed = s.seed := rfl
@[simp] theorem Dev.finish_msix (s : Dev) (c : Cmd) (st : Nat) (x : Bool) (a b d e : Nat) : (s.finish c st x a b d e).msix = s.msix := rfl
@[simp] theorem Dev.finish_tiles (s : Dev) (c : Cmd) (st : Nat) (x : Bool) (a b d e : Nat) : (s.finish c st x a b d e).tiles = s.tiles := rfl
@[simp] theorem Dev.finish_sfwDrv (s : Dev) (c : Cmd) (st : Nat) (x : Bool) (a b d e : Nat) : (s.finish c st x a b d e).sfwDrv = s.sfwDrv := rfl
@[simp] theorem Dev.finish_arb (s : Dev) (c : Cmd) (st : Nat) (x : Bool) (a b d e : Nat) : (s.finish c st x a b d e).arb = s.arb := rfl
@[simp] theorem Dev.finish_work (s : Dev) (c : Cmd) (st : Nat) (x : Bool) (a b d e : Nat) : (s.finish c st x a b d e).work = s.work := rfl
@[simp] theorem Dev.finish_xfers (s : Dev) (c : Cmd) (st : Nat) (x : Bool) (a b d e : Nat) : (s.finish c st x a b d e).xfers = s.xfers := rfl
@[simp] theorem Dev.finish_dmaWait (s : Dev) (c : Cmd) (st : Nat) (x : Bool) (a b d e : Nat) : (s.finish c st x a b d e).dmaWait = s.dmaWait := rfl
@[simp] theorem Dev.finish_nextXfer (s : Dev) (c : Cmd) (st : Nat) (x : Bool) (a b d e : Nat) : (s.finish c st x a b d e).nextXfer = s.nextXfer := rfl
@[simp] theorem Dev.finish_engines (s : Dev) (c : Cmd) (st : Nat) (x : Bool) (a b d e : Nat) : (s.finish c st x a b d e).engines = s.engines := rfl
@[simp] theorem Dev.finish_launches (s : Dev) (c : Cmd) (st : Nat) (x : Bool) (a b d e : Nat) : (s.finish c st x a b d e).launches = s.launches := rfl
@[simp] theorem Dev.finish_coilOps (s : Dev) (c : Cmd) (st : Nat) (x : Bool) (a b d e : Nat) : (s.finish c st x a b d e).coilOps = s.coilOps := rfl
@[simp] theorem Dev.finish_coil (s : Dev) (c : Cmd) (st : Nat) (x : Bool) (a b d e : Nat) : (s.finish c st x a b d e).coil = s.coil := rfl
@[simp] theorem Dev.finish_knots (s : Dev) (c : Cmd) (st : Nat) (x : Bool) (a b d e : Nat) : (s.finish c st x a b d e).knots = s.knots := rfl
@[simp] theorem Dev.finish_feWords (s : Dev) (c : Cmd) (st : Nat) (x : Bool) (a b d e : Nat) : (s.finish c st x a b d e).feWords = s.feWords := rfl
@[simp] theorem Dev.finish_feParked (s : Dev) (c : Cmd) (st : Nat) (x : Bool) (a b d e : Nat) : (s.finish c st x a b d e).feParked = s.feParked := rfl
@[simp] theorem Dev.finish_waits (s : Dev) (c : Cmd) (st : Nat) (x : Bool) (a b d e : Nat) : (s.finish c st x a b d e).waits = s.waits := rfl
@[simp] theorem Dev.finish_nextWait (s : Dev) (c : Cmd) (st : Nat) (x : Bool) (a b d e : Nat) : (s.finish c st x a b d e).nextWait = s.nextWait := rfl
@[simp] theorem Dev.finish_syEvents (s : Dev) (c : Cmd) (st : Nat) (x : Bool) (a b d e : Nat) : (s.finish c st x a b d e).syEvents = s.syEvents := rfl
@[simp] theorem Dev.finish_dlList (s : Dev) (c : Cmd) (st : Nat) (x : Bool) (a b d e : Nat) : (s.finish c st x a b d e).dlList = s.dlList := rfl
@[simp] theorem Dev.finish_dlReported (s : Dev) (c : Cmd) (st : Nat) (x : Bool) (a b d e : Nat) : (s.finish c st x a b d e).dlReported = s.dlReported := rfl
@[simp] theorem Dev.finish_served (s : Dev) (c : Cmd) (st : Nat) (x : Bool) (a b d e : Nat) : (s.finish c st x a b d e).served = s.served := rfl
@[simp] theorem Dev.finish_parts (s : Dev) (c : Cmd) (st : Nat) (x : Bool) (a b d e : Nat) : (s.finish c st x a b d e).parts = s.parts := rfl
@[simp] theorem Dev.finish_zeroing (s : Dev) (c : Cmd) (st : Nat) (x : Bool) (a b d e : Nat) : (s.finish c st x a b d e).zeroing = s.zeroing := rfl
@[simp] theorem Dev.finish_engOwner (s : Dev) (c : Cmd) (st : Nat) (x : Bool) (a b d e : Nat) : (s.finish c st x a b d e).engOwner = s.engOwner := rfl
@[simp] theorem Dev.finish_trSeq (s : Dev) (c : Cmd) (st : Nat) (x : Bool) (a b d e : Nat) : (s.finish c st x a b d e).trSeq = s.trSeq := rfl
@[simp] theorem Dev.finish_trLost (s : Dev) (c : Cmd) (st : Nat) (x : Bool) (a b d e : Nat) : (s.finish c st x a b d e).trLost = s.trLost := rfl
@[simp] theorem Dev.finish_brk (s : Dev) (c : Cmd) (st : Nat) (x : Bool) (a b d e : Nat) : (s.finish c st x a b d e).brk = s.brk := rfl
@[simp] theorem Dev.finish_branches (s : Dev) (c : Cmd) (st : Nat) (x : Bool) (a b d e : Nat) : (s.finish c st x a b d e).branches = s.branches := rfl
@[simp] theorem Dev.finish_fwHalted (s : Dev) (c : Cmd) (st : Nat) (x : Bool) (a b d e : Nat) : (s.finish c st x a b d e).fwHalted = s.fwHalted := rfl
@[simp] theorem Dev.finish_rate (s : Dev) (c : Cmd) (st : Nat) (x : Bool) (a b d e : Nat) : (s.finish c st x a b d e).rate = s.rate := rfl
@[simp] theorem Dev.finish_frames (s : Dev) (c : Cmd) (st : Nat) (x : Bool) (a b d e : Nat) : (s.finish c st x a b d e).frames = s.frames := rfl
@[simp] theorem Dev.finish_rings (s : Dev) (c : Cmd) (st : Nat) (x : Bool) (a b d e : Nat) : (s.finish c st x a b d e).rings = s.rings := rfl
@[simp] theorem Dev.finish_rails (s : Dev) (c : Cmd) (st : Nat) (x : Bool) (a b d e : Nat) : (s.finish c st x a b d e).rails = s.rails := rfl
@[simp] theorem Dev.finish_ll (s : Dev) (c : Cmd) (st : Nat) (x : Bool) (a b d e : Nat) : (s.finish c st x a b d e).ll = s.ll := rfl
@[simp] theorem Dev.finish_syscal (s : Dev) (c : Cmd) (st : Nat) (x : Bool) (a b d e : Nat) : (s.finish c st x a b d e).syscal = s.syscal := rfl
@[simp] theorem Dev.finish_combs (s : Dev) (c : Cmd) (st : Nat) (x : Bool) (a b d e : Nat) : (s.finish c st x a b d e).combs = s.combs := rfl
@[simp] theorem Dev.finish_optics (s : Dev) (c : Cmd) (st : Nat) (x : Bool) (a b d e : Nat) : (s.finish c st x a b d e).optics = s.optics := rfl
@[simp] theorem Dev.finish_fabric (s : Dev) (c : Cmd) (st : Nat) (x : Bool) (a b d e : Nat) : (s.finish c st x a b d e).fabric = s.fabric := rfl
@[simp] theorem Dev.finish_boot (s : Dev) (c : Cmd) (st : Nat) (x : Bool) (a b d e : Nat) : (s.finish c st x a b d e).boot = s.boot := rfl

/-! Storing bytes -/

theorem Dev.putBytes_rest (s : Dev) (a : Nat) (bs : List Byte) : s.putBytes a bs = { s with mem := (s.putBytes a bs).mem } := by
  induction bs generalizing s a with
  | nil => rfl
  | cons b r ih =>
    have h := ih (s.putByte a b) (a + 1)
    show (s.putByte a b).putBytes (a + 1) r = _
    rw [h]; rfl

/-- Every byte after storing some. -/
theorem Dev.byte_putBytes (s : Dev) (a : Nat) (bs : List Byte) (x : Nat) :
    (s.putBytes a bs).byte x = if a ≤ x ∧ x < a + bs.length then bs.getD (x - a) 0 else s.byte x := by
  induction bs generalizing s a with
  | nil => simp [Dev.putBytes]
  | cons b r ih =>
    show ((s.putByte a b).putBytes (a + 1) r).byte x = _
    rw [ih]
    by_cases hx : a = x
    · subst hx
      simp
    · rw [Dev.byte_putByte_ne s b hx]
      by_cases h1 : a + 1 ≤ x ∧ x < a + 1 + r.length
      · have h2 : a ≤ x ∧ x < a + (b :: r).length := by simp only [List.length_cons]; omega
        rw [if_pos h1, if_pos h2]
        obtain ⟨k, rfl⟩ : ∃ k, x = a + 1 + k := ⟨x - (a + 1), by omega⟩
        have e1 : a + 1 + k - (a + 1) = k := by omega
        have e2 : a + 1 + k - a = k + 1 := by omega
        simp [e1, e2]
      · have h2 : ¬(a ≤ x ∧ x < a + (b :: r).length) := by simp only [List.length_cons]; omega
        rw [if_neg h1, if_neg h2]

@[simp] theorem Dev.rd_putBytes (s : Dev) (a : Nat) (bs : List Byte) (f : Field) (i : Nat) : (s.putBytes a bs).rd f i = s.rd f i := by
  rw [Dev.putBytes_rest]; rfl

/-! The canonical form of memory -/

theorem Memory.wf_reset : Memory.wf ({} : Dev) := rfl

theorem Dev.putByte_wf {s : Dev} (a : Nat) (b : Byte) (h : Memory.wf s) : Memory.wf (s.putByte a b) := NMap.wf_set a b h

theorem Dev.putBytes_wf {s : Dev} (a : Nat) (bs : List Byte) (h : Memory.wf s) : Memory.wf (s.putBytes a bs) := by
  induction bs generalizing s a with
  | nil => exact h
  | cons b r ih => exact ih (a + 1) (Dev.putByte_wf a b h)

theorem Dev.putLe_wf {s : Dev} (a n v : Nat) (h : Memory.wf s) : Memory.wf (s.putLe a n v) := Dev.putBytes_wf a _ h

theorem Dev.zero_wf {s : Dev} (a n : Nat) (h : Memory.wf s) : Memory.wf (s.zero a n) := NMap.wf_clearRange _ _ h

theorem Dev.copy_wf {s : Dev} (a b n : Nat) (h : Memory.wf s) : Memory.wf (s.copy a b n) := by
  show NMap.wf 0 ((NMap.range s.mem a (a + n)).foldl (fun m e => NMap.set 0 m (e.1 - a + b) e.2) (NMap.clearRange s.mem b (b + n))) = true
  have hm : NMap.wf 0 (NMap.clearRange s.mem b (b + n)) = true := NMap.wf_clearRange _ _ h
  generalize NMap.clearRange s.mem b (b + n) = m at hm
  generalize NMap.range s.mem a (a + n) = l
  induction l generalizing m with
  | nil => exact hm
  | cons e r ih => exact ih _ (NMap.wf_set _ _ hm)

theorem Dev.storeFor_wf {s : Dev} (p a : Nat) (bs : List Byte) (h : Memory.wf s) (ok : s.probeWrite p a bs.length = .ok) :
    Memory.wf (s.storeFor p a bs).1 := by
  simp only [Dev.storeFor, ok]; exact Dev.putBytes_wf a bs h

/-! The access checks of a register write -/

theorem Dev.at_ok {s : Dev} {src : Src} {b : Blk} (f : Dev → Dev) (h : s.reaches src b = .ok) : s.at src b f = f s := by
  simp [Dev.at, h]
theorem Dev.at_silent {s : Dev} {src : Src} {b : Blk} (f : Dev → Dev) (h : s.reaches src b = .silent) : s.at src b f = s := by
  simp [Dev.at, h]
theorem Dev.at_early {s : Dev} {src : Src} {b : Blk} (f : Dev → Dev) (h : s.reaches src b = .early) :
    s.at src b f = s.report Ev.BT_EARLY_ACCESS 0 := by simp [Dev.at, h]
theorem Dev.own0_eq {s : Dev} {src : Src} (f : Dev → Dev) (h : srcPart src = 0) : s.own0 src f = f s := by simp [Dev.own0, h]
theorem Dev.own0_ne {s : Dev} {src : Src} (f : Dev → Dev) (h : srcPart src ≠ 0) : s.own0 src f = s.foreign (srcPart src) := by
  simp [Dev.own0, h]

/-- Host functions and firmware reach every page in READY and DEGRADED. -/
theorem Dev.reaches_ready {s : Dev} {src : Src} (b : Blk) (hs : s.bootState = 7 ∨ s.bootState = 8)
    (h : src = .pf0 ∨ ∃ n, src = .vf n) : s.reaches src b = .ok := by
  obtain rfl | ⟨n, rfl⟩ := h <;> obtain h | h := hs <;> simp [Dev.reaches, h]

end Sys2Proof.Machine
end

