-- ==== Sys2Proof/Laws/Keeps.lean ====
section
/-! SUPPORT. The shared operations keep the canonical form of module memory and of the flash, one lemma an operation. -/
namespace Sys2Proof.Machine

/-- An update that leaves module memory alone and the flash array as it was keeps the canonical form. -/
theorem Dev.keep_mk {s : Dev} {regs : NMap (NMap Nat)} {badMem : List Nat} {now : Nat} {mono : Nat} {seed : Nat} {msix : List (Nat × Nat)} {tiles : NMap Tile} {queues : NMap Queue} {sfwDrv : List Nat} {arb : Arb} {work : NMap Work} {xfers : List Xfer} {dmaWait : List Cmd} {nextXfer : Nat} {engines : NMap Engine} {launches : List Launch} {coilOps : List CoilOp} {coil : CoilStore} {knots : NMap Knot} {feWords : NMap FeWord} {feParked : List FePark} {waits : List Wait} {nextWait : Nat} {syEvents : NMap SyEvent} {dlList : List DlEntry} {dlReported : List Nat} {served : List Served} {parts : NMap Part} {zeroing : NMap Nat} {engOwner : NMap Nat} {trSeq : NMap Nat} {trLost : NMap Nat} {brk : NMap Nat} {branches : NMap BranchRec} {fwHalted : List Nat} {rate : NMap Nat} {frames : Nat} {rings : NMap RingTile} {rails : NMap Rail} {ll : NMap LlUnit} {syscal : SysCal} {combs : NMap Comb} {optics : NMap LaneOptics} {fabric : Fabric} {boot : Boot}
    (h : s.Canonical) (hb : boot.flash = s.boot.flash) :
    (Dev.mk regs s.mem badMem now mono seed msix tiles queues sfwDrv arb work xfers dmaWait nextXfer engines launches coilOps coil knots feWords feParked waits nextWait syEvents dlList dlReported served parts zeroing engOwner trSeq trLost brk branches fwHalted rate frames rings rails ll syscal combs optics fabric boot).Canonical := by
  unfold Dev.Canonical Memory.wf Flash.wf at *; dsimp only; rw [hb]; exact h

/-- A fold of operations that keep the canonical form keeps it. -/
theorem foldl_keeps {α : Type} {f : Dev → α → Dev} {l : List α} {s : Dev} (hf : ∀ s x, s.Canonical → (f s x).Canonical)
    (h : s.Canonical) : (l.foldl f s).Canonical := by
  induction l generalizing s with
  | nil => exact h
  | cons a r ih => exact ih (hf s a h)

theorem foldl_keeps1 {α β : Type} {f : Dev × β → α → Dev × β} {l : List α} {s : Dev × β}
    (hf : ∀ s x, s.1.Canonical → (f s x).1.Canonical) (h : s.1.Canonical) : (l.foldl f s).1.Canonical := by
  induction l generalizing s with
  | nil => exact h
  | cons a r ih => exact ih (hf s a h)

theorem foldl_wf {α : Type} {f : NMap Byte → α → NMap Byte} {l : List α} {m : NMap Byte} {d : Byte}
    (hf : ∀ m x, NMap.wf d m = true → NMap.wf d (f m x) = true) (h : NMap.wf d m = true) : NMap.wf d (l.foldl f m) = true := by
  induction l generalizing m with
  | nil => exact h
  | cons a r ih => exact ih (hf m a h)

theorem canonical_of_fst {β : Type} {p : Dev × β} {a : Dev} {b : β} (e : p = (a, b)) (h : p.1.Canonical) : a.Canonical := by subst e; exact h

theorem canonical_of_some_fst {β : Type} {o : Option (Dev × β)} {a : Dev} {b : β} (e : o = some (a, b))
    (h : ∀ t, o = some t → t.1.Canonical) : a.Canonical := h _ e

theorem canonical_of_some {o : Option Dev} {a : Dev} (e : o = some a) (h : ∀ t, o = some t → t.Canonical) : a.Canonical := h _ e

theorem canonical_of_snd {β : Type} {p : β × Dev} {a : Dev} {b : β} (e : p = (b, a)) (h : p.2.Canonical) : a.Canonical := by subst e; exact h

theorem Dev.wr_keeps {s : Dev} (f : Field) (i : Nat) (v : Nat) (hs : s.Canonical) :
    (Dev.wr s f i v).Canonical := by
  unfold Dev.wr
  with_reducible repeat' first
    | assumption | exact Dev.keep_mk (by assumption) rfl

theorem Dev.wrS_keeps {s : Dev} (f : Field) (i : Nat) (v : Int) (hs : s.Canonical) :
    (Dev.wrS s f i v).Canonical := by
  unfold Dev.wrS
  with_reducible repeat' first
    | assumption | apply Dev.wr_keeps | exact Dev.keep_mk (by assumption) rfl

theorem Dev.setBy_keeps {s : Dev} (src : Src) (f : Field) (i : Nat) (v : Nat) (hs : s.Canonical) :
    (Dev.setBy s src f i v).Canonical := by
  unfold Dev.setBy
  with_reducible repeat' first
    | assumption | apply Dev.wr_keeps | exact Dev.keep_mk (by assumption) rfl | (intro _) | (split)
    | (extract_lets +onlyGivenNames x; refine_lift (have hx : Dev.Canonical x := ?_; ?_); (on_goal 1 => clear_value x); (on_goal 2 => subst x))
    | (extract_lets +onlyGivenNames x; clear_value x)

theorem Dev.bump_keeps {s : Dev} (f : Field) (i : Nat) (n : Nat) (hs : s.Canonical) :
    (Dev.bump s f i n).Canonical := by
  unfold Dev.bump
  with_reducible repeat' first
    | assumption | apply Dev.wr_keeps | (split)

theorem Dev.pass_keeps {s : Dev} (d : Nat) (hs : s.Canonical) :
    (Dev.pass s d).Canonical := by
  unfold Dev.pass
  with_reducible repeat' first
    | assumption | exact Dev.keep_mk (by assumption) rfl

theorem Dev.reach_keeps {s : Dev} (t : Nat) (hs : s.Canonical) :
    (Dev.reach s t).Canonical := by
  unfold Dev.reach
  with_reducible repeat' first
    | assumption | apply Dev.pass_keeps | exact Dev.keep_mk (by assumption) rfl

theorem Dev.reachAfter_keeps {s : Dev} (t : Nat) (d : Nat) (hs : s.Canonical) :
    (Dev.reachAfter s t d).Canonical := by
  unfold Dev.reachAfter
  with_reducible repeat' first
    | assumption | apply Dev.pass_keeps | exact Dev.keep_mk (by assumption) rfl

theorem Dev.reachLocal_keeps {s : Dev} (t : Nat) (hs : s.Canonical) :
    (Dev.reachLocal s t).Canonical := by
  unfold Dev.reachLocal
  with_reducible repeat' first
    | assumption | apply Dev.pass_keeps | exact Dev.keep_mk (by assumption) rfl

theorem Dev.irqEdge_keeps {old : Dev} {s : Dev} (p : Nat) (hold : old.Canonical) (hs : s.Canonical) :
    (Dev.irqEdge old s p).Canonical := by
  unfold Dev.irqEdge
  with_reducible repeat' first
    | assumption | exact Dev.keep_mk (by assumption) rfl | (split)

theorem Dev.setErr_keeps {s : Dev} (p : Nat) (m : Nat) (hs : s.Canonical) :
    (Dev.setErr s p m).Canonical := by
  unfold Dev.setErr
  with_reducible repeat' first
    | assumption | apply Dev.irqEdge_keeps | apply Dev.wr_keeps | exact Dev.keep_mk (by assumption) rfl

theorem Dev.putByte_keeps {s : Dev} (a : Nat) (b : Byte) (hs : s.Canonical) :
    (Dev.putByte s a b).Canonical := ⟨Dev.putByte_wf _ _ hs.1, hs.2⟩

theorem Dev.putBytes_keeps {s : Dev} (a1 : Nat) (a2 : List Byte) (hs : s.Canonical) :
    (Dev.putBytes s a1 a2).Canonical := by
  induction a2 generalizing s a1 with
  | nil => exact hs
  | cons b r ih => exact ih _ (Dev.putByte_keeps _ _ hs)

theorem Dev.putLe_keeps {s : Dev} (a : Nat) (n : Nat) (v : Nat) (hs : s.Canonical) :
    (Dev.putLe s a n v).Canonical := by
  unfold Dev.putLe
  with_reducible repeat' first
    | assumption | apply Dev.putBytes_keeps | exact Dev.keep_mk (by assumption) rfl

theorem Dev.zero_keeps {s : Dev} (a : Nat) (n : Nat) (hs : s.Canonical) :
    (Dev.zero s a n).Canonical := ⟨Dev.zero_wf _ _ hs.1, hs.2⟩

theorem Dev.copy_keeps {s : Dev} (src : Nat) (dst : Nat) (n : Nat) (hs : s.Canonical) :
    (Dev.copy s src dst n).Canonical := ⟨Dev.copy_wf _ _ _ hs.1, hs.2⟩

theorem Dev.setTile_keeps {s : Dev} (t : Nat) (v : Tile) (hs : s.Canonical) :
    (Dev.setTile s t v).Canonical := by
  unfold Dev.setTile
  with_reducible repeat' first
    | assumption | exact Dev.keep_mk (by assumption) rfl

theorem Dev.modTile_keeps {s : Dev} (t : Nat) (f : Tile → Tile) (hs : s.Canonical) :
    (Dev.modTile s t f).Canonical := by
  unfold Dev.modTile
  with_reducible repeat' first
    | assumption | apply Dev.setTile_keeps | exact Dev.keep_mk (by assumption) rfl

theorem Dev.setDesc_keeps {s : Dev} (t : Nat) (d : Nat) (v : Nat × Nat) (hs : s.Canonical) :
    (Dev.setDesc s t d v).Canonical := by
  unfold Dev.setDesc
  with_reducible repeat' first
    | assumption | apply Dev.modTile_keeps | exact Dev.keep_mk (by assumption) rfl

theorem Dev.clearBad_keeps {s : Dev} (a : Nat) (n : Nat) (hs : s.Canonical) :
    (Dev.clearBad s a n).Canonical := by
  unfold Dev.clearBad
  with_reducible repeat' first
    | assumption | exact Dev.keep_mk (by assumption) rfl

theorem Dev.tracePut_keeps {s : Dev} (p : Nat) (rec : List Byte) (hs : s.Canonical) :
    (Dev.tracePut s p rec).Canonical := by
  unfold Dev.tracePut
  with_reducible repeat' first
    | assumption | apply Dev.putBytes_keeps | apply Dev.wr_keeps | apply Dev.bump_keeps | apply hgo
    | exact Dev.keep_mk (by assumption) rfl
    | (refine Dev.keep_mk ?_ rfl; (repeat' first | assumption | apply Dev.putBytes_keeps | apply Dev.wr_keeps | apply Dev.bump_keeps); done)
    | (intro _; rfl) | (intro _; split <;> rfl) | (intro _) | (refine canonical_of_fst (by assumption) ?_)
    | (refine canonical_of_some_fst (by assumption) ?_) | (refine canonical_of_some (by assumption) ?_) | (split)
    | (extract_lets +onlyGivenNames x; refine_lift (have hx : Dev.Canonical x := ?_; ?_); (on_goal 1 => clear_value x); (on_goal 2 => subst x))
    | (extract_lets +onlyGivenNames x; refine_lift (have hx : Dev.Canonical x.1 := ?_; ?_); (on_goal 1 => clear_value x); (on_goal 2 => subst x))
    | (extract_lets +onlyGivenNames x; refine_lift (have hgo : ∀ y, Dev.Canonical y → Dev.Canonical (x y) := ?_; ?_); (on_goal 1 => clear_value x); (on_goal 2 => subst x))
    | (extract_lets +onlyGivenNames x; refine_lift (have hgo : ∀ y z, Dev.Canonical y → Dev.Canonical (x y z) := ?_; ?_); (on_goal 1 => clear_value x); (on_goal 2 => subst x))
    | (extract_lets +onlyGivenNames x; clear_value x) | (refine Dev.keep_mk ?_ ?_; assumption; split <;> rfl)
    | (extract_lets +onlyGivenNames x; refine_lift (have hx : Dev.Canonical x := ?_; ?_); (on_goal 2 => subst x))

theorem Dev.traceShow_keeps {s : Dev} (p : Nat) (hs : s.Canonical) :
    (Dev.traceShow s p).Canonical := by
  unfold Dev.traceShow
  with_reducible repeat' first
    | assumption | apply Dev.wr_keeps | apply Dev.setErr_keeps | (split)
    | (extract_lets +onlyGivenNames x; refine_lift (have hx : Dev.Canonical x := ?_; ?_); (on_goal 1 => clear_value x); (on_goal 2 => subst x))
    | (extract_lets +onlyGivenNames x; clear_value x)

theorem Dev.traceDrop_keeps {s : Dev} (p : Nat) (hs : s.Canonical) :
    (Dev.traceDrop s p).Canonical := by
  unfold Dev.traceDrop
  with_reducible repeat' first
    | assumption | apply Dev.bump_keeps | apply Dev.traceShow_keeps | apply Dev.setErr_keeps
    | exact Dev.keep_mk (by assumption) rfl

theorem Dev.trace_keeps {s : Dev} (p : Nat) (typ : Nat) (agent : Nat) (status : Nat) (layer : Nat) (op : Nat) (pay : List Nat) (hs : s.Canonical) :
    (Dev.trace s p typ agent status layer op pay).Canonical := by
  unfold Dev.trace
  with_reducible repeat' first
    | assumption | apply Dev.traceDrop_keeps | apply Dev.tracePut_keeps | apply Dev.traceShow_keeps
    | exact Dev.keep_mk (by assumption) rfl | (intro _) | (split)
    | (extract_lets +onlyGivenNames x; refine_lift (have hx : Dev.Canonical x := ?_; ?_); (on_goal 1 => clear_value x); (on_goal 2 => subst x))
    | (extract_lets +onlyGivenNames x; clear_value x)

theorem Dev.reportAs_keeps {s : Dev} (e : Event) (i : Nat) (p : Nat) (d0 : Nat) (d1 : Nat) (who : Option Cmd) (hs : s.Canonical) :
    (Dev.reportAs s e i p d0 d1 who).Canonical := by
  unfold Dev.reportAs
  with_reducible repeat' first
    | assumption | apply Dev.setErr_keeps | apply Dev.trace_keeps | (split)
    | (extract_lets +onlyGivenNames x; refine_lift (have hx : Dev.Canonical x := ?_; ?_); (on_goal 1 => clear_value x); (on_goal 2 => subst x))
    | (extract_lets +onlyGivenNames x; clear_value x)

theorem Dev.reportP_keeps {s : Dev} (e : Event) (i : Nat) (p : Nat) (d0 : Nat) (d1 : Nat) (hs : s.Canonical) :
    (Dev.reportP s e i p d0 d1).Canonical := by
  unfold Dev.reportP
  with_reducible repeat' first
    | assumption | apply Dev.reportAs_keeps | exact Dev.keep_mk (by assumption) rfl

theorem Dev.reportFor_keeps {s : Dev} (e : Event) (i : Nat) (who : Option Cmd) (hs : s.Canonical) :
    (Dev.reportFor s e i who).Canonical := by
  unfold Dev.reportFor
  with_reducible repeat' first
    | assumption | apply Dev.reportAs_keeps | exact Dev.keep_mk (by assumption) rfl

theorem Dev.report_keeps {s : Dev} (e : Event) (i : Nat) (hs : s.Canonical) :
    (Dev.report s e i).Canonical := by
  unfold Dev.report
  with_reducible repeat' first
    | assumption | apply Dev.reportFor_keeps | exact Dev.keep_mk (by assumption) rfl

theorem Dev.modQueue_keeps {s : Dev} (q : Nat) (f : Queue → Queue) (hs : s.Canonical) :
    (Dev.modQueue s q f).Canonical := by
  unfold Dev.modQueue
  with_reducible repeat' first
    | assumption | exact Dev.keep_mk (by assumption) rfl

theorem Dev.reportC_keeps {s : Dev} (c : Cmd) (e : Event) (i : Nat) (d0 : Nat) (d1 : Nat) (hs : s.Canonical) :
    (Dev.reportC s c e i d0 d1).Canonical := by
  unfold Dev.reportC
  with_reducible repeat' first
    | assumption | apply Dev.reportAs_keeps | exact Dev.keep_mk (by assumption) rfl

theorem Dev.finish_keeps {s : Dev} (c : Cmd) (status : Nat) (executed : Bool) (r0 : Nat) (r1 : Nat) (d0 : Nat) (d1 : Nat) (hs : s.Canonical) :
    (Dev.finish s c status executed r0 r1 d0 d1).Canonical := by
  unfold Dev.finish
  with_reducible repeat' first
    | assumption | apply Dev.modQueue_keeps | exact Dev.keep_mk (by assumption) rfl

theorem Dev.finishOk_keeps {s : Dev} (c : Cmd) (hs : s.Canonical) :
    (Dev.finishOk s c).Canonical := by
  unfold Dev.finishOk
  with_reducible repeat' first
    | assumption | apply Dev.finish_keeps | exact Dev.keep_mk (by assumption) rfl

theorem Dev.finishR_keeps {s : Dev} (c : Cmd) (r0 : Nat) (r1 : Nat) (hs : s.Canonical) :
    (Dev.finishR s c r0 r1).Canonical := by
  unfold Dev.finishR
  with_reducible repeat' first
    | assumption | apply Dev.finish_keeps | exact Dev.keep_mk (by assumption) rfl

theorem Dev.failEv_keeps {s : Dev} (c : Cmd) (e : Event) (i : Nat) (d0 : Nat) (d1 : Nat) (hs : s.Canonical) :
    (Dev.failEv s c e i d0 d1).Canonical := by
  unfold Dev.failEv
  with_reducible repeat' first
    | assumption | apply Dev.finish_keeps | apply Dev.reportC_keeps | exact Dev.keep_mk (by assumption) rfl

theorem Dev.failSt_keeps {s : Dev} (c : Cmd) (status : Nat) (d0 : Nat) (d1 : Nat) (hs : s.Canonical) :
    (Dev.failSt s c status d0 d1).Canonical := by
  unfold Dev.failSt
  with_reducible repeat' first
    | assumption | apply Dev.finish_keeps | exact Dev.keep_mk (by assumption) rfl

theorem Dev.badFormat_keeps {s : Dev} (c : Cmd) (hs : s.Canonical) :
    (Dev.badFormat s c).Canonical := by
  unfold Dev.badFormat
  with_reducible repeat' first
    | assumption | apply Dev.failEv_keeps | exact Dev.keep_mk (by assumption) rfl

theorem Dev.foreign_keeps {s : Dev} (p : Nat) (who : optParam (Option Cmd) none) (hs : s.Canonical) :
    (Dev.foreign s p who).Canonical := by
  unfold Dev.foreign
  with_reducible repeat' first
    | assumption | apply Dev.reportFor_keeps | apply Dev.bump_keeps | exact Dev.keep_mk (by assumption) rfl

theorem Dev.noteRefused_keeps {s : Dev} (p : Nat) (r : Refuse) (who : optParam (Option Cmd) none) (hs : s.Canonical) :
    (Dev.noteRefused s p r who).Canonical := by
  unfold Dev.noteRefused
  with_reducible repeat' first
    | assumption | apply Dev.foreign_keeps | apply Dev.reportFor_keeps | apply Dev.bump_keeps | apply Dev.reportAs_keeps | (split)

theorem Dev.noteRead_keeps {s : Dev} (p : Nat) (a : Nat) (n : Nat) (who : optParam (Option Cmd) none) (hs : s.Canonical) :
    (Dev.noteRead s p a n who).Canonical := by
  unfold Dev.noteRead
  with_reducible repeat' first
    | assumption | apply Dev.noteRefused_keeps | exact Dev.keep_mk (by assumption) rfl

theorem Dev.storeFor_keeps {s : Dev} (p : Nat) (a : Nat) (bs : List Byte) (who : optParam (Option Cmd) none) (hs : s.Canonical) :
    (Dev.storeFor s p a bs who).1.Canonical := by
  unfold Dev.storeFor
  with_reducible repeat' first
    | assumption | apply Dev.clearBad_keeps | apply Dev.putBytes_keeps | apply Dev.noteRefused_keeps | (split)

theorem Dev.pf_keeps {s : Dev} (p : Nat) (id : Nat) (n : Nat) (hs : s.Canonical) :
    (Dev.pf s p id n).Canonical := by
  unfold Dev.pf
  with_reducible repeat' first
    | assumption | apply Dev.wr_keeps | (split)

theorem Dev.attribute_keeps {s : Dev} (c : Cmd) (w : Work) (hs : s.Canonical) :
    (Dev.attribute s c w).Canonical := by
  unfold Dev.attribute
  with_reducible repeat' first
    | assumption | apply Dev.wr_keeps | apply foldl_keeps | exact Dev.keep_mk (by assumption) rfl | (intro _) | (split)

theorem Dev.addWork_keeps {s : Dev} (c : Cmd) (w : Work) (hs : s.Canonical) :
    (Dev.addWork s c w).Canonical := by
  unfold Dev.addWork
  with_reducible repeat' first
    | assumption | apply Dev.attribute_keeps | exact Dev.keep_mk (by assumption) rfl

theorem Dev.at_keeps {s : Dev} (src : Src) (b : Blk) (f : Dev → Dev) (hs : s.Canonical) (hf : ∀ x : Dev, x.Canonical → (f x).Canonical) :
    (Dev.at s src b f).Canonical := by
  unfold Dev.at
  with_reducible repeat' first
    | assumption | apply Dev.report_keeps | apply hf | (split)

theorem Dev.own0_keeps {s : Dev} (src : Src) (f : Dev → Dev) (hs : s.Canonical) (hf : ∀ x : Dev, x.Canonical → (f x).Canonical) :
    (Dev.own0 s src f).Canonical := by
  unfold Dev.own0
  with_reducible repeat' first
    | assumption | apply Dev.foreign_keeps | apply hf | (split)

theorem Dev.setBranchRec_keeps {s : Dev} (n : Nat) (r : BranchRec) (hs : s.Canonical) :
    (Dev.setBranchRec s n r).Canonical := by
  unfold Dev.setBranchRec
  with_reducible repeat' first
    | assumption | exact Dev.keep_mk (by assumption) rfl

theorem Dev.closeBranches_keeps {s : Dev} (n : Nat) (hs : s.Canonical) :
    (Dev.closeBranches s n).Canonical := by
  unfold Dev.closeBranches
  with_reducible repeat' first
    | assumption | apply Dev.trace_keeps | apply Dev.setBranchRec_keeps | (split)
    | (extract_lets +onlyGivenNames x; refine_lift (have hx : Dev.Canonical x := ?_; ?_); (on_goal 1 => clear_value x); (on_goal 2 => subst x))
    | (extract_lets +onlyGivenNames x; clear_value x)

theorem Dev.coreBranch_keeps {s : Dev} (n : Nat) (b : Branch) (hs : s.Canonical) :
    (Dev.coreBranch s n b).Canonical := by
  unfold Dev.coreBranch
  with_reducible repeat' first
    | assumption | apply Dev.closeBranches_keeps | apply Dev.setBranchRec_keeps | apply foldl_keeps | apply foldl_keeps1
    | exact Dev.keep_mk (by assumption) rfl | (intro _; rfl) | (intro _) | (refine canonical_of_fst (by assumption) ?_) | (split)
    | (extract_lets +onlyGivenNames x; refine_lift (have hx : Dev.Canonical x := ?_; ?_); (on_goal 1 => clear_value x); (on_goal 2 => subst x))
    | (extract_lets +onlyGivenNames x; clear_value x) | (refine canonical_of_some_fst (by assumption) ?_)
    | (refine canonical_of_some (by assumption) ?_) | (refine canonical_of_snd (by assumption) ?_) | (refine Dev.keep_mk ?_ rfl)
    | (dsimp only)

theorem Dev.coreCode_keeps {s : Dev} (n : Nat) (hs : s.Canonical) :
    (Dev.coreCode s n).Canonical := by
  unfold Dev.coreCode
  with_reducible repeat' first
    | assumption | apply Dev.coreBranch_keeps | apply foldl_keeps | exact Dev.keep_mk (by assumption) rfl | (intro _) | (split)

theorem Dev.coreHalts_keeps {s : Dev} (n : Nat) (hs : s.Canonical) :
    (Dev.coreHalts s n).Canonical := by
  unfold Dev.coreHalts
  with_reducible repeat' first
    | assumption | apply Dev.closeBranches_keeps | apply Dev.coreCode_keeps | exact Dev.keep_mk (by assumption) rfl

theorem Dev.coreException_keeps {s : Dev} (n : Nat) (hs : s.Canonical) :
    (Dev.coreException s n).Canonical := by
  unfold Dev.coreException
  with_reducible repeat' first
    | assumption | apply Dev.coreHalts_keeps | apply Dev.trace_keeps | apply foldl_keeps | apply foldl_keeps1
    | exact Dev.keep_mk (by assumption) rfl | (intro _; rfl) | (intro _) | (refine canonical_of_fst (by assumption) ?_) | (split)
    | (extract_lets +onlyGivenNames x; refine_lift (have hx : Dev.Canonical x := ?_; ?_); (on_goal 1 => clear_value x); (on_goal 2 => subst x))
    | (extract_lets +onlyGivenNames x; clear_value x) | (refine canonical_of_some_fst (by assumption) ?_)
    | (refine canonical_of_some (by assumption) ?_) | (refine canonical_of_snd (by assumption) ?_) | (refine Dev.keep_mk ?_ rfl)
    | (dsimp only)

theorem Dev.setEng_keeps {s : Dev} (e : Nat) (v : Engine) (hs : s.Canonical) :
    (Dev.setEng s e v).Canonical := by
  unfold Dev.setEng
  with_reducible repeat' first
    | assumption | exact Dev.keep_mk (by assumption) rfl

theorem Dev.fresh_keeps {s : Dev} (hs : s.Canonical) :
    (Dev.fresh s).Canonical := by
  unfold Dev.fresh
  with_reducible repeat' first
    | assumption | exact Dev.keep_mk (by assumption) rfl

theorem Dev.veState_keeps {s : Dev} (e : Nat) (v : Nat) (hs : s.Canonical) :
    (Dev.veState s e v).Canonical := by
  unfold Dev.veState
  with_reducible repeat' first
    | assumption | apply Dev.wr_keeps | (split)

theorem Dev.wakeEngine_keeps {s : Dev} (e : Nat) (hs : s.Canonical) :
    (Dev.wakeEngine s e).Canonical := by
  unfold Dev.wakeEngine
  with_reducible repeat' first
    | assumption | apply Dev.veState_keeps | apply Dev.setEng_keeps | (split)
    | (extract_lets +onlyGivenNames x; refine_lift (have hx : Dev.Canonical x := ?_; ?_); (on_goal 1 => clear_value x); (on_goal 2 => subst x))
    | (extract_lets +onlyGivenNames x; clear_value x)

theorem Dev.waitServed_keeps {s : Dev} (id : Nat) (hs : s.Canonical) :
    (Dev.waitServed s id).Canonical := by
  unfold Dev.waitServed
  with_reducible repeat' first
    | assumption | apply Dev.finishOk_keeps | apply Dev.wr_keeps | apply Dev.wakeEngine_keeps | apply hgo
    | exact Dev.keep_mk (by assumption) rfl
    | (refine Dev.keep_mk ?_ rfl; (repeat' first | assumption | apply Dev.finishOk_keeps | apply Dev.wr_keeps | apply Dev.wakeEngine_keeps); done)
    | (intro _; rfl) | (intro _; split <;> rfl) | (intro _) | (refine canonical_of_fst (by assumption) ?_)
    | (refine canonical_of_some_fst (by assumption) ?_) | (refine canonical_of_some (by assumption) ?_) | (split)
    | (extract_lets +onlyGivenNames x; refine_lift (have hx : Dev.Canonical x := ?_; ?_); (on_goal 1 => clear_value x); (on_goal 2 => subst x))
    | (extract_lets +onlyGivenNames x; refine_lift (have hx : Dev.Canonical x.1 := ?_; ?_); (on_goal 1 => clear_value x); (on_goal 2 => subst x))
    | (extract_lets +onlyGivenNames x; refine_lift (have hgo : ∀ y, Dev.Canonical y → Dev.Canonical (x y) := ?_; ?_); (on_goal 1 => clear_value x); (on_goal 2 => subst x))
    | (extract_lets +onlyGivenNames x; refine_lift (have hgo : ∀ y z, Dev.Canonical y → Dev.Canonical (x y z) := ?_; ?_); (on_goal 1 => clear_value x); (on_goal 2 => subst x))
    | (extract_lets +onlyGivenNames x; clear_value x) | (refine Dev.keep_mk ?_ ?_; assumption; split <;> rfl)
    | (extract_lets +onlyGivenNames x; refine_lift (have hx : Dev.Canonical x := ?_; ?_); (on_goal 2 => subst x))

theorem Dev.setFe_keeps {s : Dev} (a : Nat) (v : FeWord) (hs : s.Canonical) :
    (Dev.setFe s a v).Canonical := by
  unfold Dev.setFe
  with_reducible repeat' first
    | assumption | exact Dev.keep_mk (by assumption) rfl

theorem Dev.feDo_keeps {s : Dev} (a : Nat) (e : Nat) (k : FeKind) (hs : s.Canonical) :
    (Dev.feDo s a e k).Canonical := by
  unfold Dev.feDo
  with_reducible repeat' first
    | assumption | apply Dev.putLe_keeps | apply Dev.setFe_keeps | exact Dev.keep_mk (by assumption) rfl | (split)

theorem Dev.feServeFrom_keeps (a : Nat) (a1 : List FeWaiter) {a2 : Dev} (ha2 : a2.Canonical) :
    (Dev.feServeFrom a a1 a2).1.Canonical := by
  induction a1 generalizing a2 with
  | nil =>
    unfold Dev.feServeFrom
    with_reducible repeat' first
      | assumption | apply Dev.waitServed_keeps | apply Dev.feDo_keeps | (refine canonical_of_fst (by assumption) ?_) | (split)
      | (extract_lets +onlyGivenNames x; refine_lift (have hx : Dev.Canonical x := ?_; ?_); (on_goal 1 => clear_value x); (on_goal 2 => subst x))
      | (extract_lets +onlyGivenNames x; clear_value x)
  | cons b r ih =>
    unfold Dev.feServeFrom
    with_reducible repeat' first
      | assumption | apply ih | apply Dev.waitServed_keeps | apply Dev.feDo_keeps | (refine canonical_of_fst (by assumption) ?_)
      | (split)
      | (extract_lets +onlyGivenNames x; refine_lift (have hx : Dev.Canonical x := ?_; ?_); (on_goal 1 => clear_value x); (on_goal 2 => subst x))
      | (extract_lets +onlyGivenNames x; clear_value x)

theorem Dev.feServe_keeps (a : Nat) (a1 : Nat) {a2 : Dev} (ha2 : a2.Canonical) :
    (Dev.feServe a a1 a2).Canonical := by
  induction a1 generalizing a a2 with
  | zero =>
    unfold Dev.feServe
    with_reducible repeat' first
      | assumption | apply Dev.feServeFrom_keeps | apply Dev.setFe_keeps | exact Dev.keep_mk (by assumption) rfl
      | (refine canonical_of_fst (by assumption) ?_) | (split)
      | (extract_lets +onlyGivenNames x; refine_lift (have hx : Dev.Canonical x := ?_; ?_); (on_goal 1 => clear_value x); (on_goal 2 => subst x))
      | (extract_lets +onlyGivenNames x; clear_value x)
  | succ n ih =>
    unfold Dev.feServe
    with_reducible repeat' first
      | assumption | apply ih | apply Dev.feServeFrom_keeps | apply Dev.setFe_keeps | exact Dev.keep_mk (by assumption) rfl
      | (refine canonical_of_fst (by assumption) ?_) | (split)
      | (extract_lets +onlyGivenNames x; refine_lift (have hx : Dev.Canonical x := ?_; ?_); (on_goal 1 => clear_value x); (on_goal 2 => subst x))
      | (extract_lets +onlyGivenNames x; clear_value x)

theorem Dev.serveFe_keeps {s : Dev} (a : Nat) (hs : s.Canonical) :
    (Dev.serveFe s a).Canonical := by
  unfold Dev.serveFe
  with_reducible repeat' first
    | assumption | apply Dev.feServe_keeps | exact Dev.keep_mk (by assumption) rfl

theorem Dev.feEnter_keeps {s : Dev} (a : Nat) (w : FeWaiter) (hs : s.Canonical) :
    (Dev.feEnter s a w).Canonical := by
  unfold Dev.feEnter
  with_reducible repeat' first
    | assumption | apply Dev.serveFe_keeps | apply Dev.setFe_keeps | exact Dev.keep_mk (by assumption) rfl

theorem Dev.unparkN_keeps (a0 : Nat) {a1 : Dev} (ha1 : a1.Canonical) :
    (Dev.unparkN a0 a1).Canonical := by
  induction a0 generalizing a1 with
  | zero => exact ha1
  | succ n ih =>
    unfold Dev.unparkN
    split
    · exact ha1
    · exact ih (Dev.feEnter_keeps _ _ (Dev.keep_mk ha1 rfl))

theorem Dev.unpark_keeps {s : Dev} (hs : s.Canonical) :
    (Dev.unpark s).Canonical := by
  unfold Dev.unpark
  with_reducible repeat' first
    | assumption | apply Dev.unparkN_keeps | exact Dev.keep_mk (by assumption) rfl

theorem Dev.serveWord_keeps {s : Dev} (a : Nat) (hs : s.Canonical) :
    (Dev.serveWord s a).Canonical := by
  unfold Dev.serveWord
  with_reducible repeat' first
    | assumption | apply Dev.unpark_keeps | apply Dev.serveFe_keeps | exact Dev.keep_mk (by assumption) rfl

theorem Dev.coilRelease_keeps {s : Dev} (c : Cmd) (hs : s.Canonical) :
    (Dev.coilRelease s c).Canonical := by
  unfold Dev.coilRelease
  with_reducible repeat' first
    | assumption | exact Dev.keep_mk (by assumption) rfl

theorem Dev.startOn_keeps {s : Dev} (l : Launch) (e : Nat) (hs : s.Canonical) :
    (Dev.startOn s l e).Canonical := by
  unfold Dev.startOn
  with_reducible repeat' first
    | assumption | apply Dev.noteRefused_keeps | apply Dev.coilRelease_keeps | apply Dev.failSt_keeps | apply Dev.badFormat_keeps
    | apply Dev.putBytes_keeps | apply Dev.veState_keeps | apply Dev.setEng_keeps | (split)
    | (extract_lets +onlyGivenNames x; refine_lift (have hx : Dev.Canonical x := ?_; ?_); (on_goal 1 => clear_value x); (on_goal 2 => subst x))
    | (extract_lets +onlyGivenNames x; clear_value x)

theorem Dev.launch_keeps {s : Dev} (l : Launch) (hs : s.Canonical) :
    (Dev.launch s l).Canonical := by
  unfold Dev.launch
  with_reducible repeat' first
    | assumption | apply Dev.startOn_keeps | apply Dev.fresh_keeps | exact Dev.keep_mk (by assumption) rfl | (intro _) | (split)
    | (extract_lets +onlyGivenNames x; refine_lift (have hx : Dev.Canonical x := ?_; ?_); (on_goal 1 => clear_value x); (on_goal 2 => subst x))
    | (extract_lets +onlyGivenNames x; clear_value x)

theorem Dev.nextLaunch_keeps {s : Dev} (e : Nat) (hs : s.Canonical) :
    (Dev.nextLaunch s e).Canonical := by
  unfold Dev.nextLaunch
  with_reducible repeat' first
    | assumption | apply Dev.startOn_keeps | exact Dev.keep_mk (by assumption) rfl | (split)

theorem Dev.countSteps_keeps {s : Dev} (c : Cmd) (e : Nat) (n : Nat) (hs : s.Canonical) :
    (Dev.countSteps s c e n).Canonical := by
  unfold Dev.countSteps
  with_reducible repeat' first
    | assumption | apply Dev.fresh_keeps | apply Dev.bump_keeps | apply Dev.addWork_keeps | apply Dev.pf_keeps | (split)

theorem Dev.dropEngineWaits_keeps {s : Dev} (e : Nat) (hs : s.Canonical) :
    (Dev.dropEngineWaits s e).Canonical := by
  unfold Dev.dropEngineWaits
  with_reducible repeat' first
    | assumption | apply Dev.unpark_keeps | exact Dev.keep_mk (by assumption) rfl

theorem Dev.engineEnd_keeps {s : Dev} (e : Nat) (status : Nat) (steps : Nat) (d0 : Nat) (hs : s.Canonical) :
    (Dev.engineEnd s e status steps d0).Canonical := by
  unfold Dev.engineEnd
  with_reducible repeat' first
    | assumption | apply Dev.dropEngineWaits_keeps | apply Dev.veState_keeps | apply Dev.setEng_keeps
    | apply Dev.coilRelease_keeps | apply Dev.countSteps_keeps | apply Dev.nextLaunch_keeps | apply Dev.finish_keeps | (split)

theorem Dev.engineFail_keeps {s : Dev} (e : Nat) (status : Nat) (d0 : Nat) (hs : s.Canonical) :
    (Dev.engineFail s e status d0).Canonical := by
  unfold Dev.engineFail
  with_reducible repeat' first
    | assumption | apply Dev.engineEnd_keeps | apply Dev.fresh_keeps | exact Dev.keep_mk (by assumption) rfl

theorem Dev.readShown_keeps {s : Dev} (c : Cmd) (a : Nat) (n : Nat) (hs : s.Canonical) :
    (Dev.readShown s c a n).2.Canonical := by
  unfold Dev.readShown
  with_reducible repeat' first
    | assumption | apply Dev.noteRead_keeps | exact Dev.keep_mk (by assumption) rfl

theorem Dev.veOp_keeps {s : Dev} (e : Nat) (k : Cmd) (a3 : VeOp) (hs : s.Canonical) :
    (Dev.veOp s e k a3).Canonical := by
  unfold Dev.veOp
  with_reducible repeat' first
    | assumption | apply Dev.readShown_keeps | apply Dev.storeFor_keeps | apply Dev.reportFor_keeps | apply Dev.wr_keeps
    | apply foldl_keeps | apply foldl_keeps1 | exact Dev.keep_mk (by assumption) rfl | (intro _; rfl) | (intro _)
    | (refine canonical_of_fst (by assumption) ?_) | (split)
    | (extract_lets +onlyGivenNames x; refine_lift (have hx : Dev.Canonical x := ?_; ?_); (on_goal 1 => clear_value x); (on_goal 2 => subst x))
    | (extract_lets +onlyGivenNames x; clear_value x) | (refine canonical_of_some_fst (by assumption) ?_)
    | (refine canonical_of_some (by assumption) ?_) | (refine canonical_of_snd (by assumption) ?_) | (refine Dev.keep_mk ?_ rfl)
    | (dsimp only)

theorem Dev.veOps_keeps {s : Dev} (e : Nat) (k : Cmd) (ops : List VeOp) (hs : s.Canonical) :
    (Dev.veOps s e k ops).Canonical := by
  unfold Dev.veOps
  with_reducible repeat' first
    | assumption | apply Dev.veOp_keeps | apply foldl_keeps | (intro _)

theorem Dev.setKnot_keeps {s : Dev} (k : Nat) (v : Knot) (hs : s.Canonical) :
    (Dev.setKnot s k v).Canonical := by
  unfold Dev.setKnot
  with_reducible repeat' first
    | assumption | exact Dev.keep_mk (by assumption) rfl

theorem Dev.syLog_keeps {s : Dev} (e : SyEvent) (hs : s.Canonical) :
    (Dev.syLog s e).Canonical := by
  unfold Dev.syLog
  with_reducible repeat' first
    | assumption | apply Dev.wr_keeps | exact Dev.keep_mk (by assumption) rfl | (split)

theorem Dev.knotMisuse_keeps {s : Dev} (e : Event) (typ : Nat) (k : Nat) (part : Nat) (amount : Nat) (a : Agent) (who : Option Cmd) (hs :
    s.Canonical) :
    (Dev.knotMisuse s e typ k part amount a who).Canonical := by
  unfold Dev.knotMisuse
  with_reducible repeat' first
    | assumption | apply Dev.bump_keeps | apply Dev.syLog_keeps | apply Dev.reportAs_keeps | (split)

theorem Dev.knotPut_keeps {s : Dev} (k : Nat) (v : Nat) (a : Agent) (part : Nat) (who : Option Cmd) (hs : s.Canonical) :
    (Dev.knotPut s k v a part who).Canonical := by
  unfold Dev.knotPut
  with_reducible repeat' first
    | assumption | apply Dev.bump_keeps | apply Dev.setKnot_keeps | apply Dev.syLog_keeps | apply Dev.reportAs_keeps | (split)
    | (extract_lets +onlyGivenNames x; refine_lift (have hx : Dev.Canonical x := ?_; ?_); (on_goal 1 => clear_value x); (on_goal 2 => subst x))
    | (extract_lets +onlyGivenNames x; clear_value x)

theorem Dev.serveFrom_keeps (k : Nat) (a1 : List Waiter) (a2 : Bool) {a3 : Dev} (ha3 : a3.Canonical) :
    (Dev.serveFrom k a1 a2 a3).1.Canonical := by
  induction a1 generalizing a2 a3 with
  | nil =>
    unfold Dev.serveFrom
    with_reducible repeat' first
      | assumption | apply Dev.knotPut_keeps | apply Dev.waitServed_keeps | (refine canonical_of_fst (by assumption) ?_)
      | (split)
      | (extract_lets +onlyGivenNames x; refine_lift (have hx : Dev.Canonical x := ?_; ?_); (on_goal 1 => clear_value x); (on_goal 2 => subst x))
      | (extract_lets +onlyGivenNames x; clear_value x)
  | cons b r ih =>
    unfold Dev.serveFrom
    with_reducible repeat' first
      | assumption | apply ih | apply Dev.knotPut_keeps | apply Dev.waitServed_keeps
      | (refine canonical_of_fst (by assumption) ?_) | (split)
      | (extract_lets +onlyGivenNames x; refine_lift (have hx : Dev.Canonical x := ?_; ?_); (on_goal 1 => clear_value x); (on_goal 2 => subst x))
      | (extract_lets +onlyGivenNames x; clear_value x)

theorem Dev.serveKnot_keeps {s : Dev} (k : Nat) (hs : s.Canonical) :
    (Dev.serveKnot s k).Canonical := by
  unfold Dev.serveKnot
  with_reducible repeat' first
    | assumption | apply Dev.serveFrom_keeps | apply Dev.setKnot_keeps | exact Dev.keep_mk (by assumption) rfl

theorem Dev.knotDenied_keeps {s : Dev} (k : Nat) (part : Nat) (amount : Nat) (a : Agent) (who : Option Cmd) (hs : s.Canonical) :
    (Dev.knotDenied s k part amount a who).1.Canonical := by
  unfold Dev.knotDenied
  with_reducible repeat' first
    | assumption | apply Dev.knotMisuse_keeps | (split)

theorem Dev.knotAddOp_keeps {s : Dev} (k : Nat) (n : Nat) (part : Nat) (a : Agent) (who : Option Cmd) (hs : s.Canonical) :
    (Dev.knotAddOp s k n part a who).1.Canonical := by
  unfold Dev.knotAddOp
  with_reducible repeat' first
    | assumption | apply Dev.knotDenied_keeps | apply Dev.knotMisuse_keeps | apply Dev.serveKnot_keeps | apply Dev.knotPut_keeps
    | exact Dev.keep_mk (by assumption) rfl | (intro _) | (refine canonical_of_fst (by assumption) ?_) | (split)

theorem Dev.knotSubOp_keeps {s : Dev} (k : Nat) (n : Nat) (part : Nat) (a : Agent) (who : Option Cmd) (hs : s.Canonical) :
    (Dev.knotSubOp s k n part a who).1.Canonical := by
  unfold Dev.knotSubOp
  with_reducible repeat' first
    | assumption | apply Dev.knotDenied_keeps | apply Dev.knotMisuse_keeps | apply Dev.serveKnot_keeps | apply Dev.knotPut_keeps
    | exact Dev.keep_mk (by assumption) rfl | (intro _) | (refine canonical_of_fst (by assumption) ?_) | (split)

theorem Dev.knotSetOp_keeps {s : Dev} (k : Nat) (v : Nat) (part : Nat) (a : Agent) (who : Option Cmd) (hs : s.Canonical) :
    (Dev.knotSetOp s k v part a who).1.Canonical := by
  unfold Dev.knotSetOp
  with_reducible repeat' first
    | assumption | apply Dev.knotDenied_keeps | apply Dev.serveKnot_keeps | apply Dev.knotPut_keeps
    | exact Dev.keep_mk (by assumption) rfl | (intro _) | (refine canonical_of_fst (by assumption) ?_) | (split)

theorem Dev.knotConfigOp_keeps {s : Dev} (k : Nat) (e : Bool) (part : Nat) (a : Agent) (who : Option Cmd) (hs : s.Canonical) :
    (Dev.knotConfigOp s k e part a who).1.Canonical := by
  unfold Dev.knotConfigOp
  with_reducible repeat' first
    | assumption | apply Dev.knotDenied_keeps | apply Dev.setKnot_keeps | exact Dev.keep_mk (by assumption) rfl | (intro _)
    | (refine canonical_of_fst (by assumption) ?_) | (split)

theorem Dev.knotOp_keeps {s : Dev} (op : Nat) (k : Nat) (amount : Nat) (part : Nat) (a : Agent) (who : Option Cmd) (hs : s.Canonical) :
    (Dev.knotOp s op k amount part a who).1.Canonical := by
  unfold Dev.knotOp
  with_reducible repeat' first
    | assumption | apply Dev.knotAddOp_keeps | apply Dev.knotSubOp_keeps | apply Dev.knotSetOp_keeps
    | apply Dev.knotConfigOp_keeps | (split)

theorem Dev.startWait_keeps {s : Dev} (obj : WaitObj) (a : Agent) (part : Nat) (limit : Nat) (c : Option Cmd) (hs : s.Canonical) :
    (Dev.startWait s obj a part limit c).Canonical := by
  unfold Dev.startWait
  with_reducible repeat' first
    | assumption | exact Dev.keep_mk (by assumption) rfl

theorem Dev.knotWaitOn_keeps {s : Dev} (k : Nat) (v : Nat) (consume : Bool) (a : Agent) (part : Nat) (limit : Nat) (c : Option Cmd) (hs :
    s.Canonical) :
    (Dev.knotWaitOn s k v consume a part limit c).Canonical := by
  unfold Dev.knotWaitOn
  with_reducible repeat' first
    | assumption | apply Dev.bump_keeps | apply Dev.startWait_keeps | apply Dev.waitServed_keeps | apply Dev.serveKnot_keeps
    | apply Dev.setKnot_keeps | (split)

theorem Dev.dropWait_keeps {s : Dev} (w : Wait) (hs : s.Canonical) :
    (Dev.dropWait s w).Canonical := by
  unfold Dev.dropWait
  with_reducible repeat' first
    | assumption | apply Dev.setKnot_keeps | apply Dev.unpark_keeps | apply Dev.setFe_keeps
    | exact Dev.keep_mk (by assumption) rfl | (intro _) | (split)
    | (extract_lets +onlyGivenNames x; refine_lift (have hx : Dev.Canonical x := ?_; ?_); (on_goal 1 => clear_value x); (on_goal 2 => subst x))
    | (extract_lets +onlyGivenNames x; clear_value x)

theorem Dev.setQState_keeps {s : Dev} (q : Nat) (v : Nat) (hs : s.Canonical) :
    (Dev.setQState s q v).Canonical := by
  unfold Dev.setQState
  with_reducible repeat' first
    | assumption | apply Dev.wr_keeps | exact Dev.keep_mk (by assumption) rfl

theorem Dev.setSlots_keeps {s : Dev} (q : Nat) (f : List Slot → List Slot) (hs : s.Canonical) :
    (Dev.setSlots s q f).Canonical := by
  unfold Dev.setSlots
  with_reducible repeat' first
    | assumption | apply Dev.modQueue_keeps | apply Dev.wr_keeps | exact Dev.keep_mk (by assumption) rfl

theorem Dev.drained_keeps {s : Dev} (q : Nat) (hs : s.Canonical) :
    (Dev.drained s q).Canonical := by
  unfold Dev.drained
  with_reducible repeat' first
    | assumption | apply Dev.setQState_keeps | (split)

theorem Dev.ringFault_keeps {s : Dev} (q : Nat) (hs : s.Canonical) :
    (Dev.ringFault s q).Canonical := by
  unfold Dev.ringFault
  with_reducible repeat' first
    | assumption | apply Dev.setQState_keeps | apply Dev.reportP_keeps | (split)

theorem doDoorbellWrite_keeps (src : Src) (q : Nat) (w : Word) {s : Dev} (hs : s.Canonical) :
    (doDoorbellWrite src q w s).Canonical := by
  unfold doDoorbellWrite
  with_reducible repeat' first
    | assumption | apply Dev.bump_keeps | apply Dev.reportP_keeps | apply Dev.modQueue_keeps | apply Dev.setQState_keeps | (split)
    | (extract_lets +onlyGivenNames x; refine_lift (have hx : Dev.Canonical x := ?_; ?_); (on_goal 1 => clear_value x); (on_goal 2 => subst x))
    | (extract_lets +onlyGivenNames x; clear_value x)

theorem doQueueCreate_keeps (src : Src) (q : Nat) {s : Dev} (hs : s.Canonical) :
    (doQueueCreate src q s).Canonical := by
  unfold doQueueCreate
  with_reducible repeat' first
    | assumption | apply Dev.foreign_keeps | apply Dev.reportP_keeps | apply Dev.wr_keeps | apply Dev.setQState_keeps
    | exact Dev.keep_mk (by assumption) rfl | (intro _) | (split)
    | (extract_lets +onlyGivenNames x; refine_lift (have hx : Dev.Canonical x := ?_; ?_); (on_goal 1 => clear_value x); (on_goal 2 => subst x))
    | (extract_lets +onlyGivenNames x; clear_value x)

theorem Dev.deleteQueue_keeps {s : Dev} (q : Nat) (silent : Bool) (hs : s.Canonical) :
    (Dev.deleteQueue s q silent).Canonical := by
  unfold Dev.deleteQueue
  with_reducible repeat' first
    | assumption | apply Dev.dropWait_keeps | apply Dev.modQueue_keeps | apply Dev.setSlots_keeps | apply Dev.drained_keeps
    | apply Dev.setQState_keeps | apply foldl_keeps | (intro _)

theorem doQueueDelete_keeps (src : Src) (q : Nat) {s : Dev} (hs : s.Canonical) :
    (doQueueDelete src q s).Canonical := by
  unfold doQueueDelete
  with_reducible repeat' first
    | assumption | apply Dev.foreign_keeps | apply Dev.deleteQueue_keeps | (split)

theorem doResetError_keeps (src : Src) (q : Nat) {s : Dev} (hs : s.Canonical) :
    (doResetError src q s).Canonical := by
  unfold doResetError
  with_reducible repeat' first
    | assumption | apply Dev.foreign_keeps | apply Dev.setQState_keeps | (split)

theorem Dev.chooseClass_keeps {s : Dev} (live : List Nat) (hs : s.Canonical) :
    (Dev.chooseClass s live).1.Canonical := by
  unfold Dev.chooseClass
  with_reducible repeat' first
    | assumption | exact Dev.keep_mk (by assumption) rfl | (intro _) | (split)
    | (extract_lets +onlyGivenNames x; refine_lift (have hx : Dev.Canonical x := ?_; ?_); (on_goal 1 => clear_value x); (on_goal 2 => subst x))
    | (extract_lets +onlyGivenNames x; clear_value x)

theorem Dev.chooseQueue_keeps {s : Dev} (c : Nat) (qs : List Nat) (hs : s.Canonical) :
    (Dev.chooseQueue s c qs).1.Canonical := by
  unfold Dev.chooseQueue
  with_reducible repeat' first
    | assumption | apply Dev.modQueue_keeps | exact Dev.keep_mk (by assumption) rfl | (intro _) | (split)
    | (extract_lets +onlyGivenNames x; refine_lift (have hx : Dev.Canonical x := ?_; ?_); (on_goal 1 => clear_value x); (on_goal 2 => subst x))
    | (extract_lets +onlyGivenNames x; clear_value x)

theorem Dev.arbitrate_keeps {s : Dev} (hs : s.Canonical) :
    (Dev.arbitrate s).1.Canonical := by
  unfold Dev.arbitrate
  with_reducible repeat' first
    | assumption | apply Dev.chooseClass_keeps | apply Dev.chooseQueue_keeps | exact Dev.keep_mk (by assumption) rfl | (intro _)
    | (refine canonical_of_fst (by assumption) ?_) | (split)
    | (extract_lets +onlyGivenNames x; refine_lift (have hx : Dev.Canonical x := ?_; ?_); (on_goal 1 => clear_value x); (on_goal 2 => subst x))
    | (extract_lets +onlyGivenNames x; clear_value x)

theorem Dev.queueIrq_keeps {s : Dev} (q : Nat) (hs : s.Canonical) :
    (Dev.queueIrq s q).Canonical := by
  unfold Dev.queueIrq
  with_reducible repeat' first
    | assumption | apply Dev.modQueue_keeps | exact Dev.keep_mk (by assumption) rfl | (intro _) | (split)
    | (extract_lets +onlyGivenNames x; refine_lift (have hx : Dev.Canonical x := ?_; ?_); (on_goal 1 => clear_value x); (on_goal 2 => subst x))
    | (extract_lets +onlyGivenNames x; clear_value x)

theorem Dev.coalesce_keeps {s : Dev} (q : Nat) (now : Bool) (hs : s.Canonical) :
    (Dev.coalesce s q now).Canonical := by
  unfold Dev.coalesce
  with_reducible repeat' first
    | assumption | apply Dev.queueIrq_keeps | apply Dev.modQueue_keeps | (split)
    | (extract_lets +onlyGivenNames x; refine_lift (have hx : Dev.Canonical x := ?_; ?_); (on_goal 1 => clear_value x); (on_goal 2 => subst x))
    | (extract_lets +onlyGivenNames x; clear_value x)

theorem Dev.retire_keeps {s : Dev} (q : Nat) (d : Done) (hs : s.Canonical) :
    (Dev.retire s q d).Canonical := by
  unfold Dev.retire
  with_reducible repeat' first
    | assumption | apply Dev.modQueue_keeps | apply Dev.bump_keeps | apply Dev.setSlots_keeps | apply Dev.trace_keeps
    | apply Dev.drained_keeps | exact Dev.keep_mk (by assumption) rfl | (split)

theorem doContinue_keeps (src : Src) (q : Nat) {s : Dev} (hs : s.Canonical) :
    (doContinue src q s).Canonical := by
  unfold doContinue
  with_reducible repeat' first
    | assumption | apply Dev.foreign_keeps | apply Dev.modQueue_keeps | apply Dev.setQState_keeps | (split)
    | (extract_lets +onlyGivenNames x; refine_lift (have hx : Dev.Canonical x := ?_; ?_); (on_goal 1 => clear_value x); (on_goal 2 => subst x))
    | (extract_lets +onlyGivenNames x; clear_value x)

theorem Dev.flushRing_keeps (q : Nat) (a1 : Nat) {a2 : Dev} (ha2 : a2.Canonical) :
    (Dev.flushRing q a1 a2).Canonical := by
  induction a1 generalizing a2 with
  | zero =>
    unfold Dev.flushRing
    with_reducible repeat' first
      | assumption | apply Dev.ringFault_keeps | apply Dev.failSt_keeps | apply Dev.bump_keeps | apply Dev.wr_keeps
      | exact Dev.keep_mk (by assumption) rfl | (refine canonical_of_fst (by assumption) ?_) | (split)
      | (extract_lets +onlyGivenNames x; refine_lift (have hx : Dev.Canonical x := ?_; ?_); (on_goal 1 => clear_value x); (on_goal 2 => subst x))
      | (extract_lets +onlyGivenNames x; clear_value x)
  | succ n ih =>
    unfold Dev.flushRing
    with_reducible repeat' first
      | assumption | apply ih | apply Dev.ringFault_keeps | apply Dev.failSt_keeps | apply Dev.bump_keeps | apply Dev.wr_keeps
      | exact Dev.keep_mk (by assumption) rfl | (refine canonical_of_fst (by assumption) ?_) | (split)
      | (extract_lets +onlyGivenNames x; refine_lift (have hx : Dev.Canonical x := ?_; ?_); (on_goal 1 => clear_value x); (on_goal 2 => subst x))
      | (extract_lets +onlyGivenNames x; clear_value x)

theorem doFlush_keeps (src : Src) (q : Nat) {s : Dev} (hs : s.Canonical) :
    (doFlush src q s).Canonical := by
  unfold doFlush
  with_reducible repeat' first
    | assumption | apply Dev.foreign_keeps | apply Dev.modQueue_keeps | apply Dev.setQState_keeps | apply Dev.failSt_keeps
    | apply Dev.flushRing_keeps | apply foldl_keeps | exact Dev.keep_mk (by assumption) rfl | (intro _) | (split)

theorem Dev.enter_keeps {s : Dev} (st : Nat) (hs : s.Canonical) :
    (Dev.enter s st).Canonical := by
  unfold Dev.enter
  with_reducible repeat' first
    | assumption | apply Dev.wr_keeps | exact Dev.keep_mk (by assumption) rfl

theorem Dev.degrade_keeps {s : Dev} (c : Cause) (on : Bool) (hs : s.Canonical) :
    (Dev.degrade s c on).Canonical := by
  unfold Dev.degrade
  with_reducible repeat' first
    | assumption | apply Dev.wr_keeps | apply Dev.report_keeps | apply Dev.enter_keeps | (split)
    | (extract_lets +onlyGivenNames x; refine_lift (have hx : Dev.Canonical x := ?_; ?_); (on_goal 1 => clear_value x); (on_goal 2 => subst x))
    | (extract_lets +onlyGivenNames x; clear_value x)

theorem Dev.enterService_keeps {s : Dev} (t : Nat) (hs : s.Canonical) :
    (Dev.enterService s t).Canonical := by
  unfold Dev.enterService
  with_reducible repeat' first
    | assumption | apply Dev.wr_keeps | apply Dev.modTile_keeps | (split)

theorem Dev.modRings_keeps {s : Dev} (t : Nat) (f : RingTile → RingTile) (hs : s.Canonical) :
    (Dev.modRings s t f).Canonical := by
  unfold Dev.modRings
  with_reducible repeat' first
    | assumption | exact Dev.keep_mk (by assumption) rfl

theorem Dev.modUnit_keeps {s : Dev} (u : Nat) (f : LlUnit → LlUnit) (hs : s.Canonical) :
    (Dev.modUnit s u f).Canonical := by
  unfold Dev.modUnit
  with_reducible repeat' first
    | assumption | exact Dev.keep_mk (by assumption) rfl

theorem Dev.modComb_keeps {s : Dev} (q : Nat) (f : Comb → Comb) (hs : s.Canonical) :
    (Dev.modComb s q f).Canonical := by
  unfold Dev.modComb
  with_reducible repeat' first
    | assumption | exact Dev.keep_mk (by assumption) rfl

theorem Dev.updCal_keeps {s : Dev} (t : Nat) (hs : s.Canonical) :
    (Dev.updCal s t).Canonical := by
  unfold Dev.updCal
  with_reducible repeat' first
    | assumption | apply Dev.wr_keeps | exact Dev.keep_mk (by assumption) rfl

theorem Dev.calFresh_keeps {s : Dev} (t : Nat) (k : Cal) (hs : s.Canonical) :
    (Dev.calFresh s t k).Canonical := by
  unfold Dev.calFresh
  with_reducible repeat' first
    | assumption | apply Dev.wr_keeps | apply Dev.modTile_keeps | exact Dev.keep_mk (by assumption) rfl

theorem Dev.showUrgent_keeps {s : Dev} (t : Nat) (trig : Nat) (hs : s.Canonical) :
    (Dev.showUrgent s t trig).Canonical := by
  unfold Dev.showUrgent
  with_reducible repeat' first
    | assumption | apply Dev.wr_keeps | apply Dev.modTile_keeps | (split)

theorem Dev.calStart_keeps {s : Dev} (t : Nat) (trig : Nat) (hs : s.Canonical) :
    (Dev.calStart s t trig).Canonical := by
  unfold Dev.calStart
  with_reducible repeat' first
    | assumption | apply Dev.wr_keeps | apply Dev.showUrgent_keeps | apply Dev.calFresh_keeps | apply Dev.modTile_keeps | (split)
    | (extract_lets +onlyGivenNames x; refine_lift (have hx : Dev.Canonical x := ?_; ?_); (on_goal 1 => clear_value x); (on_goal 2 => subst x))
    | (extract_lets +onlyGivenNames x; clear_value x)

theorem Dev.calRestart_keeps {s : Dev} (t : Nat) (trig : Nat) (hs : s.Canonical) :
    (Dev.calRestart s t trig).Canonical := by
  unfold Dev.calRestart
  with_reducible repeat' first
    | assumption | apply Dev.bump_keeps | apply Dev.wr_keeps | apply Dev.showUrgent_keeps | apply Dev.calFresh_keeps
    | exact Dev.keep_mk (by assumption) rfl

theorem Dev.calTrigger_keeps {s : Dev} (t : Nat) (trig : Nat) (hs : s.Canonical) :
    (Dev.calTrigger s t trig).Canonical := by
  unfold Dev.calTrigger
  with_reducible repeat' first
    | assumption | apply Dev.wr_keeps | apply Dev.calRestart_keeps | apply Dev.calStart_keeps | (split)
    | (extract_lets +onlyGivenNames x; refine_lift (have hx : Dev.Canonical x := ?_; ?_); (on_goal 1 => clear_value x); (on_goal 2 => subst x))
    | (extract_lets +onlyGivenNames x; clear_value x)

theorem Dev.calProbe_keeps {s : Dev} (t : Nat) (segs : List Nat) (n : Nat) (hs : s.Canonical) :
    (Dev.calProbe s t segs n).Canonical := by
  unfold Dev.calProbe
  with_reducible repeat' first
    | assumption | apply Dev.modTile_keeps | (split)
    | (extract_lets +onlyGivenNames x; refine_lift (have hx : Dev.Canonical x := ?_; ?_); (on_goal 1 => clear_value x); (on_goal 2 => subst x))
    | (extract_lets +onlyGivenNames x; clear_value x)

theorem Dev.setSiteDesc_keeps {s : Dev} (x : Site) (d : Nat) (v : Nat × Nat) (hs : s.Canonical) :
    (Dev.setSiteDesc s x d v).Canonical := by
  unfold Dev.setSiteDesc
  with_reducible repeat' first
    | assumption | apply Dev.setDesc_keeps | apply Dev.modTile_keeps | (split)

theorem Dev.noteSat_keeps {s : Dev} (who : Option Cmd) (x : Site) (i : Nat) (hs : s.Canonical) :
    (Dev.noteSat s who x i).Canonical := by
  unfold Dev.noteSat
  with_reducible repeat' first
    | assumption | apply Dev.setSiteDesc_keeps | apply Dev.reportAs_keeps | apply Dev.bump_keeps | (split)

theorem Dev.accAddTo_keeps {s : Dev} (who : Option Cmd) (x : Site) (i : Nat) (r : Nat) (j : Nat) (n : Int) (hs : s.Canonical) :
    (Dev.accAddTo s who x i r j n).Canonical := by
  unfold Dev.accAddTo
  with_reducible repeat' first
    | assumption | apply Dev.putLe_keeps | apply Dev.noteSat_keeps | (split)
    | (extract_lets +onlyGivenNames x; refine_lift (have hx : Dev.Canonical x := ?_; ?_); (on_goal 1 => clear_value x); (on_goal 2 => subst x))
    | (extract_lets +onlyGivenNames x; clear_value x)

theorem Dev.zeroPatch_keeps {s : Dev} (t : Nat) (d : Nat × Nat) (hs : s.Canonical) :
    (Dev.zeroPatch s t d).Canonical := by
  unfold Dev.zeroPatch
  with_reducible repeat' first
    | assumption | apply Dev.zero_keeps | exact Dev.keep_mk (by assumption) rfl

theorem Dev.openPatch_keeps {s : Dev} (t : Nat) (c : Cmd) (hs : s.Canonical) :
    (Dev.openPatch s t c).Canonical := by
  unfold Dev.openPatch
  with_reducible repeat' first
    | assumption | apply Dev.badFormat_keeps | apply Dev.failEv_keeps | apply Dev.finishOk_keeps | apply Dev.zeroPatch_keeps
    | apply Dev.setDesc_keeps | (split)
    | (extract_lets +onlyGivenNames x; refine_lift (have hx : Dev.Canonical x := ?_; ?_); (on_goal 1 => clear_value x); (on_goal 2 => subst x))
    | (extract_lets +onlyGivenNames x; clear_value x)

theorem Dev.clearPatch_keeps {s : Dev} (t : Nat) (c : Cmd) (hs : s.Canonical) :
    (Dev.clearPatch s t c).Canonical := by
  unfold Dev.clearPatch
  with_reducible repeat' first
    | assumption | apply Dev.failEv_keeps | apply Dev.finishOk_keeps | apply Dev.zeroPatch_keeps | apply Dev.setDesc_keeps
    | (split)
    | (extract_lets +onlyGivenNames x; refine_lift (have hx : Dev.Canonical x := ?_; ?_); (on_goal 1 => clear_value x); (on_goal 2 => subst x))
    | (extract_lets +onlyGivenNames x; clear_value x)

theorem Dev.closePatch_keeps {s : Dev} (t : Nat) (c : Cmd) (hs : s.Canonical) :
    (Dev.closePatch s t c).Canonical := by
  unfold Dev.closePatch
  with_reducible repeat' first
    | assumption | apply Dev.failEv_keeps | apply Dev.finishOk_keeps | apply Dev.setDesc_keeps | (split)
    | (extract_lets +onlyGivenNames x; refine_lift (have hx : Dev.Canonical x := ?_; ?_); (on_goal 1 => clear_value x); (on_goal 2 => subst x))
    | (extract_lets +onlyGivenNames x; clear_value x)

theorem Dev.endStep_keeps {s : Dev} (t : Nat) (entry : Nat) (w : Word) (clips : Nat) (elems : Nat) (lo : Int) (hi : Int) (hs : s.Canonical) :
    (Dev.endStep s t entry w clips elems lo hi).1.Canonical := by
  unfold Dev.endStep
  with_reducible repeat' first
    | assumption | apply Dev.modTile_keeps | (split)
    | (extract_lets +onlyGivenNames x; refine_lift (have hx : Dev.Canonical x := ?_; ?_); (on_goal 1 => clear_value x); (on_goal 2 => subst x))
    | (extract_lets +onlyGivenNames x; clear_value x)

theorem Dev.retrieveRows_keeps {s : Dev} (t : Nat) (p : Nat) (d : Nat × Nat) (c : Cmd) (e : Word) (a6 : List Nat) (a7 : Retrieval) (hs :
    s.Canonical) :
    (Dev.retrieveRows s t p d c e a6 a7).1.Canonical := by
  induction a6 generalizing s a7 with
  | nil =>
    unfold Dev.retrieveRows
    with_reducible repeat' first
      | assumption | apply Dev.storeFor_keeps | exact Dev.keep_mk (by assumption) rfl | (intro _)
      | (refine canonical_of_fst (by assumption) ?_) | (split)
      | (extract_lets +onlyGivenNames x; refine_lift (have hx : Dev.Canonical x := ?_; ?_); (on_goal 1 => clear_value x); (on_goal 2 => subst x))
      | (extract_lets +onlyGivenNames x; clear_value x)
  | cons b r ih =>
    unfold Dev.retrieveRows
    with_reducible repeat' first
      | assumption | apply ih | apply Dev.storeFor_keeps | exact Dev.keep_mk (by assumption) rfl | (intro _)
      | (refine canonical_of_fst (by assumption) ?_) | (split)
      | (extract_lets +onlyGivenNames x; refine_lift (have hx : Dev.Canonical x := ?_; ?_); (on_goal 1 => clear_value x); (on_goal 2 => subst x))
      | (extract_lets +onlyGivenNames x; clear_value x)

theorem Dev.retrievePatch_keeps {s : Dev} (t : Nat) (c : Cmd) (hs : s.Canonical) :
    (Dev.retrievePatch s t c).Canonical := by
  unfold Dev.retrievePatch
  with_reducible repeat' first
    | assumption | apply Dev.badFormat_keeps | apply Dev.failEv_keeps | apply Dev.noteRefused_keeps | apply Dev.retrieveRows_keeps
    | apply Dev.setDesc_keeps | apply Dev.reportC_keeps | apply Dev.bump_keeps | apply Dev.endStep_keeps | apply Dev.failSt_keeps
    | apply Dev.finish_keeps | apply Dev.finishOk_keeps | exact Dev.keep_mk (by assumption) rfl | (intro _)
    | (refine canonical_of_fst (by assumption) ?_) | (split)
    | (extract_lets +onlyGivenNames x; refine_lift (have hx : Dev.Canonical x := ?_; ?_); (on_goal 1 => clear_value x); (on_goal 2 => subst x))
    | (extract_lets +onlyGivenNames x; clear_value x)

theorem Dev.addLanes_keeps {s : Dev} (who : Option Cmd) (x : Site) (i : Nat) (g : Region4) (k : Nat) (vs : List Int) (narrow : Bool) (flags : List
    Nat) (hs : s.Canonical) :
    (Dev.addLanes s who x i g k vs narrow flags).Canonical := by
  unfold Dev.addLanes
  with_reducible repeat' first
    | assumption | apply Dev.accAddTo_keeps | apply Dev.setSiteDesc_keeps | apply Dev.bump_keeps | apply foldl_keeps
    | exact Dev.keep_mk (by assumption) rfl | (intro _) | (split)

theorem Dev.countSplice_keeps {s : Dev} (x : Site) (i : Nat) (hs : s.Canonical) :
    (Dev.countSplice s x i).Canonical := by
  unfold Dev.countSplice
  with_reducible repeat' first
    | assumption | apply Dev.setSiteDesc_keeps | exact Dev.keep_mk (by assumption) rfl

theorem Dev.spliceLocalOp_keeps {s : Dev} (c : Cmd) (hs : s.Canonical) :
    (Dev.spliceLocalOp s c).Canonical := by
  unfold Dev.spliceLocalOp
  with_reducible repeat' first
    | assumption | apply Dev.badFormat_keeps | apply Dev.failEv_keeps | apply Dev.finishOk_keeps | apply Dev.countSplice_keeps
    | apply Dev.addLanes_keeps | (split)
    | (extract_lets +onlyGivenNames x; refine_lift (have hx : Dev.Canonical x := ?_; ?_); (on_goal 1 => clear_value x); (on_goal 2 => subst x))
    | (extract_lets +onlyGivenNames x; clear_value x)

theorem Dev.beginAdd_keeps {s : Dev} (t : Nat) (i : Nat) (hs : s.Canonical) :
    (Dev.beginAdd s t i).Canonical := by
  unfold Dev.beginAdd
  with_reducible repeat' first
    | assumption | apply Dev.modTile_keeps | apply Dev.setDesc_keeps | exact Dev.keep_mk (by assumption) rfl

theorem Dev.endAdd_keeps {s : Dev} (t : Nat) (i : Nat) (hs : s.Canonical) :
    (Dev.endAdd s t i).Canonical := by
  unfold Dev.endAdd
  with_reducible repeat' first
    | assumption | apply Dev.modTile_keeps | apply Dev.setDesc_keeps | (split)
    | (extract_lets +onlyGivenNames x; refine_lift (have hx : Dev.Canonical x := ?_; ?_); (on_goal 1 => clear_value x); (on_goal 2 => subst x))
    | (extract_lets +onlyGivenNames x; clear_value x)

theorem Dev.markIncomplete_keeps {s : Dev} (t : Nat) (i : Nat) (p : Nat) (who : Option Cmd) (hs : s.Canonical) :
    (Dev.markIncomplete s t i p who).Canonical := by
  unfold Dev.markIncomplete
  with_reducible repeat' first
    | assumption | apply Dev.reportAs_keeps | apply Dev.setDesc_keeps | (split)

theorem Dev.useSlots_keeps {s : Dev} (t : Nat) (f : Field) (n : Nat) (hs : s.Canonical) :
    (Dev.useSlots s t f n).Canonical := by
  unfold Dev.useSlots
  with_reducible repeat' first
    | assumption | apply Dev.modTile_keeps | apply Dev.bump_keeps | exact Dev.keep_mk (by assumption) rfl

theorem Dev.showIdle_keeps {s : Dev} (t : Nat) (hs : s.Canonical) :
    (Dev.showIdle s t).Canonical := by
  unfold Dev.showIdle
  with_reducible repeat' first
    | assumption | apply Dev.wr_keeps | exact Dev.keep_mk (by assumption) rfl

theorem Dev.withhold_keeps {s : Dev} (t : Nat) (c : Cmd) (limit : Nat) (hs : s.Canonical) :
    (Dev.withhold s t c limit).Canonical := by
  unfold Dev.withhold
  with_reducible repeat' first
    | assumption | apply Dev.markIncomplete_keeps | apply foldl_keeps | (intro _)

theorem Dev.cutRun_keeps {s : Dev} (t : Nat) (id : Nat) (limit : Nat) (status : Nat) (incomplete : Bool) (hs : s.Canonical) :
    (Dev.cutRun s t id limit status incomplete).Canonical := by
  unfold Dev.cutRun
  with_reducible repeat' first
    | assumption | apply Dev.modTile_keeps | apply Dev.withhold_keeps | (split)
    | (extract_lets +onlyGivenNames x; refine_lift (have hx : Dev.Canonical x := ?_; ?_); (on_goal 1 => clear_value x); (on_goal 2 => subst x))
    | (extract_lets +onlyGivenNames x; clear_value x)

theorem Dev.settle_keeps {s : Dev} (t : Nat) (hs : s.Canonical) :
    (Dev.settle s t).Canonical := by
  unfold Dev.settle
  with_reducible repeat' first
    | assumption | apply Dev.modTile_keeps | apply Dev.endAdd_keeps | apply Dev.wr_keeps | apply Dev.finishOk_keeps
    | apply Dev.finish_keeps | apply foldl_keeps | exact Dev.keep_mk (by assumption) rfl | (intro _) | (split)

theorem Dev.dropPatchWaits_keeps {s : Dev} (cs : List Cmd) (hs : s.Canonical) :
    (Dev.dropPatchWaits s cs).Canonical := by
  unfold Dev.dropPatchWaits
  with_reducible repeat' first
    | assumption | exact Dev.keep_mk (by assumption) rfl

theorem Dev.goOut_keeps {s : Dev} (t : Nat) (hs : s.Canonical) :
    (Dev.goOut s t).Canonical := by
  unfold Dev.goOut
  with_reducible repeat' first
    | assumption | apply Dev.wr_keeps | apply Dev.report_keeps | apply Dev.degrade_keeps | apply Dev.cutRun_keeps
    | apply Dev.dropPatchWaits_keeps | apply Dev.modTile_keeps | apply Dev.finish_keeps | apply Dev.withhold_keeps
    | apply Dev.calTrigger_keeps | apply Dev.settle_keeps | apply foldl_keeps | exact Dev.keep_mk (by assumption) rfl | (intro _)
    | (split)

theorem Dev.failImage_keeps {s : Dev} (c : Cmd) (i : Image) (hs : s.Canonical) :
    (Dev.failImage s c i).Canonical := by
  unfold Dev.failImage
  with_reducible repeat' first
    | assumption | apply Dev.failEv_keeps | apply Dev.failSt_keeps | apply Dev.noteRefused_keeps | (split)

theorem Dev.cutImage_keeps {s : Dev} (t : Nat) (r : Run) (i : Image) (hs : s.Canonical) :
    (Dev.cutImage s t r i).Canonical := by
  unfold Dev.cutImage
  with_reducible repeat' first
    | assumption | apply Dev.cutRun_keeps | apply Dev.reportC_keeps | apply Dev.noteRefused_keeps | (split)

theorem Dev.putLoad_keeps {s : Dev} (t : Nat) (l : Load) (hs : s.Canonical) :
    (Dev.putLoad s t l).Canonical := by
  unfold Dev.putLoad
  with_reducible repeat' first
    | assumption | apply Dev.showIdle_keeps | apply Dev.setTile_keeps | exact Dev.keep_mk (by assumption) rfl

theorem Dev.startLoad_keeps {s : Dev} (t : Nat) (b : Bool) (img : Cmd) (target : Nat) (hi : Bool) (hs : s.Canonical) :
    (Dev.startLoad s t b img target hi).1.Canonical := by
  unfold Dev.startLoad
  with_reducible repeat' first
    | assumption | apply Dev.noteRead_keeps | apply Dev.bump_keeps | apply Dev.putLoad_keeps | (split)
    | (extract_lets +onlyGivenNames x; refine_lift (have hx : Dev.Canonical x := ?_; ?_); (on_goal 1 => clear_value x); (on_goal 2 => subst x))
    | (extract_lets +onlyGivenNames x; clear_value x)

theorem Dev.keepImage_keeps {s : Dev} (t : Nat) (old : Bank) (hs : s.Canonical) :
    (Dev.keepImage s t old).Canonical := by
  unfold Dev.keepImage
  with_reducible repeat' first
    | assumption | apply Dev.modTile_keeps | exact Dev.keep_mk (by assumption) rfl

theorem Dev.epochBegins_keeps {s : Dev} (t : Nat) (hs : s.Canonical) :
    (Dev.epochBegins s t).Canonical := by
  unfold Dev.epochBegins
  with_reducible repeat' first
    | assumption | apply Dev.modTile_keeps | (split)

theorem Dev.startRun_keeps {s : Dev} (t : Nat) (h : Held) (hs : s.Canonical) :
    (Dev.startRun s t h).Canonical := by
  unfold Dev.startRun
  with_reducible repeat' first
    | assumption | apply Dev.epochBegins_keeps | apply Dev.noteRead_keeps | apply Dev.modTile_keeps | apply Dev.wr_keeps | (split)

theorem Dev.loadAhead_keeps {s : Dev} (t : Nat) (hs : s.Canonical) :
    (Dev.loadAhead s t).Canonical := by
  unfold Dev.loadAhead
  with_reducible repeat' first
    | assumption | apply Dev.modTile_keeps | apply Dev.keepImage_keeps | apply Dev.startLoad_keeps | apply Dev.failImage_keeps
    | apply Dev.settle_keeps | apply Dev.cutImage_keeps | exact Dev.keep_mk (by assumption) rfl | (intro _)
    | (refine canonical_of_fst (by assumption) ?_) | (split)
    | (extract_lets +onlyGivenNames x; refine_lift (have hx : Dev.Canonical x := ?_; ?_); (on_goal 1 => clear_value x); (on_goal 2 => subst x))
    | (extract_lets +onlyGivenNames x; clear_value x)

theorem Dev.waitPatch_keeps {s : Dev} (c : Cmd) (o : Nat × Nat) (hs : s.Canonical) :
    (Dev.waitPatch s c o).Canonical := by
  unfold Dev.waitPatch
  with_reducible repeat' first
    | assumption | apply Dev.startWait_keeps | exact Dev.keep_mk (by assumption) rfl

theorem Dev.patchCommand_keeps {s : Dev} (t : Nat) (h : Held) (hs : s.Canonical) :
    (Dev.patchCommand s t h).Canonical := by
  unfold Dev.patchCommand
  with_reducible repeat' first
    | assumption | apply Dev.openPatch_keeps | apply Dev.clearPatch_keeps | apply Dev.retrievePatch_keeps
    | apply Dev.closePatch_keeps | apply Dev.spliceLocalOp_keeps | (split)

theorem Dev.headStep_keeps {s : Dev} (t : Nat) (hs : s.Canonical) :
    ∀ res, Dev.headStep s t = some res → res.Canonical := by
  intro res e
  unfold Dev.headStep at e
  try dsimp only at e
  repeat' split at e
  all_goals cases e
  all_goals
    with_reducible repeat' first
      | assumption | apply Dev.modTile_keeps | apply Dev.failSt_keeps | apply Dev.finish_keeps | apply Dev.failImage_keeps
      | apply Dev.startRun_keeps | apply Dev.waitPatch_keeps | apply Dev.patchCommand_keeps
      | exact Dev.keep_mk (by assumption) rfl

theorem Dev.advanceN_keeps (a0 : Nat) {a1 : Dev} (a2 : Nat) (ha1 : a1.Canonical) :
    (Dev.advanceN a0 a1 a2).Canonical := by
  induction a0 generalizing a1 a2 with
  | zero =>
    unfold Dev.advanceN
    with_reducible repeat' first
      | assumption | apply Dev.loadAhead_keeps | refine Dev.headStep_keeps _ ?_ _ (by assumption)
      | exact Dev.keep_mk (by assumption) rfl | (refine canonical_of_fst (by assumption) ?_) | (split)
      | (extract_lets +onlyGivenNames x; refine_lift (have hx : Dev.Canonical x := ?_; ?_); (on_goal 1 => clear_value x); (on_goal 2 => subst x))
      | (extract_lets +onlyGivenNames x; clear_value x)
  | succ n ih =>
    unfold Dev.advanceN
    with_reducible repeat' first
      | assumption | apply ih | apply Dev.loadAhead_keeps | refine Dev.headStep_keeps _ ?_ _ (by assumption)
      | exact Dev.keep_mk (by assumption) rfl | (refine canonical_of_fst (by assumption) ?_) | (split)
      | (extract_lets +onlyGivenNames x; refine_lift (have hx : Dev.Canonical x := ?_; ?_); (on_goal 1 => clear_value x); (on_goal 2 => subst x))
      | (extract_lets +onlyGivenNames x; clear_value x)

theorem Dev.advance_keeps {s : Dev} (t : Nat) (hs : s.Canonical) :
    (Dev.advance s t).Canonical := by
  unfold Dev.advance
  with_reducible repeat' first
    | assumption | apply Dev.advanceN_keeps | exact Dev.keep_mk (by assumption) rfl

theorem Dev.outOfService_keeps {s : Dev} (t : Nat) (hs : s.Canonical) :
    (Dev.outOfService s t).Canonical := by
  unfold Dev.outOfService
  with_reducible repeat' first
    | assumption | apply Dev.advance_keeps | apply Dev.goOut_keeps | exact Dev.keep_mk (by assumption) rfl

theorem Dev.preempt_keeps {s : Dev} (t : Nat) (hs : s.Canonical) :
    (Dev.preempt s t).Canonical := by
  unfold Dev.preempt
  with_reducible repeat' first
    | assumption | apply Dev.modTile_keeps | apply Dev.bump_keeps | (split)
    | (extract_lets +onlyGivenNames x; refine_lift (have hx : Dev.Canonical x := ?_; ?_); (on_goal 1 => clear_value x); (on_goal 2 => subst x))
    | (extract_lets +onlyGivenNames x; clear_value x)

theorem Dev.epochRefused_keeps {s : Dev} (t : Nat) (c : Cmd) (hs : s.Canonical) :
    ∀ res, Dev.epochRefused s t c = some res → res.Canonical := by
  intro res e
  unfold Dev.epochRefused at e
  try dsimp only at e
  repeat' split at e
  all_goals cases e
  all_goals
    with_reducible repeat' first
      | assumption | apply Dev.badFormat_keeps | apply Dev.failEv_keeps | exact Dev.keep_mk (by assumption) rfl

theorem Dev.toTile_keeps {s : Dev} (op : Nat) (c : Cmd) (hs : s.Canonical) :
    (Dev.toTile s op c).Canonical := by
  unfold Dev.toTile
  with_reducible repeat' first
    | assumption | apply Dev.modTile_keeps | apply Dev.finish_keeps | refine Dev.epochRefused_keeps _ _ ?_ _ (by assumption)
    | apply Dev.advance_keeps | apply Dev.preempt_keeps | (split)
    | (extract_lets +onlyGivenNames x; refine_lift (have hx : Dev.Canonical x := ?_; ?_); (on_goal 1 => clear_value x); (on_goal 2 => subst x))
    | (extract_lets +onlyGivenNames x; clear_value x)

theorem Dev.tileCommand_keeps (op : Nat) (c : Cmd) {s : Dev} (hs : s.Canonical) :
    (Dev.tileCommand op c s).Canonical := by
  unfold Dev.tileCommand
  with_reducible repeat' first
    | assumption | apply Dev.failSt_keeps | apply Dev.finish_keeps | apply Dev.modTile_keeps | apply Dev.toTile_keeps | (split)

theorem Dev.savedSplice_keeps {s : Dev} (c : Cmd) (hs : s.Canonical) :
    (Dev.savedSplice s c).Canonical := by
  unfold Dev.savedSplice
  with_reducible repeat' first
    | assumption | apply Dev.waitPatch_keeps | apply Dev.modTile_keeps | apply Dev.spliceLocalOp_keeps | (split)
    | (extract_lets +onlyGivenNames x; refine_lift (have hx : Dev.Canonical x := ?_; ?_); (on_goal 1 => clear_value x); (on_goal 2 => subst x))
    | (extract_lets +onlyGivenNames x; clear_value x)

theorem Dev.patchFree_keeps {s : Dev} (c : Cmd) (hs : s.Canonical) :
    (Dev.patchFree s c).Canonical := by
  unfold Dev.patchFree
  with_reducible repeat' first
    | assumption | apply Dev.savedSplice_keeps | apply Dev.modTile_keeps | apply Dev.advance_keeps | (split)

theorem doSpliceLocal_keeps (c : Cmd) {s : Dev} (hs : s.Canonical) :
    (doSpliceLocal c s).Canonical := by
  unfold doSpliceLocal
  with_reducible repeat' first
    | assumption | apply Dev.savedSplice_keeps | apply Dev.tileCommand_keeps | (split)

theorem doPatchStateIdle_keeps (t : Nat) (d : Nat) {s : Dev} (hs : s.Canonical) :
    (doPatchStateIdle t d s).Canonical := by
  unfold doPatchStateIdle
  with_reducible repeat' first
    | assumption | apply Dev.patchFree_keeps | apply foldl_keeps | exact Dev.keep_mk (by assumption) rfl | (intro _) | (split)

theorem Dev.modPart_keeps {s : Dev} (p : Nat) (f : Part → Part) (hs : s.Canonical) :
    (Dev.modPart s p f).Canonical := by
  unfold Dev.modPart
  with_reducible repeat' first
    | assumption | exact Dev.keep_mk (by assumption) rfl

theorem Dev.setPartState_keeps {s : Dev} (p : Nat) (v : Nat) (hs : s.Canonical) :
    (Dev.setPartState s p v).Canonical := by
  unfold Dev.setPartState
  with_reducible repeat' first
    | assumption | apply Dev.wr_keeps | exact Dev.keep_mk (by assumption) rfl

theorem doPartitionCreate_keeps (src : Src) (p : Nat) {s : Dev} (hs : s.Canonical) :
    (doPartitionCreate src p s).Canonical := by
  unfold doPartitionCreate
  with_reducible repeat' first
    | assumption | apply Dev.foreign_keeps | apply Dev.fresh_keeps | apply Dev.modPart_keeps | apply Dev.setPartState_keeps
    | (split)

theorem doFkeyWordWrite_keeps (src : Src) (p : Nat) (keyId : Nat) (word : Nat) (d : Word) {s : Dev} (hs : s.Canonical) :
    (doFkeyWordWrite src p keyId word d s).Canonical := by
  unfold doFkeyWordWrite
  with_reducible repeat' first
    | assumption | apply Dev.foreign_keeps | apply Dev.modPart_keeps | exact Dev.keep_mk (by assumption) rfl | (intro _) | (split)
    | (extract_lets +onlyGivenNames x; refine_lift (have hx : Dev.Canonical x := ?_; ?_); (on_goal 1 => clear_value x); (on_goal 2 => subst x))
    | (extract_lets +onlyGivenNames x; clear_value x)

theorem Dev.startZeroing_keeps {s : Dev} (g : Nat) (owner : Nat) (hs : s.Canonical) :
    (Dev.startZeroing s g owner).Canonical := by
  unfold Dev.startZeroing
  with_reducible repeat' first
    | assumption | apply Dev.wr_keeps | exact Dev.keep_mk (by assumption) rfl

theorem doGranuleReassign_keeps (src : Src) (g : Nat) (owner : Nat) {s : Dev} (hs : s.Canonical) :
    (doGranuleReassign src g owner s).Canonical := by
  unfold doGranuleReassign
  with_reducible repeat' first
    | assumption | apply Dev.foreign_keeps | apply Dev.startZeroing_keeps | (split)

theorem Dev.scrubFe_keeps {s : Dev} (a : Nat) (n : Nat) (hs : s.Canonical) :
    (Dev.scrubFe s a n).Canonical := by
  unfold Dev.scrubFe
  with_reducible repeat' first
    | assumption | apply Dev.unpark_keeps | apply Dev.wakeEngine_keeps | apply foldl_keeps | apply foldl_keeps1
    | exact Dev.keep_mk (by assumption) rfl | (intro _) | (refine canonical_of_fst (by assumption) ?_) | (split)
    | (extract_lets +onlyGivenNames x; refine_lift (have hx : Dev.Canonical x := ?_; ?_); (on_goal 1 => clear_value x); (on_goal 2 => subst x))
    | (extract_lets +onlyGivenNames x; clear_value x)

theorem Dev.discardWait_keeps {s : Dev} (w : Wait) (hs : s.Canonical) :
    (Dev.discardWait s w).Canonical := by
  unfold Dev.discardWait
  with_reducible repeat' first
    | assumption | apply Dev.dropWait_keeps | apply Dev.setSlots_keeps | apply Dev.drained_keeps | apply Dev.setQState_keeps
    | (split)

theorem Dev.scrubKnots_keeps {s : Dev} (e : Nat) (hs : s.Canonical) :
    (Dev.scrubKnots s e).Canonical := by
  unfold Dev.scrubKnots
  with_reducible repeat' first
    | assumption | apply Dev.discardWait_keeps | apply foldl_keeps | apply foldl_keeps1 | exact Dev.keep_mk (by assumption) rfl
    | (intro _) | (refine canonical_of_fst (by assumption) ?_) | (split)
    | (extract_lets +onlyGivenNames x; refine_lift (have hx : Dev.Canonical x := ?_; ?_); (on_goal 1 => clear_value x); (on_goal 2 => subst x))
    | (extract_lets +onlyGivenNames x; clear_value x)

theorem Dev.engineTo_keeps {s : Dev} (e : Nat) (p : Nat) (hs : s.Canonical) :
    (Dev.engineTo s e p).Canonical := by
  unfold Dev.engineTo
  with_reducible repeat' first
    | assumption | apply Dev.scrubKnots_keeps | apply Dev.scrubFe_keeps | apply Dev.zero_keeps
    | exact Dev.keep_mk (by assumption) rfl | (intro _) | (split)
    | (extract_lets +onlyGivenNames x; refine_lift (have hx : Dev.Canonical x := ?_; ?_); (on_goal 1 => clear_value x); (on_goal 2 => subst x))
    | (extract_lets +onlyGivenNames x; clear_value x)

theorem Dev.saveTile_keeps {s : Dev} (t : Nat) (p : Nat) (hs : s.Canonical) :
    (Dev.saveTile s t p).Canonical := by
  unfold Dev.saveTile
  with_reducible repeat' first
    | assumption | apply Dev.modTile_keeps | apply Dev.clearBad_keeps | apply Dev.copy_keeps | apply foldl_keeps | (intro _)

theorem Dev.coreRuns_keeps {s : Dev} (n : Nat) (hs : s.Canonical) :
    (Dev.coreRuns s n).Canonical := by
  unfold Dev.coreRuns
  with_reducible repeat' first
    | assumption | apply Dev.setBranchRec_keeps | apply Dev.wr_keeps | apply foldl_keeps | exact Dev.keep_mk (by assumption) rfl
    | (intro _) | (split)

theorem Dev.scrubTile_keeps {s : Dev} (t : Nat) (hs : s.Canonical) :
    (Dev.scrubTile s t).Canonical := by
  unfold Dev.scrubTile
  with_reducible repeat' first
    | assumption | apply Dev.coreRuns_keeps | apply Dev.modTile_keeps | apply Dev.zero_keeps | apply Dev.wr_keeps
    | apply Dev.showIdle_keeps | apply foldl_keeps | exact Dev.keep_mk (by assumption) rfl | (intro _) | (split)

theorem Dev.restoreTile_keeps {s : Dev} (t : Nat) (p : Nat) (hs : s.Canonical) :
    (Dev.restoreTile s t p).Canonical := by
  unfold Dev.restoreTile
  with_reducible repeat' first
    | assumption | apply Dev.modTile_keeps | apply Dev.copy_keeps | apply Dev.wr_keeps | apply foldl_keeps
    | exact Dev.keep_mk (by assumption) rfl | (intro _) | (split)

theorem Dev.regate_keeps {s : Dev} (t : Nat) (hs : s.Canonical) :
    (Dev.regate s t).Canonical := by
  unfold Dev.regate
  with_reducible repeat' first
    | assumption | apply Dev.modTile_keeps | apply doSpliceLocal_keeps | apply Dev.tileCommand_keeps | apply foldl_keeps
    | exact Dev.keep_mk (by assumption) rfl | (intro _) | (split)

theorem Dev.scrubStep_keeps {s : Dev} (t : Nat) (hs : s.Canonical) :
    (Dev.scrubStep s t).Canonical := by
  unfold Dev.scrubStep
  with_reducible repeat' first
    | assumption | apply Dev.wr_keeps | apply Dev.scrubTile_keeps | (split)

theorem Dev.handover_keeps {s : Dev} (t : Nat) (p : Nat) (save : Bool) (shared : Bool) (hs : s.Canonical) :
    (Dev.handover s t p save shared).Canonical := by
  unfold Dev.handover
  with_reducible repeat' first
    | assumption | apply Dev.saveTile_keeps | apply Dev.dropPatchWaits_keeps | apply Dev.scrubStep_keeps | apply Dev.modTile_keeps
    | apply Dev.restoreTile_keeps | apply Dev.bump_keeps | apply Dev.wr_keeps | apply Dev.advance_keeps | apply Dev.regate_keeps
    | (split)

theorem doTileHandover_keeps (t : Nat) {s : Dev} (hs : s.Canonical) :
    (doTileHandover t s).Canonical := by
  unfold doTileHandover
  with_reducible repeat' first
    | assumption | apply Dev.handover_keeps | (split)

theorem doPaMboxReq_keeps (src : Src) {s : Dev} (hs : s.Canonical) :
    (doPaMboxReq src s).Canonical := by
  unfold doPaMboxReq
  with_reducible repeat' first
    | assumption | apply Dev.reportP_keeps | apply Dev.wr_keeps | (split)
    | (extract_lets +onlyGivenNames x; refine_lift (have hx : Dev.Canonical x := ?_; ?_); (on_goal 1 => clear_value x); (on_goal 2 => subst x))
    | (extract_lets +onlyGivenNames x; clear_value x)

theorem doPaMboxRsp_keeps (src : Src) (p : Nat) {s : Dev} (hs : s.Canonical) :
    (doPaMboxRsp src p s).Canonical := by
  unfold doPaMboxRsp
  with_reducible repeat' first
    | assumption | apply Dev.wr_keeps | exact Dev.keep_mk (by assumption) rfl | (intro _) | (split)
    | (extract_lets +onlyGivenNames x; refine_lift (have hx : Dev.Canonical x := ?_; ?_); (on_goal 1 => clear_value x); (on_goal 2 => subst x))
    | (extract_lets +onlyGivenNames x; clear_value x)

theorem Dev.fab_keeps {s : Dev} (f : Fabric → Fabric) (hs : s.Canonical) :
    (Dev.fab s f).Canonical := by
  unfold Dev.fab
  with_reducible repeat' first
    | assumption | exact Dev.keep_mk (by assumption) rfl

theorem Dev.modLink_keeps {s : Dev} (k : Nat) (f : Link → Link) (hs : s.Canonical) :
    (Dev.modLink s k f).Canonical := by
  unfold Dev.modLink
  with_reducible repeat' first
    | assumption | apply Dev.fab_keeps | exact Dev.keep_mk (by assumption) rfl

theorem Dev.modOptic_keeps {s : Dev} (k : Nat) (f : LaneOptics → LaneOptics) (hs : s.Canonical) :
    (Dev.modOptic s k f).Canonical := by
  unfold Dev.modOptic
  with_reducible repeat' first
    | assumption | exact Dev.keep_mk (by assumption) rfl

theorem Dev.modPeer_keeps {s : Dev} (n : Nat) (f : Peer → Peer) (hs : s.Canonical) :
    (Dev.modPeer s n f).Canonical := by
  unfold Dev.modPeer
  with_reducible repeat' first
    | assumption | apply Dev.fab_keeps | exact Dev.keep_mk (by assumption) rfl

theorem Dev.noteT1_keeps {s : Dev} (a1 : Wire) (hs : s.Canonical) :
    (Dev.noteT1 s a1).Canonical := by
  unfold Dev.noteT1
  with_reducible repeat' first
    | assumption | apply Dev.fab_keeps | (split)

theorem Dev.emit_keeps {s : Dev} (k : Nat) (lseq : Nat) (w : Wire) (hs : s.Canonical) :
    (Dev.emit s k lseq w).Canonical := by
  unfold Dev.emit
  with_reducible repeat' first
    | assumption | apply Dev.noteT1_keeps | apply Dev.bump_keeps | apply Dev.fab_keeps | apply Dev.modLink_keeps
    | exact Dev.keep_mk (by assumption) rfl

theorem Dev.linkSend_keeps {s : Dev} (k : Nat) (p : Packet) (hs : s.Canonical) :
    (Dev.linkSend s k p).Canonical := by
  unfold Dev.linkSend
  with_reducible repeat' first
    | assumption | apply Dev.emit_keeps | apply Dev.modLink_keeps | exact Dev.keep_mk (by assumption) rfl

theorem Dev.linkPut_keeps {s : Dev} (k : Nat) (p : Packet) (hs : s.Canonical) :
    (Dev.linkPut s k p).Canonical := by
  unfold Dev.linkPut
  with_reducible repeat' first
    | assumption | apply Dev.emit_keeps | apply Dev.linkSend_keeps | apply Dev.modLink_keeps | (split)
    | (extract_lets +onlyGivenNames x; refine_lift (have hx : Dev.Canonical x := ?_; ?_); (on_goal 1 => clear_value x); (on_goal 2 => subst x))
    | (extract_lets +onlyGivenNames x; clear_value x)

theorem Dev.linkDrain_keeps (k : Nat) (a1 : Nat) {a2 : Dev} (ha2 : a2.Canonical) :
    (Dev.linkDrain k a1 a2).Canonical := by
  induction a1 generalizing a2 with
  | zero =>
    unfold Dev.linkDrain
    with_reducible repeat' first
      | assumption | apply Dev.linkSend_keeps | apply Dev.modLink_keeps | exact Dev.keep_mk (by assumption) rfl | (intro _)
      | (refine canonical_of_fst (by assumption) ?_) | (split)
      | (extract_lets +onlyGivenNames x; refine_lift (have hx : Dev.Canonical x := ?_; ?_); (on_goal 1 => clear_value x); (on_goal 2 => subst x))
      | (extract_lets +onlyGivenNames x; clear_value x)
  | succ n ih =>
    unfold Dev.linkDrain
    with_reducible repeat' first
      | assumption | apply ih | apply Dev.linkSend_keeps | apply Dev.modLink_keeps | exact Dev.keep_mk (by assumption) rfl
      | (intro _) | (refine canonical_of_fst (by assumption) ?_) | (split)
      | (extract_lets +onlyGivenNames x; refine_lift (have hx : Dev.Canonical x := ?_; ?_); (on_goal 1 => clear_value x); (on_goal 2 => subst x))
      | (extract_lets +onlyGivenNames x; clear_value x)

theorem Dev.linkControl_keeps {s : Dev} (k : Nat) (w : Wire) (hs : s.Canonical) :
    (Dev.linkControl s k w).Canonical := by
  unfold Dev.linkControl
  with_reducible repeat' first
    | assumption | apply Dev.emit_keeps | exact Dev.keep_mk (by assumption) rfl

theorem Dev.setOut_keeps {s : Dev} (o : Out) (hs : s.Canonical) :
    (Dev.setOut s o).Canonical := by
  unfold Dev.setOut
  with_reducible repeat' first
    | assumption | apply Dev.fab_keeps | exact Dev.keep_mk (by assumption) rfl

theorem Dev.transmit_keeps {s : Dev} (o : Out) (w : Way) (hs : s.Canonical) :
    (Dev.transmit s o w).Canonical := by
  unfold Dev.transmit
  with_reducible repeat' first
    | assumption | apply Dev.setOut_keeps | apply Dev.modPeer_keeps | apply Dev.bump_keeps | apply Dev.linkPut_keeps | (split)

theorem Dev.sendAgain_keeps {s : Dev} (o : Out) (hs : s.Canonical) :
    (Dev.sendAgain s o).Canonical := by
  unfold Dev.sendAgain
  with_reducible repeat' first
    | assumption | apply Dev.transmit_keeps | apply Dev.setOut_keeps | (split)
    | (extract_lets +onlyGivenNames x; refine_lift (have hx : Dev.Canonical x := ?_; ?_); (on_goal 1 => clear_value x); (on_goal 2 => subst x))
    | (extract_lets +onlyGivenNames x; clear_value x)

theorem Dev.modMsg_keeps {s : Dev} (id : Nat) (f : Msg → Msg) (hs : s.Canonical) :
    (Dev.modMsg s id f).Canonical := by
  unfold Dev.modMsg
  with_reducible repeat' first
    | assumption | apply Dev.fab_keeps | exact Dev.keep_mk (by assumption) rfl

theorem Dev.startMsg_keeps {s : Dev} (m : Msg) (hs : s.Canonical) :
    (Dev.startMsg s m).Canonical := by
  unfold Dev.startMsg
  with_reducible repeat' first
    | assumption | apply Dev.modMsg_keeps | apply Dev.modPeer_keeps | exact Dev.keep_mk (by assumption) rfl

theorem Dev.sendNext_keeps {s : Dev} (m : Msg) (hs : s.Canonical) :
    (Dev.sendNext s m).Canonical := by
  unfold Dev.sendNext
  with_reducible repeat' first
    | assumption | apply Dev.startMsg_keeps | apply Dev.modMsg_keeps | apply Dev.pf_keeps | apply Dev.fab_keeps
    | apply Dev.sendAgain_keeps | (split)
    | (extract_lets +onlyGivenNames x; refine_lift (have hx : Dev.Canonical x := ?_; ?_); (on_goal 1 => clear_value x); (on_goal 2 => subst x))
    | (extract_lets +onlyGivenNames x; clear_value x)

theorem Dev.pumpN_keeps (a0 : Nat) {a1 : Dev} (ha1 : a1.Canonical) :
    (Dev.pumpN a0 a1).Canonical := by
  induction a0 generalizing a1 with
  | zero =>
    unfold Dev.pumpN
    with_reducible repeat' first
      | assumption | apply Dev.sendNext_keeps | exact Dev.keep_mk (by assumption) rfl
      | (refine canonical_of_fst (by assumption) ?_) | (split)
  | succ n ih =>
    unfold Dev.pumpN
    with_reducible repeat' first
      | assumption | apply ih | apply Dev.sendNext_keeps | exact Dev.keep_mk (by assumption) rfl
      | (refine canonical_of_fst (by assumption) ?_) | (split)

theorem Dev.pump_keeps {s : Dev} (hs : s.Canonical) :
    (Dev.pump s).Canonical := by
  unfold Dev.pump
  with_reducible repeat' first
    | assumption | apply Dev.transmit_keeps | apply Dev.pumpN_keeps | apply foldl_keeps | exact Dev.keep_mk (by assumption) rfl
    | (intro _) | (split)

theorem Dev.showRx_keeps {s : Dev} (hs : s.Canonical) :
    (Dev.showRx s).Canonical := by
  unfold Dev.showRx
  with_reducible repeat' first
    | assumption | apply Dev.wr_keeps | exact Dev.keep_mk (by assumption) rfl

theorem Dev.post_keeps {s : Dev} (m : Msg) (hs : s.Canonical) :
    (Dev.post s m).Canonical := by
  unfold Dev.post
  with_reducible repeat' first
    | assumption | apply Dev.pump_keeps | apply Dev.fab_keeps | exact Dev.keep_mk (by assumption) rfl

theorem Dev.failPeer_keeps {s : Dev} (c : Cmd) (st : Nat) (n : Nat) (hs : s.Canonical) :
    (Dev.failPeer s c st n).Canonical := by
  unfold Dev.failPeer
  with_reducible repeat' first
    | assumption | apply Dev.failEv_keeps | apply Dev.failSt_keeps | (split)

theorem Dev.control_keeps {s : Dev} (n : Nat) (op : Nat) (t : Nat) (data : List Byte) (hs : s.Canonical) :
    (Dev.control s n op t data).Canonical := by
  unfold Dev.control
  with_reducible repeat' first
    | assumption | apply Dev.post_keeps | (split)

theorem Dev.dropMsg_keeps {s : Dev} (id : Nat) (hs : s.Canonical) :
    (Dev.dropMsg s id).Canonical := by
  unfold Dev.dropMsg
  with_reducible repeat' first
    | assumption | apply Dev.fab_keeps | exact Dev.keep_mk (by assumption) rfl

theorem Dev.signalFailed_keeps {s : Dev} (c : Cmd) (e : Nat) (hs : s.Canonical) :
    (Dev.signalFailed s c e).Canonical := by
  unfold Dev.signalFailed
  with_reducible repeat' first
    | assumption | apply Dev.wr_keeps | apply Dev.bump_keeps | exact Dev.keep_mk (by assumption) rfl

theorem Dev.endMsg_keeps {s : Dev} (m : Msg) (st : Nat) (hs : s.Canonical) :
    (Dev.endMsg s m st).Canonical := by
  unfold Dev.endMsg
  with_reducible repeat' first
    | assumption | apply Dev.dropMsg_keeps | apply Dev.modPeer_keeps | apply Dev.addWork_keeps | apply Dev.finish_keeps
    | apply Dev.signalFailed_keeps | apply Dev.reportC_keeps | apply Dev.fab_keeps | (split)
    | (extract_lets +onlyGivenNames x; refine_lift (have hx : Dev.Canonical x := ?_; ?_); (on_goal 1 => clear_value x); (on_goal 2 => subst x))
    | (extract_lets +onlyGivenNames x; clear_value x)

theorem Dev.msgDone_keeps {s : Dev} (id : Nat) (hs : s.Canonical) :
    (Dev.msgDone s id).Canonical := by
  unfold Dev.msgDone
  with_reducible repeat' first
    | assumption | apply Dev.endMsg_keeps | (split)

theorem Dev.showPort_keeps {s : Dev} (port : Nat) (hs : s.Canonical) :
    (Dev.showPort s port).Canonical := by
  unfold Dev.showPort
  with_reducible repeat' first
    | assumption | apply Dev.wr_keeps | exact Dev.keep_mk (by assumption) rfl

theorem Dev.handOff_keeps {s : Dev} (p : Packet) (hs : s.Canonical) :
    (Dev.handOff s p).Canonical := by
  unfold Dev.handOff
  with_reducible repeat' first
    | assumption | apply Dev.sendAgain_keeps | apply Dev.bump_keeps | (split)

theorem Dev.giveBack_keeps {s : Dev} (k : Nat) (hs : s.Canonical) :
    (Dev.giveBack s k).Canonical := by
  unfold Dev.giveBack
  with_reducible repeat' first
    | assumption | apply Dev.modLink_keeps | apply Dev.handOff_keeps | apply Dev.report_keeps | apply foldl_keeps | (intro _)
    | (refine canonical_of_fst (by assumption) ?_) | (split)
    | (extract_lets +onlyGivenNames x; refine_lift (have hx : Dev.Canonical x := ?_; ?_); (on_goal 1 => clear_value x); (on_goal 2 => subst x))
    | (extract_lets +onlyGivenNames x; clear_value x)

theorem Dev.routeLink_keeps {s : Dev} (k : Nat) (up : Bool) (hs : s.Canonical) :
    (Dev.routeLink s k up).Canonical := by
  unfold Dev.routeLink
  with_reducible repeat' first
    | assumption | apply Dev.wr_keeps | (split)
    | (extract_lets +onlyGivenNames x; refine_lift (have hx : Dev.Canonical x := ?_; ?_); (on_goal 1 => clear_value x); (on_goal 2 => subst x))
    | (extract_lets +onlyGivenNames x; clear_value x)

theorem Dev.linksDown_keeps {s : Dev} (ks : List Nat) (hs : s.Canonical) :
    (Dev.linksDown s ks).Canonical := by
  unfold Dev.linksDown
  with_reducible repeat' first
    | assumption | apply Dev.routeLink_keeps | apply Dev.modLink_keeps | apply Dev.showPort_keeps | apply Dev.report_keeps
    | apply Dev.bump_keeps | apply Dev.pump_keeps | apply Dev.giveBack_keeps | apply foldl_keeps | (intro _)
    | (refine canonical_of_fst (by assumption) ?_) | (split)
    | (extract_lets +onlyGivenNames x; refine_lift (have hx : Dev.Canonical x := ?_; ?_); (on_goal 1 => clear_value x); (on_goal 2 => subst x))
    | (extract_lets +onlyGivenNames x; clear_value x)

theorem Dev.linkDown_keeps {s : Dev} (k : Nat) (hs : s.Canonical) :
    (Dev.linkDown s k).Canonical := by
  unfold Dev.linkDown
  with_reducible repeat' first
    | assumption | apply Dev.linksDown_keeps | exact Dev.keep_mk (by assumption) rfl

theorem Dev.unlock_keeps {s : Dev} (k : Nat) (hs : s.Canonical) :
    (Dev.unlock s k).Canonical := by
  unfold Dev.unlock
  with_reducible repeat' first
    | assumption | apply Dev.modLink_keeps | exact Dev.keep_mk (by assumption) rfl

theorem Dev.retuneOut_keeps {s : Dev} (k : Nat) (channel : Nat) (hs : s.Canonical) :
    (Dev.retuneOut s k channel).Canonical := by
  unfold Dev.retuneOut
  with_reducible repeat' first
    | assumption | apply Dev.modLink_keeps | apply Dev.unlock_keeps | apply Dev.showPort_keeps | apply Dev.modOptic_keeps
    | apply Dev.giveBack_keeps | exact Dev.keep_mk (by assumption) rfl

theorem Dev.linkUp_keeps {s : Dev} (k : Nat) (hs : s.Canonical) :
    (Dev.linkUp s k).Canonical := by
  unfold Dev.linkUp
  with_reducible repeat' first
    | assumption | apply Dev.modLink_keeps | apply Dev.wr_keeps | apply Dev.routeLink_keeps | apply Dev.pump_keeps
    | apply Dev.showPort_keeps | (split)
    | (extract_lets +onlyGivenNames x; refine_lift (have hx : Dev.Canonical x := ?_; ?_); (on_goal 1 => clear_value x); (on_goal 2 => subst x))
    | (extract_lets +onlyGivenNames x; clear_value x)

theorem Dev.coreCommandFails_keeps {s : Dev} (n : Nat) (status : Nat) (hs : s.Canonical) :
    (Dev.coreCommandFails s n status).Canonical := by
  unfold Dev.coreCommandFails
  with_reducible repeat' first
    | assumption | apply Dev.advance_keeps | apply Dev.settle_keeps | apply Dev.cutRun_keeps | apply Dev.failSt_keeps
    | apply Dev.dropPatchWaits_keeps | apply Dev.modTile_keeps | (split)

theorem Dev.agentFail_keeps {s : Dev} (e : Nat) (status : Nat) (d0 : Nat) (hs : s.Canonical) :
    (Dev.agentFail s e status d0).Canonical := by
  unfold Dev.agentFail
  with_reducible repeat' first
    | assumption | apply Dev.engineFail_keeps | apply Dev.coreException_keeps | apply Dev.dropEngineWaits_keeps
    | apply Dev.coreCommandFails_keeps | (split)

theorem Dev.arrive_keeps {s : Dev} (k : Nat) (x : KnotArrival) (hs : s.Canonical) :
    (Dev.arrive s k x).Canonical := by
  unfold Dev.arrive
  split
  · rename_i c _
    have hk : (s.knotOp x.op k x.amount (s.cPart c) (.queue c.queue) (some c)).1.Canonical := Dev.knotOp_keeps _ _ _ _ _ _ hs
    generalize s.knotOp x.op k x.amount (s.cPart c) (.queue c.queue) (some c) = r at hk ⊢
    dsimp only
    split
    · exact Dev.finishOk_keeps _ hk
    · exact Dev.failSt_keeps _ _ _ _ hk
  · split
    · have hk := Dev.knotOp_keeps (s := s) x.op k x.amount (s.agentPart x.agent) x.agent (s.agentCmd x.agent) hs
      generalize s.knotOp x.op k x.amount (s.agentPart x.agent) x.agent (s.agentCmd x.agent) = r at hk ⊢
      unfold Dev.engineGot
      split
      · exact hk
      · split
        · exact Dev.agentFail_keeps _ _ _ hk
        · exact hk
    · exact hs

theorem Dev.arriveAll_keeps {s : Dev} (k : Nat) (xs : List KnotArrival) (hs : s.Canonical) :
    (Dev.arriveAll s k xs).Canonical := by
  unfold Dev.arriveAll
  with_reducible repeat' first
    | assumption | apply Dev.arrive_keeps | apply foldl_keeps | (intro _)

theorem Dev.feWait_keeps {s : Dev} (e : Nat) (a : Nat) (part : Nat) (k : FeKind) (hs : s.Canonical) :
    (Dev.feWait s e a part k).Canonical := by
  unfold Dev.feWait
  with_reducible repeat' first
    | assumption | apply Dev.veState_keeps | apply Dev.bump_keeps | apply Dev.startWait_keeps | apply Dev.feEnter_keeps
    | exact Dev.keep_mk (by assumption) rfl | (intro _) | (split)
    | (extract_lets +onlyGivenNames x; refine_lift (have hx : Dev.Canonical x := ?_; ?_); (on_goal 1 => clear_value x); (on_goal 2 => subst x))
    | (extract_lets +onlyGivenNames x; clear_value x)

theorem Dev.feGuard_keeps {s : Dev} (e : Nat) (a : Nat) (reads : Bool) (f : Dev → Dev) (hs : s.Canonical) (hf : ∀ x : Dev, x.Canonical → (f
    x).Canonical) :
    (Dev.feGuard s e a reads f).Canonical := by
  unfold Dev.feGuard
  with_reducible repeat' first
    | assumption | apply Dev.agentFail_keeps | apply Dev.noteRefused_keeps | apply hf | exact Dev.keep_mk (by assumption) rfl
    | (intro _) | (split)
    | (extract_lets +onlyGivenNames x; refine_lift (have hx : Dev.Canonical x := ?_; ?_); (on_goal 1 => clear_value x); (on_goal 2 => subst x))
    | (extract_lets +onlyGivenNames x; clear_value x)

theorem Dev.feAccess_keeps {s : Dev} (e : Nat) (a : Nat) (k : FeKind) (hs : s.Canonical) :
    (Dev.feAccess s e a k).Canonical := by
  unfold Dev.feAccess
  with_reducible repeat' first
    | assumption | apply Dev.feGuard_keeps | apply Dev.serveWord_keeps | apply Dev.feDo_keeps | apply Dev.feWait_keeps
    | exact Dev.keep_mk (by assumption) rfl | (intro _) | (refine canonical_of_fst (by assumption) ?_) | (split)

theorem Dev.failWait_keeps {s : Dev} (w : Wait) (status : Nat) (hs : s.Canonical) :
    (Dev.failWait s w status).Canonical := by
  unfold Dev.failWait
  with_reducible repeat' first
    | assumption | apply Dev.dropWait_keeps | apply Dev.advance_keeps | apply Dev.finish_keeps | apply Dev.modTile_keeps
    | apply Dev.modQueue_keeps | apply Dev.agentFail_keeps | (split)

theorem Dev.timeoutWait_keeps {s : Dev} (id : Nat) (hs : s.Canonical) :
    (Dev.timeoutWait s id).Canonical := by
  unfold Dev.timeoutWait
  with_reducible repeat' first
    | assumption | apply Dev.reachAfter_keeps | apply Dev.reportAs_keeps | apply Dev.bump_keeps | apply Dev.syLog_keeps
    | apply Dev.failWait_keeps | (split)

theorem doSyKnotVal_keeps (src : Src) (k : Nat) (v : Nat) (same : List KnotArrival) {s : Dev} (hs : s.Canonical) :
    (doSyKnotVal src k v same s).Canonical := by
  unfold doSyKnotVal
  with_reducible repeat' first
    | assumption | apply Dev.foreign_keeps | apply Dev.arriveAll_keeps | apply Dev.serveKnot_keeps | apply Dev.knotPut_keeps
    | (split)

theorem Dev.showDma_keeps {s : Dev} (e : Nat) (hs : s.Canonical) :
    (Dev.showDma s e).Canonical := by
  unfold Dev.showDma
  with_reducible repeat' first
    | assumption | apply Dev.wr_keeps | exact Dev.keep_mk (by assumption) rfl

theorem Dev.dmaErrAt_keeps {s : Dev} (e : Nat) (a : Nat) (p : Nat) (hs : s.Canonical) :
    (Dev.dmaErrAt s e a p).Canonical := by
  unfold Dev.dmaErrAt
  with_reducible repeat' first
    | assumption | apply Dev.wr_keeps | exact Dev.keep_mk (by assumption) rfl

theorem Dev.dmaRuns_keeps (c : Cmd) (a1 : Nat) (a2 : Nat) (a3 : DmaRun) {a4 : Dev} (ha4 : a4.Canonical) :
    (Dev.dmaRuns c a1 a2 a3 a4).1.Canonical := by
  induction a1 generalizing a2 a3 a4 with
  | zero =>
    unfold Dev.dmaRuns
    with_reducible repeat' first
      | assumption | apply Dev.noteRefused_keeps | apply Dev.storeFor_keeps | exact Dev.keep_mk (by assumption) rfl
      | (refine canonical_of_fst (by assumption) ?_) | (split)
      | (extract_lets +onlyGivenNames x; refine_lift (have hx : Dev.Canonical x := ?_; ?_); (on_goal 1 => clear_value x); (on_goal 2 => subst x))
      | (extract_lets +onlyGivenNames x; clear_value x)
  | succ n ih =>
    unfold Dev.dmaRuns
    with_reducible repeat' first
      | assumption | apply ih | apply Dev.noteRefused_keeps | apply Dev.storeFor_keeps | exact Dev.keep_mk (by assumption) rfl
      | (refine canonical_of_fst (by assumption) ?_) | (split)
      | (extract_lets +onlyGivenNames x; refine_lift (have hx : Dev.Canonical x := ?_; ?_); (on_goal 1 => clear_value x); (on_goal 2 => subst x))
      | (extract_lets +onlyGivenNames x; clear_value x)

theorem Dev.dmaStart_keeps {s : Dev} (c : Cmd) (e : Nat) (hs : s.Canonical) :
    (Dev.dmaStart s c e).Canonical := by
  unfold Dev.dmaStart
  with_reducible repeat' first
    | assumption | apply Dev.noteRefused_keeps | apply Dev.bump_keeps | apply Dev.failEv_keeps | apply Dev.dmaErrAt_keeps
    | apply Dev.dmaRuns_keeps | apply Dev.showDma_keeps | apply hgo | exact Dev.keep_mk (by assumption) rfl
    | (refine Dev.keep_mk ?_ rfl; (repeat' first | assumption | apply Dev.noteRefused_keeps | apply Dev.bump_keeps | apply Dev.failEv_keeps | apply Dev.dmaErrAt_keeps | apply Dev.dmaRuns_keeps | apply Dev.showDma_keeps); done)
    | (intro _; rfl) | (intro _; split <;> rfl) | (intro _) | (refine canonical_of_fst (by assumption) ?_)
    | (refine canonical_of_some_fst (by assumption) ?_) | (refine canonical_of_some (by assumption) ?_) | (split)
    | (extract_lets +onlyGivenNames x; refine_lift (have hx : Dev.Canonical x := ?_; ?_); (on_goal 1 => clear_value x); (on_goal 2 => subst x))
    | (extract_lets +onlyGivenNames x; refine_lift (have hx : Dev.Canonical x.1 := ?_; ?_); (on_goal 1 => clear_value x); (on_goal 2 => subst x))
    | (extract_lets +onlyGivenNames x; refine_lift (have hgo : ∀ y, Dev.Canonical y → Dev.Canonical (x y) := ?_; ?_); (on_goal 1 => clear_value x); (on_goal 2 => subst x))
    | (extract_lets +onlyGivenNames x; refine_lift (have hgo : ∀ y z, Dev.Canonical y → Dev.Canonical (x y z) := ?_; ?_); (on_goal 1 => clear_value x); (on_goal 2 => subst x))
    | (extract_lets +onlyGivenNames x; clear_value x) | (refine Dev.keep_mk ?_ ?_; assumption; split <;> rfl)
    | (extract_lets +onlyGivenNames x; refine_lift (have hx : Dev.Canonical x := ?_; ?_); (on_goal 2 => subst x))

theorem Dev.dmaTake_keeps {s : Dev} (c : Cmd) (hs : s.Canonical) :
    (Dev.dmaTake s c).Canonical := by
  unfold Dev.dmaTake
  with_reducible repeat' first
    | assumption | apply Dev.dmaStart_keeps | apply Dev.fresh_keeps | exact Dev.keep_mk (by assumption) rfl | (intro _) | (split)
    | (extract_lets +onlyGivenNames x; refine_lift (have hx : Dev.Canonical x := ?_; ?_); (on_goal 1 => clear_value x); (on_goal 2 => subst x))
    | (extract_lets +onlyGivenNames x; clear_value x)

theorem Dev.dmaRetry_keeps {s : Dev} (hs : s.Canonical) :
    (Dev.dmaRetry s).Canonical := by
  unfold Dev.dmaRetry
  with_reducible repeat' first
    | assumption | apply Dev.dmaTake_keeps | apply foldl_keeps | exact Dev.keep_mk (by assumption) rfl | (intro _) | (split)

theorem Dev.dmaCommand_keeps {s : Dev} (c : Cmd) (hs : s.Canonical) :
    (Dev.dmaCommand s c).Canonical := by
  unfold Dev.dmaCommand
  with_reducible repeat' first
    | assumption | apply Dev.badFormat_keeps | apply Dev.failSt_keeps | apply Dev.dmaTake_keeps | (split)

theorem Dev.dmaSignal_keeps {s : Dev} (x : Xfer) (hs : s.Canonical) :
    (Dev.dmaSignal s x).Canonical := by
  unfold Dev.dmaSignal
  with_reducible repeat' first
    | assumption | apply Dev.finishOk_keeps | apply Dev.post_keeps | apply Dev.reportC_keeps | apply Dev.finish_keeps
    | apply Dev.signalFailed_keeps | apply Dev.knotAddOp_keeps | (split)
    | (extract_lets +onlyGivenNames x; refine_lift (have hx : Dev.Canonical x := ?_; ?_); (on_goal 1 => clear_value x); (on_goal 2 => subst x))
    | (extract_lets +onlyGivenNames x; clear_value x)

theorem Dev.dmaEnd_keeps {s : Dev} (x : Xfer) (status : Nat) (hs : s.Canonical) :
    (Dev.dmaEnd s x status).Canonical := by
  unfold Dev.dmaEnd
  with_reducible repeat' first
    | assumption | apply Dev.showDma_keeps | apply Dev.bump_keeps | apply Dev.addWork_keeps | apply Dev.pf_keeps
    | apply Dev.dmaSignal_keeps | apply Dev.dmaErrAt_keeps | apply Dev.failEv_keeps | apply Dev.failSt_keeps
    | apply Dev.dmaRetry_keeps | exact Dev.keep_mk (by assumption) rfl | (split)

theorem Dev.cs_keeps {s : Dev} (f : CoilStore → CoilStore) (hs : s.Canonical) :
    (Dev.cs s f).Canonical := by
  unfold Dev.cs
  with_reducible repeat' first
    | assumption | exact Dev.keep_mk (by assumption) rfl

theorem Dev.writeDesc_keeps {s : Dev} (slot : Nat) (hs : s.Canonical) :
    (Dev.writeDesc s slot).Canonical := by
  unfold Dev.writeDesc
  with_reducible repeat' first
    | assumption | apply Dev.clearBad_keeps | apply Dev.putBytes_keeps | apply foldl_keeps | (intro _)
    | (refine canonical_of_fst (by assumption) ?_) | (split)
    | (extract_lets +onlyGivenNames x; refine_lift (have hx : Dev.Canonical x := ?_; ?_); (on_goal 1 => clear_value x); (on_goal 2 => subst x))
    | (extract_lets +onlyGivenNames x; clear_value x)

theorem Dev.setCoil_keeps {s : Dev} (slot : Nat) (k : Coil) (hs : s.Canonical) :
    (Dev.setCoil s slot k).Canonical := by
  unfold Dev.setCoil
  with_reducible repeat' first
    | assumption | apply Dev.writeDesc_keeps | apply Dev.cs_keeps | exact Dev.keep_mk (by assumption) rfl

theorem Dev.modCoil_keeps {s : Dev} (slot : Nat) (f : Coil → Coil) (hs : s.Canonical) :
    (Dev.modCoil s slot f).Canonical := by
  unfold Dev.modCoil
  with_reducible repeat' first
    | assumption | apply Dev.setCoil_keeps | exact Dev.keep_mk (by assumption) rfl

theorem Dev.takeSlot_keeps {s : Dev} (hs : s.Canonical) :
    (Dev.takeSlot s).1.Canonical := by
  unfold Dev.takeSlot
  with_reducible repeat' first
    | assumption | apply Dev.cs_keeps | (split)

theorem Dev.giveSlot_keeps {s : Dev} (slot : Nat) (turn : Nat) (hs : s.Canonical) :
    (Dev.giveSlot s slot turn).Canonical := by
  unfold Dev.giveSlot
  with_reducible repeat' first
    | assumption | apply Dev.cs_keeps | exact Dev.keep_mk (by assumption) rfl

theorem Dev.noteQuota_keeps {s : Dev} (p : Nat) (hs : s.Canonical) :
    (Dev.noteQuota s p).Canonical := by
  unfold Dev.noteQuota
  with_reducible repeat' first
    | assumption | apply Dev.cs_keeps | apply foldl_keeps | exact Dev.keep_mk (by assumption) rfl | (intro _) | (split)

theorem Dev.showPool_keeps {s : Dev} (p : Nat) (nbhd : Nat) (tier : Nat) (hs : s.Canonical) :
    (Dev.showPool s p nbhd tier).Canonical := by
  unfold Dev.showPool
  with_reducible repeat' first
    | assumption | apply Dev.wr_keeps | (split)

theorem Dev.takeFrame_keeps {s : Dev} (p : Nat) (nbhd : Nat) (tier : Nat) (cls : Nat) (loan : Bool) (hs : s.Canonical) :
    ∀ res, Dev.takeFrame s p nbhd tier cls loan = some res → res.1.Canonical := by
  intro res e
  unfold Dev.takeFrame at e
  try dsimp only at e
  repeat' split at e
  all_goals cases e
  all_goals
    with_reducible repeat' first
      | assumption | apply Dev.cs_keeps | apply Dev.wr_keeps | apply Dev.clearBad_keeps | apply Dev.zero_keeps
      | exact Dev.keep_mk (by assumption) rfl

theorem Dev.takeFrames_keeps (p : Nat) (nbhd : Nat) (tier : Nat) (cls : Nat) (loan : Bool) (a5 : Nat) {a6 : Dev} (a7 : List Nat) (ha6 :
    a6.Canonical) :
    (Dev.takeFrames p nbhd tier cls loan a5 a6 a7).1.Canonical := by
  induction a5 generalizing a6 a7 with
  | zero =>
    unfold Dev.takeFrames
    with_reducible repeat' first
      | assumption | refine Dev.takeFrame_keeps _ _ _ _ _ ?_ _ (by assumption) | apply hgo
      | exact Dev.keep_mk (by assumption) rfl
      | (refine Dev.keep_mk ?_ rfl; (repeat' first | assumption | refine Dev.takeFrame_keeps _ _ _ _ _ ?_ _ (by assumption)); done)
      | (intro _; rfl) | (intro _; split <;> rfl) | (intro _) | (refine canonical_of_fst (by assumption) ?_)
      | (refine canonical_of_some_fst (by assumption) ?_) | (refine canonical_of_some (by assumption) ?_) | (split)
      | (extract_lets +onlyGivenNames x; refine_lift (have hx : Dev.Canonical x := ?_; ?_); (on_goal 1 => clear_value x); (on_goal 2 => subst x))
      | (extract_lets +onlyGivenNames x; refine_lift (have hx : Dev.Canonical x.1 := ?_; ?_); (on_goal 1 => clear_value x); (on_goal 2 => subst x))
      | (extract_lets +onlyGivenNames x; refine_lift (have hgo : ∀ y, Dev.Canonical y → Dev.Canonical (x y) := ?_; ?_); (on_goal 1 => clear_value x); (on_goal 2 => subst x))
      | (extract_lets +onlyGivenNames x; refine_lift (have hgo : ∀ y z, Dev.Canonical y → Dev.Canonical (x y z) := ?_; ?_); (on_goal 1 => clear_value x); (on_goal 2 => subst x))
      | (extract_lets +onlyGivenNames x; clear_value x) | (refine Dev.keep_mk ?_ ?_; assumption; split <;> rfl)
      | (extract_lets +onlyGivenNames x; refine_lift (have hx : Dev.Canonical x := ?_; ?_); (on_goal 2 => subst x))
  | succ n ih =>
    unfold Dev.takeFrames
    with_reducible repeat' first
      | assumption | apply ih | refine Dev.takeFrame_keeps _ _ _ _ _ ?_ _ (by assumption) | apply hgo
      | exact Dev.keep_mk (by assumption) rfl
      | (refine Dev.keep_mk ?_ rfl; (repeat' first | assumption | refine Dev.takeFrame_keeps _ _ _ _ _ ?_ _ (by assumption)); done)
      | (intro _; rfl) | (intro _; split <;> rfl) | (intro _) | (refine canonical_of_fst (by assumption) ?_)
      | (refine canonical_of_some_fst (by assumption) ?_) | (refine canonical_of_some (by assumption) ?_) | (split)
      | (extract_lets +onlyGivenNames x; refine_lift (have hx : Dev.Canonical x := ?_; ?_); (on_goal 1 => clear_value x); (on_goal 2 => subst x))
      | (extract_lets +onlyGivenNames x; refine_lift (have hx : Dev.Canonical x.1 := ?_; ?_); (on_goal 1 => clear_value x); (on_goal 2 => subst x))
      | (extract_lets +onlyGivenNames x; refine_lift (have hgo : ∀ y, Dev.Canonical y → Dev.Canonical (x y) := ?_; ?_); (on_goal 1 => clear_value x); (on_goal 2 => subst x))
      | (extract_lets +onlyGivenNames x; refine_lift (have hgo : ∀ y z, Dev.Canonical y → Dev.Canonical (x y z) := ?_; ?_); (on_goal 1 => clear_value x); (on_goal 2 => subst x))
      | (extract_lets +onlyGivenNames x; clear_value x) | (refine Dev.keep_mk ?_ ?_; assumption; split <;> rfl)
      | (extract_lets +onlyGivenNames x; refine_lift (have hx : Dev.Canonical x := ?_; ?_); (on_goal 2 => subst x))

theorem Dev.place_keeps {s : Dev} (p : Nat) (tier : Nat) (cls : Nat) (n : Nat) (ns : List Nat) (new : Bool) (hs : s.Canonical) :
    ∀ res, Dev.place s p tier cls n ns new = some res → res.1.Canonical := by
  intro res e
  unfold Dev.place at e
  try dsimp only at e
  repeat' split at e
  all_goals cases e
  all_goals
    with_reducible repeat' first
      | assumption | apply Dev.noteQuota_keeps | apply Dev.takeFrames_keeps | apply Dev.showPool_keeps | apply Dev.fresh_keeps
      | exact Dev.keep_mk (by assumption) rfl

theorem Dev.freeFrames_keeps {s : Dev} (p : Nat) (cls : Nat) (l : List Nat) (hs : s.Canonical) :
    (Dev.freeFrames s p cls l).Canonical := by
  unfold Dev.freeFrames
  with_reducible repeat' first
    | assumption | apply Dev.cs_keeps | apply Dev.showPool_keeps | apply foldl_keeps | (intro _)
    | (refine canonical_of_fst (by assumption) ?_) | (split)
    | (extract_lets +onlyGivenNames x; refine_lift (have hx : Dev.Canonical x := ?_; ?_); (on_goal 1 => clear_value x); (on_goal 2 => subst x))
    | (extract_lets +onlyGivenNames x; clear_value x)

theorem Dev.scatter_keeps (a0 : List (Nat × Nat)) (a1 : List Byte) {a2 : Dev} (ha2 : a2.Canonical) :
    (Dev.scatter a0 a1 a2).Canonical := by
  induction a0 generalizing a1 a2 with
  | nil =>
    unfold Dev.scatter
    with_reducible repeat' first
      | assumption | apply Dev.clearBad_keeps | apply Dev.putBytes_keeps
  | cons b r ih =>
    unfold Dev.scatter
    with_reducible repeat' first
      | assumption | apply ih | apply Dev.clearBad_keeps | apply Dev.putBytes_keeps

theorem Dev.putFrames_keeps {s : Dev} (slot : Nat) (k : Coil) (tier : Nat) (dst : List Nat) (bs : List Byte) (hs : s.Canonical) :
    (Dev.putFrames s slot k tier dst bs).Canonical := by
  unfold Dev.putFrames
  with_reducible repeat' first
    | assumption | apply Dev.clearBad_keeps | apply Dev.putBytes_keeps | apply foldl_keeps | (intro _)

theorem Dev.coilSend_keeps {s : Dev} (n : Nat) (slot : Nat) (gen : Nat) (k : Coil) (op : Nat) (off : Nat) (unit : Nat) (q : Option Nat) (data : List
    Byte) (kind : TalkKind) (hs : s.Canonical) :
    (Dev.coilSend s n slot gen k op off unit q data kind).Canonical := by
  unfold Dev.coilSend
  with_reducible repeat' first
    | assumption | apply Dev.cs_keeps | apply Dev.post_keeps | apply foldl_keeps | apply foldl_keeps1
    | exact Dev.keep_mk (by assumption) rfl | (intro _) | (refine canonical_of_fst (by assumption) ?_) | (split)
    | (extract_lets +onlyGivenNames x; refine_lift (have hx : Dev.Canonical x := ?_; ?_); (on_goal 1 => clear_value x); (on_goal 2 => subst x))
    | (extract_lets +onlyGivenNames x; clear_value x)

theorem Dev.sendRelease_keeps {s : Dev} (n : Nat) (slot : Nat) (gen : Nat) (k : Coil) (hs : s.Canonical) :
    (Dev.sendRelease s n slot gen k).Canonical := by
  unfold Dev.sendRelease
  with_reducible repeat' first
    | assumption | apply Dev.coilSend_keeps | (split)

theorem Dev.dropMoves_keeps {s : Dev} (slot : Nat) (hs : s.Canonical) :
    (Dev.dropMoves s slot).Canonical := by
  unfold Dev.dropMoves
  with_reducible repeat' first
    | assumption | apply Dev.cs_keeps | exact Dev.keep_mk (by assumption) rfl

theorem Dev.setMove_keeps {s : Dev} (m : Move) (hs : s.Canonical) :
    (Dev.setMove s m).Canonical := by
  unfold Dev.setMove
  with_reducible repeat' first
    | assumption | apply Dev.cs_keeps | exact Dev.keep_mk (by assumption) rfl

theorem Dev.setOp_keeps {s : Dev} (c : Cmd) (f : CoilOp → CoilOp) (hs : s.Canonical) :
    (Dev.setOp s c f).Canonical := by
  unfold Dev.setOp
  with_reducible repeat' first
    | assumption | exact Dev.keep_mk (by assumption) rfl

theorem Dev.abandon_keeps {s : Dev} (m : Move) (hs : s.Canonical) :
    (Dev.abandon s m).Canonical := by
  unfold Dev.abandon
  with_reducible repeat' first
    | assumption | apply Dev.dropMoves_keeps | apply Dev.freeFrames_keeps | apply Dev.modCoil_keeps | apply Dev.sendRelease_keeps
    | apply Dev.bump_keeps | (split)

theorem Dev.unmark_keeps {s : Dev} (slot : Nat) (hs : s.Canonical) :
    (Dev.unmark s slot).Canonical := by
  unfold Dev.unmark
  with_reducible repeat' first
    | assumption | apply Dev.cs_keeps | exact Dev.keep_mk (by assumption) rfl

theorem Dev.coilLost_keeps {s : Dev} (slot : Nat) (hs : s.Canonical) :
    (Dev.coilLost s slot).Canonical := by
  unfold Dev.coilLost
  with_reducible repeat' first
    | assumption | apply Dev.abandon_keeps | apply Dev.modCoil_keeps | apply Dev.reportP_keeps | apply Dev.bump_keeps | (split)

theorem Dev.mirrorLost_keeps {s : Dev} (slot : Nat) (hs : s.Canonical) :
    (Dev.mirrorLost s slot).Canonical := by
  unfold Dev.mirrorLost
  with_reducible repeat' first
    | assumption | apply Dev.unmark_keeps | apply Dev.modCoil_keeps | apply Dev.reportP_keeps
    | exact Dev.keep_mk (by assumption) rfl

theorem Dev.redirect_keeps {s : Dev} (slot : Nat) (hs : s.Canonical) :
    (Dev.redirect s slot).Canonical := by
  unfold Dev.redirect
  with_reducible repeat' first
    | assumption | apply Dev.abandon_keeps | apply Dev.freeFrames_keeps | apply Dev.modCoil_keeps | apply Dev.coilLost_keeps
    | (split)
    | (extract_lets +onlyGivenNames x; refine_lift (have hx : Dev.Canonical x := ?_; ?_); (on_goal 1 => clear_value x); (on_goal 2 => subst x))
    | (extract_lets +onlyGivenNames x; clear_value x)

theorem Dev.queueMove_keeps {s : Dev} (slot : Nat) (tier : Nat) (dst : List Nat) (hs : s.Canonical) :
    (Dev.queueMove s slot tier dst).Canonical := by
  unfold Dev.queueMove
  with_reducible repeat' first
    | assumption | apply Dev.cs_keeps | exact Dev.keep_mk (by assumption) rfl

theorem Dev.promote_keeps {s : Dev} (slot : Nat) (hs : s.Canonical) :
    (Dev.promote s slot).Canonical := by
  unfold Dev.promote
  with_reducible repeat' first
    | assumption | refine Dev.place_keeps _ _ _ _ _ _ ?_ _ (by assumption) | apply Dev.queueMove_keeps | apply Dev.cs_keeps
    | (split)
    | (extract_lets +onlyGivenNames x; refine_lift (have hx : Dev.Canonical x := ?_; ?_); (on_goal 1 => clear_value x); (on_goal 2 => subst x))
    | (extract_lets +onlyGivenNames x; clear_value x)

theorem Dev.touchOnly_keeps {s : Dev} (slot : Nat) (hs : s.Canonical) :
    (Dev.touchOnly s slot).Canonical := by
  unfold Dev.touchOnly
  with_reducible repeat' first
    | assumption | apply Dev.setCoil_keeps | exact Dev.keep_mk (by assumption) rfl

theorem Dev.touch_keeps {s : Dev} (slot : Nat) (hs : s.Canonical) :
    (Dev.touch s slot).Canonical := by
  unfold Dev.touch
  with_reducible repeat' first
    | assumption | apply Dev.promote_keeps | apply Dev.touchOnly_keeps | exact Dev.keep_mk (by assumption) rfl

theorem Dev.mlog_keeps {s : Dev} (c : Cmd) (op : Nat) (h : Nat) (cause : Nat) (hs : s.Canonical) :
    (Dev.mlog s c op h cause).Canonical := by
  unfold Dev.mlog
  with_reducible repeat' first
    | assumption | apply Dev.wr_keeps | (split)
    | (extract_lets +onlyGivenNames x; refine_lift (have hx : Dev.Canonical x := ?_; ?_); (on_goal 1 => clear_value x); (on_goal 2 => subst x))
    | (extract_lets +onlyGivenNames x; clear_value x)

theorem Dev.notOwner_keeps {s : Dev} (c : Cmd) (op : Nat) (h : Nat) (cause : Nat) (hs : s.Canonical) :
    (Dev.notOwner s c op h cause).Canonical := by
  unfold Dev.notOwner
  with_reducible repeat' first
    | assumption | apply Dev.failEv_keeps | apply Dev.mlog_keeps | apply Dev.bump_keeps | exact Dev.keep_mk (by assumption) rfl

theorem Dev.stale_keeps {s : Dev} (c : Cmd) (h : Nat) (hs : s.Canonical) :
    (Dev.stale s c h).Canonical := by
  unfold Dev.stale
  with_reducible repeat' first
    | assumption | apply Dev.failEv_keeps | apply Dev.bump_keeps | exact Dev.keep_mk (by assumption) rfl

theorem Dev.opEnd_keeps {s : Dev} (o : CoilOp) (f : Dev → Dev) (hs : s.Canonical) (hf : ∀ x : Dev, x.Canonical → (f x).Canonical) :
    (Dev.opEnd s o f).Canonical := by
  unfold Dev.opEnd
  with_reducible repeat' first
    | assumption | apply Dev.coilRelease_keeps | apply hf | exact Dev.keep_mk (by assumption) rfl

theorem Dev.opFail_keeps {s : Dev} (o : CoilOp) (st : Nat) (d0 : Nat) (hs : s.Canonical) :
    (Dev.opFail s o st d0).Canonical := by
  unfold Dev.opFail
  with_reducible repeat' first
    | assumption | apply Dev.opEnd_keeps | apply Dev.failSt_keeps | apply foldl_keeps | (intro _)

theorem Dev.opFailEv_keeps {s : Dev} (o : CoilOp) (e : Event) (hs : s.Canonical) :
    (Dev.opFailEv s o e).Canonical := by
  unfold Dev.opFailEv
  with_reducible repeat' first
    | assumption | apply Dev.opEnd_keeps | apply Dev.failEv_keeps | apply foldl_keeps | (intro _)

theorem Dev.opMove_keeps {s : Dev} (o : CoilOp) (hs : s.Canonical) :
    (Dev.opMove s o).Canonical := by
  unfold Dev.opMove
  with_reducible repeat' first
    | assumption | apply Dev.setOp_keeps | exact Dev.keep_mk (by assumption) rfl

theorem Dev.startMove_keeps {s : Dev} (m : Move) (hs : s.Canonical) :
    (Dev.startMove s m).Canonical := by
  unfold Dev.startMove
  with_reducible repeat' first
    | assumption | apply Dev.modCoil_keeps | apply Dev.coilSend_keeps | apply Dev.setMove_keeps | (split)
    | (extract_lets +onlyGivenNames x; refine_lift (have hx : Dev.Canonical x := ?_; ?_); (on_goal 1 => clear_value x); (on_goal 2 => subst x))
    | (extract_lets +onlyGivenNames x; clear_value x)

theorem Dev.moveFor_keeps {s : Dev} (o : CoilOp) (kind : MoveKind) (tier : Nat) (hs : s.Canonical) :
    (Dev.moveFor s o kind tier).Canonical := by
  unfold Dev.moveFor
  extract_lets +onlyGivenNames a k st
  have ha : a.Canonical := by subst a; split <;> [apply Dev.abandon_keeps; skip] <;> exact hs
  clear_value st k a
  split
  · exact Dev.opFail_keeps _ _ _ ha
  · split
    · exact Dev.opFailEv_keeps _ _ ha
    · rename_i b _ dst e
      have hb : b.Canonical := canonical_of_some_fst e (fun _ e => Dev.place_keeps _ _ _ _ _ _ ha _ e)
      extract_lets +onlyGivenNames m c
      have hc : c.Canonical := by subst c; split <;> [apply Dev.bump_keeps; skip] <;> exact hb
      exact Dev.startMove_keeps _ (Dev.opMove_keeps _ (Dev.cs_keeps _ hc))

theorem Dev.needHere_keeps {s : Dev} (o : CoilOp) (f : Dev → Dev) (hs : s.Canonical) (hf : ∀ x : Dev, x.Canonical → (f x).Canonical) :
    (Dev.needHere s o f).Canonical := by
  unfold Dev.needHere
  with_reducible repeat' first
    | assumption | apply Dev.opMove_keeps | apply Dev.moveFor_keeps | apply hf | (split)
    | (extract_lets +onlyGivenNames x; refine_lift (have hx : Dev.Canonical x := ?_; ?_); (on_goal 1 => clear_value x); (on_goal 2 => subst x))
    | (extract_lets +onlyGivenNames x; clear_value x)

theorem Dev.access_keeps {s : Dev} (o : CoilOp) (l : List Nat) (f : Dev → Dev) (hs : s.Canonical) (hf : ∀ x : Dev, x.Canonical → (f x).Canonical) :
    (Dev.access s o l f).Canonical := by
  unfold Dev.access
  with_reducible repeat' first
    | assumption | apply Dev.redirect_keeps | apply Dev.opEnd_keeps | apply Dev.failSt_keeps | apply Dev.needHere_keeps | apply hf
    | exact Dev.keep_mk (by assumption) rfl | (intro _) | (split)
    | (extract_lets +onlyGivenNames x; refine_lift (have hx : Dev.Canonical x := ?_; ?_); (on_goal 1 => clear_value x); (on_goal 2 => subst x))
    | (extract_lets +onlyGivenNames x; clear_value x)

theorem Dev.freeCoil_keeps {s : Dev} (slot : Nat) (hs : s.Canonical) :
    (Dev.freeCoil s slot).Canonical := by
  unfold Dev.freeCoil
  extract_lets +onlyGivenNames a k b c d g r k' e f
  have ha : a.Canonical := by subst a; split <;> [apply Dev.abandon_keeps; skip] <;> exact hs
  have hb : b.Canonical := Dev.unmark_keeps _ (Dev.freeFrames_keeps _ _ _ ha)
  have hc : c.Canonical := by subst c; split <;> [apply Dev.sendRelease_keeps; skip] <;> exact hb
  have hd : d.Canonical := by subst d; split <;> [apply Dev.sendRelease_keeps; skip] <;> exact hc
  have he : e.Canonical := Dev.wr_keeps _ _ _ (Dev.setCoil_keeps _ _ hd)
  have hf : f.Canonical := Dev.cs_keeps _ (Dev.bump_keeps _ _ _ he)
  split
  · exact Dev.reportP_keeps _ _ _ _ _ (Dev.bump_keeps _ _ _ hf)
  · exact hf

theorem Dev.opRead_keeps {s : Dev} (o : CoilOp) (hs : s.Canonical) :
    (Dev.opRead s o).Canonical := by
  unfold Dev.opRead
  with_reducible repeat' first
    | assumption | apply Dev.opFail_keeps | apply Dev.needHere_keeps | apply Dev.access_keeps | apply Dev.touch_keeps
    | apply Dev.storeFor_keeps | apply Dev.addWork_keeps | apply Dev.pf_keeps | apply Dev.opEnd_keeps | apply Dev.finishOk_keeps
    | apply foldl_keeps | apply foldl_keeps1 | exact Dev.keep_mk (by assumption) rfl | (intro _)
    | (refine canonical_of_fst (by assumption) ?_) | (split)
    | (extract_lets +onlyGivenNames x; refine_lift (have hx : Dev.Canonical x := ?_; ?_); (on_goal 1 => clear_value x); (on_goal 2 => subst x))
    | (extract_lets +onlyGivenNames x; clear_value x)

theorem Dev.written_keeps {s : Dev} (o : CoilOp) (op : Nat) (off : Nat) (unit : Nat) (bs : List Byte) (r0 : Nat) (hs : s.Canonical) :
    (Dev.written s o op off unit bs r0).Canonical := by
  unfold Dev.written
  with_reducible repeat' first
    | assumption | apply Dev.addWork_keeps | apply Dev.pf_keeps | apply Dev.opEnd_keeps | apply Dev.finishR_keeps
    | apply Dev.mirrorLost_keeps | apply Dev.finish_keeps | apply Dev.coilSend_keeps | apply Dev.setOp_keeps
    | exact Dev.keep_mk (by assumption) rfl | (intro _) | (split)
    | (extract_lets +onlyGivenNames x; refine_lift (have hx : Dev.Canonical x := ?_; ?_); (on_goal 1 => clear_value x); (on_goal 2 => subst x))
    | (extract_lets +onlyGivenNames x; clear_value x)

theorem Dev.putCoil_keeps {s : Dev} (o : CoilOp) (ps : List (Nat × Nat)) (n : Nat) (f : Dev → List Byte → Dev) (hs : s.Canonical) (hf : ∀ (x : Dev)
    y, x.Canonical → (f x y).Canonical) :
    (Dev.putCoil s o ps n f).Canonical := by
  unfold Dev.putCoil
  with_reducible repeat' first
    | assumption | apply Dev.noteRefused_keeps | apply Dev.opFail_keeps | apply Dev.scatter_keeps | apply hf | (split)
    | (extract_lets +onlyGivenNames x; refine_lift (have hx : Dev.Canonical x := ?_; ?_); (on_goal 1 => clear_value x); (on_goal 2 => subst x))
    | (extract_lets +onlyGivenNames x; clear_value x)

theorem Dev.opPut_keeps {s : Dev} (o : CoilOp) (hs : s.Canonical) :
    (Dev.opPut s o).Canonical := by
  unfold Dev.opPut
  with_reducible repeat' first
    | assumption | apply Dev.opFail_keeps | apply Dev.needHere_keeps | apply Dev.access_keeps | apply Dev.touch_keeps
    | apply Dev.putCoil_keeps | apply Dev.written_keeps | exact Dev.keep_mk (by assumption) rfl | (intro _) | (split)
    | (extract_lets +onlyGivenNames x; refine_lift (have hx : Dev.Canonical x := ?_; ?_); (on_goal 1 => clear_value x); (on_goal 2 => subst x))
    | (extract_lets +onlyGivenNames x; clear_value x)

theorem Dev.opAppend_keeps {s : Dev} (o : CoilOp) (hs : s.Canonical) :
    (Dev.opAppend s o).Canonical := by
  unfold Dev.opAppend
  with_reducible repeat' first
    | assumption | apply Dev.opFail_keeps | apply Dev.needHere_keeps | apply Dev.access_keeps | apply Dev.touch_keeps
    | apply Dev.putCoil_keeps | apply Dev.bump_keeps | apply Dev.modCoil_keeps | apply Dev.written_keeps | apply foldl_keeps
    | apply foldl_keeps1 | exact Dev.keep_mk (by assumption) rfl | (intro _) | (refine canonical_of_fst (by assumption) ?_)
    | (split)
    | (extract_lets +onlyGivenNames x; refine_lift (have hx : Dev.Canonical x := ?_; ?_); (on_goal 1 => clear_value x); (on_goal 2 => subst x))
    | (extract_lets +onlyGivenNames x; clear_value x)

theorem Dev.opScan_keeps {s : Dev} (o : CoilOp) (hs : s.Canonical) :
    (Dev.opScan s o).Canonical := by
  unfold Dev.opScan
  with_reducible repeat' first
    | assumption | apply Dev.needHere_keeps | apply Dev.access_keeps | apply Dev.touch_keeps | apply Dev.launch_keeps
    | apply Dev.setOp_keeps | apply foldl_keeps | (intro _)

theorem Dev.opMigrate_keeps {s : Dev} (o : CoilOp) (hs : s.Canonical) :
    (Dev.opMigrate s o).Canonical := by
  unfold Dev.opMigrate
  with_reducible repeat' first
    | assumption | apply Dev.opFail_keeps | apply Dev.access_keeps | apply Dev.opEnd_keeps | apply Dev.touchOnly_keeps
    | apply Dev.finishOk_keeps | apply Dev.moveFor_keeps | exact Dev.keep_mk (by assumption) rfl | (intro _) | (split)
    | (extract_lets +onlyGivenNames x; refine_lift (have hx : Dev.Canonical x := ?_; ?_); (on_goal 1 => clear_value x); (on_goal 2 => subst x))
    | (extract_lets +onlyGivenNames x; clear_value x)

theorem Dev.opMirror_keeps {s : Dev} (o : CoilOp) (hs : s.Canonical) :
    (Dev.opMirror s o).Canonical := by
  unfold Dev.opMirror
  with_reducible repeat' first
    | assumption | apply Dev.unmark_keeps | apply Dev.sendRelease_keeps | apply Dev.opEnd_keeps | apply Dev.modCoil_keeps
    | apply Dev.finishOk_keeps | apply Dev.failPeer_keeps | apply Dev.needHere_keeps | apply Dev.access_keeps
    | apply Dev.opFail_keeps | apply Dev.coilSend_keeps | apply Dev.setOp_keeps | exact Dev.keep_mk (by assumption) rfl
    | (intro _) | (split)
    | (extract_lets +onlyGivenNames x; refine_lift (have hx : Dev.Canonical x := ?_; ?_); (on_goal 1 => clear_value x); (on_goal 2 => subst x))
    | (extract_lets +onlyGivenNames x; clear_value x)

theorem Dev.opRun_keeps {s : Dev} (o : CoilOp) (hs : s.Canonical) :
    (Dev.opRun s o).Canonical := by
  unfold Dev.opRun
  with_reducible repeat' first
    | assumption | apply Dev.setOp_keeps | apply Dev.opEnd_keeps | apply Dev.failSt_keeps | apply Dev.freeCoil_keeps
    | apply Dev.finishOk_keeps | apply Dev.opRead_keeps | apply Dev.opPut_keeps | apply Dev.opAppend_keeps
    | apply Dev.opScan_keeps | apply Dev.opMigrate_keeps | apply Dev.modCoil_keeps | apply Dev.opMirror_keeps
    | apply Dev.finish_keeps | apply foldl_keeps | apply foldl_keeps1 | exact Dev.keep_mk (by assumption) rfl | (intro _)
    | (refine canonical_of_fst (by assumption) ?_) | (split)
    | (extract_lets +onlyGivenNames x; refine_lift (have hx : Dev.Canonical x := ?_; ?_); (on_goal 1 => clear_value x); (on_goal 2 => subst x))
    | (extract_lets +onlyGivenNames x; clear_value x)

theorem Dev.grantOp_keeps {s : Dev} (o : CoilOp) (hs : s.Canonical) :
    (Dev.grantOp s o).Canonical := by
  unfold Dev.grantOp
  with_reducible repeat' first
    | assumption | apply Dev.opEnd_keeps | apply Dev.stale_keeps | apply Dev.opRun_keeps | exact Dev.keep_mk (by assumption) rfl
    | (intro _) | (split)
    | (extract_lets +onlyGivenNames x; refine_lift (have hx : Dev.Canonical x := ?_; ?_); (on_goal 1 => clear_value x); (on_goal 2 => subst x))
    | (extract_lets +onlyGivenNames x; clear_value x)

theorem Dev.writeMeets_keeps {s : Dev} (slot : Nat) (hs : s.Canonical) :
    (Dev.writeMeets s slot).Canonical := by
  unfold Dev.writeMeets
  with_reducible repeat' first
    | assumption | apply Dev.abandon_keeps | apply Dev.fresh_keeps | apply Dev.opEnd_keeps | apply Dev.finish_keeps
    | apply foldl_keeps | exact Dev.keep_mk (by assumption) rfl | (intro _) | (split)

theorem Dev.coilEnter_keeps {s : Dev} (op : Nat) (c : Cmd) (hs : s.Canonical) :
    (Dev.coilEnter s op c).Canonical := by
  unfold Dev.coilEnter
  with_reducible repeat' first
    | assumption | apply Dev.notOwner_keeps | apply Dev.failEv_keeps | apply Dev.stale_keeps | apply Dev.failSt_keeps
    | apply Dev.finishOk_keeps | apply Dev.touch_keeps | apply Dev.writeMeets_keeps | apply Dev.grantOp_keeps
    | exact Dev.keep_mk (by assumption) rfl | (intro _) | (split)
    | (extract_lets +onlyGivenNames x; refine_lift (have hx : Dev.Canonical x := ?_; ?_); (on_goal 1 => clear_value x); (on_goal 2 => subst x))
    | (extract_lets +onlyGivenNames x; clear_value x)

theorem Dev.placeFirst_keeps (p : Nat) (cls : Nat) (n : Nat) (a3 : List Nat) {a4 : Dev} (ha4 : a4.Canonical) :
    (Dev.placeFirst p cls n a3 a4).1.Canonical := by
  induction a3 generalizing a4 with
  | nil => exact ha4
  | cons b r ih =>
    unfold Dev.placeFirst
    split
    · exact canonical_of_some_fst (by assumption) (fun _ e => Dev.place_keeps _ _ _ _ _ _ ha4 _ e)
    · exact ih ha4

theorem Dev.allocDone_keeps {s : Dev} (c : Cmd) (slot : Nat) (k : Coil) (hs : s.Canonical) :
    (Dev.allocDone s c slot k).Canonical := by
  unfold Dev.allocDone
  with_reducible repeat' first
    | assumption | apply Dev.finishR_keeps | apply Dev.bump_keeps | exact Dev.keep_mk (by assumption) rfl

theorem Dev.settleAlloc_keeps {s : Dev} (c : Cmd) (slot : Nat) (turn : Nat) (k : Coil) (tiers : List Nat) (hs : s.Canonical) :
    (Dev.settleAlloc s c slot turn k tiers).Canonical := by
  unfold Dev.settleAlloc
  with_reducible repeat' first
    | assumption | apply Dev.placeFirst_keeps | apply Dev.failEv_keeps | apply Dev.giveSlot_keeps | apply Dev.setCoil_keeps
    | apply Dev.wr_keeps | apply Dev.coilSend_keeps | apply Dev.allocDone_keeps | apply Dev.putFrames_keeps
    | exact Dev.keep_mk (by assumption) rfl | (intro _) | (refine canonical_of_fst (by assumption) ?_) | (split)

theorem Dev.coilAllocate_keeps {s : Dev} (c : Cmd) (hs : s.Canonical) :
    (Dev.coilAllocate s c).Canonical := by
  unfold Dev.coilAllocate
  with_reducible repeat' first
    | assumption | apply Dev.badFormat_keeps | apply Dev.failEv_keeps | apply Dev.takeSlot_keeps | apply Dev.settleAlloc_keeps
    | exact Dev.keep_mk (by assumption) rfl | (intro _) | (refine canonical_of_fst (by assumption) ?_) | (split)
    | (extract_lets +onlyGivenNames x; refine_lift (have hx : Dev.Canonical x := ?_; ?_); (on_goal 1 => clear_value x); (on_goal 2 => subst x))
    | (extract_lets +onlyGivenNames x; clear_value x)

theorem Dev.coilPolicy_keeps {s : Dev} (c : Cmd) (hs : s.Canonical) :
    (Dev.coilPolicy s c).Canonical := by
  unfold Dev.coilPolicy
  with_reducible repeat' first
    | assumption | apply Dev.failSt_keeps | apply Dev.finishOk_keeps | apply Dev.wr_keeps | (split)
    | (extract_lets +onlyGivenNames x; refine_lift (have hx : Dev.Canonical x := ?_; ?_); (on_goal 1 => clear_value x); (on_goal 2 => subst x))
    | (extract_lets +onlyGivenNames x; clear_value x)

theorem Dev.coilCommand_keeps {s : Dev} (op : Nat) (c : Cmd) (hs : s.Canonical) :
    (Dev.coilCommand s op c).Canonical := by
  unfold Dev.coilCommand
  with_reducible repeat' first
    | assumption | apply Dev.failSt_keeps | apply Dev.cs_keeps | apply Dev.badFormat_keeps | apply Dev.coilAllocate_keeps
    | apply Dev.coilPolicy_keeps | apply Dev.coilEnter_keeps | apply foldl_keeps | apply foldl_keeps1
    | exact Dev.keep_mk (by assumption) rfl | (intro _) | (refine canonical_of_fst (by assumption) ?_) | (split)
    | (extract_lets +onlyGivenNames x; refine_lift (have hx : Dev.Canonical x := ?_; ?_); (on_goal 1 => clear_value x); (on_goal 2 => subst x))
    | (extract_lets +onlyGivenNames x; clear_value x)

theorem Dev.demote_keeps {s : Dev} (slot : Nat) (tier : Nat) (hs : s.Canonical) :
    (Dev.demote s slot tier).Canonical := by
  unfold Dev.demote
  with_reducible repeat' first
    | assumption | refine Dev.place_keeps _ _ _ _ _ _ ?_ _ (by assumption) | apply Dev.queueMove_keeps | (split)
    | (extract_lets +onlyGivenNames x; refine_lift (have hx : Dev.Canonical x := ?_; ?_); (on_goal 1 => clear_value x); (on_goal 2 => subst x))
    | (extract_lets +onlyGivenNames x; clear_value x)

theorem Dev.visit_keeps (nbhd : Nat) (a1 : List Nat) (a2 : Option Move) {a3 : Dev} (ha3 : a3.Canonical) :
    (Dev.visit nbhd a1 a2 a3).1.Canonical := by
  induction a1 generalizing a2 a3 with
  | nil =>
    unfold Dev.visit
    with_reducible repeat' first
      | assumption | apply Dev.cs_keeps | apply Dev.modCoil_keeps | apply Dev.demote_keeps
      | exact Dev.keep_mk (by assumption) rfl | (intro _) | (refine canonical_of_fst (by assumption) ?_) | (split)
      | (extract_lets +onlyGivenNames x; refine_lift (have hx : Dev.Canonical x := ?_; ?_); (on_goal 1 => clear_value x); (on_goal 2 => subst x))
      | (extract_lets +onlyGivenNames x; clear_value x)
  | cons b r ih =>
    unfold Dev.visit
    with_reducible repeat' first
      | assumption | apply ih | apply Dev.cs_keeps | apply Dev.modCoil_keeps | apply Dev.demote_keeps
      | exact Dev.keep_mk (by assumption) rfl | (intro _) | (refine canonical_of_fst (by assumption) ?_) | (split)
      | (extract_lets +onlyGivenNames x; refine_lift (have hx : Dev.Canonical x := ?_; ?_); (on_goal 1 => clear_value x); (on_goal 2 => subst x))
      | (extract_lets +onlyGivenNames x; clear_value x)

theorem Dev.noRoom_keeps {s : Dev} (m : Move) (hs : s.Canonical) :
    (Dev.noRoom s m).Canonical := by
  unfold Dev.noRoom
  with_reducible repeat' first
    | assumption | apply Dev.bump_keeps | apply Dev.dropMoves_keeps | exact Dev.keep_mk (by assumption) rfl

theorem Dev.moveOver_keeps {s : Dev} (m : Move) (f : Dev → CoilOp → Dev) (hs : s.Canonical) (hf : ∀ (x : Dev) y, x.Canonical → (f x y).Canonical) :
    (Dev.moveOver s m f).Canonical := by
  unfold Dev.moveOver
  with_reducible repeat' first
    | assumption | apply hf | apply foldl_keeps | (intro _)

theorem Dev.switchMove_keeps {s : Dev} (m : Move) (hs : s.Canonical) :
    (Dev.switchMove s m).Canonical := by
  unfold Dev.switchMove
  with_reducible repeat' first
    | assumption | apply Dev.putFrames_keeps | apply Dev.freeFrames_keeps | apply Dev.sendRelease_keeps | apply Dev.setCoil_keeps
    | apply Dev.bump_keeps | apply Dev.cs_keeps | apply Dev.moveOver_keeps | apply Dev.opEnd_keeps | apply Dev.finishOk_keeps
    | apply Dev.opRun_keeps | apply foldl_keeps | apply foldl_keeps1 | exact Dev.keep_mk (by assumption) rfl | (intro _)
    | (refine canonical_of_fst (by assumption) ?_) | (split)
    | (extract_lets +onlyGivenNames x; refine_lift (have hx : Dev.Canonical x := ?_; ?_); (on_goal 1 => clear_value x); (on_goal 2 => subst x))
    | (extract_lets +onlyGivenNames x; clear_value x)

theorem Dev.putBad_keeps {s : Dev} (a : Nat) (hs : s.Canonical) :
    (Dev.putBad s a).Canonical := by
  unfold Dev.putBad
  with_reducible repeat' first
    | assumption | exact Dev.keep_mk (by assumption) rfl | (split)

theorem Dev.talkOver_keeps {s : Dev} (t : Talk) (hs : s.Canonical) :
    (Dev.talkOver s t).Canonical := by
  unfold Dev.talkOver
  with_reducible repeat' first
    | assumption | apply Dev.opEnd_keeps | apply Dev.bump_keeps | apply Dev.finishR_keeps | apply Dev.mirrorLost_keeps
    | apply Dev.finish_keeps | apply Dev.setOp_keeps | apply Dev.setMove_keeps | apply Dev.sendRelease_keeps
    | apply Dev.abandon_keeps | apply Dev.moveOver_keeps | apply Dev.opFail_keeps | apply Dev.allocDone_keeps | apply Dev.wr_keeps
    | apply Dev.settleAlloc_keeps | exact Dev.keep_mk (by assumption) rfl | (intro _) | (split)
    | (extract_lets +onlyGivenNames x; refine_lift (have hx : Dev.Canonical x := ?_; ?_); (on_goal 1 => clear_value x); (on_goal 2 => subst x))
    | (extract_lets +onlyGivenNames x; clear_value x)

theorem Dev.settleCoils_keeps {s : Dev} (hs : s.Canonical) :
    (Dev.settleCoils s).Canonical := by
  unfold Dev.settleCoils
  with_reducible repeat' first
    | assumption | apply Dev.talkOver_keeps | apply Dev.cs_keeps | apply Dev.fab_keeps | apply foldl_keeps | (intro _)
    | (refine canonical_of_fst (by assumption) ?_) | (split)
    | (extract_lets +onlyGivenNames x; refine_lift (have hx : Dev.Canonical x := ?_; ?_); (on_goal 1 => clear_value x); (on_goal 2 => subst x))
    | (extract_lets +onlyGivenNames x; clear_value x)

theorem Dev.coilPeerFailed_keeps {s : Dev} (n : Nat) (hs : s.Canonical) :
    (Dev.coilPeerFailed s n).Canonical := by
  unfold Dev.coilPeerFailed
  with_reducible repeat' first
    | assumption | apply Dev.cs_keeps | apply Dev.opEnd_keeps | apply Dev.failSt_keeps | apply Dev.coilLost_keeps
    | apply foldl_keeps | apply foldl_keeps1 | exact Dev.keep_mk (by assumption) rfl | (intro _)
    | (refine canonical_of_fst (by assumption) ?_) | (split)
    | (extract_lets +onlyGivenNames x; refine_lift (have hx : Dev.Canonical x := ?_; ?_); (on_goal 1 => clear_value x); (on_goal 2 => subst x))
    | (extract_lets +onlyGivenNames x; clear_value x)

theorem Dev.loanPage_keeps {s : Dev} (l : Loan) (i : Nat) (hs : s.Canonical) :
    (Dev.loanPage s l i).1.Canonical := by
  unfold Dev.loanPage
  with_reducible repeat' first
    | assumption | apply Dev.noteQuota_keeps | refine Dev.takeFrame_keeps _ _ _ _ _ ?_ _ (by assumption)
    | apply Dev.showPool_keeps | (split)
    | (extract_lets +onlyGivenNames x; refine_lift (have hx : Dev.Canonical x := ?_; ?_); (on_goal 1 => clear_value x); (on_goal 2 => subst x))
    | (extract_lets +onlyGivenNames x; clear_value x)

theorem Dev.loanPut_keeps (a0 : Nat) (a1 : Nat) (a2 : List Byte) (a3 : Loan) {a4 : Dev} (ha4 : a4.Canonical) :
    (Dev.loanPut a0 a1 a2 a3 a4).1.Canonical := by
  induction a0 generalizing a1 a2 a3 a4 with
  | zero =>
    unfold Dev.loanPut
    with_reducible repeat' first
      | assumption | apply Dev.loanPage_keeps | apply Dev.clearBad_keeps | apply Dev.putBytes_keeps
      | exact Dev.keep_mk (by assumption) rfl | (refine canonical_of_fst (by assumption) ?_) | (split)
      | (extract_lets +onlyGivenNames x; refine_lift (have hx : Dev.Canonical x := ?_; ?_); (on_goal 1 => clear_value x); (on_goal 2 => subst x))
      | (extract_lets +onlyGivenNames x; clear_value x)
  | succ n ih =>
    unfold Dev.loanPut
    with_reducible repeat' first
      | assumption | apply ih | apply Dev.loanPage_keeps | apply Dev.clearBad_keeps | apply Dev.putBytes_keeps
      | exact Dev.keep_mk (by assumption) rfl | (refine canonical_of_fst (by assumption) ?_) | (split)
      | (extract_lets +onlyGivenNames x; refine_lift (have hx : Dev.Canonical x := ?_; ?_); (on_goal 1 => clear_value x); (on_goal 2 => subst x))
      | (extract_lets +onlyGivenNames x; clear_value x)

theorem Dev.keepLoan_keeps {s : Dev} (l : Loan) (hs : s.Canonical) :
    (Dev.keepLoan s l).Canonical := by
  unfold Dev.keepLoan
  with_reducible repeat' first
    | assumption | apply Dev.cs_keeps | exact Dev.keep_mk (by assumption) rfl

theorem Dev.lend_keeps {s : Dev} (peer : Nat) (h : Nat) (off : Nat) (bs : List Byte) (new : Bool) (hs : s.Canonical) :
    (Dev.lend s peer h off bs new).1.Canonical := by
  unfold Dev.lend
  with_reducible repeat' first
    | assumption | apply Dev.loanPut_keeps | apply Dev.keepLoan_keeps | exact Dev.keep_mk (by assumption) rfl | (intro _)
    | (refine canonical_of_fst (by assumption) ?_) | (split)

theorem Dev.endLoan_keeps {s : Dev} (l : Loan) (hs : s.Canonical) :
    (Dev.endLoan s l).Canonical := by
  unfold Dev.endLoan
  with_reducible repeat' first
    | assumption | apply Dev.freeFrames_keeps | apply Dev.cs_keeps | exact Dev.keep_mk (by assumption) rfl

theorem Dev.endLoans_keeps {s : Dev} (peer : Nat) (hs : s.Canonical) :
    (Dev.endLoans s peer).Canonical := by
  unfold Dev.endLoans
  with_reducible repeat' first
    | assumption | apply Dev.endLoan_keeps | apply foldl_keeps | (intro _)

theorem Dev.keepCfg_keeps {old : Dev} {s : Dev} (hold : old.Canonical) (hs : s.Canonical) :
    (Dev.keepCfg old s).Canonical := by
  unfold Dev.keepCfg
  with_reducible repeat' first
    | assumption | apply Dev.cs_keeps | (split)

theorem Dev.moveBases_keeps {s : Dev} (d : Nat) (hs : s.Canonical) :
    (Dev.moveBases s d).Canonical := by
  unfold Dev.moveBases
  with_reducible repeat' first
    | assumption | apply Dev.keepCfg_keeps | apply Dev.report_keeps | apply Dev.wr_keeps | apply foldl_keeps | (intro _)
    | (refine canonical_of_fst (by assumption) ?_) | (split)
    | (extract_lets +onlyGivenNames x; refine_lift (have hx : Dev.Canonical x := ?_; ?_); (on_goal 1 => clear_value x); (on_goal 2 => subst x))
    | (extract_lets +onlyGivenNames x; clear_value x)

theorem Dev.csEnable_keeps {s : Dev} (hs : s.Canonical) :
    (Dev.csEnable s).Canonical := by
  unfold Dev.csEnable
  with_reducible repeat' first
    | assumption | apply Dev.wr_keeps | apply Dev.cs_keeps | apply foldl_keeps | apply foldl_keeps1
    | exact Dev.keep_mk (by assumption) rfl | (intro _) | (refine canonical_of_fst (by assumption) ?_) | (split)
    | (extract_lets +onlyGivenNames x; refine_lift (have hx : Dev.Canonical x := ?_; ?_); (on_goal 1 => clear_value x); (on_goal 2 => subst x))
    | (extract_lets +onlyGivenNames x; clear_value x)

theorem doCsEnSet_keeps (src : Src) {s : Dev} (hs : s.Canonical) :
    (doCsEnSet src s).Canonical := by
  unfold doCsEnSet
  with_reducible repeat' first
    | assumption | apply Dev.own0_keeps | apply Dev.csEnable_keeps | exact Dev.keep_mk (by assumption) rfl

theorem doCsEnClear_keeps (src : Src) {s : Dev} (hs : s.Canonical) :
    (doCsEnClear src s).Canonical := by
  unfold doCsEnClear
  with_reducible repeat' first
    | assumption | apply Dev.own0_keeps | apply Dev.wr_keeps | apply foldl_keeps | (intro _)

theorem Dev.storeInit_keeps {s : Dev} (hs : s.Canonical) :
    (Dev.storeInit s).Canonical := by
  unfold Dev.storeInit
  with_reducible repeat' first
    | assumption | apply Dev.wr_keeps | apply Dev.cs_keeps | apply Dev.showPool_keeps | apply Dev.zero_keeps
    | apply Dev.writeDesc_keeps | apply Dev.clearBad_keeps | apply foldl_keeps | (intro _)

theorem Dev.scrubCoils_keeps {s : Dev} (p : Nat) (hs : s.Canonical) :
    (Dev.scrubCoils s p).Canonical := by
  unfold Dev.scrubCoils
  with_reducible repeat' first
    | assumption | apply Dev.stale_keeps | apply Dev.freeCoil_keeps | apply Dev.endLoan_keeps | apply Dev.wr_keeps
    | apply foldl_keeps | apply foldl_keeps1 | exact Dev.keep_mk (by assumption) rfl | (intro _)
    | (refine canonical_of_fst (by assumption) ?_) | (split)
    | (extract_lets +onlyGivenNames x; refine_lift (have hx : Dev.Canonical x := ?_; ?_); (on_goal 1 => clear_value x); (on_goal 2 => subst x))
    | (extract_lets +onlyGivenNames x; clear_value x)

theorem Dev.settleFabric_keeps {s : Dev} (hs : s.Canonical) :
    (Dev.settleFabric s).Canonical := by
  unfold Dev.settleFabric
  with_reducible repeat' first
    | assumption | apply Dev.settleCoils_keeps | apply Dev.pump_keeps | exact Dev.keep_mk (by assumption) rfl

theorem Dev.linkAcked_keeps {s : Dev} (k : Nat) (n : Nat) (hs : s.Canonical) :
    (Dev.linkAcked s k n).Canonical := by
  unfold Dev.linkAcked
  with_reducible repeat' first
    | assumption | apply Dev.linkDrain_keeps | apply Dev.modLink_keeps | (split)
    | (extract_lets +onlyGivenNames x; refine_lift (have hx : Dev.Canonical x := ?_; ?_); (on_goal 1 => clear_value x); (on_goal 2 => subst x))
    | (extract_lets +onlyGivenNames x; clear_value x)

theorem Dev.linkExhaust_keeps {s : Dev} (k : Nat) (hs : s.Canonical) :
    (Dev.linkExhaust s k).Canonical := by
  unfold Dev.linkExhaust
  with_reducible repeat' first
    | assumption | apply Dev.linkDown_keeps | apply Dev.report_keeps | exact Dev.keep_mk (by assumption) rfl

theorem Dev.linkNak_keeps {s : Dev} (k : Nat) (hs : s.Canonical) :
    (Dev.linkNak s k).Canonical := by
  unfold Dev.linkNak
  with_reducible repeat' first
    | assumption | apply Dev.linkControl_keeps | exact Dev.keep_mk (by assumption) rfl

theorem Dev.badFrame_keeps {s : Dev} (k : Nat) (n : Nat) (hs : s.Canonical) :
    (Dev.badFrame s k n).Canonical := by
  unfold Dev.badFrame
  with_reducible repeat' first
    | assumption | apply Dev.modLink_keeps | apply Dev.bump_keeps | apply Dev.report_keeps | apply Dev.linkNak_keeps | (split)
    | (extract_lets +onlyGivenNames x; refine_lift (have hx : Dev.Canonical x := ?_; ?_); (on_goal 1 => clear_value x); (on_goal 2 => subst x))
    | (extract_lets +onlyGivenNames x; clear_value x)

theorem Dev.relay_keeps {s : Dev} (k : Nat) (p : Packet) (hs : s.Canonical) :
    (Dev.relay s k p).Canonical := by
  unfold Dev.relay
  with_reducible repeat' first
    | assumption | apply Dev.report_keeps | apply Dev.bump_keeps | apply Dev.modPeer_keeps | apply Dev.linkControl_keeps
    | apply Dev.linkPut_keeps | (split)

theorem Dev.linkFrame_keeps {s : Dev} (k : Nat) (f : Frame) (hs : s.Canonical) :
    (Dev.linkFrame s k f).Canonical := by
  unfold Dev.linkFrame
  with_reducible repeat' first
    | assumption | apply Dev.linkAcked_keeps | apply Dev.relay_keeps | apply Dev.modLink_keeps | apply Dev.linkNak_keeps
    | apply Dev.settleFabric_keeps | apply foldl_keeps | apply foldl_keeps1 | exact Dev.keep_mk (by assumption) rfl
    | (intro _; rfl) | (intro _) | (refine canonical_of_fst (by assumption) ?_) | (split)
    | (extract_lets +onlyGivenNames x; refine_lift (have hx : Dev.Canonical x := ?_; ?_); (on_goal 1 => clear_value x); (on_goal 2 => subst x))
    | (extract_lets +onlyGivenNames x; clear_value x) | (refine canonical_of_some_fst (by assumption) ?_)
    | (refine canonical_of_some (by assumption) ?_) | (refine canonical_of_snd (by assumption) ?_) | (refine Dev.keep_mk ?_ rfl)
    | (dsimp only)

theorem Dev.tryUp_keeps {s : Dev} (k : Nat) (hs : s.Canonical) :
    (Dev.tryUp s k).Canonical := by
  unfold Dev.tryUp
  with_reducible repeat' first
    | assumption | apply Dev.settleFabric_keeps | apply Dev.linkUp_keeps | (split)

theorem Dev.modGateway_keeps {s : Dev} (port : Nat) (f : Gateway → Gateway) (hs : s.Canonical) :
    (Dev.modGateway s port f).Canonical := by
  unfold Dev.modGateway
  with_reducible repeat' first
    | assumption | apply Dev.settleFabric_keeps | apply Dev.fab_keeps | exact Dev.keep_mk (by assumption) rfl

theorem Dev.endAll_keeps {s : Dev} (n : Nat) (st : Nat) (hs : s.Canonical) :
    (Dev.endAll s n st).Canonical := by
  unfold Dev.endAll
  with_reducible repeat' first
    | assumption | apply Dev.fab_keeps | apply Dev.endMsg_keeps | apply foldl_keeps | (intro _)

theorem Dev.dropSplice_keeps {s : Dev} (x : SpliceRx) (hs : s.Canonical) :
    (Dev.dropSplice s x).Canonical := by
  unfold Dev.dropSplice
  with_reducible repeat' first
    | assumption | apply Dev.fab_keeps | apply Dev.markIncomplete_keeps | apply Dev.endAdd_keeps | apply Dev.setSiteDesc_keeps
    | (split)
    | (extract_lets +onlyGivenNames x; refine_lift (have hx : Dev.Canonical x := ?_; ?_); (on_goal 1 => clear_value x); (on_goal 2 => subst x))
    | (extract_lets +onlyGivenNames x; clear_value x)

theorem Dev.peerReset_keeps {s : Dev} (n : Nat) (inc : Nat) (hs : s.Canonical) :
    (Dev.peerReset s n inc).Canonical := by
  unfold Dev.peerReset
  with_reducible repeat' first
    | assumption | apply Dev.endAll_keeps | apply Dev.dropSplice_keeps | apply Dev.modPeer_keeps | apply Dev.report_keeps
    | apply Dev.wr_keeps | apply Dev.endLoans_keeps | apply foldl_keeps | (intro _)

theorem Dev.notePeer_keeps {s : Dev} (n : Nat) (inc : Nat) (hs : s.Canonical) :
    (Dev.notePeer s n inc).Canonical := by
  unfold Dev.notePeer
  with_reducible repeat' first
    | assumption | apply Dev.wr_keeps | apply Dev.peerReset_keeps | apply foldl_keeps | apply foldl_keeps1
    | exact Dev.keep_mk (by assumption) rfl | (intro _) | (refine canonical_of_fst (by assumption) ?_) | (split)
    | (extract_lets +onlyGivenNames x; refine_lift (have hx : Dev.Canonical x := ?_; ?_); (on_goal 1 => clear_value x); (on_goal 2 => subst x))
    | (extract_lets +onlyGivenNames x; clear_value x)

theorem Dev.noteDown_keeps {s : Dev} (n : Nat) (by' : Nat) (hs : s.Canonical) :
    (Dev.noteDown s n by').Canonical := by
  unfold Dev.noteDown
  with_reducible repeat' first
    | assumption | apply Dev.fab_keeps | exact Dev.keep_mk (by assumption) rfl

theorem Dev.parentLost_keeps {s : Dev} (hs : s.Canonical) :
    (Dev.parentLost s).Canonical := by
  unfold Dev.parentLost
  with_reducible repeat' first
    | assumption | apply Dev.report_keeps | apply Dev.fab_keeps | exact Dev.keep_mk (by assumption) rfl

theorem Dev.peerFail_keeps {s : Dev} (n : Nat) (hs : s.Canonical) :
    (Dev.peerFail s n).Canonical := by
  unfold Dev.peerFail
  with_reducible repeat' first
    | assumption | apply Dev.report_keeps | apply Dev.wr_keeps | apply Dev.coilPeerFailed_keeps | apply Dev.endAll_keeps
    | apply Dev.parentLost_keeps | apply Dev.noteDown_keeps | apply Dev.control_keeps | (split)
    | (extract_lets +onlyGivenNames x; refine_lift (have hx : Dev.Canonical x := ?_; ?_); (on_goal 1 => clear_value x); (on_goal 2 => subst x))
    | (extract_lets +onlyGivenNames x; clear_value x)

theorem Dev.ackTo_keeps {s : Dev} (p : Packet) (flags : Nat) (status : Nat) (hs : s.Canonical) :
    (Dev.ackTo s p flags status).Canonical := by
  unfold Dev.ackTo
  with_reducible repeat' first
    | assumption | apply Dev.modPeer_keeps | apply Dev.linkControl_keeps | apply Dev.emit_keeps | apply foldl_keeps
    | apply foldl_keeps1 | exact Dev.keep_mk (by assumption) rfl | (intro _) | (refine canonical_of_fst (by assumption) ?_)
    | (split)
    | (extract_lets +onlyGivenNames x; refine_lift (have hx : Dev.Canonical x := ?_; ?_); (on_goal 1 => clear_value x); (on_goal 2 => subst x))
    | (extract_lets +onlyGivenNames x; clear_value x)

theorem Dev.heardFrom_keeps {s : Dev} (p : Packet) (f : Dev → Dev) (hs : s.Canonical) (hf : ∀ x : Dev, x.Canonical → (f x).Canonical) :
    (Dev.heardFrom s p f).Canonical := by
  unfold Dev.heardFrom
  with_reducible repeat' first
    | assumption | apply Dev.bump_keeps | apply Dev.report_keeps | apply Dev.notePeer_keeps | apply hf | (split)
    | (extract_lets +onlyGivenNames x; refine_lift (have hx : Dev.Canonical x := ?_; ?_); (on_goal 1 => clear_value x); (on_goal 2 => subst x))
    | (extract_lets +onlyGivenNames x; clear_value x)

theorem Dev.putPsn_keeps {s : Dev} (p : Packet) (ok : Bool) (hs : s.Canonical) :
    (Dev.putPsn s p ok).Canonical := by
  unfold Dev.putPsn
  with_reducible repeat' first
    | assumption | apply Dev.modPeer_keeps | exact Dev.keep_mk (by assumption) rfl

theorem Dev.noteInbound_keeps {s : Dev} (p : Packet) (ok : Bool) (hs : s.Canonical) :
    (Dev.noteInbound s p ok).Canonical := by
  unfold Dev.noteInbound
  with_reducible repeat' first
    | assumption | apply Dev.fab_keeps | exact Dev.keep_mk (by assumption) rfl

theorem Dev.commit_keeps {s : Dev} (p : Packet) (f : Dev → Dev × Nat) (hs : s.Canonical) (hf : ∀ x : Dev, x.Canonical → (f x).1.Canonical) :
    (Dev.commit s p f).Canonical := by
  unfold Dev.commit
  with_reducible repeat' first
    | assumption | apply Dev.ackTo_keeps | apply Dev.bump_keeps | apply Dev.noteInbound_keeps | apply Dev.putPsn_keeps
    | apply Dev.pf_keeps | apply Dev.fab_keeps | apply Dev.showRx_keeps | apply hf | apply foldl_keeps | apply foldl_keeps1
    | exact Dev.keep_mk (by assumption) rfl | (intro _) | (refine canonical_of_fst (by assumption) ?_) | (split)
    | (extract_lets +onlyGivenNames x; refine_lift (have hx : Dev.Canonical x := ?_; ?_); (on_goal 1 => clear_value x); (on_goal 2 => subst x))
    | (extract_lets +onlyGivenNames x; clear_value x)

theorem Dev.receive_keeps {s : Dev} (p : Packet) (f : Dev → Dev × Nat) (hs : s.Canonical) (hf : ∀ x : Dev, x.Canonical → (f x).1.Canonical) :
    (Dev.receive s p f).Canonical := by
  unfold Dev.receive
  with_reducible repeat' first
    | assumption | apply Dev.settleFabric_keeps | apply Dev.heardFrom_keeps | apply Dev.commit_keeps | apply hf
    | apply foldl_keeps | (intro _)

theorem Dev.rxRead_keeps (p : Packet) {s : Dev} (hs : s.Canonical) :
    (Dev.rxRead p s).1.Canonical := by
  unfold Dev.rxRead
  with_reducible repeat' first
    | assumption | apply Dev.noteRefused_keeps | apply Dev.post_keeps | (split)
    | (extract_lets +onlyGivenNames x; refine_lift (have hx : Dev.Canonical x := ?_; ?_); (on_goal 1 => clear_value x); (on_goal 2 => subst x))
    | (extract_lets +onlyGivenNames x; clear_value x)

theorem Dev.rxReadResp_keeps (p : Packet) {s : Dev} (hs : s.Canonical) :
    (Dev.rxReadResp p s).1.Canonical := by
  unfold Dev.rxReadResp
  with_reducible repeat' first
    | assumption | apply Dev.storeFor_keeps | apply Dev.endMsg_keeps | apply Dev.msgDone_keeps | apply Dev.modMsg_keeps
    | exact Dev.keep_mk (by assumption) rfl | (intro _) | (refine canonical_of_fst (by assumption) ?_) | (split)

theorem Dev.rxWrite_keeps (p : Packet) {s : Dev} (hs : s.Canonical) :
    (Dev.rxWrite p s).1.Canonical := by
  unfold Dev.rxWrite
  with_reducible repeat' first
    | assumption | apply doDoorbellWrite_keeps | apply Dev.storeFor_keeps | apply foldl_keeps | apply foldl_keeps1
    | exact Dev.keep_mk (by assumption) rfl | (intro _) | (refine canonical_of_fst (by assumption) ?_) | (split)
    | (extract_lets +onlyGivenNames x; refine_lift (have hx : Dev.Canonical x := ?_; ?_); (on_goal 1 => clear_value x); (on_goal 2 => subst x))
    | (extract_lets +onlyGivenNames x; clear_value x)

theorem Dev.rxSignal_keeps (p : Packet) {s : Dev} (hs : s.Canonical) :
    (Dev.rxSignal p s).1.Canonical := by
  unfold Dev.rxSignal
  with_reducible repeat' first
    | assumption | apply Dev.knotOp_keeps | (split)
    | (extract_lets +onlyGivenNames x; refine_lift (have hx : Dev.Canonical x := ?_; ?_); (on_goal 1 => clear_value x); (on_goal 2 => subst x))
    | (extract_lets +onlyGivenNames x; clear_value x)

theorem Dev.rxAtomic_keeps (p : Packet) {s : Dev} (hs : s.Canonical) :
    (Dev.rxAtomic p s).1.Canonical := by
  unfold Dev.rxAtomic
  with_reducible repeat' first
    | assumption | apply Dev.noteRefused_keeps | apply Dev.storeFor_keeps | apply Dev.post_keeps
    | exact Dev.keep_mk (by assumption) rfl | (intro _) | (refine canonical_of_fst (by assumption) ?_) | (split)
    | (extract_lets +onlyGivenNames x; refine_lift (have hx : Dev.Canonical x := ?_; ?_); (on_goal 1 => clear_value x); (on_goal 2 => subst x))
    | (extract_lets +onlyGivenNames x; clear_value x)

theorem Dev.rxAtomicResp_keeps (p : Packet) {s : Dev} (hs : s.Canonical) :
    (Dev.rxAtomicResp p s).1.Canonical := by
  unfold Dev.rxAtomicResp
  with_reducible repeat' first
    | assumption | apply Dev.msgDone_keeps | apply Dev.modMsg_keeps | (split)

theorem Dev.rxSplice_keeps (p : Packet) {s : Dev} (hs : s.Canonical) :
    (Dev.rxSplice p s).1.Canonical := by
  unfold Dev.rxSplice
  extract_lets +onlyGivenNames w t i g narrow base x mine flags go
  have hgo : ∀ y r, y.Canonical → (go y r).Canonical := by
    intro y r hy
    subst go
    clear_value x
    with_reducible repeat' first
      | assumption | apply Dev.addLanes_keeps | apply Dev.fab_keeps | apply Dev.countSplice_keeps | apply Dev.endAdd_keeps
      | apply Dev.beginAdd_keeps | (split) | (dsimp only)
  clear_value go x
  with_reducible repeat' first
    | assumption | apply hgo | apply Dev.reportP_keeps | (split) | (dsimp only)

theorem Dev.rxLend_keeps (p : Packet) (off : Nat) (new : Bool) {s : Dev} (hs : s.Canonical) :
    (Dev.rxLend p off new s).1.Canonical := by
  unfold Dev.rxLend
  with_reducible repeat' first
    | assumption | apply Dev.lend_keeps | apply foldl_keeps | apply foldl_keeps1 | exact Dev.keep_mk (by assumption) rfl
    | (intro _) | (refine canonical_of_fst (by assumption) ?_) | (split)
    | (extract_lets +onlyGivenNames x; refine_lift (have hx : Dev.Canonical x := ?_; ?_); (on_goal 1 => clear_value x); (on_goal 2 => subst x))
    | (extract_lets +onlyGivenNames x; clear_value x)

theorem Dev.rxAppend_keeps (p : Packet) {s : Dev} (hs : s.Canonical) :
    (Dev.rxAppend p s).1.Canonical := by
  unfold Dev.rxAppend
  with_reducible repeat' first
    | assumption | apply Dev.rxLend_keeps | exact Dev.keep_mk (by assumption) rfl | (intro _)
    | (refine canonical_of_fst (by assumption) ?_) | (split)
    | (extract_lets +onlyGivenNames x; refine_lift (have hx : Dev.Canonical x := ?_; ?_); (on_goal 1 => clear_value x); (on_goal 2 => subst x))
    | (extract_lets +onlyGivenNames x; clear_value x)

theorem Dev.rxRelease_keeps (p : Packet) {s : Dev} (hs : s.Canonical) :
    (Dev.rxRelease p s).1.Canonical := by
  unfold Dev.rxRelease
  with_reducible repeat' first
    | assumption | apply Dev.endLoan_keeps | (split)

theorem Dev.rxFetch_keeps (p : Packet) {s : Dev} (hs : s.Canonical) :
    (Dev.rxFetch p s).1.Canonical := by
  unfold Dev.rxFetch
  with_reducible repeat' first
    | assumption | apply Dev.post_keeps | (split)

theorem Dev.rxData_keeps (p : Packet) {s : Dev} (hs : s.Canonical) :
    (Dev.rxData p s).1.Canonical := by
  unfold Dev.rxData
  with_reducible repeat' first
    | assumption | apply Dev.setMove_keeps | apply foldl_keeps | apply foldl_keeps1 | exact Dev.keep_mk (by assumption) rfl
    | (intro _) | (refine canonical_of_fst (by assumption) ?_) | (split)
    | (extract_lets +onlyGivenNames x; refine_lift (have hx : Dev.Canonical x := ?_; ?_); (on_goal 1 => clear_value x); (on_goal 2 => subst x))
    | (extract_lets +onlyGivenNames x; clear_value x)

theorem Dev.acked_keeps {s : Dev} (p : Packet) (o : Out) (hs : s.Canonical) :
    (Dev.acked s p o).Canonical := by
  unfold Dev.acked
  with_reducible repeat' first
    | assumption | apply Dev.modPeer_keeps | apply Dev.bump_keeps | apply Dev.endMsg_keeps | apply Dev.report_keeps
    | apply Dev.setOut_keeps | apply Dev.fab_keeps | apply Dev.msgDone_keeps | apply Dev.modMsg_keeps | (split)
    | (extract_lets +onlyGivenNames x; refine_lift (have hx : Dev.Canonical x := ?_; ?_); (on_goal 1 => clear_value x); (on_goal 2 => subst x))
    | (extract_lets +onlyGivenNames x; clear_value x)

theorem Dev.co_keeps {s : Dev} (f : Coord → Coord) (hs : s.Canonical) :
    (Dev.co s f).Canonical := by
  unfold Dev.co
  with_reducible repeat' first
    | assumption | apply Dev.fab_keeps | exact Dev.keep_mk (by assumption) rfl

theorem Dev.helloOn_keeps {s : Dev} (k : Nat) (dst : Nat) (hs : s.Canonical) :
    (Dev.helloOn s k dst).Canonical := by
  unfold Dev.helloOn
  with_reducible repeat' first
    | assumption | apply Dev.linkPut_keeps | apply Dev.modPeer_keeps | (split)

theorem Dev.applyMembers_keeps {s : Dev} (ms : List Member) (hs : s.Canonical) :
    (Dev.applyMembers s ms).Canonical := by
  unfold Dev.applyMembers
  with_reducible repeat' first
    | assumption | apply Dev.wr_keeps | apply Dev.fab_keeps | apply Dev.report_keeps | apply Dev.co_keeps
    | apply Dev.notePeer_keeps | apply foldl_keeps | apply foldl_keeps1 | exact Dev.keep_mk (by assumption) rfl | (intro _)
    | (refine canonical_of_fst (by assumption) ?_) | (split)
    | (extract_lets +onlyGivenNames x; refine_lift (have hx : Dev.Canonical x := ?_; ?_); (on_goal 1 => clear_value x); (on_goal 2 => subst x))
    | (extract_lets +onlyGivenNames x; clear_value x)

theorem Dev.applyRoutes_keeps {s : Dev} (l : List (Nat × Nat)) (hs : s.Canonical) :
    (Dev.applyRoutes s l).Canonical := by
  unfold Dev.applyRoutes
  with_reducible repeat' first
    | assumption | apply Dev.wr_keeps | apply foldl_keeps | exact Dev.keep_mk (by assumption) rfl | (intro _) | (split)

theorem Dev.distribute_keeps {s : Dev} (hs : s.Canonical) :
    (Dev.distribute s).Canonical := by
  unfold Dev.distribute
  with_reducible repeat' first
    | assumption | apply Dev.applyMembers_keeps | apply Dev.applyRoutes_keeps | apply Dev.control_keeps | apply foldl_keeps
    | exact Dev.keep_mk (by assumption) rfl | (intro _) | (split)

theorem Dev.coordinate_keeps {s : Dev} (hs : s.Canonical) :
    (Dev.coordinate s).Canonical := by
  unfold Dev.coordinate
  with_reducible repeat' first
    | assumption | apply Dev.distribute_keeps | (split)

theorem Dev.wiring_keeps {s : Dev} (p : Packet) (h : Heard) (hs : s.Canonical) :
    (Dev.wiring s p h).1.Canonical := by
  unfold Dev.wiring
  with_reducible repeat' first
    | assumption | apply Dev.modLink_keeps | apply Dev.report_keeps | apply foldl_keeps | apply foldl_keeps1
    | exact Dev.keep_mk (by assumption) rfl | (intro _) | (refine canonical_of_fst (by assumption) ?_) | (split)
    | (extract_lets +onlyGivenNames x; refine_lift (have hx : Dev.Canonical x := ?_; ?_); (on_goal 1 => clear_value x); (on_goal 2 => subst x))
    | (extract_lets +onlyGivenNames x; clear_value x)

theorem Dev.elect_keeps {s : Dev} (p : Packet) (h : Heard) (hs : s.Canonical) :
    (Dev.elect s p h).Canonical := by
  unfold Dev.elect
  with_reducible repeat' first
    | assumption | apply Dev.co_keeps | apply Dev.wr_keeps | (split)
    | (extract_lets +onlyGivenNames x; refine_lift (have hx : Dev.Canonical x := ?_; ?_); (on_goal 1 => clear_value x); (on_goal 2 => subst x))
    | (extract_lets +onlyGivenNames x; clear_value x)

theorem Dev.flood_keeps {s : Dev} (p : Packet) (hs : s.Canonical) :
    (Dev.flood s p).Canonical := by
  unfold Dev.flood
  with_reducible repeat' first
    | assumption | apply Dev.linkPut_keeps | apply foldl_keeps | exact Dev.keep_mk (by assumption) rfl | (intro _) | (split)

theorem Dev.fromCoord_keeps {s : Dev} (p : Packet) (f : Dev → Dev) (hs : s.Canonical) (hf : ∀ x : Dev, x.Canonical → (f x).Canonical) :
    (Dev.fromCoord s p f).Canonical := by
  unfold Dev.fromCoord
  with_reducible repeat' first
    | assumption | apply Dev.wr_keeps | apply hf | (split)

theorem Dev.takeDemand_keeps {s : Dev} (n : Nat) (ds : List Demand) (ports : Nat) (pps : Bool) (failed : List (Nat × Nat)) (hs : s.Canonical) :
    (Dev.takeDemand s n ds ports pps failed).Canonical := by
  unfold Dev.takeDemand
  with_reducible repeat' first
    | assumption | apply Dev.co_keeps | exact Dev.keep_mk (by assumption) rfl

theorem Dev.applyAssign_keeps {s : Dev} (l : List Assign) (t : Nat) (hs : s.Canonical) :
    (Dev.applyAssign s l t).Canonical := by
  unfold Dev.applyAssign
  with_reducible repeat' first
    | assumption | apply Dev.modLink_keeps | apply foldl_keeps | (intro _) | (refine canonical_of_fst (by assumption) ?_)
    | (split)
    | (extract_lets +onlyGivenNames x; refine_lift (have hx : Dev.Canonical x := ?_; ?_); (on_goal 1 => clear_value x); (on_goal 2 => subst x))
    | (extract_lets +onlyGivenNames x; clear_value x)

theorem Dev.tm_keeps {s : Dev} (f : TimeSync → TimeSync) (hs : s.Canonical) :
    (Dev.tm s f).Canonical := by
  unfold Dev.tm
  with_reducible repeat' first
    | assumption | apply Dev.fab_keeps | exact Dev.keep_mk (by assumption) rfl

theorem Dev.correct_keeps {s : Dev} (off : Int) (step : Bool) (hs : s.Canonical) :
    (Dev.correct s off step).Canonical := by
  unfold Dev.correct
  with_reducible repeat' first
    | assumption | apply Dev.tm_keeps | exact Dev.keep_mk (by assumption) rfl | (split)

theorem Dev.judge_keeps {s : Dev} (off : Int) (hs : s.Canonical) :
    (Dev.judge s off).Canonical := by
  unfold Dev.judge
  with_reducible repeat' first
    | assumption | apply Dev.wr_keeps | apply Dev.tm_keeps | apply Dev.report_keeps | apply foldl_keeps | apply foldl_keeps1
    | exact Dev.keep_mk (by assumption) rfl | (intro _) | (refine canonical_of_fst (by assumption) ?_) | (split)
    | (extract_lets +onlyGivenNames x; refine_lift (have hx : Dev.Canonical x := ?_; ?_); (on_goal 1 => clear_value x); (on_goal 2 => subst x))
    | (extract_lets +onlyGivenNames x; clear_value x)

theorem Dev.estimate_keeps {s : Dev} (p : Packet) (t1 : Int) (t4 : Int) (hs : s.Canonical) :
    (Dev.estimate s p t1 t4).Canonical := by
  unfold Dev.estimate
  with_reducible repeat' first
    | assumption | apply Dev.bump_keeps | apply Dev.tm_keeps | apply Dev.wrS_keeps | apply Dev.correct_keeps
    | apply Dev.judge_keeps | exact Dev.keep_mk (by assumption) rfl

theorem Dev.failWaits_keeps {s : Dev} (qs : List Nat) (hs : s.Canonical) :
    (Dev.failWaits s qs).Canonical := by
  unfold Dev.failWaits
  with_reducible repeat' first
    | assumption | apply Dev.failWait_keeps | apply foldl_keeps | exact Dev.keep_mk (by assumption) rfl | (intro _) | (split)

theorem Dev.evaluate_keeps {s : Dev} (p : Nat) (hs : s.Canonical) :
    (Dev.evaluate s p).Canonical := by
  unfold Dev.evaluate
  with_reducible repeat' first
    | assumption | apply Dev.wr_keeps | apply Dev.bump_keeps | apply Dev.reportP_keeps | apply Dev.syLog_keeps
    | apply Dev.failWaits_keeps | apply hgo | exact Dev.keep_mk (by assumption) rfl
    | (refine Dev.keep_mk ?_ rfl; (repeat' first | assumption | apply Dev.wr_keeps | apply Dev.bump_keeps | apply Dev.reportP_keeps | apply Dev.syLog_keeps | apply Dev.failWaits_keeps); done)
    | (intro _; rfl) | (intro _; split <;> rfl) | (intro _) | (refine canonical_of_fst (by assumption) ?_)
    | (refine canonical_of_some_fst (by assumption) ?_) | (refine canonical_of_some (by assumption) ?_) | (split)
    | (extract_lets +onlyGivenNames x; refine_lift (have hx : Dev.Canonical x := ?_; ?_); (on_goal 1 => clear_value x); (on_goal 2 => subst x))
    | (extract_lets +onlyGivenNames x; refine_lift (have hx : Dev.Canonical x.1 := ?_; ?_); (on_goal 1 => clear_value x); (on_goal 2 => subst x))
    | (extract_lets +onlyGivenNames x; refine_lift (have hgo : ∀ y, Dev.Canonical y → Dev.Canonical (x y) := ?_; ?_); (on_goal 1 => clear_value x); (on_goal 2 => subst x))
    | (extract_lets +onlyGivenNames x; refine_lift (have hgo : ∀ y z, Dev.Canonical y → Dev.Canonical (x y z) := ?_; ?_); (on_goal 1 => clear_value x); (on_goal 2 => subst x))
    | (extract_lets +onlyGivenNames x; clear_value x) | (refine Dev.keep_mk ?_ ?_; assumption; split <;> rfl)
    | (extract_lets +onlyGivenNames x; refine_lift (have hx : Dev.Canonical x := ?_; ?_); (on_goal 2 => subst x))

theorem Dev.toPeer_keeps {s : Dev} (c : Cmd) (f : Dev → Dev) (hs : s.Canonical) (hf : ∀ x : Dev, x.Canonical → (f x).Canonical) :
    (Dev.toPeer s c f).Canonical := by
  unfold Dev.toPeer
  with_reducible repeat' first
    | assumption | apply Dev.failPeer_keeps | apply hf | (split)

theorem Dev.remoteSplice_keeps {s : Dev} (c : Cmd) (hs : s.Canonical) :
    (Dev.remoteSplice s c).Canonical := by
  unfold Dev.remoteSplice
  with_reducible repeat' first
    | assumption | apply Dev.failEv_keeps | apply Dev.toPeer_keeps | apply Dev.post_keeps | apply foldl_keeps | apply foldl_keeps1
    | exact Dev.keep_mk (by assumption) rfl | (intro _) | (refine canonical_of_fst (by assumption) ?_) | (split)
    | (extract_lets +onlyGivenNames x; refine_lift (have hx : Dev.Canonical x := ?_; ?_); (on_goal 1 => clear_value x); (on_goal 2 => subst x))
    | (extract_lets +onlyGivenNames x; clear_value x)

theorem Dev.showKeys_keeps {s : Dev} (p : Nat) (hs : s.Canonical) :
    (Dev.showKeys s p).Canonical := by
  unfold Dev.showKeys
  with_reducible repeat' first
    | assumption | apply Dev.wr_keeps | exact Dev.keep_mk (by assumption) rfl

theorem Dev.switchKey_keeps {s : Dev} (p : Nat) (hs : s.Canonical) :
    (Dev.switchKey s p).Canonical := by
  unfold Dev.switchKey
  with_reducible repeat' first
    | assumption | apply Dev.showKeys_keeps | apply Dev.modPart_keeps | apply Dev.fab_keeps | apply Dev.settleFabric_keeps
    | (split)

theorem doKeySwitch_keeps (src : Src) (p : Nat) {s : Dev} (hs : s.Canonical) :
    (doKeySwitch src p s).Canonical := by
  unfold doKeySwitch
  with_reducible repeat' first
    | assumption | apply Dev.foreign_keeps | apply Dev.switchKey_keeps | (split)

theorem Dev.dropWaiting_keeps {s : Dev} (p : Nat) (hs : s.Canonical) :
    (Dev.dropWaiting s p).Canonical := by
  unfold Dev.dropWaiting
  with_reducible repeat' first
    | assumption | apply Dev.cs_keeps | apply Dev.failSt_keeps | apply foldl_keeps | apply foldl_keeps1
    | exact Dev.keep_mk (by assumption) rfl | (intro _) | (refine canonical_of_fst (by assumption) ?_) | (split)
    | (extract_lets +onlyGivenNames x; refine_lift (have hx : Dev.Canonical x := ?_; ?_); (on_goal 1 => clear_value x); (on_goal 2 => subst x))
    | (extract_lets +onlyGivenNames x; clear_value x)

theorem Dev.freeEngine_keeps {s : Dev} (e : Nat) (hs : s.Canonical) :
    (Dev.freeEngine s e).Canonical := by
  unfold Dev.freeEngine
  with_reducible repeat' first
    | assumption | apply Dev.wr_keeps | apply Dev.engineTo_keeps | apply Dev.engineFail_keeps | apply Dev.dropEngineWaits_keeps
    | apply Dev.coreRuns_keeps | apply Dev.nextLaunch_keeps | (split)

theorem Dev.freeTile_keeps {s : Dev} (p : Nat) (t : Nat) (hs : s.Canonical) :
    (Dev.freeTile s p t).Canonical := by
  unfold Dev.freeTile
  with_reducible repeat' first
    | assumption | apply Dev.wr_keeps | apply Dev.modTile_keeps | apply doTileHandover_keeps | apply Dev.regate_keeps | (split)
    | (extract_lets +onlyGivenNames x; refine_lift (have hx : Dev.Canonical x := ?_; ?_); (on_goal 1 => clear_value x); (on_goal 2 => subst x))
    | (extract_lets +onlyGivenNames x; clear_value x)

theorem Dev.freeGranules_keeps {s : Dev} (p : Nat) (hs : s.Canonical) :
    (Dev.freeGranules s p).Canonical := by
  unfold Dev.freeGranules
  with_reducible repeat' first
    | assumption | apply Dev.startZeroing_keeps | apply foldl_keeps | exact Dev.keep_mk (by assumption) rfl | (intro _) | (split)

theorem Dev.freeRegs_keeps {s : Dev} (p : Nat) (hs : s.Canonical) :
    (Dev.freeRegs s p).Canonical := by
  unfold Dev.freeRegs
  with_reducible repeat' first
    | assumption | apply Dev.wr_keeps | apply foldl_keeps | apply foldl_keeps1 | exact Dev.keep_mk (by assumption) rfl | (intro _)
    | (refine canonical_of_fst (by assumption) ?_) | (split)
    | (extract_lets +onlyGivenNames x; refine_lift (have hx : Dev.Canonical x := ?_; ?_); (on_goal 1 => clear_value x); (on_goal 2 => subst x))
    | (extract_lets +onlyGivenNames x; clear_value x)

theorem Dev.freeMessages_keeps {s : Dev} (p : Nat) (hs : s.Canonical) :
    (Dev.freeMessages s p).Canonical := by
  unfold Dev.freeMessages
  with_reducible repeat' first
    | assumption | apply Dev.endMsg_keeps | apply Dev.dropSplice_keeps | apply foldl_keeps | (intro _)

theorem doPartitionRelease_keeps (src : Src) (p : Nat) {s : Dev} (hs : s.Canonical) :
    (doPartitionRelease src p s).Canonical := by
  unfold doPartitionRelease
  with_reducible repeat' first
    | assumption | apply Dev.foreign_keeps | apply Dev.showKeys_keeps | apply Dev.modPart_keeps | apply Dev.setPartState_keeps
    | apply Dev.deleteQueue_keeps | apply Dev.freeMessages_keeps | apply Dev.dropWaiting_keeps | apply Dev.scrubCoils_keeps
    | apply Dev.freeEngine_keeps | apply Dev.wr_keeps | apply Dev.freeTile_keeps | apply Dev.settleFabric_keeps
    | apply Dev.freeGranules_keeps | apply Dev.freeRegs_keeps | apply foldl_keeps | exact Dev.keep_mk (by assumption) rfl
    | (intro _) | (split)

theorem Dev.showMap_keeps {s : Dev} (t : Nat) (hs : s.Canonical) :
    (Dev.showMap s t).Canonical := by
  unfold Dev.showMap
  with_reducible repeat' first
    | assumption | apply Dev.wr_keeps | apply foldl_keeps | (intro _)

theorem Dev.putMap_keeps {s : Dev} (t : Nat) (num : Nat) (m : SpareMap) (hs : s.Canonical) :
    (Dev.putMap s t num m).Canonical := by
  unfold Dev.putMap
  with_reducible repeat' first
    | assumption | apply Dev.modTile_keeps | apply Dev.bump_keeps | apply Dev.report_keeps | apply Dev.showMap_keeps
    | apply foldl_keeps | apply foldl_keeps1 | exact Dev.keep_mk (by assumption) rfl | (intro _)
    | (refine canonical_of_fst (by assumption) ?_) | (split)
    | (extract_lets +onlyGivenNames x; refine_lift (have hx : Dev.Canonical x := ?_; ?_); (on_goal 1 => clear_value x); (on_goal 2 => subst x))
    | (extract_lets +onlyGivenNames x; clear_value x)

theorem Dev.stage_keeps {s : Dev} (t : Nat) (m : SpareMap) (r : Option RunResult) (hs : s.Canonical) :
    (Dev.stage s t m r).Canonical := by
  unfold Dev.stage
  with_reducible repeat' first
    | assumption | apply Dev.modTile_keeps | exact Dev.keep_mk (by assumption) rfl

theorem Dev.stageVisit_keeps {s : Dev} (t : Nat) (hs : s.Canonical) :
    (Dev.stageVisit s t).Canonical := by
  unfold Dev.stageVisit
  with_reducible repeat' first
    | assumption | apply Dev.modTile_keeps | exact Dev.keep_mk (by assumption) rfl

theorem Dev.markSpare_keeps {s : Dev} (t : Nat) (f : SpareMap → SpareMap) (hs : s.Canonical) :
    (Dev.markSpare s t f).Canonical := by
  unfold Dev.markSpare
  with_reducible repeat' first
    | assumption | apply Dev.modTile_keeps | apply Dev.putMap_keeps | exact Dev.keep_mk (by assumption) rfl

theorem Dev.requestSub_keeps {s : Dev} (t : Nat) (bank : Nat) (row : Nat) (col : Nat) (hs : s.Canonical) :
    (Dev.requestSub s t bank row col).Canonical := by
  unfold Dev.requestSub
  with_reducible repeat' first
    | assumption | apply Dev.markSpare_keeps | apply Dev.stage_keeps | apply Dev.modTile_keeps | apply foldl_keeps
    | apply foldl_keeps1 | exact Dev.keep_mk (by assumption) rfl | (intro _) | (refine canonical_of_fst (by assumption) ?_)
    | (split)
    | (extract_lets +onlyGivenNames x; refine_lift (have hx : Dev.Canonical x := ?_; ?_); (on_goal 1 => clear_value x); (on_goal 2 => subst x))
    | (extract_lets +onlyGivenNames x; clear_value x)

theorem Dev.requestLine_keeps {s : Dev} (q : Nat) (l : Nat) (hs : s.Canonical) :
    (Dev.requestLine s q l).Canonical := by
  unfold Dev.requestLine
  with_reducible repeat' first
    | assumption | apply Dev.wr_keeps | apply Dev.report_keeps | apply Dev.stage_keeps | apply foldl_keeps
    | exact Dev.keep_mk (by assumption) rfl | (intro _) | (split)

theorem Dev.urgentEnds_keeps {s : Dev} (t : Nat) (hs : s.Canonical) :
    (Dev.urgentEnds s t).Canonical := by
  unfold Dev.urgentEnds
  with_reducible repeat' first
    | assumption | apply Dev.wr_keeps | apply Dev.modTile_keeps | (split)

theorem Dev.calPass_keeps {s : Dev} (t : Nat) (hs : s.Canonical) :
    (Dev.calPass s t).Canonical := by
  unfold Dev.calPass
  with_reducible repeat' first
    | assumption | apply Dev.wr_keeps | apply Dev.bump_keeps | apply Dev.wrS_keeps | apply Dev.modRings_keeps
    | apply Dev.modTile_keeps | apply Dev.enterService_keeps | (split)
    | (extract_lets +onlyGivenNames x; refine_lift (have hx : Dev.Canonical x := ?_; ?_); (on_goal 1 => clear_value x); (on_goal 2 => subst x))
    | (extract_lets +onlyGivenNames x; clear_value x)

theorem Dev.calFail_keeps {s : Dev} (t : Nat) (reason : Nat) (hs : s.Canonical) :
    (Dev.calFail s t reason).Canonical := by
  unfold Dev.calFail
  with_reducible repeat' first
    | assumption | apply Dev.wr_keeps | apply Dev.bump_keeps | apply Dev.modTile_keeps | apply Dev.report_keeps
    | apply Dev.calStart_keeps | apply Dev.goOut_keeps | apply foldl_keeps | apply foldl_keeps1
    | exact Dev.keep_mk (by assumption) rfl | (intro _) | (refine canonical_of_fst (by assumption) ?_) | (split)
    | (extract_lets +onlyGivenNames x; refine_lift (have hx : Dev.Canonical x := ?_; ?_); (on_goal 1 => clear_value x); (on_goal 2 => subst x))
    | (extract_lets +onlyGivenNames x; clear_value x)

theorem Dev.calEnd_keeps {s : Dev} (t : Nat) (r : RunResult) (hs : s.Canonical) :
    (Dev.calEnd s t r).Canonical := by
  unfold Dev.calEnd
  with_reducible repeat' first
    | assumption | apply Dev.wr_keeps | apply Dev.urgentEnds_keeps | apply Dev.calPass_keeps | apply Dev.calFail_keeps
    | apply Dev.updCal_keeps | (split)

theorem Dev.stageResults_keeps {s : Dev} (t : Nat) (hs : s.Canonical) :
    (Dev.stageResults s t).Canonical := by
  unfold Dev.stageResults
  with_reducible repeat' first
    | assumption | apply Dev.modTile_keeps | apply Dev.stage_keeps | apply Dev.fresh_keeps | exact Dev.keep_mk (by assumption) rfl

theorem Dev.calAbort_keeps {s : Dev} (t : Nat) (reason : Nat) (hs : s.Canonical) :
    (Dev.calAbort s t reason).Canonical := by
  unfold Dev.calAbort
  with_reducible repeat' first
    | assumption | apply Dev.modTile_keeps | apply Dev.calEnd_keeps | apply Dev.stage_keeps | apply Dev.fresh_keeps | (split)
    | (extract_lets +onlyGivenNames x; refine_lift (have hx : Dev.Canonical x := ?_; ?_); (on_goal 1 => clear_value x); (on_goal 2 => subst x))
    | (extract_lets +onlyGivenNames x; clear_value x)

theorem Dev.commitStage_keeps {s : Dev} (t : Nat) (g : Stage) (hs : s.Canonical) :
    (Dev.commitStage s t g).Canonical := by
  unfold Dev.commitStage
  with_reducible repeat' first
    | assumption | apply Dev.putMap_keeps | apply Dev.calEnd_keeps | apply foldl_keeps | apply foldl_keeps1
    | exact Dev.keep_mk (by assumption) rfl | (intro _) | (refine canonical_of_fst (by assumption) ?_) | (split)
    | (extract_lets +onlyGivenNames x; refine_lift (have hx : Dev.Canonical x := ?_; ?_); (on_goal 1 => clear_value x); (on_goal 2 => subst x))
    | (extract_lets +onlyGivenNames x; clear_value x)

theorem Dev.commitStages_keeps {s : Dev} (t : Nat) (inMap : Nat) (hs : s.Canonical) :
    (Dev.commitStages s t inMap).Canonical := by
  unfold Dev.commitStages
  with_reducible repeat' first
    | assumption | apply Dev.modTile_keeps | apply Dev.commitStage_keeps | apply foldl_keeps | (intro _)

theorem Dev.visitCommits_keeps {s : Dev} (t : Nat) (n : Nat) (hs : s.Canonical) :
    (Dev.visitCommits s t n).Canonical := by
  unfold Dev.visitCommits
  with_reducible repeat' first
    | assumption | apply Dev.bump_keeps | exact Dev.keep_mk (by assumption) rfl

theorem Dev.sliceVisit_keeps {s : Dev} (t : Nat) (k : Nat) (hs : s.Canonical) :
    (Dev.sliceVisit s t k).Canonical := by
  unfold Dev.sliceVisit
  with_reducible repeat' first
    | assumption | apply Dev.modTile_keeps | apply Dev.visitCommits_keeps | apply Dev.stageVisit_keeps | (split)
    | (extract_lets +onlyGivenNames x; refine_lift (have hx : Dev.Canonical x := ?_; ?_); (on_goal 1 => clear_value x); (on_goal 2 => subst x))
    | (extract_lets +onlyGivenNames x; clear_value x)

theorem Dev.visitDone_keeps {s : Dev} (t : Nat) (hs : s.Canonical) :
    (Dev.visitDone s t).Canonical := by
  unfold Dev.visitDone
  with_reducible repeat' first
    | assumption | apply Dev.wr_keeps | exact Dev.keep_mk (by assumption) rfl

theorem Dev.columnEnds_keeps {s : Dev} (t : Nat) (b : Bool) (hs : s.Canonical) :
    (Dev.columnEnds s t b).Canonical := by
  unfold Dev.columnEnds
  with_reducible repeat' first
    | assumption | apply Dev.stageVisit_keeps | apply Dev.visitCommits_keeps | apply Dev.visitDone_keeps | apply Dev.modTile_keeps
    | (split)
    | (extract_lets +onlyGivenNames x; refine_lift (have hx : Dev.Canonical x := ?_; ?_); (on_goal 1 => clear_value x); (on_goal 2 => subst x))
    | (extract_lets +onlyGivenNames x; clear_value x)

theorem Dev.columnBegins_keeps {s : Dev} (t : Nat) (b : Bool) (hs : s.Canonical) :
    (Dev.columnBegins s t b).Canonical := by
  unfold Dev.columnBegins
  with_reducible repeat' first
    | assumption | apply Dev.visitCommits_keeps | apply Dev.modTile_keeps | (split)
    | (extract_lets +onlyGivenNames x; refine_lift (have hx : Dev.Canonical x := ?_; ?_); (on_goal 1 => clear_value x); (on_goal 2 => subst x))
    | (extract_lets +onlyGivenNames x; clear_value x)

theorem Dev.visits_keeps {s : Dev} (t : Nat) (inB : Bool) (hs : s.Canonical) :
    (Dev.visits s t inB).Canonical := by
  unfold Dev.visits
  with_reducible repeat' first
    | assumption | apply Dev.sliceVisit_keeps | apply Dev.visitCommits_keeps | apply Dev.visitDone_keeps
    | apply Dev.columnEnds_keeps | apply Dev.stageResults_keeps | apply Dev.columnBegins_keeps | (split)
    | (extract_lets +onlyGivenNames x; refine_lift (have hx : Dev.Canonical x := ?_; ?_); (on_goal 1 => clear_value x); (on_goal 2 => subst x))
    | (extract_lets +onlyGivenNames x; clear_value x)

theorem Dev.calAtSwap_keeps {s : Dev} (t : Nat) (inB : Bool) (hs : s.Canonical) :
    (Dev.calAtSwap s t inB).Canonical := by
  unfold Dev.calAtSwap
  with_reducible repeat' first
    | assumption | apply Dev.commitStages_keeps | apply Dev.visits_keeps | apply foldl_keeps | apply foldl_keeps1
    | exact Dev.keep_mk (by assumption) rfl | (intro _) | (refine canonical_of_fst (by assumption) ?_) | (split)
    | (extract_lets +onlyGivenNames x; refine_lift (have hx : Dev.Canonical x := ?_; ?_); (on_goal 1 => clear_value x); (on_goal 2 => subst x))
    | (extract_lets +onlyGivenNames x; clear_value x)

theorem Dev.rateSlices_keeps {s : Dev} (t : Nat) (rate : Nat) (hs : s.Canonical) :
    (Dev.rateSlices s t rate).Canonical := by
  unfold Dev.rateSlices
  with_reducible repeat' first
    | assumption | apply Dev.showMap_keeps | apply Dev.modTile_keeps | exact Dev.keep_mk (by assumption) rfl

theorem Dev.calRefinLost_keeps {s : Dev} (hs : s.Canonical) :
    (Dev.calRefinLost s).Canonical := by
  unfold Dev.calRefinLost
  with_reducible repeat' first
    | assumption | apply Dev.updCal_keeps | apply Dev.calAbort_keeps | apply foldl_keeps | exact Dev.keep_mk (by assumption) rfl
    | (intro _) | (split)

theorem Dev.calRefinBack_keeps {s : Dev} (hs : s.Canonical) :
    (Dev.calRefinBack s).Canonical := by
  unfold Dev.calRefinBack
  with_reducible repeat' first
    | assumption | apply Dev.updCal_keeps | apply Dev.calStart_keeps | apply Dev.modTile_keeps | apply foldl_keeps
    | exact Dev.keep_mk (by assumption) rfl | (intro _) | (split)

theorem Dev.packCounts_keeps {s : Dev} (t : Nat) (r : Run) (k : Packed) (hs : s.Canonical) :
    (Dev.packCounts s t r k).Canonical := by
  unfold Dev.packCounts
  with_reducible repeat' first
    | assumption | apply Dev.bump_keeps | apply Dev.reportC_keeps | apply Dev.modTile_keeps | apply foldl_keeps
    | apply foldl_keeps1 | exact Dev.keep_mk (by assumption) rfl | (intro _) | (refine canonical_of_fst (by assumption) ?_)
    | (split)
    | (extract_lets +onlyGivenNames x; refine_lift (have hx : Dev.Canonical x := ?_; ?_); (on_goal 1 => clear_value x); (on_goal 2 => subst x))
    | (extract_lets +onlyGivenNames x; clear_value x)

theorem Dev.rowBuffer_keeps {s : Dev} (t : Nat) (raw : List Byte) (hs : s.Canonical) :
    (Dev.rowBuffer s t raw).Canonical := by
  unfold Dev.rowBuffer
  with_reducible repeat' first
    | assumption | apply Dev.modTile_keeps | apply Dev.putBytes_keeps | exact Dev.keep_mk (by assumption) rfl

theorem Dev.stepEnd_keeps {s : Dev} (t : Nat) (r : Run) (hs : s.Canonical) :
    (Dev.stepEnd s t r).Canonical := by
  unfold Dev.stepEnd
  with_reducible repeat' first
    | assumption | apply Dev.endStep_keeps | apply Dev.modTile_keeps | exact Dev.keep_mk (by assumption) rfl | (intro _)
    | (refine canonical_of_fst (by assumption) ?_) | (split)

theorem Dev.stopRun_keeps {s : Dev} (t : Nat) (r : Run) (st : Nat) (d : Nat) (hs : s.Canonical) :
    (Dev.stopRun s t r st d).Canonical := by
  unfold Dev.stopRun
  with_reducible repeat' first
    | assumption | apply Dev.advance_keeps | apply Dev.settle_keeps | apply Dev.modTile_keeps | apply Dev.cutRun_keeps
    | exact Dev.keep_mk (by assumption) rfl

theorem doStaticEntryWidening_keeps (t : Nat) (i : Nat) (written : Option Word) {s : Dev} (hs : s.Canonical) :
    (doStaticEntryWidening t i written s).Canonical := by
  unfold doStaticEntryWidening
  with_reducible repeat' first
    | assumption | apply Dev.modTile_keeps | apply Dev.wr_keeps | apply Dev.report_keeps | apply Dev.bump_keeps
    | apply Dev.advance_keeps | apply foldl_keeps | apply foldl_keeps1 | exact Dev.keep_mk (by assumption) rfl | (intro _)
    | (refine canonical_of_fst (by assumption) ?_) | (split)
    | (extract_lets +onlyGivenNames x; refine_lift (have hx : Dev.Canonical x := ?_; ?_); (on_goal 1 => clear_value x); (on_goal 2 => subst x))
    | (extract_lets +onlyGivenNames x; clear_value x)

theorem Dev.lastFlag_keeps {s : Dev} (t : Nat) (seg : Nat) (plane : Nat) (late : Bool) (codes : List Int) (hs : s.Canonical) :
    (Dev.lastFlag s t seg plane late codes).Canonical := by
  unfold Dev.lastFlag
  with_reducible repeat' first
    | assumption | apply Dev.wr_keeps | (split)

theorem Dev.countCheck_keeps {s : Dev} (t : Nat) (p : Nat) (segs : List (List Int)) (hs : s.Canonical) :
    (Dev.countCheck s t p segs).Canonical := by
  unfold Dev.countCheck
  with_reducible repeat' first
    | assumption | apply Dev.bump_keeps | apply Dev.modTile_keeps | apply Dev.pf_keeps | exact Dev.keep_mk (by assumption) rfl

theorem Dev.exhaust_keeps {s : Dev} (t : Nat) (row : Row) (hs : s.Canonical) :
    (Dev.exhaust s t row).Canonical := by
  unfold Dev.exhaust
  with_reducible repeat' first
    | assumption | apply Dev.cutRun_keeps | apply Dev.reportAs_keeps | apply Dev.modTile_keeps | apply Dev.advance_keeps
    | apply Dev.settle_keeps | apply Dev.goOut_keeps | exact Dev.keep_mk (by assumption) rfl

theorem Dev.exhaustBank_keeps {s : Dev} (t : Nat) (b : Bool) (e : Event) (hs : s.Canonical) :
    (Dev.exhaustBank s t b e).Canonical := by
  unfold Dev.exhaustBank
  with_reducible repeat' first
    | assumption | apply Dev.reportAs_keeps | apply Dev.cutRun_keeps | apply Dev.withhold_keeps | apply Dev.finish_keeps
    | apply Dev.modTile_keeps | apply Dev.advance_keeps | apply Dev.settle_keeps | apply Dev.goOut_keeps | apply foldl_keeps
    | apply foldl_keeps1 | exact Dev.keep_mk (by assumption) rfl | (intro _) | (refine canonical_of_fst (by assumption) ?_)
    | (split)
    | (extract_lets +onlyGivenNames x; refine_lift (have hx : Dev.Canonical x := ?_; ?_); (on_goal 1 => clear_value x); (on_goal 2 => subst x))
    | (extract_lets +onlyGivenNames x; clear_value x)

theorem Dev.modRow_keeps {s : Dev} (t : Nat) (tag : Nat) (f : Row → Row) (hs : s.Canonical) :
    (Dev.modRow s t tag f).Canonical := by
  unfold Dev.modRow
  with_reducible repeat' first
    | assumption | apply Dev.modTile_keeps | exact Dev.keep_mk (by assumption) rfl

theorem Dev.segCheck_keeps {s : Dev} (t : Nat) (tag : Nat) (p : Nat) (seg : Nat) (codes : List Int) (hs : s.Canonical) :
    (Dev.segCheck s t tag p seg codes).Canonical := by
  unfold Dev.segCheck
  with_reducible repeat' first
    | assumption | apply Dev.modRow_keeps | apply Dev.addWork_keeps | apply Dev.exhaust_keeps | apply Dev.modTile_keeps | (split)
    | (extract_lets +onlyGivenNames x; refine_lift (have hx : Dev.Canonical x := ?_; ?_); (on_goal 1 => clear_value x); (on_goal 2 => subst x))
    | (extract_lets +onlyGivenNames x; clear_value x)

theorem Dev.colsumSeg_keeps {s : Dev} (t : Nat) (b : Bool) (seg : Nat) (codes : List Int) (hs : s.Canonical) :
    (Dev.colsumSeg s t b seg codes).Canonical := by
  unfold Dev.colsumSeg
  with_reducible repeat' first
    | assumption | apply Dev.modTile_keeps | apply Dev.exhaustBank_keeps | (split)
    | (extract_lets +onlyGivenNames x; refine_lift (have hx : Dev.Canonical x := ?_; ?_); (on_goal 1 => clear_value x); (on_goal 2 => subst x))
    | (extract_lets +onlyGivenNames x; clear_value x)

theorem Dev.flagNote_keeps {s : Dev} (t : Nat) (plane : Nat) (late : Bool) (segs : List (Nat × List Int)) (hs : s.Canonical) :
    (Dev.flagNote s t plane late segs).Canonical := by
  unfold Dev.flagNote
  with_reducible repeat' first
    | assumption | apply Dev.lastFlag_keeps | apply foldl_keeps | apply foldl_keeps1 | exact Dev.keep_mk (by assumption) rfl
    | (intro _) | (refine canonical_of_fst (by assumption) ?_) | (split)
    | (extract_lets +onlyGivenNames x; refine_lift (have hx : Dev.Canonical x := ?_; ?_); (on_goal 1 => clear_value x); (on_goal 2 => subst x))
    | (extract_lets +onlyGivenNames x; clear_value x)

theorem Dev.checked_keeps {s : Dev} (t : Nat) (hs : s.Canonical) :
    (Dev.checked s t).Canonical := by
  unfold Dev.checked
  with_reducible repeat' first
    | assumption | apply Dev.modTile_keeps | apply Dev.advance_keeps | apply Dev.settle_keeps | (split)
    | (extract_lets +onlyGivenNames x; refine_lift (have hx : Dev.Canonical x := ?_; ?_); (on_goal 1 => clear_value x); (on_goal 2 => subst x))
    | (extract_lets +onlyGivenNames x; clear_value x)

theorem Dev.checkSymbol_keeps {s : Dev} (t : Nat) (q : Sample) (codes : List Int) (hs : s.Canonical) :
    (Dev.checkSymbol s t q codes).Canonical := by
  unfold Dev.checkSymbol
  with_reducible repeat' first
    | assumption | apply Dev.flagNote_keeps | apply Dev.countCheck_keeps | apply Dev.segCheck_keeps | apply Dev.colsumSeg_keeps
    | apply foldl_keeps | exact Dev.keep_mk (by assumption) rfl | (intro _) | (split)

theorem Dev.recompute_keeps {s : Dev} (t : Nat) (q : Sample) (hs : s.Canonical) :
    (Dev.recompute s t q).Canonical := by
  unfold Dev.recompute
  with_reducible repeat' first
    | assumption | apply Dev.modRow_keeps | apply Dev.modTile_keeps | (split)

theorem Dev.storePartials_keeps {s : Dev} (t : Nat) (r : Run) (row : Row) (hs : s.Canonical) :
    (Dev.storePartials s t r row).Canonical := by
  unfold Dev.storePartials
  with_reducible repeat' first
    | assumption | apply Dev.putLe_keeps | apply foldl_keeps | apply foldl_keeps1 | exact Dev.keep_mk (by assumption) rfl
    | (intro _) | (refine canonical_of_fst (by assumption) ?_) | (split)
    | (extract_lets +onlyGivenNames x; refine_lift (have hx : Dev.Canonical x := ?_; ?_); (on_goal 1 => clear_value x); (on_goal 2 => subst x))
    | (extract_lets +onlyGivenNames x; clear_value x)

theorem Dev.addRow_keeps {s : Dev} (t : Nat) (r : Run) (row : Row) (b : Bank) (hs : s.Canonical) :
    (Dev.addRow s t r row b).Canonical := by
  unfold Dev.addRow
  with_reducible repeat' first
    | assumption | apply Dev.modTile_keeps | apply Dev.beginAdd_keeps | apply Dev.setDesc_keeps | apply Dev.accAddTo_keeps
    | apply Dev.bump_keeps | apply foldl_keeps | exact Dev.keep_mk (by assumption) rfl | (intro _) | (split)

theorem Dev.verify_keeps {s : Dev} (t : Nat) (l : Load) (hs : s.Canonical) :
    (Dev.verify s t l).Canonical := by
  unfold Dev.verify
  with_reducible repeat' first
    | assumption | apply Dev.modTile_keeps | apply Dev.advance_keeps | exact Dev.keep_mk (by assumption) rfl

theorem Dev.reload_keeps {s : Dev} (t : Nat) (l : Load) (hs : s.Canonical) :
    (Dev.reload s t l).Canonical := by
  unfold Dev.reload
  with_reducible repeat' first
    | assumption | apply Dev.modTile_keeps | apply Dev.putLoad_keeps | exact Dev.keep_mk (by assumption) rfl

theorem Dev.swapBanks_keeps {s : Dev} (t : Nat) (hs : s.Canonical) :
    (Dev.swapBanks s t).Canonical := by
  unfold Dev.swapBanks
  with_reducible repeat' first
    | assumption | apply Dev.keepImage_keeps | apply Dev.wr_keeps | apply Dev.modTile_keeps | apply Dev.bump_keeps
    | apply Dev.calAtSwap_keeps | apply Dev.showIdle_keeps | exact Dev.keep_mk (by assumption) rfl

theorem Dev.rateStart_keeps {s : Dev} (q : Nat) (hs : s.Canonical) :
    (Dev.rateStart s q).Canonical := by
  unfold Dev.rateStart
  with_reducible repeat' first
    | assumption | apply Dev.wr_keeps | apply Dev.modTile_keeps | apply foldl_keeps | exact Dev.keep_mk (by assumption) rfl
    | (intro _) | (split)

theorem doQrate_keeps (src : Src) (q : Nat) (r : Nat) {s : Dev} (hs : s.Canonical) :
    (doQrate src q r s).Canonical := by
  unfold doQrate
  with_reducible repeat' first
    | assumption | apply Dev.foreign_keeps | apply Dev.setBy_keeps | apply Dev.wr_keeps | apply Dev.rateStart_keeps
    | apply foldl_keeps | (intro _) | (refine canonical_of_fst (by assumption) ?_) | (split)
    | (extract_lets +onlyGivenNames x; refine_lift (have hx : Dev.Canonical x := ?_; ?_); (on_goal 1 => clear_value x); (on_goal 2 => subst x))
    | (extract_lets +onlyGivenNames x; clear_value x)

theorem Dev.remeasure_keeps {s : Dev} (t : Nat) (hs : s.Canonical) :
    (Dev.remeasure s t).Canonical := by
  unfold Dev.remeasure
  with_reducible repeat' first
    | assumption | apply Dev.modTile_keeps | apply Dev.useSlots_keeps | apply Dev.pf_keeps | (split)
    | (extract_lets +onlyGivenNames x; refine_lift (have hx : Dev.Canonical x := ?_; ?_); (on_goal 1 => clear_value x); (on_goal 2 => subst x))
    | (extract_lets +onlyGivenNames x; clear_value x)

theorem doTileEn_keeps (src : Src) (t : Nat) (on : Bool) {s : Dev} (hs : s.Canonical) :
    (doTileEn src t on s).Canonical := by
  unfold doTileEn
  with_reducible repeat' first
    | assumption | apply Dev.foreign_keeps | apply Dev.setBy_keeps | apply Dev.advance_keeps | apply Dev.modTile_keeps
    | apply foldl_keeps | apply foldl_keeps1 | exact Dev.keep_mk (by assumption) rfl | (intro _)
    | (refine canonical_of_fst (by assumption) ?_) | (split)
    | (extract_lets +onlyGivenNames x; refine_lift (have hx : Dev.Canonical x := ?_; ?_); (on_goal 1 => clear_value x); (on_goal 2 => subst x))
    | (extract_lets +onlyGivenNames x; clear_value x)

theorem doReturn_keeps (src : Src) (t : Nat) {s : Dev} (hs : s.Canonical) :
    (doReturn src t s).Canonical := by
  unfold doReturn
  with_reducible repeat' first
    | assumption | apply Dev.foreign_keeps | apply Dev.modTile_keeps | apply Dev.enterService_keeps | apply Dev.degrade_keeps
    | apply Dev.advance_keeps | (split)

theorem doRequest_keeps (src : Src) (mask : Nat) {s : Dev} (hs : s.Canonical) :
    (doRequest src mask s).Canonical := by
  unfold doRequest
  with_reducible repeat' first
    | assumption | apply Dev.foreign_keeps | apply Dev.calTrigger_keeps | apply Dev.wr_keeps | apply foldl_keeps
    | exact Dev.keep_mk (by assumption) rfl | (intro _) | (split)

theorem Dev.haltRefused_keeps {s : Dev} (n : Nat) (hs : s.Canonical) :
    (Dev.haltRefused s n).Canonical := by
  unfold Dev.haltRefused
  with_reducible repeat' first
    | assumption | apply Dev.report_keeps | exact Dev.keep_mk (by assumption) rfl

theorem Dev.coreStop_keeps {s : Dev} (n : Nat) (bp : Nat) (pc : Nat) (isHalt : Bool) (hs : s.Canonical) :
    (Dev.coreStop s n bp pc isHalt).Canonical := by
  unfold Dev.coreStop
  with_reducible repeat' first
    | assumption | apply Dev.coreHalts_keeps | apply Dev.report_keeps | apply Dev.bump_keeps | apply Dev.wr_keeps
    | apply Dev.trace_keeps | apply foldl_keeps | apply foldl_keeps1 | exact Dev.keep_mk (by assumption) rfl | (intro _)
    | (refine canonical_of_fst (by assumption) ?_) | (split)
    | (extract_lets +onlyGivenNames x; refine_lift (have hx : Dev.Canonical x := ?_; ?_); (on_goal 1 => clear_value x); (on_goal 2 => subst x))
    | (extract_lets +onlyGivenNames x; clear_value x)

theorem doCcHalt_keeps (src : Src) (n : Nat) {s : Dev} (hs : s.Canonical) :
    (doCcHalt src n s).Canonical := by
  unfold doCcHalt
  with_reducible repeat' first
    | assumption | apply Dev.haltRefused_keeps | apply Dev.coreStop_keeps | apply Dev.fresh_keeps | (split)

theorem doCcResume_keeps (src : Src) (n : Nat) {s : Dev} (hs : s.Canonical) :
    (doCcResume src n s).Canonical := by
  unfold doCcResume
  with_reducible repeat' first
    | assumption | apply Dev.haltRefused_keeps | apply Dev.advance_keeps | apply Dev.wr_keeps
    | exact Dev.keep_mk (by assumption) rfl | (split)

theorem doCcStep_keeps (src : Src) (n : Nat) {s : Dev} (hs : s.Canonical) :
    (doCcStep src n s).Canonical := by
  unfold doCcStep
  with_reducible repeat' first
    | assumption | apply Dev.haltRefused_keeps | apply Dev.wr_keeps | apply Dev.coreHalts_keeps | apply Dev.report_keeps
    | apply Dev.bump_keeps | apply Dev.fresh_keeps | (split)

theorem Dev.ownVe_keeps {s : Dev} (src : Src) (e : Nat) (f : Dev → Dev) (hs : s.Canonical) (hf : ∀ x : Dev, x.Canonical → (f x).Canonical) :
    (Dev.ownVe s src e f).Canonical := by
  unfold Dev.ownVe
  with_reducible repeat' first
    | assumption | apply Dev.foreign_keeps | apply hf | apply foldl_keeps | apply foldl_keeps1
    | exact Dev.keep_mk (by assumption) rfl | (intro _) | (refine canonical_of_fst (by assumption) ?_) | (split)
    | (extract_lets +onlyGivenNames x; refine_lift (have hx : Dev.Canonical x := ?_; ?_); (on_goal 1 => clear_value x); (on_goal 2 => subst x))
    | (extract_lets +onlyGivenNames x; clear_value x)

theorem doVeHalt_keeps (src : Src) (e : Nat) {s : Dev} (hs : s.Canonical) :
    (doVeHalt src e s).Canonical := by
  unfold doVeHalt
  with_reducible repeat' first
    | assumption | apply Dev.ownVe_keeps | apply Dev.wr_keeps | apply Dev.veState_keeps | apply Dev.fresh_keeps
    | apply Dev.setEng_keeps | exact Dev.keep_mk (by assumption) rfl | (intro _) | (refine canonical_of_fst (by assumption) ?_)
    | (split)

theorem doVeResume_keeps (src : Src) (e : Nat) {s : Dev} (hs : s.Canonical) :
    (doVeResume src e s).Canonical := by
  unfold doVeResume
  with_reducible repeat' first
    | assumption | apply Dev.ownVe_keeps | apply Dev.setEng_keeps | apply Dev.veState_keeps
    | exact Dev.keep_mk (by assumption) rfl | (intro _) | (split)
    | (extract_lets +onlyGivenNames x; refine_lift (have hx : Dev.Canonical x := ?_; ?_); (on_goal 1 => clear_value x); (on_goal 2 => subst x))
    | (extract_lets +onlyGivenNames x; clear_value x)

theorem doTrTail_keeps (src : Src) (p : Nat) (v : Nat) {s : Dev} (hs : s.Canonical) :
    (doTrTail src p v s).Canonical := by
  unfold doTrTail
  with_reducible repeat' first
    | assumption | apply Dev.traceShow_keeps | apply Dev.wr_keeps | exact Dev.keep_mk (by assumption) rfl

theorem Dev.flPut_keeps {s : Dev} (a : Nat) (bs : List Byte) (hs : s.Canonical) :
    (Dev.flPut s a bs).Canonical := ⟨hs.1, foldl_wf (fun _ _ h => NMap.wf_set _ _ h) hs.2⟩

theorem Dev.flErase_keeps {s : Dev} (a : Nat) (n : Nat) (hs : s.Canonical) :
    (Dev.flErase s a n).Canonical := ⟨hs.1, NMap.wf_clearRange _ _ hs.2⟩

theorem Dev.flSpoil_keeps {s : Dev} (a : Nat) (n : Nat) (hs : s.Canonical) :
    (Dev.flSpoil s a n).Canonical := by
  unfold Dev.flSpoil
  with_reducible repeat' first
    | assumption | apply Dev.flPut_keeps | exact Dev.keep_mk (by assumption) rfl

theorem Dev.flRefuse_keeps {s : Dev} (e : Event) (result : Nat) (a : Nat) (hs : s.Canonical) :
    (Dev.flRefuse s e result a).Canonical := by
  unfold Dev.flRefuse
  with_reducible repeat' first
    | assumption | apply Dev.bump_keeps | apply Dev.wr_keeps | apply Dev.report_keeps | exact Dev.keep_mk (by assumption) rfl

theorem Dev.flRequest_keeps {s : Dev} (op : Nat) (hs : s.Canonical) :
    (Dev.flRequest s op).Canonical := by
  unfold Dev.flRequest
  with_reducible repeat' first
    | assumption | apply Dev.bump_keeps | apply Dev.flRefuse_keeps | apply Dev.wr_keeps | exact Dev.keep_mk (by assumption) rfl
    | (intro _) | (split)
    | (extract_lets +onlyGivenNames x; refine_lift (have hx : Dev.Canonical x := ?_; ?_); (on_goal 1 => clear_value x); (on_goal 2 => subst x))
    | (extract_lets +onlyGivenNames x; clear_value x)

theorem Dev.flDone_keeps {s : Dev} (result : Nat) (a : Nat) (hs : s.Canonical) :
    (Dev.flDone s result a).Canonical := by
  unfold Dev.flDone
  with_reducible repeat' first
    | assumption | apply Dev.wr_keeps | exact Dev.keep_mk (by assumption) rfl

theorem doFlRead_keeps (src : Src) {s : Dev} (hs : s.Canonical) :
    (doFlRead src s).Canonical := by
  unfold doFlRead
  with_reducible repeat' first
    | assumption | apply Dev.at_keeps | apply Dev.own0_keeps | apply Dev.flRequest_keeps | apply foldl_keeps | apply foldl_keeps1
    | exact Dev.keep_mk (by assumption) rfl | (intro _) | (refine canonical_of_fst (by assumption) ?_) | (split)
    | (extract_lets +onlyGivenNames x; refine_lift (have hx : Dev.Canonical x := ?_; ?_); (on_goal 1 => clear_value x); (on_goal 2 => subst x))
    | (extract_lets +onlyGivenNames x; clear_value x)

theorem doFlProgram_keeps (src : Src) {s : Dev} (hs : s.Canonical) :
    (doFlProgram src s).Canonical := by
  unfold doFlProgram
  with_reducible repeat' first
    | assumption | apply Dev.at_keeps | apply Dev.own0_keeps | apply Dev.flRequest_keeps | apply foldl_keeps | (intro _)

theorem doFlErase4k_keeps (src : Src) {s : Dev} (hs : s.Canonical) :
    (doFlErase4k src s).Canonical := by
  unfold doFlErase4k
  with_reducible repeat' first
    | assumption | apply Dev.at_keeps | apply Dev.own0_keeps | apply Dev.flRequest_keeps | apply foldl_keeps | (intro _)

theorem doFlErase64k_keeps (src : Src) {s : Dev} (hs : s.Canonical) :
    (doFlErase64k src s).Canonical := by
  unfold doFlErase64k
  with_reducible repeat' first
    | assumption | apply Dev.at_keeps | apply Dev.own0_keeps | apply Dev.flRequest_keeps | apply foldl_keeps | (intro _)

theorem Dev.flInternal_keeps {s : Dev} (result : Nat) (a : Nat) (hs : s.Canonical) :
    (Dev.flInternal s result a).Canonical := by
  unfold Dev.flInternal
  with_reducible repeat' first
    | assumption | apply Dev.bump_keeps | apply Dev.wr_keeps | apply Dev.report_keeps | exact Dev.keep_mk (by assumption) rfl

theorem Dev.putRecord_keeps {s : Dev} (c : Nat) (n : Nat) (bs : List Byte) (hs : s.Canonical) :
    (Dev.putRecord s c n bs).Canonical := by
  unfold Dev.putRecord
  with_reducible repeat' first
    | assumption | apply Dev.bump_keeps | apply Dev.flPut_keeps | exact Dev.keep_mk (by assumption) rfl

theorem Dev.compact_keeps {s : Dev} (hs : s.Canonical) :
    (Dev.compact s).Canonical := by
  unfold Dev.compact
  with_reducible repeat' first
    | assumption | apply Dev.flErase_keeps | apply Dev.putRecord_keeps | apply Dev.wr_keeps | apply foldl_keeps
    | apply foldl_keeps1 | exact Dev.keep_mk (by assumption) rfl | (intro _) | (refine canonical_of_fst (by assumption) ?_)
    | (split)
    | (extract_lets +onlyGivenNames x; refine_lift (have hx : Dev.Canonical x := ?_; ?_); (on_goal 1 => clear_value x); (on_goal 2 => subst x))
    | (extract_lets +onlyGivenNames x; clear_value x)

theorem Dev.appendN_keeps (a0 : Nat) {a1 : Dev} (a2 : List Byte) (ha1 : a1.Canonical) :
    (Dev.appendN a0 a1 a2).Canonical := by
  induction a0 generalizing a1 a2 with
  | zero =>
    unfold Dev.appendN
    with_reducible repeat' first
      | assumption | apply Dev.wr_keeps | apply Dev.putRecord_keeps | apply Dev.flInternal_keeps | apply Dev.compact_keeps
      | apply hgo | exact Dev.keep_mk (by assumption) rfl
      | (refine Dev.keep_mk ?_ rfl; (repeat' first | assumption | apply Dev.wr_keeps | apply Dev.putRecord_keeps | apply Dev.flInternal_keeps | apply Dev.compact_keeps); done)
      | (intro _; rfl) | (intro _; split <;> rfl) | (intro _) | (refine canonical_of_fst (by assumption) ?_)
      | (refine canonical_of_some_fst (by assumption) ?_) | (refine canonical_of_some (by assumption) ?_) | (split)
      | (extract_lets +onlyGivenNames x; refine_lift (have hx : Dev.Canonical x := ?_; ?_); (on_goal 1 => clear_value x); (on_goal 2 => subst x))
      | (extract_lets +onlyGivenNames x; refine_lift (have hx : Dev.Canonical x.1 := ?_; ?_); (on_goal 1 => clear_value x); (on_goal 2 => subst x))
      | (extract_lets +onlyGivenNames x; refine_lift (have hgo : ∀ y, Dev.Canonical y → Dev.Canonical (x y) := ?_; ?_); (on_goal 1 => clear_value x); (on_goal 2 => subst x))
      | (extract_lets +onlyGivenNames x; refine_lift (have hgo : ∀ y z, Dev.Canonical y → Dev.Canonical (x y z) := ?_; ?_); (on_goal 1 => clear_value x); (on_goal 2 => subst x))
      | (extract_lets +onlyGivenNames x; clear_value x) | (refine Dev.keep_mk ?_ ?_; assumption; split <;> rfl)
      | (extract_lets +onlyGivenNames x; refine_lift (have hx : Dev.Canonical x := ?_; ?_); (on_goal 2 => subst x))
  | succ n ih =>
    unfold Dev.appendN
    with_reducible repeat' first
      | assumption | apply ih | apply Dev.wr_keeps | apply Dev.putRecord_keeps | apply Dev.flInternal_keeps
      | apply Dev.compact_keeps | apply hgo | exact Dev.keep_mk (by assumption) rfl
      | (refine Dev.keep_mk ?_ rfl; (repeat' first | assumption | apply Dev.wr_keeps | apply Dev.putRecord_keeps | apply Dev.flInternal_keeps | apply Dev.compact_keeps); done)
      | (intro _; rfl) | (intro _; split <;> rfl) | (intro _) | (refine canonical_of_fst (by assumption) ?_)
      | (refine canonical_of_some_fst (by assumption) ?_) | (refine canonical_of_some (by assumption) ?_) | (split)
      | (extract_lets +onlyGivenNames x; refine_lift (have hx : Dev.Canonical x := ?_; ?_); (on_goal 1 => clear_value x); (on_goal 2 => subst x))
      | (extract_lets +onlyGivenNames x; refine_lift (have hx : Dev.Canonical x.1 := ?_; ?_); (on_goal 1 => clear_value x); (on_goal 2 => subst x))
      | (extract_lets +onlyGivenNames x; refine_lift (have hgo : ∀ y, Dev.Canonical y → Dev.Canonical (x y) := ?_; ?_); (on_goal 1 => clear_value x); (on_goal 2 => subst x))
      | (extract_lets +onlyGivenNames x; refine_lift (have hgo : ∀ y z, Dev.Canonical y → Dev.Canonical (x y z) := ?_; ?_); (on_goal 1 => clear_value x); (on_goal 2 => subst x))
      | (extract_lets +onlyGivenNames x; clear_value x) | (refine Dev.keep_mk ?_ ?_; assumption; split <;> rfl)
      | (extract_lets +onlyGivenNames x; refine_lift (have hx : Dev.Canonical x := ?_; ?_); (on_goal 2 => subst x))

theorem Dev.append_keeps {s : Dev} (r : List Byte) (hs : s.Canonical) :
    (Dev.append s r).Canonical := by
  unfold Dev.append
  with_reducible repeat' first
    | assumption | apply Dev.appendN_keeps | apply Dev.compact_keeps | (split)
    | (extract_lets +onlyGivenNames x; refine_lift (have hx : Dev.Canonical x := ?_; ?_); (on_goal 1 => clear_value x); (on_goal 2 => subst x))
    | (extract_lets +onlyGivenNames x; clear_value x)

theorem Dev.programSetting_keeps {s : Dev} (x : Nat × Nat) (hs : s.Canonical) :
    (Dev.programSetting s x).Canonical := by
  unfold Dev.programSetting
  with_reducible repeat' first
    | assumption | apply Dev.append_keeps | apply foldl_keeps | apply foldl_keeps1 | exact Dev.keep_mk (by assumption) rfl
    | (intro _) | (refine canonical_of_fst (by assumption) ?_) | (split)
    | (extract_lets +onlyGivenNames x; refine_lift (have hx : Dev.Canonical x := ?_; ?_); (on_goal 1 => clear_value x); (on_goal 2 => subst x))
    | (extract_lets +onlyGivenNames x; clear_value x)

theorem Dev.programKey_keeps {s : Dev} (hs : s.Canonical) :
    (Dev.programKey s).Canonical := by
  unfold Dev.programKey
  extract_lets +onlyGivenNames y x
  have hx : x.Canonical := Dev.keep_mk hs rfl
  split
  · exact Dev.append_keeps _ (Dev.keep_mk hx rfl)
  · exact hx

theorem Dev.saveAll_keeps {s : Dev} (hs : s.Canonical) :
    (Dev.saveAll s).Canonical := by
  unfold Dev.saveAll
  with_reducible repeat' first
    | assumption | apply Dev.programSetting_keeps | apply Dev.programKey_keeps | apply foldl_keeps | (intro _)
    | (refine canonical_of_fst (by assumption) ?_) | (split)
    | (extract_lets +onlyGivenNames x; refine_lift (have hx : Dev.Canonical x := ?_; ?_); (on_goal 1 => clear_value x); (on_goal 2 => subst x))
    | (extract_lets +onlyGivenNames x; clear_value x)

theorem doSave_keeps (src : Src) {s : Dev} (hs : s.Canonical) :
    (doSave src s).Canonical := by
  unfold doSave
  with_reducible repeat' first
    | assumption | apply Dev.at_keeps | apply Dev.own0_keeps | apply Dev.saveAll_keeps | exact Dev.keep_mk (by assumption) rfl
    | (intro _) | (refine canonical_of_fst (by assumption) ?_) | (split)

theorem Dev.writeHeader_keeps {s : Dev} (sfw : Nat) (pfw : Nat) (hs : s.Canonical) :
    (Dev.writeHeader s sfw pfw).Canonical := by
  unfold Dev.writeHeader
  with_reducible repeat' first
    | assumption | apply Dev.bump_keeps | apply Dev.flPut_keeps | apply Dev.flErase_keeps | exact Dev.keep_mk (by assumption) rfl

theorem doBootHeaderWrite_keeps (src : Src) (sfw : Nat) (pfw : Nat) {s : Dev} (hs : s.Canonical) :
    (doBootHeaderWrite src sfw pfw s).Canonical := by
  unfold doBootHeaderWrite
  with_reducible repeat' first
    | assumption | apply Dev.at_keeps | apply Dev.own0_keeps | apply Dev.writeHeader_keeps | apply Dev.wr_keeps
    | apply foldl_keeps | apply foldl_keeps1 | exact Dev.keep_mk (by assumption) rfl | (intro _)
    | (refine canonical_of_fst (by assumption) ?_) | (split)
    | (extract_lets +onlyGivenNames x; refine_lift (have hx : Dev.Canonical x := ?_; ?_); (on_goal 1 => clear_value x); (on_goal 2 => subst x))
    | (extract_lets +onlyGivenNames x; clear_value x)

theorem Dev.modRing_keeps {s : Dev} (t : Nat) (r : Nat) (f : Ring → Ring) (hs : s.Canonical) :
    (Dev.modRing s t r f).Canonical := by
  unfold Dev.modRing
  with_reducible repeat' first
    | assumption | apply Dev.modRings_keeps | exact Dev.keep_mk (by assumption) rfl

theorem Dev.showLocks_keeps {s : Dev} (t : Nat) (hs : s.Canonical) :
    (Dev.showLocks s t).Canonical := by
  unfold Dev.showLocks
  with_reducible repeat' first
    | assumption | apply Dev.wr_keeps | apply Dev.updCal_keeps | apply Dev.calTrigger_keeps | (split)

theorem Dev.freshSpans_keeps {s : Dev} (t : Nat) (hs : s.Canonical) :
    (Dev.freshSpans s t).Canonical := by
  unfold Dev.freshSpans
  with_reducible repeat' first
    | assumption | apply Dev.modRings_keeps | exact Dev.keep_mk (by assumption) rfl

theorem Dev.heatStart_keeps {s : Dev} (t : Nat) (hs : s.Canonical) :
    (Dev.heatStart s t).Canonical := by
  unfold Dev.heatStart
  with_reducible repeat' first
    | assumption | apply Dev.modRings_keeps | apply Dev.wr_keeps | apply Dev.report_keeps | apply Dev.showLocks_keeps
    | apply foldl_keeps | apply foldl_keeps1 | exact Dev.keep_mk (by assumption) rfl | (intro _)
    | (refine canonical_of_fst (by assumption) ?_) | (split)
    | (extract_lets +onlyGivenNames x; refine_lift (have hx : Dev.Canonical x := ?_; ?_); (on_goal 1 => clear_value x); (on_goal 2 => subst x))
    | (extract_lets +onlyGivenNames x; clear_value x)

theorem Dev.heatStop_keeps {s : Dev} (t : Nat) (hs : s.Canonical) :
    (Dev.heatStop s t).Canonical := by
  unfold Dev.heatStop
  with_reducible repeat' first
    | assumption | apply Dev.modRings_keeps | apply Dev.showLocks_keeps | apply Dev.wr_keeps
    | exact Dev.keep_mk (by assumption) rfl

theorem Dev.heatOn_keeps {s : Dev} (t : Nat) (hs : s.Canonical) :
    (Dev.heatOn s t).Canonical := by
  unfold Dev.heatOn
  with_reducible repeat' first
    | assumption | apply Dev.wr_keeps | apply Dev.heatStart_keeps | (split)
    | (extract_lets +onlyGivenNames x; refine_lift (have hx : Dev.Canonical x := ?_; ?_); (on_goal 1 => clear_value x); (on_goal 2 => subst x))
    | (extract_lets +onlyGivenNames x; clear_value x)

theorem Dev.heatOff_keeps {s : Dev} (t : Nat) (hs : s.Canonical) :
    (Dev.heatOff s t).Canonical := by
  unfold Dev.heatOff
  with_reducible repeat' first
    | assumption | apply Dev.heatStop_keeps | apply Dev.wr_keeps | (split)

theorem doHeatEnSet_keeps (src : Src) (t : Nat) {s : Dev} (hs : s.Canonical) :
    (doHeatEnSet src t s).Canonical := by
  unfold doHeatEnSet
  with_reducible repeat' first
    | assumption | apply Dev.own0_keeps | apply Dev.heatOn_keeps | apply foldl_keeps | apply foldl_keeps1
    | exact Dev.keep_mk (by assumption) rfl | (intro _) | (refine canonical_of_fst (by assumption) ?_) | (split)
    | (extract_lets +onlyGivenNames x; refine_lift (have hx : Dev.Canonical x := ?_; ?_); (on_goal 1 => clear_value x); (on_goal 2 => subst x))
    | (extract_lets +onlyGivenNames x; clear_value x)

theorem doHeatEnClear_keeps (src : Src) (t : Nat) {s : Dev} (hs : s.Canonical) :
    (doHeatEnClear src t s).Canonical := by
  unfold doHeatEnClear
  with_reducible repeat' first
    | assumption | apply Dev.own0_keeps | apply Dev.heatOff_keeps | apply foldl_keeps | (intro _)

theorem Dev.keepTemps_keeps {s : Dev} (t : Nat) (hs : s.Canonical) :
    (Dev.keepTemps s t).Canonical := by
  unfold Dev.keepTemps
  with_reducible repeat' first
    | assumption | exact Dev.keep_mk (by assumption) rfl

theorem Dev.putImage_keeps {s : Dev} (t : Nat) (codes : List Nat) (hs : s.Canonical) :
    (Dev.putImage s t codes).Canonical := by
  unfold Dev.putImage
  with_reducible repeat' first
    | assumption | apply Dev.modRings_keeps | apply Dev.wr_keeps | apply Dev.fresh_keeps | apply Dev.keepTemps_keeps | apply hgo
    | exact Dev.keep_mk (by assumption) rfl
    | (refine Dev.keep_mk ?_ rfl; (repeat' first | assumption | apply Dev.modRings_keeps | apply Dev.wr_keeps | apply Dev.fresh_keeps | apply Dev.keepTemps_keeps); done)
    | (intro _; rfl) | (intro _; split <;> rfl) | (intro _) | (refine canonical_of_fst (by assumption) ?_)
    | (refine canonical_of_some_fst (by assumption) ?_) | (refine canonical_of_some (by assumption) ?_) | (split)
    | (extract_lets +onlyGivenNames x; refine_lift (have hx : Dev.Canonical x := ?_; ?_); (on_goal 1 => clear_value x); (on_goal 2 => subst x))
    | (extract_lets +onlyGivenNames x; refine_lift (have hx : Dev.Canonical x.1 := ?_; ?_); (on_goal 1 => clear_value x); (on_goal 2 => subst x))
    | (extract_lets +onlyGivenNames x; refine_lift (have hgo : ∀ y, Dev.Canonical y → Dev.Canonical (x y) := ?_; ?_); (on_goal 1 => clear_value x); (on_goal 2 => subst x))
    | (extract_lets +onlyGivenNames x; refine_lift (have hgo : ∀ y z, Dev.Canonical y → Dev.Canonical (x y z) := ?_; ?_); (on_goal 1 => clear_value x); (on_goal 2 => subst x))
    | (extract_lets +onlyGivenNames x; clear_value x) | (refine Dev.keep_mk ?_ ?_; assumption; split <;> rfl)
    | (extract_lets +onlyGivenNames x; refine_lift (have hx : Dev.Canonical x := ?_; ?_); (on_goal 2 => subst x))

theorem doFreeze_keeps (src : Src) (t : Nat) (on : Bool) {s : Dev} (hs : s.Canonical) :
    (doFreeze src t on s).Canonical := by
  unfold doFreeze
  with_reducible repeat' first
    | assumption | apply Dev.own0_keeps | apply Dev.wr_keeps | apply Dev.showLocks_keeps | apply Dev.freshSpans_keeps
    | exact Dev.keep_mk (by assumption) rfl | (intro _) | (refine canonical_of_fst (by assumption) ?_) | (split)

theorem Dev.strobe_keeps {s : Dev} (t : Nat) (hs : s.Canonical) :
    (Dev.strobe s t).Canonical := by
  unfold Dev.strobe
  with_reducible repeat' first
    | assumption | apply Dev.bump_keeps | apply Dev.modRings_keeps | apply foldl_keeps | apply foldl_keeps1
    | exact Dev.keep_mk (by assumption) rfl | (intro _) | (refine canonical_of_fst (by assumption) ?_) | (split)
    | (extract_lets +onlyGivenNames x; refine_lift (have hx : Dev.Canonical x := ?_; ?_); (on_goal 1 => clear_value x); (on_goal 2 => subst x))
    | (extract_lets +onlyGivenNames x; clear_value x)

theorem Dev.showPower_keeps {s : Dev} (t : Nat) (hs : s.Canonical) :
    (Dev.showPower s t).Canonical := by
  unfold Dev.showPower
  with_reducible repeat' first
    | assumption | apply Dev.wr_keeps | exact Dev.keep_mk (by assumption) rfl

theorem Dev.frameTriggers_keeps {s : Dev} (u : Nat) (hs : s.Canonical) :
    (Dev.frameTriggers s u).Canonical := by
  unfold Dev.frameTriggers
  with_reducible repeat' first
    | assumption | apply Dev.modUnit_keeps | (split)
    | (extract_lets +onlyGivenNames x; refine_lift (have hx : Dev.Canonical x := ?_; ?_); (on_goal 1 => clear_value x); (on_goal 2 => subst x))
    | (extract_lets +onlyGivenNames x; clear_value x)

theorem Dev.lockEvent_keeps {s : Dev} (t : Nat) (r : Nat) (typ : Nat) (hs : s.Canonical) :
    (Dev.lockEvent s t r typ).Canonical := by
  unfold Dev.lockEvent
  with_reducible repeat' first
    | assumption | apply Dev.wr_keeps | exact Dev.keep_mk (by assumption) rfl

theorem Dev.followErr_keeps {s : Dev} (t : Nat) (r : Nat) (typ : Nat) (hs : s.Canonical) :
    (Dev.followErr s t r typ).Canonical := by
  unfold Dev.followErr
  with_reducible repeat' first
    | assumption | apply Dev.report_keeps | apply Dev.lockEvent_keeps | apply Dev.bump_keeps | apply Dev.requestSub_keeps
    | apply Dev.modRings_keeps | exact Dev.keep_mk (by assumption) rfl

theorem Dev.supervise_keeps {s : Dev} (t : Nat) (r : Nat) (hs : s.Canonical) :
    (Dev.supervise s t r).Canonical := by
  unfold Dev.supervise
  with_reducible repeat' first
    | assumption | apply Dev.modRing_keeps | apply Dev.bump_keeps | apply Dev.report_keeps | apply Dev.lockEvent_keeps
    | apply Dev.modUnit_keeps | apply Dev.followErr_keeps | (split)
    | (extract_lets +onlyGivenNames x; refine_lift (have hx : Dev.Canonical x := ?_; ?_); (on_goal 1 => clear_value x); (on_goal 2 => subst x))
    | (extract_lets +onlyGivenNames x; clear_value x)

theorem Dev.updateGroup_keeps {s : Dev} (t : Nat) (g : Nat) (hs : s.Canonical) :
    (Dev.updateGroup s t g).Canonical := by
  unfold Dev.updateGroup
  with_reducible repeat' first
    | assumption | apply Dev.bump_keeps | apply Dev.modRing_keeps | apply Dev.modRings_keeps | apply foldl_keeps
    | exact Dev.keep_mk (by assumption) rfl | (intro _) | (split)

theorem Dev.modRail_keeps {s : Dev} (q : Nat) (f : Rail → Rail) (hs : s.Canonical) :
    (Dev.modRail s q f).Canonical := by
  unfold Dev.modRail
  with_reducible repeat' first
    | assumption | exact Dev.keep_mk (by assumption) rfl

theorem Dev.updQuad_keeps {s : Dev} (hs : s.Canonical) :
    (Dev.updQuad s).Canonical := by
  unfold Dev.updQuad
  with_reducible repeat' first
    | assumption | apply Dev.degrade_keeps | exact Dev.keep_mk (by assumption) rfl

theorem Dev.legClose_keeps {s : Dev} (t : Nat) (leg : Nat) (hs : s.Canonical) :
    (Dev.legClose s t leg).Canonical := by
  unfold Dev.legClose
  with_reducible repeat' first
    | assumption | apply Dev.modRings_keeps | exact Dev.keep_mk (by assumption) rfl

theorem Dev.railOpens_keeps {s : Dev} (q : Nat) (hs : s.Canonical) :
    (Dev.railOpens s q).Canonical := by
  unfold Dev.railOpens
  with_reducible repeat' first
    | assumption | apply Dev.modRail_keeps | apply Dev.report_keeps | apply Dev.modRings_keeps | apply Dev.bump_keeps
    | apply Dev.wr_keeps | apply Dev.heatStop_keeps | apply Dev.outOfService_keeps | apply Dev.updQuad_keeps | apply foldl_keeps
    | exact Dev.keep_mk (by assumption) rfl | (intro _) | (split)

theorem Dev.trip_keeps {s : Dev} (t : Nat) (leg : Nat) (hard : Bool) (inBlank : Bool) (hs : s.Canonical) :
    (Dev.trip s t leg hard inBlank).Canonical := by
  unfold Dev.trip
  with_reducible repeat' first
    | assumption | apply Dev.modRings_keeps | apply Dev.bump_keeps | apply Dev.wr_keeps | apply Dev.railOpens_keeps
    | apply Dev.outOfService_keeps | apply Dev.modRail_keeps | (split)
    | (extract_lets +onlyGivenNames x; refine_lift (have hx : Dev.Canonical x := ?_; ?_); (on_goal 1 => clear_value x); (on_goal 2 => subst x))
    | (extract_lets +onlyGivenNames x; clear_value x)

theorem doHmLegRearm_keeps (src : Src) (t : Nat) (mask : Word) {s : Dev} (hs : s.Canonical) :
    (doHmLegRearm src t mask s).Canonical := by
  unfold doHmLegRearm
  with_reducible repeat' first
    | assumption | apply Dev.own0_keeps | apply Dev.report_keeps | apply Dev.wr_keeps | apply Dev.legClose_keeps
    | apply foldl_keeps | apply foldl_keeps1 | exact Dev.keep_mk (by assumption) rfl | (intro _)
    | (refine canonical_of_fst (by assumption) ?_) | (split)
    | (extract_lets +onlyGivenNames x; refine_lift (have hx : Dev.Canonical x := ?_; ?_); (on_goal 1 => clear_value x); (on_goal 2 => subst x))
    | (extract_lets +onlyGivenNames x; clear_value x)

theorem doClose_keeps (src : Src) (t : Nat) {s : Dev} (hs : s.Canonical) :
    (doClose src t s).Canonical := by
  unfold doClose
  with_reducible repeat' first
    | assumption | apply Dev.own0_keeps | apply Dev.modRail_keeps | apply Dev.updQuad_keeps | apply Dev.wr_keeps
    | apply Dev.report_keeps | apply foldl_keeps | (intro _) | (refine canonical_of_fst (by assumption) ?_) | (split)
    | (extract_lets +onlyGivenNames x; refine_lift (have hx : Dev.Canonical x := ?_; ?_); (on_goal 1 => clear_value x); (on_goal 2 => subst x))
    | (extract_lets +onlyGivenNames x; clear_value x)

theorem Dev.ringPut_keeps {s : Dev} (u : Nat) (v : Nat) (hs : s.Canonical) :
    (Dev.ringPut s u v).Canonical := by
  unfold Dev.ringPut
  with_reducible repeat' first
    | assumption | apply Dev.wr_keeps | apply Dev.storeFor_keeps | exact Dev.keep_mk (by assumption) rfl

theorem Dev.atEntry_keeps {s : Dev} (u : Nat) (e : Nat) (hs : s.Canonical) :
    (Dev.atEntry s u e).Canonical := by
  unfold Dev.atEntry
  with_reducible repeat' first
    | assumption | apply Dev.wr_keeps | apply Dev.modUnit_keeps | exact Dev.keep_mk (by assumption) rfl

theorem Dev.passOver_keeps {s : Dev} (u : Nat) (hs : s.Canonical) :
    (Dev.passOver s u).Canonical := by
  unfold Dev.passOver
  with_reducible repeat' first
    | assumption | apply Dev.wr_keeps | apply Dev.atEntry_keeps | apply Dev.modUnit_keeps | exact Dev.keep_mk (by assumption) rfl

theorem Dev.runEntries_keeps (a0 : Nat) (a1 : Nat) {a2 : Dev} (ha2 : a2.Canonical) :
    (Dev.runEntries a0 a1 a2).Canonical := by
  induction a0 generalizing a1 a2 with
  | zero => exact Dev.passOver_keeps _ (Dev.bump_keeps _ _ _ ha2)
  | succ n ih =>
    unfold Dev.runEntries
    extract_lets +onlyGivenNames cur x wait s
    have hw : wait.Canonical := by subst wait; split <;> [exact ha2; exact Dev.report_keeps _ _ (Dev.wr_keeps _ _ _ ha2)]
    have h2 : s.Canonical := by
      subst s; split
      · exact Dev.modUnit_keeps _ _ (Dev.ringPut_keeps _ _ ha2)
      · exact ha2
    clear_value wait s cur
    split
    · exact hw
    · split
      · exact Dev.passOver_keeps _ (Dev.bump_keeps _ _ _ h2)
      · extract_lets +onlyGivenNames ch
        split
        · exact ih _ (Dev.atEntry_keeps _ _ h2)
        · split
          · split
            · exact h2
            · exact Dev.report_keeps _ _ (Dev.wr_keeps _ _ _ h2)
          · exact Dev.modUnit_keeps _ _ (Dev.wr_keeps _ _ _ h2)

theorem Dev.goOn_keeps {s : Dev} (u : Nat) (hs : s.Canonical) :
    (Dev.goOn s u).Canonical := by
  unfold Dev.goOn
  with_reducible repeat' first
    | assumption | apply Dev.runEntries_keeps | exact Dev.keep_mk (by assumption) rfl

theorem Dev.regTrigger_keeps {s : Dev} (u : Nat) (hs : s.Canonical) :
    (Dev.regTrigger s u).Canonical := by
  unfold Dev.regTrigger
  with_reducible repeat' first
    | assumption | apply Dev.report_keeps | apply Dev.bump_keeps | apply Dev.atEntry_keeps | apply Dev.wr_keeps
    | apply Dev.modUnit_keeps | apply Dev.goOn_keeps | (split)

theorem doRegGo_keeps (src : Src) (u : Nat) {s : Dev} (hs : s.Canonical) :
    (doRegGo src u s).Canonical := by
  unfold doRegGo
  with_reducible repeat' first
    | assumption | apply Dev.own0_keeps | apply Dev.regTrigger_keeps | exact Dev.keep_mk (by assumption) rfl | (intro _)
    | (refine canonical_of_fst (by assumption) ?_) | (split)

theorem Dev.regEn_keeps {s : Dev} (u : Nat) (on : Bool) (hs : s.Canonical) :
    (Dev.regEn s u on).Canonical := by
  unfold Dev.regEn
  with_reducible repeat' first
    | assumption | apply Dev.modUnit_keeps | apply Dev.wr_keeps | apply Dev.passOver_keeps | apply foldl_keeps
    | apply foldl_keeps1 | exact Dev.keep_mk (by assumption) rfl | (intro _) | (refine canonical_of_fst (by assumption) ?_)
    | (split)
    | (extract_lets +onlyGivenNames x; refine_lift (have hx : Dev.Canonical x := ?_; ?_); (on_goal 1 => clear_value x); (on_goal 2 => subst x))
    | (extract_lets +onlyGivenNames x; clear_value x)

theorem doLlRingTail_keeps (src : Src) (u : Nat) (v : Nat) {s : Dev} (hs : s.Canonical) :
    (doLlRingTail src u v s).Canonical := by
  unfold doLlRingTail
  with_reducible repeat' first
    | assumption | apply Dev.own0_keeps | apply Dev.wr_keeps | apply Dev.goOn_keeps | exact Dev.keep_mk (by assumption) rfl
    | (intro _) | (split)
    | (extract_lets +onlyGivenNames x; refine_lift (have hx : Dev.Canonical x := ?_; ?_); (on_goal 1 => clear_value x); (on_goal 2 => subst x))
    | (extract_lets +onlyGivenNames x; clear_value x)

theorem Dev.injStart_keeps {s : Dev} (u : Nat) (g : InjTrig) (hs : s.Canonical) :
    (Dev.injStart s u g).Canonical := by
  unfold Dev.injStart
  with_reducible repeat' first
    | assumption | apply Dev.wr_keeps | apply Dev.modUnit_keeps | (split)

theorem Dev.injTrigger_keeps {s : Dev} (u : Nat) (g : InjTrig) (hs : s.Canonical) :
    (Dev.injTrigger s u g).Canonical := by
  unfold Dev.injTrigger
  with_reducible repeat' first
    | assumption | apply Dev.report_keeps | apply Dev.bump_keeps | apply Dev.injStart_keeps | apply Dev.wr_keeps
    | apply Dev.modUnit_keeps | (split)

theorem doInjGo_keeps (src : Src) (u : Nat) {s : Dev} (hs : s.Canonical) :
    (doInjGo src u s).Canonical := by
  unfold doInjGo
  with_reducible repeat' first
    | assumption | apply Dev.own0_keeps | apply Dev.injTrigger_keeps | apply foldl_keeps | apply foldl_keeps1
    | exact Dev.keep_mk (by assumption) rfl | (intro _) | (refine canonical_of_fst (by assumption) ?_) | (split)
    | (extract_lets +onlyGivenNames x; refine_lift (have hx : Dev.Canonical x := ?_; ?_); (on_goal 1 => clear_value x); (on_goal 2 => subst x))
    | (extract_lets +onlyGivenNames x; clear_value x)

theorem Dev.injNext_keeps {s : Dev} (u : Nat) (hs : s.Canonical) :
    (Dev.injNext s u).Canonical := by
  unfold Dev.injNext
  with_reducible repeat' first
    | assumption | apply Dev.injStart_keeps | apply Dev.wr_keeps | apply Dev.modUnit_keeps | (split)
    | (extract_lets +onlyGivenNames x; refine_lift (have hx : Dev.Canonical x := ?_; ?_); (on_goal 1 => clear_value x); (on_goal 2 => subst x))
    | (extract_lets +onlyGivenNames x; clear_value x)

theorem Dev.quadTemp_keeps {s : Dev} (q : Nat) (hs : s.Canonical) :
    (Dev.quadTemp s q).Canonical := by
  unfold Dev.quadTemp
  with_reducible repeat' first
    | assumption | apply Dev.modUnit_keeps | apply Dev.updCal_keeps | apply Dev.wrS_keeps | apply foldl_keeps
    | exact Dev.keep_mk (by assumption) rfl | (intro _) | (split)

theorem Dev.refinMoves_keeps {s : Dev} (ok : Bool) (hs : s.Canonical) :
    (Dev.refinMoves s ok).Canonical := by
  unfold Dev.refinMoves
  with_reducible repeat' first
    | assumption | apply Dev.degrade_keeps | apply Dev.wr_keeps | apply Dev.calRefinBack_keeps | apply Dev.calRefinLost_keeps
    | apply Dev.report_keeps | (split)

theorem Dev.refinMonitor_keeps {s : Dev} (mv : Nat) (ratio : Nat) (hs : s.Canonical) :
    (Dev.refinMonitor s mv ratio).Canonical := by
  unfold Dev.refinMonitor
  with_reducible repeat' first
    | assumption | apply Dev.wrS_keeps | apply Dev.wr_keeps | apply Dev.modUnit_keeps | apply Dev.refinMoves_keeps
    | apply foldl_keeps | apply foldl_keeps1 | exact Dev.keep_mk (by assumption) rfl | (intro _)
    | (refine canonical_of_fst (by assumption) ?_) | (split)
    | (extract_lets +onlyGivenNames x; refine_lift (have hx : Dev.Canonical x := ?_; ?_); (on_goal 1 => clear_value x); (on_goal 2 => subst x))
    | (extract_lets +onlyGivenNames x; clear_value x)

theorem Dev.syscalFail_keeps {s : Dev} (state : Nat) (hs : s.Canonical) :
    (Dev.syscalFail s state).Canonical := by
  unfold Dev.syscalFail
  with_reducible repeat' first
    | assumption | apply Dev.report_keeps | apply Dev.wr_keeps | exact Dev.keep_mk (by assumption) rfl

theorem Dev.syscalBusy_keeps {s : Dev} (on : Bool) (hs : s.Canonical) :
    (Dev.syscalBusy s on).Canonical := by
  unfold Dev.syscalBusy
  with_reducible repeat' first
    | assumption | apply Dev.wr_keeps | apply foldl_keeps | (intro _)

theorem Dev.syscalBegin_keeps {s : Dev} (step : Nat) (hs : s.Canonical) :
    (Dev.syscalBegin s step).Canonical := by
  unfold Dev.syscalBegin
  with_reducible repeat' first
    | assumption | apply Dev.wr_keeps | apply Dev.syscalBusy_keeps | exact Dev.keep_mk (by assumption) rfl

theorem doSyscalZero_keeps (src : Src) {s : Dev} (hs : s.Canonical) :
    (doSyscalZero src s).Canonical := by
  unfold doSyscalZero
  with_reducible repeat' first
    | assumption | apply Dev.own0_keeps | apply Dev.syscalFail_keeps | apply Dev.syscalBegin_keeps | apply foldl_keeps
    | apply foldl_keeps1 | exact Dev.keep_mk (by assumption) rfl | (intro _) | (refine canonical_of_fst (by assumption) ?_)
    | (split)
    | (extract_lets +onlyGivenNames x; refine_lift (have hx : Dev.Canonical x := ?_; ?_); (on_goal 1 => clear_value x); (on_goal 2 => subst x))
    | (extract_lets +onlyGivenNames x; clear_value x)

theorem doSyscalFull_keeps (src : Src) {s : Dev} (hs : s.Canonical) :
    (doSyscalFull src s).Canonical := by
  unfold doSyscalFull
  with_reducible repeat' first
    | assumption | apply Dev.own0_keeps | apply Dev.syscalFail_keeps | apply Dev.syscalBegin_keeps
    | exact Dev.keep_mk (by assumption) rfl | (intro _) | (split)
    | (extract_lets +onlyGivenNames x; refine_lift (have hx : Dev.Canonical x := ?_; ?_); (on_goal 1 => clear_value x); (on_goal 2 => subst x))
    | (extract_lets +onlyGivenNames x; clear_value x)

theorem doSyscalCommit_keeps (src : Src) {s : Dev} (hs : s.Canonical) :
    (doSyscalCommit src s).Canonical := by
  unfold doSyscalCommit
  with_reducible repeat' first
    | assumption | apply Dev.own0_keeps | apply Dev.syscalFail_keeps | apply Dev.modUnit_keeps | apply Dev.wr_keeps
    | apply Dev.wrS_keeps | apply foldl_keeps | apply foldl_keeps1 | exact Dev.keep_mk (by assumption) rfl | (intro _)
    | (refine canonical_of_fst (by assumption) ?_) | (split)
    | (extract_lets +onlyGivenNames x; refine_lift (have hx : Dev.Canonical x := ?_; ?_); (on_goal 1 => clear_value x); (on_goal 2 => subst x))
    | (extract_lets +onlyGivenNames x; clear_value x)

theorem Dev.waitsGoOn_keeps {s : Dev} (hs : s.Canonical) :
    (Dev.waitsGoOn s).Canonical := by
  unfold Dev.waitsGoOn
  with_reducible repeat' first
    | assumption | apply Dev.goOn_keeps | apply foldl_keeps | exact Dev.keep_mk (by assumption) rfl | (intro _) | (split)

theorem Dev.hwOnly_keeps {s : Dev} (src : Src) (b : Blk) (i : Nat) (o : Nat) (e : Nat) (hw : List Coincident) (hs : s.Canonical) :
    (Dev.hwOnly s src b i o e hw).Canonical := by
  unfold Dev.hwOnly
  with_reducible repeat' first
    | assumption | apply Dev.setErr_keeps | apply Dev.wr_keeps | apply foldl_keeps | apply foldl_keeps1
    | exact Dev.keep_mk (by assumption) rfl | (intro _) | (refine canonical_of_fst (by assumption) ?_) | (split)
    | (extract_lets +onlyGivenNames x; refine_lift (have hx : Dev.Canonical x := ?_; ?_); (on_goal 1 => clear_value x); (on_goal 2 => subst x))
    | (extract_lets +onlyGivenNames x; clear_value x)

theorem Dev.putField_keeps {s : Dev} (src : Src) (b : Blk) (i : Nat) (o : Nat) (e : Nat) (v : Nat) (hw : List Coincident) (f : Field) (hs :
    s.Canonical) :
    (Dev.putField s src b i o e v hw f).Canonical := by
  unfold Dev.putField
  with_reducible repeat' first
    | assumption | apply Dev.setBy_keeps | apply Dev.wr_keeps | (split)

theorem Dev.plain_keeps {s : Dev} (src : Src) (b : Blk) (i : Nat) (o : Nat) (e : Nat) (v : Nat) (hw : List Coincident) (hs : s.Canonical) :
    (Dev.plain s src b i o e v hw).Canonical := by
  unfold Dev.plain
  with_reducible repeat' first
    | assumption | apply Dev.putField_keeps | apply foldl_keeps | (intro _)

theorem Dev.bt_keeps {s : Dev} (f : Boot → Boot) (hs : s.Canonical) (hf : ∀ x, (f x).flash = x.flash) :
    (Dev.bt s f).Canonical := Dev.keep_mk hs (hf _)

theorem Dev.flSettle_keeps {s : Dev} (hs : s.Canonical) :
    (Dev.flSettle s).Canonical := by
  unfold Dev.flSettle
  with_reducible repeat' first
    | assumption | apply Dev.flPut_keeps | apply Dev.flErase_keeps | apply Dev.wr_keeps | apply Dev.bt_keeps
    | exact Dev.keep_mk (by assumption) rfl | (intro _; rfl) | (intro _) | (refine canonical_of_fst (by assumption) ?_)
    | (split)
    | (extract_lets +onlyGivenNames x; refine_lift (have hx : Dev.Canonical x := ?_; ?_); (on_goal 1 => clear_value x); (on_goal 2 => subst x))
    | (extract_lets +onlyGivenNames x; clear_value x)

theorem Dev.moduleReset_keeps {s : Dev} (hs : s.Canonical) :
    (Dev.moduleReset s).Canonical := Dev.wr_keeps _ _ _ ⟨rfl, (Dev.flSettle_keeps hs).2⟩

theorem Dev.standby_keeps {s : Dev} (hs : s.Canonical) :
    (Dev.standby s).Canonical := by
  unfold Dev.standby
  with_reducible repeat' first
    | assumption | apply Dev.enter_keeps | apply Dev.bt_keeps | exact Dev.keep_mk (by assumption) rfl | (intro _; rfl)
    | (intro _)

theorem Dev.clearIsland_keeps {s : Dev} (hs : s.Canonical) :
    (Dev.clearIsland s).Canonical := by
  unfold Dev.clearIsland
  with_reducible repeat' first
    | assumption | apply Dev.wr_keeps | apply Dev.bt_keeps | apply foldl_keeps | exact Dev.keep_mk (by assumption) rfl
    | (intro _; rfl) | (intro _)
    | (extract_lets +onlyGivenNames x; refine_lift (have hx : Dev.Canonical x := ?_; ?_); (on_goal 1 => clear_value x); (on_goal 2 => subst x))
    | (extract_lets +onlyGivenNames x; clear_value x)

theorem Dev.enterBoot_keeps {s : Dev} (hold : Nat) (hs : s.Canonical) :
    (Dev.enterBoot s hold).Canonical := by
  unfold Dev.enterBoot
  with_reducible repeat' first
    | assumption | apply Dev.enter_keeps | apply Dev.bt_keeps | apply Dev.clearIsland_keeps | apply Dev.wr_keeps
    | apply Dev.fresh_keeps | apply Dev.modPart_keeps | apply Dev.setPartState_keeps | exact Dev.keep_mk (by assumption) rfl
    | (intro _; rfl) | (intro _)
    | (extract_lets +onlyGivenNames x; refine_lift (have hx : Dev.Canonical x := ?_; ?_); (on_goal 1 => clear_value x); (on_goal 2 => subst x))
    | (extract_lets +onlyGivenNames x; clear_value x)

theorem Dev.leaveStandby_keeps {s : Dev} (hold : Nat) (hs : s.Canonical) :
    (Dev.leaveStandby s hold).Canonical := by
  unfold Dev.leaveStandby
  with_reducible repeat' first
    | assumption | apply Dev.enterBoot_keeps | apply Dev.bt_keeps | exact Dev.keep_mk (by assumption) rfl | (intro _; rfl)
    | (intro _) | (split)

theorem Dev.setInput_keeps {s : Dev} (i : ResetInput) (low : Bool) (hs : s.Canonical) :
    (Dev.setInput s i low).Canonical := by
  unfold Dev.setInput
  with_reducible repeat' first
    | assumption | apply Dev.bt_keeps | apply hgo | exact Dev.keep_mk (by assumption) rfl
    | (refine Dev.keep_mk ?_ rfl; (repeat' first | assumption | apply Dev.bt_keeps); done) | (intro _; rfl)
    | (intro _; split <;> rfl) | (intro _) | (refine canonical_of_fst (by assumption) ?_)
    | (refine canonical_of_some_fst (by assumption) ?_) | (refine canonical_of_some (by assumption) ?_) | (split)
    | (extract_lets +onlyGivenNames x; refine_lift (have hx : Dev.Canonical x := ?_; ?_); (on_goal 1 => clear_value x); (on_goal 2 => subst x))
    | (extract_lets +onlyGivenNames x; refine_lift (have hx : Dev.Canonical x.1 := ?_; ?_); (on_goal 1 => clear_value x); (on_goal 2 => subst x))
    | (extract_lets +onlyGivenNames x; refine_lift (have hgo : ∀ y, Dev.Canonical y → Dev.Canonical (x y) := ?_; ?_); (on_goal 1 => clear_value x); (on_goal 2 => subst x))
    | (extract_lets +onlyGivenNames x; refine_lift (have hgo : ∀ y z, Dev.Canonical y → Dev.Canonical (x y z) := ?_; ?_); (on_goal 1 => clear_value x); (on_goal 2 => subst x))
    | (extract_lets +onlyGivenNames x; clear_value x) | (refine Dev.keep_mk ?_ ?_; assumption; split <;> rfl)
    | (extract_lets +onlyGivenNames x; refine_lift (have hx : Dev.Canonical x := ?_; ?_); (on_goal 2 => subst x))

theorem Dev.inputHigh_keeps {s : Dev} (i : ResetInput) (holdMs : Nat) (hs : s.Canonical) :
    (Dev.inputHigh s i holdMs).Canonical := by
  unfold Dev.inputHigh
  with_reducible repeat' first
    | assumption | apply Dev.bt_keeps | apply Dev.leaveStandby_keeps | apply Dev.wr_keeps | apply Dev.setInput_keeps
    | exact Dev.keep_mk (by assumption) rfl | (intro _; rfl) | (intro _) | (split)
    | (extract_lets +onlyGivenNames x; refine_lift (have hx : Dev.Canonical x := ?_; ?_); (on_goal 1 => clear_value x); (on_goal 2 => subst x))
    | (extract_lets +onlyGivenNames x; clear_value x)

theorem doReboot_keeps (src : Src) {s : Dev} (hs : s.Canonical) :
    (doReboot src s).Canonical := by
  unfold doReboot
  with_reducible repeat' first
    | assumption | apply Dev.at_keeps | apply Dev.own0_keeps | apply Dev.standby_keeps | apply Dev.moduleReset_keeps
    | apply Dev.saveAll_keeps | apply Dev.leaveStandby_keeps | apply Dev.bt_keeps | exact Dev.keep_mk (by assumption) rfl
    | (intro _; rfl) | (intro _) | (split)
    | (extract_lets +onlyGivenNames x; refine_lift (have hx : Dev.Canonical x := ?_; ?_); (on_goal 1 => clear_value x); (on_goal 2 => subst x))
    | (extract_lets +onlyGivenNames x; clear_value x)

theorem Dev.limited_keeps {s : Dev} (cause : Nat) (hs : s.Canonical) :
    (Dev.limited s cause).Canonical := by
  unfold Dev.limited
  with_reducible repeat' first
    | assumption | apply Dev.enter_keeps | apply Dev.wr_keeps | exact Dev.keep_mk (by assumption) rfl

theorem Dev.restoreField_keeps {s : Dev} (f : Field) (k : Nat) (v : Nat) (hs : s.Canonical) :
    (Dev.restoreField s f k v).Canonical := by
  unfold Dev.restoreField
  with_reducible repeat' first
    | assumption | apply Dev.wr_keeps | apply Dev.modTile_keeps | apply foldl_keeps | apply foldl_keeps1
    | exact Dev.keep_mk (by assumption) rfl | (intro _) | (refine canonical_of_fst (by assumption) ?_) | (split)
    | (extract_lets +onlyGivenNames x; refine_lift (have hx : Dev.Canonical x := ?_; ?_); (on_goal 1 => clear_value x); (on_goal 2 => subst x))
    | (extract_lets +onlyGivenNames x; clear_value x)

theorem Dev.replaySetting_keeps {s : Dev} (reg : Nat) (idx : Nat) (v : Nat) (m : Nat) (hs : s.Canonical) :
    (Dev.replaySetting s reg idx v m).Canonical := by
  unfold Dev.replaySetting
  with_reducible repeat' first
    | assumption | apply Dev.report_keeps | apply Dev.restoreField_keeps | apply foldl_keeps | (intro _)
    | (refine canonical_of_fst (by assumption) ?_) | (split)
    | (extract_lets +onlyGivenNames x; refine_lift (have hx : Dev.Canonical x := ?_; ?_); (on_goal 1 => clear_value x); (on_goal 2 => subst x))
    | (extract_lets +onlyGivenNames x; clear_value x)

theorem Dev.replayKey_keeps {s : Dev} (keyId : Nat) (w : Nat) (hs : s.Canonical) :
    (Dev.replayKey s keyId w).Canonical := by
  unfold Dev.replayKey
  with_reducible repeat' first
    | assumption | apply Dev.modPart_keeps | apply Dev.bt_keeps | apply Dev.wr_keeps | exact Dev.keep_mk (by assumption) rfl
    | (intro _; rfl) | (intro _)
    | (extract_lets +onlyGivenNames x; refine_lift (have hx : Dev.Canonical x := ?_; ?_); (on_goal 1 => clear_value x); (on_goal 2 => subst x))
    | (extract_lets +onlyGivenNames x; clear_value x)

theorem Dev.replay_keeps (c : Nat) (a1 : Nat) (a2 : Nat) (a3 : Option Nat) {a4 : Dev} (ha4 : a4.Canonical) :
    (Dev.replay c a1 a2 a3 a4).1.Canonical := by
  induction a1 generalizing a2 a3 a4 with
  | zero =>
    unfold Dev.replay
    with_reducible repeat' first
      | assumption | apply Dev.wr_keeps | apply Dev.replaySetting_keeps | apply Dev.replayKey_keeps | (intro _) | (split)
      | (extract_lets +onlyGivenNames x; refine_lift (have hx : Dev.Canonical x := ?_; ?_); (on_goal 1 => clear_value x); (on_goal 2 => subst x))
      | (extract_lets +onlyGivenNames x; clear_value x)
  | succ n ih =>
    unfold Dev.replay
    with_reducible repeat' first
      | assumption | apply ih | apply Dev.wr_keeps | apply Dev.replaySetting_keeps | apply Dev.replayKey_keeps | (intro _)
      | (split)
      | (extract_lets +onlyGivenNames x; refine_lift (have hx : Dev.Canonical x := ?_; ?_); (on_goal 1 => clear_value x); (on_goal 2 => subst x))
      | (extract_lets +onlyGivenNames x; clear_value x)

theorem Dev.restoreJournal_keeps {s : Dev} (hs : s.Canonical) :
    (Dev.restoreJournal s).Canonical := by
  unfold Dev.restoreJournal
  with_reducible repeat' first
    | assumption | apply Dev.bt_keeps | apply Dev.wr_keeps | apply Dev.replay_keeps | apply Dev.flErase_keeps
    | apply Dev.report_keeps | apply Dev.putRecord_keeps | apply Dev.fresh_keeps | apply Dev.append_keeps
    | exact Dev.keep_mk (by assumption) rfl | (intro _; rfl) | (intro _) | (refine canonical_of_fst (by assumption) ?_)
    | (split)
    | (extract_lets +onlyGivenNames x; refine_lift (have hx : Dev.Canonical x := ?_; ?_); (on_goal 1 => clear_value x); (on_goal 2 => subst x))
    | (extract_lets +onlyGivenNames x; clear_value x)

theorem Dev.restoreTables_keeps {s : Dev} (hs : s.Canonical) :
    (Dev.restoreTables s).Canonical := by
  unfold Dev.restoreTables
  with_reducible repeat' first
    | assumption | apply Dev.wr_keeps | apply Dev.report_keeps | apply Dev.fresh_keeps | apply Dev.modRings_keeps
    | apply foldl_keeps | exact Dev.keep_mk (by assumption) rfl | (intro _) | (split)

theorem Dev.restorePoints_keeps {s : Dev} (hs : s.Canonical) :
    (Dev.restorePoints s).Canonical := by
  unfold Dev.restorePoints
  with_reducible repeat' first
    | assumption | apply Dev.wr_keeps | apply Dev.fresh_keeps | apply Dev.modRings_keeps | apply foldl_keeps | (intro _)
    | (refine canonical_of_fst (by assumption) ?_) | (split)
    | (extract_lets +onlyGivenNames x; refine_lift (have hx : Dev.Canonical x := ?_; ?_); (on_goal 1 => clear_value x); (on_goal 2 => subst x))
    | (extract_lets +onlyGivenNames x; clear_value x)

theorem Dev.restoreMisc_keeps {s : Dev} (hs : s.Canonical) :
    (Dev.restoreMisc s).Canonical := by
  unfold Dev.restoreMisc
  with_reducible repeat' first
    | assumption | apply Dev.report_keeps | apply Dev.showMap_keeps | apply Dev.modTile_keeps | apply Dev.modUnit_keeps
    | apply Dev.modComb_keeps | apply Dev.wr_keeps | apply foldl_keeps | apply foldl_keeps1
    | exact Dev.keep_mk (by assumption) rfl | (intro _) | (refine canonical_of_fst (by assumption) ?_) | (split)
    | (extract_lets +onlyGivenNames x; refine_lift (have hx : Dev.Canonical x := ?_; ?_); (on_goal 1 => clear_value x); (on_goal 2 => subst x))
    | (extract_lets +onlyGivenNames x; clear_value x)

theorem Dev.atTarget_keeps {s : Dev} (q : Nat) (on : Bool) (hs : s.Canonical) :
    (Dev.atTarget s q on).Canonical := by
  unfold Dev.atTarget
  with_reducible repeat' first
    | assumption | apply Dev.updQuad_keeps | apply Dev.wr_keeps | apply Dev.showLocks_keeps | apply Dev.freshSpans_keeps
    | apply Dev.modComb_keeps | apply Dev.heatOn_keeps | apply foldl_keeps | (intro _)
    | (refine canonical_of_fst (by assumption) ?_) | (split)
    | (extract_lets +onlyGivenNames x; refine_lift (have hx : Dev.Canonical x := ?_; ?_); (on_goal 1 => clear_value x); (on_goal 2 => subst x))
    | (extract_lets +onlyGivenNames x; clear_value x)

theorem Dev.combDark_keeps {s : Dev} (q : Nat) (hs : s.Canonical) :
    (Dev.combDark s q).Canonical := by
  unfold Dev.combDark
  with_reducible repeat' first
    | assumption | apply Dev.wr_keeps | apply Dev.modComb_keeps | apply Dev.atTarget_keeps | apply Dev.outOfService_keeps
    | apply Dev.showLocks_keeps | apply foldl_keeps | (intro _)

theorem Dev.combStart_keeps {s : Dev} (q : Nat) (hs : s.Canonical) :
    (Dev.combStart s q).Canonical := by
  unfold Dev.combStart
  with_reducible repeat' first
    | assumption | apply Dev.modComb_keeps | apply Dev.wr_keeps | exact Dev.keep_mk (by assumption) rfl

theorem Dev.lineTests_keeps {s : Dev} (q : Nat) (powers : List Int) (near : Bool) (hs : s.Canonical) :
    (Dev.lineTests s q powers near).Canonical := by
  unfold Dev.lineTests
  with_reducible repeat' first
    | assumption | apply Dev.modComb_keeps | apply Dev.report_keeps | apply Dev.wr_keeps | apply Dev.requestLine_keeps
    | apply foldl_keeps | apply foldl_keeps1 | exact Dev.keep_mk (by assumption) rfl | (intro _)
    | (refine canonical_of_fst (by assumption) ?_) | (split)
    | (extract_lets +onlyGivenNames x; refine_lift (have hx : Dev.Canonical x := ?_; ?_); (on_goal 1 => clear_value x); (on_goal 2 => subst x))
    | (extract_lets +onlyGivenNames x; clear_value x)

theorem Dev.engineLight_keeps {s : Dev} (e : Nat) (on : Bool) (hs : s.Canonical) :
    (Dev.engineLight s e on).Canonical := by
  unfold Dev.engineLight
  with_reducible repeat' first
    | assumption | apply Dev.wr_keeps | exact Dev.keep_mk (by assumption) rfl

theorem doLsEnSet_keeps (src : Src) (source : Nat) {s : Dev} (hs : s.Canonical) :
    (doLsEnSet src source s).Canonical := by
  unfold doLsEnSet
  with_reducible repeat' first
    | assumption | apply Dev.own0_keeps | apply Dev.wr_keeps | apply Dev.combStart_keeps | apply Dev.engineLight_keeps
    | exact Dev.keep_mk (by assumption) rfl | (intro _) | (split)
    | (extract_lets +onlyGivenNames x; refine_lift (have hx : Dev.Canonical x := ?_; ?_); (on_goal 1 => clear_value x); (on_goal 2 => subst x))
    | (extract_lets +onlyGivenNames x; clear_value x)

theorem doLsEnClear_keeps (src : Src) (source : Nat) {s : Dev} (hs : s.Canonical) :
    (doLsEnClear src source s).Canonical := by
  unfold doLsEnClear
  with_reducible repeat' first
    | assumption | apply Dev.own0_keeps | apply Dev.wr_keeps | apply Dev.engineLight_keeps | apply Dev.combDark_keeps
    | exact Dev.keep_mk (by assumption) rfl | (intro _) | (split)
    | (extract_lets +onlyGivenNames x; refine_lift (have hx : Dev.Canonical x := ?_; ?_); (on_goal 1 => clear_value x); (on_goal 2 => subst x))
    | (extract_lets +onlyGivenNames x; clear_value x)

theorem doRearm_keeps (src : Src) (source : Nat) {s : Dev} (hs : s.Canonical) :
    (doRearm src source s).Canonical := by
  unfold doRearm
  with_reducible repeat' first
    | assumption | apply Dev.own0_keeps | apply Dev.wr_keeps | apply Dev.combStart_keeps | apply Dev.engineLight_keeps
    | apply foldl_keeps | apply foldl_keeps1 | exact Dev.keep_mk (by assumption) rfl | (intro _)
    | (refine canonical_of_fst (by assumption) ?_) | (split)
    | (extract_lets +onlyGivenNames x; refine_lift (have hx : Dev.Canonical x := ?_; ?_); (on_goal 1 => clear_value x); (on_goal 2 => subst x))
    | (extract_lets +onlyGivenNames x; clear_value x)

theorem Dev.portOn_keeps {s : Dev} (port : Nat) (hs : s.Canonical) :
    (Dev.portOn s port).Canonical := by
  unfold Dev.portOn
  with_reducible repeat' first
    | assumption | apply Dev.wr_keeps | apply Dev.modOptic_keeps | apply Dev.showPort_keeps | apply foldl_keeps
    | exact Dev.keep_mk (by assumption) rfl | (intro _) | (split)

theorem Dev.portOff_keeps {s : Dev} (port : Nat) (hs : s.Canonical) :
    (Dev.portOff s port).Canonical := by
  unfold Dev.portOff
  with_reducible repeat' first
    | assumption | apply Dev.wr_keeps | apply Dev.linkDown_keeps | apply Dev.unlock_keeps | apply Dev.settleFabric_keeps
    | apply Dev.showPort_keeps | apply foldl_keeps | exact Dev.keep_mk (by assumption) rfl | (intro _) | (split)

theorem Dev.enterWarmup_keeps {s : Dev} (hs : s.Canonical) :
    (Dev.enterWarmup s).Canonical := by
  unfold Dev.enterWarmup
  with_reducible repeat' first
    | assumption | apply Dev.enter_keeps | apply Dev.bt_keeps | apply Dev.degrade_keeps | apply Dev.fresh_keeps
    | apply Dev.combStart_keeps | apply Dev.wr_keeps | apply Dev.updQuad_keeps | apply foldl_keeps | apply foldl_keeps1
    | exact Dev.keep_mk (by assumption) rfl | (intro _; rfl) | (intro _) | (refine canonical_of_fst (by assumption) ?_) | (split)
    | (extract_lets +onlyGivenNames x; refine_lift (have hx : Dev.Canonical x := ?_; ?_); (on_goal 1 => clear_value x); (on_goal 2 => subst x))
    | (extract_lets +onlyGivenNames x; clear_value x) | (refine canonical_of_some_fst (by assumption) ?_)
    | (refine canonical_of_some (by assumption) ?_) | (refine canonical_of_snd (by assumption) ?_) | (refine Dev.keep_mk ?_ rfl)
    | (dsimp only)

theorem Dev.pairUp_keeps {s : Dev} (a : Nat) (b : Nat) (hs : s.Canonical) :
    (Dev.pairUp s a b).Canonical := by
  unfold Dev.pairUp
  with_reducible repeat' first
    | assumption | apply Dev.limited_keeps | apply Dev.report_keeps | apply Dev.wr_keeps | apply Dev.enterWarmup_keeps
    | apply hgo | exact Dev.keep_mk (by assumption) rfl
    | (refine Dev.keep_mk ?_ rfl; (repeat' first | assumption | apply Dev.limited_keeps | apply Dev.report_keeps | apply Dev.wr_keeps | apply Dev.enterWarmup_keeps); done)
    | (intro _; rfl) | (intro _; split <;> rfl) | (intro _) | (refine canonical_of_fst (by assumption) ?_)
    | (refine canonical_of_some_fst (by assumption) ?_) | (refine canonical_of_some (by assumption) ?_) | (split)
    | (extract_lets +onlyGivenNames x; refine_lift (have hx : Dev.Canonical x := ?_; ?_); (on_goal 1 => clear_value x); (on_goal 2 => subst x))
    | (extract_lets +onlyGivenNames x; refine_lift (have hx : Dev.Canonical x.1 := ?_; ?_); (on_goal 1 => clear_value x); (on_goal 2 => subst x))
    | (extract_lets +onlyGivenNames x; refine_lift (have hgo : ∀ y, Dev.Canonical y → Dev.Canonical (x y) := ?_; ?_); (on_goal 1 => clear_value x); (on_goal 2 => subst x))
    | (extract_lets +onlyGivenNames x; refine_lift (have hgo : ∀ y z, Dev.Canonical y → Dev.Canonical (x y z) := ?_; ?_); (on_goal 1 => clear_value x); (on_goal 2 => subst x))
    | (extract_lets +onlyGivenNames x; clear_value x) | (refine Dev.keep_mk ?_ ?_; assumption; split <;> rfl)
    | (extract_lets +onlyGivenNames x; refine_lift (have hx : Dev.Canonical x := ?_; ?_); (on_goal 2 => subst x))

theorem Dev.firstReady_keeps {s : Dev} (hs : s.Canonical) :
    (Dev.firstReady s).Canonical := by
  unfold Dev.firstReady
  with_reducible repeat' first
    | assumption | apply Dev.wr_keeps | apply Dev.bt_keeps | exact Dev.keep_mk (by assumption) rfl | (intro _; rfl) | (intro _)
    | (split)

theorem Dev.enterReady_keeps {s : Dev} (hs : s.Canonical) :
    (Dev.enterReady s).Canonical := by
  unfold Dev.enterReady
  with_reducible repeat' first
    | assumption | apply Dev.firstReady_keeps | apply Dev.enter_keeps | apply Dev.report_keeps | (split)

theorem Dev.setCore_keeps {s : Dev} (mv : Nat) (hs : s.Canonical) :
    (Dev.setCore s mv).Canonical := by
  unfold Dev.setCore
  with_reducible repeat' first
    | assumption | apply Dev.wr_keeps | exact Dev.keep_mk (by assumption) rfl

theorem Dev.showTemps_keeps {s : Dev} (sensor : Nat) (temp : Int) (hs : s.Canonical) :
    (Dev.showTemps s sensor temp).Canonical := by
  unfold Dev.showTemps
  with_reducible repeat' first
    | assumption | apply Dev.wr_keeps | apply Dev.wrS_keeps | exact Dev.keep_mk (by assumption) rfl

theorem Dev.thermLevel_keeps {s : Dev} (f : Field) (count : Field) (e : Event) (on : Bool) (hs : s.Canonical) :
    (Dev.thermLevel s f count e on).Canonical := by
  unfold Dev.thermLevel
  with_reducible repeat' first
    | assumption | apply Dev.wr_keeps | apply Dev.report_keeps | apply Dev.bump_keeps | (split)
    | (extract_lets +onlyGivenNames x; refine_lift (have hx : Dev.Canonical x := ?_; ?_); (on_goal 1 => clear_value x); (on_goal 2 => subst x))
    | (extract_lets +onlyGivenNames x; clear_value x)

theorem Dev.smAnswer_keeps {s : Dev} (a : Option Word) (hs : s.Canonical) :
    (Dev.smAnswer s a).Canonical := by
  unfold Dev.smAnswer
  with_reducible repeat' first
    | assumption | apply Dev.bt_keeps | exact Dev.keep_mk (by assumption) rfl | (intro _; rfl) | (intro _)

theorem Dev.clearCounters_keeps {s : Dev} (b : Blk) (i : Nat) (src : Src) (hs : s.Canonical) :
    (Dev.clearCounters s b i src).Canonical := by
  unfold Dev.clearCounters
  with_reducible repeat' first
    | assumption | apply Dev.wr_keeps | apply foldl_keeps | (intro _)

theorem Dev.writeHdr_keeps {s : Dev} (src : Src) (b : Blk) (i : Nat) (o : Nat) (v : Nat) (hw : List Coincident) (hs : s.Canonical) :
    (Dev.writeHdr s src b i o v hw).Canonical := by
  unfold Dev.writeHdr
  with_reducible repeat' first
    | assumption | apply Dev.wr_keeps | apply Dev.clearCounters_keeps | apply Dev.irqEdge_keeps | apply Dev.setBy_keeps
    | apply foldl_keeps | apply foldl_keeps1 | exact Dev.keep_mk (by assumption) rfl | (intro _)
    | (refine canonical_of_fst (by assumption) ?_) | (split)
    | (extract_lets +onlyGivenNames x; refine_lift (have hx : Dev.Canonical x := ?_; ?_); (on_goal 1 => clear_value x); (on_goal 2 => subst x))
    | (extract_lets +onlyGivenNames x; clear_value x)

theorem Dev.writePtCtrl_keeps {s : Dev} (src : Src) (t : Nat) (v : Nat) (hs : s.Canonical) :
    (Dev.writePtCtrl s src t v).Canonical := by
  unfold Dev.writePtCtrl
  with_reducible repeat' first
    | assumption | apply doTileEn_keeps | apply doQrate_keeps | apply doReturn_keeps | (split)

theorem Dev.writeTile_keeps {s : Dev} (src : Src) (b : Blk) (i : Nat) (o : Nat) (e : Nat) (v : Nat) (hw : List Coincident) (hs : s.Canonical) :
    (Dev.writeTile s src b i o e v hw).Canonical := by
  unfold Dev.writeTile
  with_reducible repeat' first
    | assumption | apply Dev.writePtCtrl_keeps | apply doStaticEntryWidening_keeps | apply Dev.modTile_keeps | apply Dev.wr_keeps
    | apply Dev.plain_keeps | (split)

theorem Dev.writeRings_keeps {s : Dev} (src : Src) (b : Blk) (i : Nat) (o : Nat) (e : Nat) (v : Nat) (hw : List Coincident) (hs : s.Canonical) :
    (Dev.writeRings s src b i o e v hw).Canonical := by
  unfold Dev.writeRings
  with_reducible repeat' first
    | assumption | apply doFreeze_keeps | apply Dev.setBy_keeps | apply Dev.freshSpans_keeps | apply Dev.showLocks_keeps
    | apply doHeatEnSet_keeps | apply doHeatEnClear_keeps | apply doHmLegRearm_keeps | apply doClose_keeps | apply Dev.plain_keeps
    | (split)

theorem Dev.writeLl_keeps {s : Dev} (src : Src) (u : Nat) (o : Nat) (e : Nat) (v : Nat) (hw : List Coincident) (hs : s.Canonical) :
    (Dev.writeLl s src u o e v hw).Canonical := by
  unfold Dev.writeLl
  with_reducible repeat' first
    | assumption | apply Dev.report_keeps | apply Dev.plain_keeps | apply Dev.regEn_keeps | apply doRegGo_keeps
    | apply doInjGo_keeps | apply Dev.setBy_keeps | apply Dev.modUnit_keeps | apply doLlRingTail_keeps | apply doSyscalZero_keeps
    | apply doSyscalFull_keeps | apply doSyscalCommit_keeps | apply foldl_keeps | apply foldl_keeps1
    | exact Dev.keep_mk (by assumption) rfl | (intro _) | (refine canonical_of_fst (by assumption) ?_) | (split)
    | (extract_lets +onlyGivenNames x; refine_lift (have hx : Dev.Canonical x := ?_; ?_); (on_goal 1 => clear_value x); (on_goal 2 => subst x))
    | (extract_lets +onlyGivenNames x; clear_value x)

theorem Dev.writeLs_keeps {s : Dev} (src : Src) (b : Blk) (i : Nat) (o : Nat) (e : Nat) (v : Nat) (hw : List Coincident) (hs : s.Canonical) :
    (Dev.writeLs s src b i o e v hw).Canonical := by
  unfold Dev.writeLs
  with_reducible repeat' first
    | assumption | apply doLsEnSet_keeps | apply doLsEnClear_keeps | apply doRearm_keeps | apply Dev.plain_keeps
    | apply Dev.modComb_keeps | (split)

theorem Dev.writeCore_keeps {s : Dev} (src : Src) (b : Blk) (i : Nat) (o : Nat) (e : Nat) (v : Nat) (hw : List Coincident) (hs : s.Canonical) :
    (Dev.writeCore s src b i o e v hw).Canonical := by
  unfold Dev.writeCore
  with_reducible repeat' first
    | assumption | apply Dev.plain_keeps | apply doCsEnSet_keeps | apply doCsEnClear_keeps | apply Dev.noteQuota_keeps
    | apply doSyKnotVal_keeps | apply Dev.setKnot_keeps | apply doContinue_keeps | apply doFlush_keeps | apply doQueueCreate_keeps
    | apply doQueueDelete_keeps | apply doResetError_keeps | apply Dev.dmaRetry_keeps | (split)

theorem Dev.writeDebug_keeps {s : Dev} (src : Src) (b : Blk) (i : Nat) (o : Nat) (e : Nat) (v : Nat) (hw : List Coincident) (hs : s.Canonical) :
    (Dev.writeDebug s src b i o e v hw).Canonical := by
  unfold Dev.writeDebug
  with_reducible repeat' first
    | assumption | apply doCcHalt_keeps | apply doCcResume_keeps | apply doCcStep_keeps | apply Dev.haltRefused_keeps
    | apply Dev.plain_keeps | apply doVeHalt_keeps | apply doVeResume_keeps | (split)

theorem Dev.forgetPeers_keeps {s : Dev} (port : Nat) (hs : s.Canonical) :
    (Dev.forgetPeers s port).Canonical := by
  unfold Dev.forgetPeers
  with_reducible repeat' first
    | assumption | apply Dev.modOptic_keeps | apply foldl_keeps | apply foldl_keeps1 | exact Dev.keep_mk (by assumption) rfl
    | (intro _) | (refine canonical_of_fst (by assumption) ?_) | (split)
    | (extract_lets +onlyGivenNames x; refine_lift (have hx : Dev.Canonical x := ?_; ?_); (on_goal 1 => clear_value x); (on_goal 2 => subst x))
    | (extract_lets +onlyGivenNames x; clear_value x)

theorem Dev.writeFabric_keeps {s : Dev} (src : Src) (b : Blk) (i : Nat) (o : Nat) (e : Nat) (v : Nat) (hw : List Coincident) (hs : s.Canonical) :
    (Dev.writeFabric s src b i o e v hw).Canonical := by
  unfold Dev.writeFabric
  with_reducible repeat' first
    | assumption | apply Dev.plain_keeps | apply Dev.forgetPeers_keeps | apply Dev.portOn_keeps | apply Dev.portOff_keeps
    | apply Dev.wr_keeps | apply Dev.settleFabric_keeps | (split)

theorem Dev.writePa_keeps {s : Dev} (src : Src) (o : Nat) (e : Nat) (v : Nat) (hw : List Coincident) (hs : s.Canonical) :
    (Dev.writePa s src o e v hw).Canonical := by
  unfold Dev.writePa
  with_reducible repeat' first
    | assumption | apply doPartitionCreate_keeps | apply doPartitionRelease_keeps | apply doKeySwitch_keeps
    | apply doFkeyWordWrite_keeps | apply doGranuleReassign_keeps | apply Dev.plain_keeps | apply Dev.regate_keeps
    | apply doPaMboxRsp_keeps | apply doPaMboxReq_keeps | apply foldl_keeps | (intro _)
    | (refine canonical_of_fst (by assumption) ?_) | (split)
    | (extract_lets +onlyGivenNames x; refine_lift (have hx : Dev.Canonical x := ?_; ?_); (on_goal 1 => clear_value x); (on_goal 2 => subst x))
    | (extract_lets +onlyGivenNames x; clear_value x)

theorem Dev.writeTr_keeps {s : Dev} (src : Src) (o : Nat) (e : Nat) (v : Nat) (hw : List Coincident) (hs : s.Canonical) :
    (Dev.writeTr s src o e v hw).Canonical := by
  unfold Dev.writeTr
  with_reducible repeat' first
    | assumption | apply doTrTail_keeps | apply Dev.plain_keeps | apply Dev.wr_keeps | (split)

theorem Dev.writeIsland_keeps {s : Dev} (src : Src) (b : Blk) (o : Nat) (e : Nat) (v : Nat) (hw : List Coincident) (hs : s.Canonical) :
    (Dev.writeIsland s src b o e v hw).Canonical := by
  unfold Dev.writeIsland
  with_reducible repeat' first
    | assumption | apply doBootHeaderWrite_keeps | apply doSave_keeps | apply doReboot_keeps | apply Dev.bt_keeps
    | apply doFlRead_keeps | apply doFlProgram_keeps | apply doFlErase4k_keeps | apply doFlErase64k_keeps
    | apply doRequest_keeps | apply Dev.plain_keeps | exact Dev.keep_mk (by assumption) rfl | (intro _; rfl) | (intro _)
    | (refine canonical_of_fst (by assumption) ?_) | (split)
    | (extract_lets +onlyGivenNames x; refine_lift (have hx : Dev.Canonical x := ?_; ?_); (on_goal 1 => clear_value x); (on_goal 2 => subst x))
    | (extract_lets +onlyGivenNames x; clear_value x)

theorem Dev.writeBlock_keeps {s : Dev} (src : Src) (b : Blk) (i : Nat) (o : Nat) (e : Nat) (v : Nat) (hw : List Coincident) (hs : s.Canonical) :
    (Dev.writeBlock s src b i o e v hw).Canonical := by
  unfold Dev.writeBlock
  with_reducible repeat' first
    | assumption | apply Dev.writeTile_keeps | apply Dev.writeRings_keeps | apply Dev.writeLl_keeps | apply Dev.writeLs_keeps
    | apply Dev.writeCore_keeps | apply Dev.writeDebug_keeps | apply Dev.writeFabric_keeps | apply Dev.writePa_keeps
    | apply Dev.writeTr_keeps | apply Dev.writeIsland_keeps | apply Dev.plain_keeps | apply foldl_keeps | apply foldl_keeps1
    | exact Dev.keep_mk (by assumption) rfl | (intro _) | (refine canonical_of_fst (by assumption) ?_) | (split)
    | (extract_lets +onlyGivenNames x; refine_lift (have hx : Dev.Canonical x := ?_; ?_); (on_goal 1 => clear_value x); (on_goal 2 => subst x))
    | (extract_lets +onlyGivenNames x; clear_value x)

theorem Dev.unmapped_keeps {s : Dev} (hs : s.Canonical) :
    (Dev.unmapped s).Canonical := by
  unfold Dev.unmapped
  with_reducible repeat' first
    | assumption | apply Dev.report_keeps | apply Dev.bump_keeps | exact Dev.keep_mk (by assumption) rfl

theorem Dev.writePage_keeps {s : Dev} (src : Src) (b : Blk) (i : Nat) (o : Nat) (v : Nat) (hw : List Coincident) (hs : s.Canonical) :
    (Dev.writePage s src b i o v hw).Canonical := by
  unfold Dev.writePage
  with_reducible repeat' first
    | assumption | apply Dev.foreign_keeps | apply Dev.hwOnly_keeps | apply Dev.writeHdr_keeps | apply Dev.writeBlock_keeps
    | (split)
    | (extract_lets +onlyGivenNames x; refine_lift (have hx : Dev.Canonical x := ?_; ?_); (on_goal 1 => clear_value x); (on_goal 2 => subst x))
    | (extract_lets +onlyGivenNames x; clear_value x)

theorem doBadWidth_keeps (src : Src) (off : Nat) (len : Nat) (isWrite : Bool) {s : Dev} (hs : s.Canonical) :
    (doBadWidth src off len isWrite s).Canonical := by
  unfold doBadWidth
  with_reducible repeat' first
    | assumption | apply Dev.wr_keeps | apply Dev.foreign_keeps | apply Dev.report_keeps | apply Dev.bump_keeps | (split)
    | (extract_lets +onlyGivenNames x; refine_lift (have hx : Dev.Canonical x := ?_; ?_); (on_goal 1 => clear_value x); (on_goal 2 => subst x))
    | (extract_lets +onlyGivenNames x; clear_value x)

theorem doHiUnmapped_keeps (src : Src) (bar : Nat) (off : Nat) (_isWrite : Bool) {s : Dev} (hs : s.Canonical) :
    (doHiUnmapped src bar off _isWrite s).Canonical := by
  unfold doHiUnmapped
  with_reducible repeat' first
    | assumption | apply Dev.unmapped_keeps | apply foldl_keeps | apply foldl_keeps1 | exact Dev.keep_mk (by assumption) rfl
    | (intro _) | (refine canonical_of_fst (by assumption) ?_) | (split)
    | (extract_lets +onlyGivenNames x; refine_lift (have hx : Dev.Canonical x := ?_; ?_); (on_goal 1 => clear_value x); (on_goal 2 => subst x))
    | (extract_lets +onlyGivenNames x; clear_value x)

theorem Dev.aerUncorr_keeps {s : Dev} (hs : s.Canonical) :
    (Dev.aerUncorr s).Canonical := by
  unfold Dev.aerUncorr
  with_reducible repeat' first
    | assumption | apply Dev.report_keeps | apply Dev.bump_keeps | exact Dev.keep_mk (by assumption) rfl

theorem Dev.tickTime_keeps {s : Dev} (hs : s.Canonical) :
    (Dev.tickTime s).Canonical := by
  unfold Dev.tickTime
  with_reducible repeat' first
    | assumption | apply Dev.tm_keeps | apply Dev.pass_keeps | apply Dev.bump_keeps | exact Dev.keep_mk (by assumption) rfl
    | (intro _) | (split)
    | (extract_lets +onlyGivenNames x; refine_lift (have hx : Dev.Canonical x := ?_; ?_); (on_goal 1 => clear_value x); (on_goal 2 => subst x))
    | (extract_lets +onlyGivenNames x; clear_value x)

theorem Dev.tickSlots_keeps {s : Dev} (t : Nat) (hs : s.Canonical) :
    (Dev.tickSlots s t).Canonical := by
  unfold Dev.tickSlots
  with_reducible repeat' first
    | assumption | apply Dev.modTile_keeps | apply Dev.calProbe_keeps | apply Dev.bump_keeps | (split)
    | (extract_lets +onlyGivenNames x; refine_lift (have hx : Dev.Canonical x := ?_; ?_); (on_goal 1 => clear_value x); (on_goal 2 => subst x))
    | (extract_lets +onlyGivenNames x; clear_value x)

theorem Dev.during_keeps {s : Dev} (on : Bool) (f : Field) (i : Nat) (hs : s.Canonical) :
    (Dev.during s on f i).Canonical := by
  unfold Dev.during
  with_reducible repeat' first
    | assumption | apply Dev.bump_keeps | apply foldl_keeps | apply foldl_keeps1 | exact Dev.keep_mk (by assumption) rfl
    | (intro _) | (refine canonical_of_fst (by assumption) ?_) | (split)
    | (extract_lets +onlyGivenNames x; refine_lift (have hx : Dev.Canonical x := ?_; ?_); (on_goal 1 => clear_value x); (on_goal 2 => subst x))
    | (extract_lets +onlyGivenNames x; clear_value x)

theorem Dev.tickCounts_keeps {s : Dev} (hs : s.Canonical) :
    (Dev.tickCounts s).Canonical := by
  unfold Dev.tickCounts
  with_reducible repeat' first
    | assumption | apply Dev.during_keeps | apply foldl_keeps | (intro _)

theorem Dev.memoryErrors_keeps {s : Dev} (hs : s.Canonical) :
    (Dev.memoryErrors s).Canonical := by
  unfold Dev.memoryErrors
  with_reducible repeat' first
    | assumption | apply Dev.fresh_keeps | apply Dev.pf_keeps | apply Dev.putBad_keeps | (split)

theorem Dev.tick_keeps {s : Dev} (hs : s.Canonical) :
    (Dev.tick s).Canonical := by
  unfold Dev.tick
  with_reducible repeat' first
    | assumption | apply Dev.tickTime_keeps | apply Dev.coreCode_keeps | apply Dev.tickCounts_keeps | apply Dev.tickSlots_keeps
    | apply Dev.memoryErrors_keeps | apply foldl_keeps | (intro _) | (refine canonical_of_fst (by assumption) ?_) | (split)
    | (extract_lets +onlyGivenNames x; refine_lift (have hx : Dev.Canonical x := ?_; ?_); (on_goal 1 => clear_value x); (on_goal 2 => subst x))
    | (extract_lets +onlyGivenNames x; clear_value x)

end Sys2Proof.Machine
end

