-- ==== Sys2Proof/WellFormed.lean ====
section
/-! DEFINITION. Which commands are well formed: every number lies in the range the spec gives its operand. -/
namespace Sys2Proof

/-- A source that exists: a function below 64, a partition below 64, firmware on CC16 to CC19. -/
def srcOk : Src → Bool
  | .pf0 => true
  | .vf n => decide (1 ≤ n) && decide (n < 64)
  | .smbus => true
  | .fabric p => decide (p < 64)
  | .firmware c => decide (16 ≤ c) && decide (c < 20)

/-- An agent that exists (R305). -/
def agentOk : Agent → Bool
  | .queue n => decide (n < 65536)
  | .ve n => decide (n < 64)
  | .cc n => decide (n < 20)
  | .dma n => decide (n < 8)
  | .peer f => decide (f < 65536)
  | .reg p => decide (p < 64)

/-- An arrival at a knot: an agent and an operation that exist. -/
def arrivalOk (x : KnotArrival) : Bool := agentOk x.agent && decide (x.op < 4)

/-- A submission entry with opcode `n` of a queue that exists (R252, R259, R260). -/
def cmdOk (n : Nat) (c : Cmd) : Bool := decide (c.queue < 65536) && c.w0.toNat % 256 == n

/-- A packet whose header fields fit their widths (R325). -/
def headerOk (p : Packet) : Bool :=
  decide (p.typ < 16) && decide (p.src < 65536) && decide (p.dst < 65536) && decide (p.part < 64) && decide (p.port < 32) &&
  decide (p.lane < 8)

/-- A packet of TYPE `n` (R326). -/
def packetOk (n : Nat) (p : Packet) : Bool := headerOk p && p.typ == n

/-- A COIL packet with operation `n` (R326). -/
def coilOk (n : Nat) (p : Packet) : Bool := packetOk 8 p && (p.ext.getD 1 0).toNat % 16 == n

/-- A CTRL packet with operation `n` (R326). -/
def ctrlOk (n : Nat) (p : Packet) : Bool := packetOk 10 p && (p.ext.getD 0 0).toNat % 256 == n

/-- The ranges of a command's operands. -/
def Instr.wf : Instr → Bool
  | .inputPowerValid => true
  | .inputPowerLoss => true
  | .pmInputRange => true
  | .pmRailFault rail => decide (rail < 11)
  | .resetRecognisedLow _ => true
  | .resetRelease _ _ => true
  | .btResetStuck _ => true
  | .pcieConfigRequest _ => true
  | .hiLinkDown => true
  | .bootComplete => true
  | .restoreComplete => true
  | .fwloadComplete => true
  | .warmupComplete => true
  | .warmupBoundExpiry => true
  | .discoveryComplete => true
  | .discoveryTimeout => true
  | .flRead src => srcOk src
  | .flProgram src => srcOk src
  | .flErase4k src => srcOk src
  | .flErase64k src => srcOk src
  | .flashOperationComplete _ => true
  | .flTimeout => true
  | .journalProgram => true
  | .save src => srcOk src
  | .reboot src => srcOk src
  | .bootHeaderWrite src _ _ => srcOk src
  | .factoryTableCopy => true
  | .calStoreMapWrite tile _ => decide (tile < 16)
  | .setPointImageWrite tile _ => decide (tile < 16)
  | .smbusSetPointer count _ => decide (count < 256)
  | .smbusBlockRead => true
  | .smbusAlertResponse => true
  | .registerWrite src _ _ _ => srcOk src
  | .badWidth src _ _ _ => srcOk src
  | .hiUnmapped src bar _ _ => srcOk src && decide (bar < 6)
  | .btEarlyAccess src _ _ => srcOk src
  | .cntClear src page _ => srcOk src && decide (page < 242)
  | .hostBar2Access fn _ _ => decide (fn < 64)
  | .paceUpdate _ => true
  | .powerLimiterTick _ _ _ _ => true
  | .thermalCheck sensor _ => decide (sensor < 33)
  | .doorbellWrite src queue _ => srcOk src && decide (queue < 65536)
  | .queueCreate src queue => srcOk src && decide (queue < 65536)
  | .queueDelete src queue => srcOk src && decide (queue < 65536)
  | .resetError src queue => srcOk src && decide (queue < 65536)
  | .queueFetch _ => true
  | .commandDispatch queue => decide (queue < 65536)
  | .commandCompletion queue _ => decide (queue < 65536)
  | .coalescingTimeout queue => decide (queue < 65536)
  | .bankIdleRelease tile => decide (tile < 16)
  | .nop c => cmdOk 0x00 c
  | .wait c => cmdOk 0x01 c
  | .signal c => cmdOk 0x02 c
  | .epoch c => cmdOk 0x10 c
  | .patchOpen c => cmdOk 0x11 c
  | .patchClear c => cmdOk 0x12 c
  | .patchRetrieve c => cmdOk 0x13 c
  | .patchClose c => cmdOk 0x14 c
  | .spliceLocal c => cmdOk 0x15 c
  | .patchStateIdle tile desc => decide (tile < 16) && decide (desc < 128)
  | .coilAlloc c => cmdOk 0x20 c
  | .coilFree c => cmdOk 0x21 c
  | .coilRead c => cmdOk 0x22 c
  | .coilWrite c => cmdOk 0x23 c
  | .coilAppend c => cmdOk 0x24 c
  | .coilScan c => cmdOk 0x25 c
  | .coilMigrate c => cmdOk 0x26 c
  | .coilPin c => cmdOk 0x27 c
  | .coilUnpin c => cmdOk 0x28 c
  | .coilMirror c => cmdOk 0x29 c
  | .coilQuery c => cmdOk 0x2A c
  | .coilPolicy c => cmdOk 0x2B c
  | .coilAdmission _ => true
  | .clockSweep nbhd => decide (nbhd < 8)
  | .migrationStart nbhd => decide (nbhd < 8)
  | .migrationSwitch _ _ => true
  | .frameZeroingDone nbhd tier => decide (nbhd < 8) && decide (tier < 2)
  | .mirrorSetupDone _ _ => true
  | .memoryDeviceLost device => decide (device < 40)
  | .tableCopyRebuilt => true
  | .csEnSet src => srcOk src
  | .csEnClear src => srcOk src
  | .csReady => true
  | .dmaCopy c => cmdOk 0x30 c
  | .dmaFill c => cmdOk 0x31 c
  | .dmaTransferComplete engine _ _ => decide (engine < 8)
  | .veLaunch c => cmdOk 0x38 c
  | .veReturn engine _ _ => decide (engine < 64)
  | .veException engine _ _ => decide (engine < 64)
  | .remoteWrite c => cmdOk 0x40 c
  | .remoteRead c => cmdOk 0x41 c
  | .remoteAtomic c => cmdOk 0x42 c
  | .remoteSplice c => cmdOk 0x43 c
  | .packerRow tile => decide (tile < 16)
  | .staticEntryWidening tile entry _ => decide (tile < 16) && decide (entry < 64)
  | .tileRowStart tile => decide (tile < 16)
  | .planeCheck tile _ => decide (tile < 16)
  | .replayBlock tile => decide (tile < 16)
  | .recomputation tile => decide (tile < 16)
  | .rowAddendsAdd tile => decide (tile < 16)
  | .bankLoadComplete tile => decide (tile < 16)
  | .columnSumCheck tile => decide (tile < 16)
  | .bankSwap tile => decide (tile < 16)
  | .refreshBurst tile => decide (tile < 16)
  | .idleBankRefresh tile seg => decide (tile < 16) && decide (seg < 8)
  | .epochCommandEnd tile => decide (tile < 16)
  | .supervisionWindowClose tile => decide (tile < 16)
  | .qrate src quad rate => srcOk src && decide (quad < 4) && decide (rate < 4)
  | .rateChangeDrained quad => decide (quad < 4)
  | .rateChangeLocked quad => decide (quad < 4)
  | .tileEn src tile _ => srcOk src && decide (tile < 16)
  | .returnSet src tile => srcOk src && decide (tile < 16)
  | .calTriggerEvaluation tile => decide (tile < 16)
  | .request src _ => srcOk src
  | .calibrationLoad tile => decide (tile < 16)
  | .calibrationSwap tile => decide (tile < 16)
  | .pmCalLate tile => decide (tile < 16)
  | .frameEvent => true
  | .lockGroupUpdate tile group _ _ => decide (tile < 16) && decide (group < 5032)
  | .hotspotLimiter tile => decide (tile < 16)
  | .heatEnSet src tile => srcOk src && decide (tile < 16)
  | .heatEnClear src tile => srcOk src && decide (tile < 16)
  | .heaterRampEnd tile => decide (tile < 16)
  | .ringSearchDone tile _ => decide (tile < 16)
  | .freeze src tile _ => srcOk src && decide (tile < 16)
  | .llRegularTrigger unit trig => decide (unit < 17) && decide (trig < 4)
  | .regGo src unit => srcOk src && decide (unit < 17)
  | .injGo src unit => srcOk src && decide (unit < 17)
  | .llSetConverted unit _ => decide (unit < 17)
  | .llRingTail src unit _ => srcOk src && decide (unit < 17)
  | .injectionStart unit cause ring leg => decide (unit < 17) && decide (cause < 4) && decide (ring < 147456) && decide (leg < 64)
  | .injectionEnd unit => decide (unit < 17)
  | .llHousekeeping unit _ => decide (unit < 17)
  | .syscalZero src => srcOk src
  | .syscalFull src => srcOk src
  | .syscalCommit src => srcOk src
  | .syscalStepDone _ => true
  | .legHint tile leg => decide (tile < 16) && decide (leg < 64)
  | .legTrip tile leg _ => decide (tile < 16) && decide (leg < 64)
  | .legBlankingEnd tile leg _ => decide (tile < 16) && decide (leg < 64)
  | .legTripWindowEnd tile => decide (tile < 16)
  | .hmLegRearm src tile _ => srcOk src && decide (tile < 16)
  | .close src tile => srcOk src && decide (tile < 16)
  | .railRisen quad => decide (quad < 4)
  | .legEnable tile leg => decide (tile < 16) && decide (leg < 64)
  | .combBiasUpdate comb _ => decide (comb < 4)
  | .laneBiasUpdate engine lane _ => decide (engine < 4) && decide (lane < 64)
  | .lsEnSet src source => srcOk src && decide (source < 8)
  | .lsEnClear src source => srcOk src && decide (source < 8)
  | .rearm src source => srcOk src && decide (source < 8)
  | .lsDrvOc source => decide (source < 8)
  | .combRampEnd comb => decide (comb < 4)
  | .laneRetune engine lane _ => decide (engine < 4) && decide (lane < 64)
  | .laneTuned engine lane => decide (engine < 4) && decide (lane < 64)
  | .lsTuneFail engine lane => decide (engine < 4) && decide (lane < 64)
  | .rxPowerReading engine lane _ => decide (engine < 4) && decide (lane < 64)
  | .powerReportSend port => decide (port < 32)
  | .lsPeerStale port lane => decide (port < 32) && decide (lane < 8)
  | .knotAdd agent knot x => agentOk agent && decide (knot < 8192) && x.same.all arrivalOk
  | .knotSub agent knot x => agentOk agent && decide (knot < 8192) && x.same.all arrivalOk
  | .knotSet agent knot x => agentOk agent && decide (knot < 8192) && x.same.all arrivalOk
  | .knotConfig agent knot x => agentOk agent && decide (knot < 8192) && x.same.all arrivalOk
  | .knotWait engine knot _ _ => decide (engine < 84) && decide (knot < 8192)
  | .readFull engine _ => decide (engine < 84)
  | .take engine _ => decide (engine < 84)
  | .put engine _ _ => decide (engine < 84)
  | .fill engine _ _ => decide (engine < 84)
  | .clear engine _ => decide (engine < 84)
  | .syKnotVal src knot _ same => srcOk src && decide (knot < 8192) && same.all arrivalOk
  | .deadlockEvaluation => true
  | .syWaitTimeout _ => true
  | .continue src queue => srcOk src && decide (queue < 65536)
  | .flush src queue => srcOk src && decide (queue < 65536)
  | .frameReceive port lane frame => decide (port < 32) && decide (lane < 8) && headerOk frame.packet
  | .llrAck port lane _ => decide (port < 32) && decide (lane < 8)
  | .llrNak port lane _ => decide (port < 32) && decide (lane < 8)
  | .powerFrame port lane _ => decide (port < 32) && decide (lane < 8)
  | .linkState port lane _ => decide (port < 32) && decide (lane < 8)
  | .linkStateSend port lane => decide (port < 32) && decide (lane < 8)
  | .llrAckIdle port lane => decide (port < 32) && decide (lane < 8)
  | .fxLlrExhausted port lane => decide (port < 32) && decide (lane < 8)
  | .linkLockLoss port lane => decide (port < 32) && decide (lane < 8)
  | .linkUpTimeout port lane => decide (port < 32) && decide (lane < 8)
  | .planeSkipExpiry peer plane => decide (peer < 65536) && decide (plane < 32)
  | .ack p => packetOk 0 p
  | .readReq p => packetOk 1 p
  | .readResp p => packetOk 2 p
  | .write p => packetOk 3 p
  | .signalMessage p => packetOk 4 p
  | .atomic p => packetOk 5 p
  | .atomicResp p => packetOk 6 p
  | .splice p => packetOk 7 p
  | .coilMsgCopy p => coilOk 0 p
  | .coilMsgWrite p => coilOk 1 p
  | .coilMsgAppend p => coilOk 2 p
  | .coilMsgRelease p => coilOk 3 p
  | .coilMsgFetch p => coilOk 4 p
  | .coilMsgData p => coilOk 5 p
  | .coilMsgStore p => coilOk 6 p
  | .packetApply engine => decide (engine < 4)
  | .hello p => packetOk 9 p
  | .helloSend => true
  | .coordinatorElection => true
  | .keepaliveSend => true
  | .keepalive p => ctrlOk 7 p
  | .gtCoordLost => true
  | .demandReportSend => true
  | .demand p => ctrlOk 0 p
  | .channelAssignment => true
  | .assign p => ctrlOk 1 p
  | .assignAcceptStop port lane => decide (port < 32) && decide (lane < 8)
  | .assignActivation port lane => decide (port < 32) && decide (lane < 8)
  | .members p => ctrlOk 2 p
  | .routes p => ctrlOk 3 p
  | .peerDown p => ctrlOk 6 p
  | .ackTimerExpiry peer _ => decide (peer < 65536)
  | .busyResend peer _ => decide (peer < 65536)
  | .timeExchange => true
  | .timeReq p => ctrlOk 4 p
  | .timeResp p => ctrlOk 5 p
  | .ppsEdge => true
  | .tmPpsMissing => true
  | .ppsOutSecond => true
  | .partitionCreate src part => srcOk src && decide (part < 64)
  | .partitionRelease src part => srcOk src && decide (part < 64)
  | .paReleased part => decide (part < 64)
  | .keySwitch src part => srcOk src && decide (part < 64)
  | .fkeyWordWrite src part keyId word _ => srcOk src && decide (part < 64) && decide (keyId < 256) && decide (word < 4)
  | .previousKeyDrop part => decide (part < 64)
  | .granuleReassign src granule owner => srcOk src && decide (granule < 24832) && decide (owner < 64)
  | .granuleZeroed granule => decide (granule < 24832)
  | .engineOwnerChange engine => decide (engine < 84)
  | .quantumExpiry tile => decide (tile < 16)
  | .tileHandover tile => decide (tile < 16)
  | .paMboxReq src => srcOk src
  | .paMboxRsp src part => srcOk src && decide (part < 64)
  | .breakpointHit core bp _ => decide (core < 20) && decide (bp < 8)
  | .ccHalt src core => srcOk src && decide (core < 20)
  | .ccResume src core => srcOk src && decide (core < 20)
  | .ccStep src core => srcOk src && decide (core < 20)
  | .ccDrainEnd core => decide (core < 20)
  | .veHalt src engine => srcOk src && decide (engine < 64)
  | .veResume src engine => srcOk src && decide (engine < 64)
  | .traceSnapshot part => decide (part < 64)
  | .trTail src part _ => srcOk src && decide (part < 64)
  | .veEngineFault engine => decide (engine < 64)
  | .ccPairSplit core => decide (core < 20)
  | .ccFwHalt pair => decide (pair < 2)
  | .resetInputRecognisedHigh _ _ => true
  | .pcieLinkUp _ _ => true
  | .laneAlignmentFecLock port lane => decide (port < 32) && decide (lane < 8)
  | .pcieCompletionTimeout queue engine _ => decide (queue < 65536) && decide (engine < 8)
  | .routerAdvertisement port _ => decide (port < 32)
  | .neighborDiscovery port _ => decide (port < 32)
  | .arpReply port _ => decide (port < 32)
  | .pausePfcFrame port => decide (port < 32)
  | .heaterBitstreamPeriod tile => decide (tile < 16)
  | .hintComparatorRearm tile leg => decide (tile < 16) && decide (leg < 64)
  | .sequencerCcFault core => decide (core < 20)
  | .retainedBiasWrite comb => decide (comb < 4)

end Sys2Proof
end

