-- ==== Sys2Proof/Tests/Slice0.lean ====
section
/-! SUPPORT. Small tests: the well-formedness checks, worked examples of the spec, and for every clause of every statement a state and
operands that meet its hypotheses. -/
set_option Elab.async false
set_option linter.unusedVariables false
namespace Sys2Proof
namespace Machine

/-! Helpers: modules with some fields set, and operands -/

/-- Event `e` of instance `i` is not masked. -/
def Dev.unmask (d : Dev) (e : Event) (i : Nat) : Dev := d.wr Reg.PAGE_ERR_MASK (pageOf e.blk i) 0

/-- The module powered, in start-up state `n`. -/
def Dev.inState (d : Dev) (n : Nat) : Dev := { d with boot := { d.boot with power := true } }.wr Reg.BT_STATE_STATE 0 n

/-- The module in READY. -/
def Dev.up (d : Dev) : Dev := d.inState 7

/-- An entry of zeros. -/
def c0 : Cmd := ⟨0, 0, 0, 0, 0, 0, 0, 0, 0⟩

/-- A register field back at its reset value in every instance. -/
def Dev.clr (d : Dev) (f : Field) : Dev := { d with regs := NMap.erase d.regs f.id }

/-- Staging granules 24576 and 24577 assigned to partition 0, vector engines free. -/
def Dev.feReady (d : Dev) : Dev := ((((({ d with badMem := [], engOwner := [] }.up.clr Reg.QS_ROWBUF_EN).clr Reg.VE_STATUS_FAULTED).wr
  Reg.PA_MEM_OWNER_OWNER 24576 0).wr Reg.PA_MEM_OWNER_ASSIGNED 24576 1).wr Reg.PA_MEM_OWNER_OWNER 24577 0).wr Reg.PA_MEM_OWNER_ASSIGNED 24577 1

/-- A routine at the start of staging, for the running firmware. -/
def Dev.routineAt (d : Dev) : Dev := (((((((d.wr Reg.BT_FW_SFW_IF_VER 0 0x203).clr Reg.VE_STATUS_STATE).wr Reg.QM_Q_CFG_PARTITION 5 0).putLe
  stagingBase 4 0x52564448).putLe (stagingBase + 4) 2 0x200).putLe (stagingBase + 16) 4 0x1000).putLe (stagingBase + 20) 4 64)

/-- The first two HBM granules assigned to partition 0. -/
def Dev.hbmReady (d : Dev) : Dev := (((({ d with badMem := [] }.up.wr Reg.CS_STATUS_LOST_STACKS 0 0).wr Reg.PA_MEM_OWNER_OWNER 0 0).wr
  Reg.PA_MEM_OWNER_ASSIGNED 0 1).wr Reg.PA_MEM_OWNER_OWNER 1 0).wr Reg.PA_MEM_OWNER_ASSIGNED 1 1

/-- An entry of queue 5 for PT3. -/
def ct : Cmd := { c0 with queue := 5, w1 := 3 * 2 ^ 32 }

/-- PT3 in service, held by partition 0, with queue 5 of partition 0. -/
def Dev.tileReady (d : Dev) : Dev := (((({ d with waits := [] }.up.wr Reg.QM_Q_CFG_PARTITION 5 0).wr Reg.PA_TILE_CFG_HOLDER 3 0).wr
  Reg.CC_STATUS_STATE 3 0).wr Reg.PT_STATUS_SVC 3 2).wr Reg.PM_CAL_TILE_RUNNING 3 0

/-- An EPOCH on imported scales. -/
def epc : Cmd := { ct with w2 := 4096, w3 := 4 + 512 * 65536, w4 := 256, w5 := 65536 + 2 ^ 52, w6 := 8 * 2 ^ 48 + 2 ^ 57 + 131072, w7 := 8192 }

/-- The same for an I8 pass pair. -/
def pairCmd : Cmd := { epc with w5 := 65536 + 2 ^ 52 + 2 ^ 49 }

/-- A run of it. -/
def pairRun : Run := { id := 4, c := pairCmd, target := 4, img := pairCmd, firstHi := true, limit := 5, packed := 5, started := 5 }

/-- A row of it, decided. -/
def pairRow : Row :=
  { tag := 7, run := 4, idx := 0, pass := 0, width := 1, codes := [], stok := 0, zp := 0, key := 9, dec := (List.range 8).map (fun k => (k, [3, -7])) }

/-- REFIN within its coarse window. -/
def Dev.refinFine (d : Dev) : Dev := (d.wr Reg.LL_REFIN_IN_TOL 16 1).wr Reg.LL_REFIN_REFIN 16 12500

/-- The locks of PT3 not frozen. -/
def Dev.locksFree (d : Dev) : Dev := (d.up.wr Reg.LK_CTRL_FREEZE 3 0).wr Reg.HM_CTRL_DITHER_EN 3 1

/-- Port `p` in direct mode. -/
def Dev.direct (d : Dev) (p : Nat) : Dev := d.wr Reg.FX_CTRL_MODE p 3

/-- Leadline unit `u` ready for a regular pass on trigger `trig`. -/
def Dev.passOk (d : Dev) (u trig : Nat) : Dev := (((((((d.up.wr Reg.LL_CTRL_REG_EN u 1).wr Reg.LL_STATUS_SYSCAL_BUSY u 0).wr Reg.LL_STATUS_REG_STATE
  u 1).wr Reg.LL_RING_HEAD_RECORD u 0).wr Reg.LL_RING_TAIL_RECORD u 0).wr Reg.LL_LEN_REG_LEN u 5).wr Reg.LL_RING_SIZE_LOG2 u 14).wr
  Reg.LL_CTRL_REG_TRIG u trig

/-- A list entry of 40 channels. -/
def llBig : Nat := 1 + 39 * 2 ^ 22

/-- A LIVE coil of two frames. -/
def ck : Coil := { state := 1, cls := 0, ext := [0x2000000, 0x2001000], gen := 7, owner := 0 }

/-- A coil command on slot 9. -/
def cc : Cmd := { ct with w2 := 7 * 2 ^ 32 + 9 }

/-- The context store in service with contents `x`. -/
def Dev.coilOn (d : Dev) (x : CoilStore) : Dev := ((((((((({ d with coilOps := [], coil := x }.hbmReady.wr Reg.CS_CTRL_EN 0 1).wr
  Reg.CS_STATUS_READY 0 1).wr Reg.CS_TABLE_LOG2_SLOTS 0 16).wr Reg.CS_TABLE0_BASE 0 16).wr Reg.CS_TABLE1_BASE 0 (2 ^ 20)).wr Reg.QM_Q_CFG_PARTITION
  5 0).wr Reg.QM_Q_CFG_GROUP 5 0).wr Reg.CS_STATUS_LOST_LPDDR 0 0).wr Reg.CS_PART_HOSTBASE_BASE 0 0)

/-- The same with coil `k` in slot 9. -/
def Dev.coilK (d : Dev) (k : Coil) : Dev := d.coilOn { coils := [(9, k)], fresh := 12, chunks := [(0, { used := [8192, 8193] })] }

/-- A fabric key. -/
def fk : FKey := ⟨3, [1, 2, 3, 4]⟩

/-- The transport in service with contents `f`, one link up, peer 8 known. -/
def Dev.fabOn (d : Dev) (f : Fabric) : Dev :=
  (((((((({ d with parts := [(0, { cur := some fk })], fabric := { f with links := if f.links = [] then [(17, { up := true })] else f.links } }.up.wr
  Reg.GT_CTRL_EN 0 1).wr Reg.GT_NODE_FNID 0 40).wr Reg.GT_PEER_STATE 8 1).wr Reg.GT_PEER_INCARNATION 8 6).wr Reg.FX_CTRL_MODE 2 3).wr
  Reg.GT_CTRL_MODE 0 0).wr Reg.GT_ROUTE 8 1).wr Reg.GT_ROUTE 0 0)

/-- A packet from peer 8 on that link. -/
def pk : Packet :=
  { typ := 3, last := true, ordered := false, hops := 0, src := 8, dst := 40, part := 0, psn := 5, idx := 0, queue := 3, inc := 6, keyId := 3, time := 0, ext := [], data := [], tag := 0, ce := false, port := 2, lane := 1 }

/-- The packet with its tag. -/
def sgn (p : Packet) : Packet := { p with tag := p.tagUnder fk }

/-- A message in flight. -/
def mg : Msg :=
  { id := 4, peer := 8, part := 0, queue := 5, typ := 3, ordered := false, reply := false, fin := .cmd { ct with w2 := 8 * 2 ^ 48 }, ext := [4096, 8], data := [1, 2], total := 1, key := some fk, base := 70, next := 1 }

/-- Its packet in flight. -/
def ou : Out := { msg := 4, idx := 0, peer := 8, part := 0, psn := 70, path := 0, links := 1, timer := 0 }

/-- An ACK of it. -/
def acks (f st : Nat) : Packet := sgn { pk with typ := 0, psn := 2 ^ 47 + 3, ext := [BitVec.ofNat 64 (70 + f * 2 ^ 48), BitVec.ofNat 64 st] }

/-- A frame kept for replay. -/
def rp : Replay := ⟨6, { pk with src := 40, dst := 8 }, 0, 2⟩

/-- A remote command to peer 8. -/
def tcmd : Cmd := { ct with w2 := 8 * 2 ^ 48 + 0x1000, w3 := 0x2000 + 2 ^ 48, w4 := 40, w5 := 9 }

/-- An EPOCH that loads a bank. -/
def bk : Cmd :=
  { ct with w4 := 256, w5 := BitVec.ofNat 64 (65536 + 2 ^ 52), w6 := BitVec.ofNat 64 (8 * 2 ^ 48 + 2 ^ 57 + 131072), w7 := BitVec.ofNat 64 4096 }

/-- An EPOCH on codes already packed. -/
def packed : Cmd := { epc with w6 := 8 * 2 ^ 48 + 3 * 2 ^ 55 + 2 ^ 57 + 131072 }

/-- A module that takes it. -/
def bkDev : Dev := ((({ ({} : Dev) with mem := [] }.hbmReady.tileReady.wr Reg.PT_CTRL_TILE_EN 3 0).wr Reg.QM_TILE_PREEMPT_BITS 0 0).setTile 3
  { nextSeq := 4 }).putLe 70000 8 5

/-- What an image read gave. -/
def epLv : Image → List Int × List Nat × Nat | .ok a b c => (a, b, c) | _ => ([], [], 0)

/-- Partition 0 stalled for a second at one WAIT of queue 5, with deadlock action `act`. -/
def stalledDev (act : Nat) : Dev :=
  let d : Dev := { queues := [(5, { slots := [⟨ct, 0, true, false, 0⟩] })], waits := [⟨7, .knot 70, .queue 5, 0, 5, 9, some ct⟩],
                   knots := [(70, { waiters := [⟨7, .queue 5, 0, 9, false⟩] })] }
  (((((d.up.wr Reg.SY_CTRL_DL_EN 0 1).wr Reg.SY_CTRL_DL_ACTION 0 act).wr Reg.QM_Q_STATE_STATE 5 2).wr Reg.SY_PART_STATE_STALLED 0 1).wr
    Reg.SY_PART_STATE_STALLED_US 0 (10 ^ 6)).wr Reg.SY_CTRL_DL_TIME 0 (10 ^ 6) |>.unmask Ev.SY_DEADLOCK 0 |>.wr Reg.TR_CTRL_EN 0 0

/-- A vector engine at work on INT8 sums in staging. -/
def macDev : Dev :=
  { ({} : Dev) with engines := [(3, { cmd := some { c0 with queue := 5 } })],
                    mem := [(stagingBase, 4), (stagingBase + 4, 0x80), (stagingBase + 5, 9), (stagingBase + 6, 0x7F)] }.feReady.wr Reg.TR_CTRL_EN 0 0

/-- A copy of 24 bytes to host memory. -/
def toHostCmd : Cmd :=
  { c0 with queue := 5, w0 := 0x30, w1 := 2 * 2 ^ 36, w2 := BitVec.ofNat 64 stagingBase, w3 := BitVec.ofNat 64 (hostBase + 64), w4 := 24 + 2 ^ 32 }

/-- The module past the steps of R321, in start-up state `n`. -/
def discovering (n : Nat) : Dev :=
  (((((List.range 4).foldl (fun (x : Dev) q => (x.wr Reg.LS_STATUS_AT_TARGET q 1).wr Reg.HM_STATUS_RAIL_OPEN (4 * q) 0)
    ({ ({} : Dev) with fabric := { coord := { members := [⟨40, 7, 6, 0, 0, 0, false⟩] } } }.inState n)).wr Reg.GT_COORD_COORD_VALID 0 1).wr
    Reg.GT_NODE_VALID 0 1).wr Reg.TM_CTRL_LOCKED 0 1)

/-- A row of run 4 under load 8. -/
def rowA : Row := ⟨7, 4, 0, 0, 8, [1, 2], 3, 4, 8, [], [], false⟩

/-- A run of `epc` on load 8. -/
def runA : Run := { id := 4, c := epc, target := 4, img := epc, firstHi := false, limit := 5, packed := 2 }

/-- A load of bank B, its levels sent or not. -/
def loadB (sent : Bool) : Load := ⟨true, 8, [1, 2], [3], 0, 0, 0, none, 0, sent, false, some ct⟩

/-- A run on codes already packed. -/
def runP : Run := { runA with c := packed, img := packed, recs := [0, 0, 0x800100] }

/-- PT3 with a row of a run ready to be added. -/
def addDev : Dev :=
  ((({ ({} : Dev) with mem := [(acBase 3, 5)] }.tileReady.wr Reg.TR_CTRL_EN 0 0).wr Reg.PT_STATUS_ACTIVE_BANK 3 0).setTile 3
    { runs := [{ runA with packed := 5, started := 5 }], rows := [{ rowA with width := 1, dec := (List.range 8).map (fun k => (k, [3, -7])) }]
      bankA := { loaded := true, key := 8, levels := [1, 2, 3], scales := [0x7F00], verified := true } })

/-- Tiles of quadrant 1 at the end of a rate change. -/
def rateDev : Dev :=
  (List.range 4).foldl (fun (x : Dev) i => (x.wr Reg.PT_STATUS_SVC (4 + i) 5).wr Reg.PM_CAL_TILE_RUNNING (4 + i) 0)
    ({ ({} : Dev) with rate := [(1, 3)] }.up.wr Reg.PT_CTRL_QRATE 4 1)

/-- PT3 with two rings of heater group 6 locked, two frames after reset. -/
def lockDev : Dev :=
  { ({} : Dev) with frames := 2, rings := [(3, { on := true, rings := [(100, { int := 4096 * 5, state := 2 }), (101, { int := 2 })] })] }.locksFree

/-- The context store with room for a coil in HBM. -/
def allocDev : Dev :=
  (((((((({} : Dev).coilOn { coils := [(9, ck)], fresh := 9 + 1 }).wr Reg.CS_PART_SLOTS_LIVE 0 2).wr Reg.CS_PART_SLOTS_SLOT_QUOTA 0 4).wr
    Reg.CS_POL_DATA 128 4).wr Reg.CS_POOL_POOL_CHUNKS 0 2).wr Reg.PA_MEM_OWNER_ASSIGNED 1022 1).wr Reg.PA_MEM_OWNER_ASSIGNED 1023 1).wr
    Reg.CS_PART_QUOTA_HBM 0 5

/-- The context store with a coil and room in LPDDR. -/
def moveDev : Dev :=
  (((({} : Dev).coilK ck).wr Reg.CS_PART_QUOTA_LPDDR 0 5).wr Reg.CS_POOL_POOL_CHUNKS 8 2).wr Reg.PA_MEM_OWNER_ASSIGNED 10238 1 |>.wr
    Reg.PA_MEM_OWNER_ASSIGNED 10239 1

theorem some_get (o : Option (Dev × Nat × List Nat)) (h : o.isSome = true) : ∃ u b l, o = some (u, b, l) := by
  cases o with
  | none => cases h
  | some x => exact ⟨x.1, x.2.1, x.2.2, rfl⟩

/-- A move of the coil in slot 9 of a kind, under way. -/
def mv (k : MoveKind) (dst : List Nat) : Move := { slot := 9, gen := 7, kind := k, tier := 0, dst := dst, started := true }

/-- A module that lends peer 8 two pages. -/
def lendDev : Dev :=
  ({ ({} : Dev) with mem := [(0x4000, 8)] }.fabOn {}).coilOn
    { coils := [(9, ck)], fresh := 12, loans := [⟨8, 0x700000004, [(0, 0x4001), (2, 0x5001)]⟩] }

/-- A message of peer 8 on the coil it lent. -/
def lendMsg (kind off : Nat) (data : List Byte) : Packet :=
  { pk with typ := 8, ext := [0x700000004, BitVec.ofNat 64 kind, BitVec.ofNat 64 off], data := data }

/-- A coordinator whose members are the tree that one more demand gives. -/
def demandDev : Dev :=
  let x := (({} : Dev).fabOn {}).wr Reg.ID_SERIAL 0 999 |>.wr Reg.GT_COORD_IS_COORD 0 1
  let u := x.takeDemand 8 [] 4 true []
  { x with fabric := { x.fabric with coord := { x.fabric.coord with members := (u.tree u.seats).map (fun (m : Seat) => m.1) } } }

/-- Codes of a plane, five of them out of range. -/
def oorCodes : List Int := (List.range 1152).map (fun i => if i % 300 = 5 then 481 + 2 else 0)

theorem out_of_table (s : Dev) (a n : Nat) (h : ∀ b ∈ [s.rd Reg.CS_TABLE0_BASE 0, s.rd Reg.CS_TABLE1_BASE 0], a + n ≤ b * 65536 ∨ b * 65536 + s.tableSlots * 128 ≤ a) :
    ∀ j, j < n → ¬ s.inTable (a + j) := by
  intro j hj ⟨b, hb, h1, h2⟩
  have := h b hb
  omega

theorem authentic_sgn (s : Dev) (p : Packet) (h : s.recvKey p.part p.keyId = some fk) : s.authentic (sgn p) = true := by
  have h' : s.recvKey (sgn p).part (sgn p).keyId = some fk := h
  unfold Dev.authentic
  rw [h']
  exact beq_self_eq_true _

/-- What a packet needs to be heard, but for its tag. -/
def Dev.hearsBut (s : Dev) (p : Packet) : Bool :=
  s.recvKey p.part p.keyId == some fk && s.flag Reg.GT_CTRL_EN 0 && p.dst == s.fnid && !p.ce && !(s.peer p.src).former.contains p.inc &&
  s.rd Reg.GT_PEER_STATE p.src != 0 && s.rd Reg.GT_PEER_INCARNATION p.src == p.inc && (s.directPort p.port || p.sumOk)

theorem hears_sgn (s : Dev) (p : Packet) (h : s.hearsBut p = true) : s.hears (sgn p) := by
  simp only [Dev.hearsBut, Bool.and_eq_true, Bool.not_eq_true', beq_iff_eq, bne_iff_ne, ne_eq, Bool.or_eq_true] at h
  obtain ⟨⟨⟨⟨⟨⟨⟨hk, he⟩, hd⟩, hc⟩, hf⟩, hs⟩, hi⟩, ho⟩ := h
  exact ⟨he, hd, hc, authentic_sgn s p hk, hf, hs, hi, ho⟩

/-- What a packet needs to be committed and answered, beside that. -/
def Dev.roomFor (s : Dev) (p : Packet) : Bool :=
  decide (p.psn < 2 ^ 47 ∧ (s.winOf p).low ≤ p.psn ∧ p.psn < (s.winOf p).low + 1024 ∧ p.psn ∉ (s.winOf p).seen ∧ s.fabric.rxq = [] ∧
    p.size ≤ rxBuffer ∧ (s.sendKey 0).isSome ∧ (s.link (s.linkOf p.port p.lane)).up = true ∧ (s.peer p.src).ackSeq < 2 ^ 47 ∧
    (s.directPort p.port = true ∨ ((NMap.get ({} : Gateway) s.fabric.gateways p.port).mac).isSome))

theorem takes_sgn (s : Dev) (p : Packet) (h : (s.hearsBut p && s.roomFor p) = true) : s.takesPacket (sgn p) :=
  ⟨hears_sgn s p (Bool.and_eq_true_iff.mp h).1, of_decide_eq_true (Bool.and_eq_true_iff.mp h).2⟩

theorem leNat_zeros (l : List Byte) (h : ∀ b ∈ l, b = 0) : leNat l = 0 := by
  induction l with
  | nil => rfl
  | cons a r ih =>
    have ha := h a (by simp)
    have hr := ih (fun b hb => h b (by simp [hb]))
    subst ha
    simp [leNat, hr]

/-- An image of zeros that nothing refuses and no mask touches. -/
def Dev.plainImage (s : Dev) (c : Cmd) (m : SpareMap) : Bool :=
  refuseStatus (s.loadFor (s.cPart c) c.wtAddr (128 * weightBytes c.wfmt)).2 == 0 &&
  refuseStatus (s.loadFor (s.cPart c) c.scaleAddr (256 * groupCount c.gsize)).2 == 0 &&
  (List.range 128).all (fun j => !m.colMasked j) && (List.range 256).all (fun i => !m.rowMasked i) &&
  (s.loadFor (s.cPart c) c.scaleAddr (256 * groupCount c.gsize)).1.all (fun b => b == 0)

theorem find_unmasked (f g : Nat → Bool) (n : Nat) (h : (List.range n).all (fun j => !f j) = true) :
    (List.range n).find? (fun j => f j && g j) = none := by
  rw [List.find?_eq_none]
  intro j hj
  have := List.all_eq_true.mp h j hj
  simp_all

theorem image_ok (s : Dev) (t : Nat) (c : Cmd) (hi : Bool) (m : SpareMap) (h : s.plainImage c m = true) :
    ∃ a b z, s.readImages t c hi m = .ok a b z := by
  simp only [Dev.plainImage, Bool.and_eq_true, beq_iff_eq] at h
  obtain ⟨⟨⟨⟨h1, h2⟩, h3⟩, h4⟩, h5⟩ := h
  unfold Dev.readImages
  simp only [h1, h2, ne_eq, not_true_eq_false, if_false, find_unmasked _ _ _ h3, find_unmasked _ _ _ h4]
  rw [if_neg]
  · exact ⟨_, _, _, rfl⟩
  · rw [List.any_map, Bool.not_eq_true, List.any_eq_false]
    intro k hk
    have z : leNat (((s.loadFor (s.cPart c) c.scaleAddr (256 * groupCount c.gsize)).1.drop (2 * (k / 8 * groupCount c.gsize + k % 8))).take 2) = 0 :=
      leNat_zeros _ (fun b hb => by
        have := List.all_eq_true.mp h5 b (List.mem_of_mem_drop (List.mem_of_mem_take hb))
        simpa using this)
    have z0 : s16Reserved 0 = false := by decide
    simp only [Function.comp_apply, z, ite_self, z0, Bool.false_eq_true, not_false_eq_true]

/-! Worked examples of the spec, and fixed values it states -/

theorem test_i8_minus_one : (i8Hi 0xFF, i8Lo 0xFF) = (-1, 15) := by decide +kernel

theorem test_s16_values : [0x7F00, 0x7E80, 0x7B00, 0].map s16Val = [2 ^ 149, 3 * 2 ^ 147, 2 ^ 145, 0] := by decide +kernel

theorem test_kn4_levels : [7, 0xE, 4, 0xB].map kn4Level = [15, -10, 5, -3] := by decide +kernel

theorem test_addends : (addend 146 0x7E80 0x7B00 true, addend (-96) 0x7E80 0x7B00 true) = (32876277279804621, -21617278211378381) := by
  decide +kernel

theorem test_retrieve_bf16_e4m3 : (toFloat fmtBf16 11258999068426240, toFloat fmtE4M3 11258999068426240) = ((0x3E20, false), (0x22, false)) := by
  decide +kernel

theorem test_check_levels : [18, 87, 10, -95].map sym31 = [-13, -6, 10, -2] := by decide +kernel

/-- The group-sample of the example of spec/03, with columns 3 and 9 as given. -/
def sample (c3 c9 : Int) : List Int := [20, 0, 0, c3, 0, 0, 0, 0, 0, c9, 0, 0, 0, 0, 0, -10, -3, -8]

theorem test_syndromes : [sample 8 10, sample 8 11, sample 9 9].map (fun x => (syn0 x, syn1 x, flagged x)) =
    [(0, 0, false), (1, 10, true), (0, 25, true)] := by decide +kernel

theorem test_token_scale : scaleOf false 8 (-27 * 2 ^ 146) (37 * 2 ^ 147) = ⟨0x7A96, 68, false⟩ := by decide +kernel

theorem test_quantise : ([3 * 2 ^ 148, -3 * 2 ^ 147, 17 * 2 ^ 146, -27 * 2 ^ 146, 37 * 2 ^ 147].map (fun v => (quantise (s16Val 0x7A96) 68 8 (.fin v)).q)) =
    [98, 53, 111, 0, 255] := by decide +kernel

theorem test_addend_example_a : addend 851 0x7B20 0x7A96 true = 14245794917489050 := by decide +kernel

theorem test_widened_entry : widened (BitVec.ofNat 64 (0x7A80 + 64 * 2 ^ 16 + 8 * 2 ^ 32 + 2 ^ 38)) (-13 * 2 ^ 147) (17 * 2 ^ 148) =
    ⟨0x7A89, 68, false⟩ ∧ clipExceeds 20 65536 12 = true := by decide +kernel

theorem test_narrow_splice : fromFp32 (toFloat fmtFp32 (-72057591890444288)).1 = -72057594037927936 := by decide +kernel

theorem test_lock_update : lockDemand 61440000 32 20 (-7366) = 7636 ∧ groupCeiling 160768 (7636 :: List.replicate 15 10400) = 10208 := by
  decide +kernel

theorem test_converter_reading :
    ({ ({} : Dev) with ll := [(5, { coefs := [(3, 52, 32994)] })] }).reading 5 3 1000 = 16058 := by decide +kernel

theorem test_ring_history : (((({ ring := true, cls := 4, ext := [0x10000, 0x50000, 0x90000], head := 5424, count := 24576 } : Coil)).reads 10000 1,
    ({ ring := true, cls := 4, ext := [0x10000, 0x50000, 0x90000], head := 5424, count := 24576 } : Coil).reads 24575 1)) =
    ([(0x50000 + 57856, 8)], [(0x10000 + 43384, 8)]) := by decide +kernel

theorem test_start_generation : (({} : Dev).wr Reg.BT_BOOT_COUNT_COUNT 0 37).startGen = 0x9401 ∧ mkHandle 5 0x9401 0x7BC9A2 = 0x14009401007BC9A2 := by
  decide +kernel

theorem test_policy_word : (fun w => (polHome w, polFallback w, polN w, polWin w, polIdle w, polWarm w, polSpill w)) 0x44190320D =
    (1, true, 1, 100, 200, 34, 0) := by decide +kernel

theorem test_doorbell_address : isDoorbell 0x104D188 = true ∧ (0x104D188 - 0x1000000) / 0x8000 * 4096 + 0x104D188 % 0x8000 / 8 = 0x9A31 := by
  decide +kernel

theorem test_status_codes : [Ev.CS_STALE_HANDLE.status, stRange, Ev.QM_BAD_FORMAT.status, Ev.PT_OUT_OF_SERVICE.status, Ev.AC_SAT.status] =
    [0x0901, 0x0942, 0x0C01, 0x0F03, 0x1301] := by decide +kernel

theorem test_fold_peers : [(14, 40, 13), (9, 40, 4), (17, 100, 1)].map (fun (p, i, c) =>
    (((({} : Dev).wr Reg.GT_NODE_RING_N 0 512).wr Reg.GT_NODE_RING_INDEX 0 i).foldPeer p c)) = [171, 100, 171] := by decide +kernel

theorem test_strobe_code : strobeCode 7636 48 = 7684 := by decide +kernel

/-- A module at work with 1,207 replay blocks counted on PT9 and PT_RATE_HIGH raised. -/
def countDev : Dev := ({ ({} : Dev) with tiles := [(9, { everOn := true })] }.up.wr Reg.PT_REPLAYS 9 1207).wr Reg.PAGE_ERR (pageOf .PT 9) 1

theorem test_counter_write_meets_increment :
    (doRegisterWrite .pf0 0x109130 0 [⟨0, 1⟩] countDev).rd Reg.PT_REPLAYS 9 = 1 := by decide +kernel

theorem test_w1c_write_meets_set : (doRegisterWrite .pf0 0x109020 1 [⟨0, 1⟩] countDev).rd Reg.PAGE_ERR (pageOf .PT 9) = 1 ∧
    (doRegisterWrite .pf0 0x109020 1 [] countDev).rd Reg.PAGE_ERR (pageOf .PT 9) = 0 := by decide +kernel

theorem test_underflow_leaves_knot : (doKnotSub (.queue 0x410) 0x303 3 [] { ({} : Dev).up with knots := [(0x303, { val := 2 })] }).knot 0x303 =
    { val := 2 } := by decide +kernel

theorem test_second_free_is_stale : (((doCoilFree cc (doCoilFree cc (({} : Dev).coilK ck))).queue 5).done.map (fun x => x.status)) = [0, 0x0901] := by
  decide +kernel

theorem test_empty_memory_canonical : State.reset.dev.Canonical := by
  unfold Dev.Canonical
  decide +kernel

/-! Well-formedness: for each check of each command, a term that fails it alone. -/

theorem test_ill_formed_1 : (([
    .pmRailFault 11, .flRead (.vf 64), .flProgram (.vf 64), .flErase4k (.vf 64), .flErase64k (.vf 64), .save (.vf 64), .reboot (.vf 64),
    .bootHeaderWrite (.vf 64) 0 0, .calStoreMapWrite 16 true, .setPointImageWrite 16 true, .smbusSetPointer 256 0,
    .registerWrite (.vf 64) 0 0 [], .badWidth (.vf 64) 0 0 true, .hiUnmapped (.vf 64) 0 0 true, .hiUnmapped .pf0 6 0 true,
    .btEarlyAccess (.vf 64) 0 true, .cntClear (.vf 64) 0 [], .cntClear .pf0 242 [], .hostBar2Access 64 0 (.read 1), .thermalCheck 33 0,
    .doorbellWrite (.vf 64) 0 0, .doorbellWrite .pf0 65536 0, .queueCreate (.vf 64) 0, .queueCreate .pf0 65536, .queueDelete (.vf 64) 0,
    .queueDelete .pf0 65536, .resetError (.vf 64) 0, .resetError .pf0 65536, .commandDispatch 65536, .commandCompletion 65536 true,
    .coalescingTimeout 65536, .bankIdleRelease 16, .nop { c0 with w0 := 0x01 }, .wait { c0 with w0 := 0x00 }, .signal { c0 with w0 := 0x03 },
    .epoch { c0 with w0 := 0x11 }, .patchOpen { c0 with w0 := 0x10 }, .patchClear { c0 with w0 := 0x13 },
    .patchRetrieve { c0 with w0 := 0x12 }, .patchClose { c0 with w0 := 0x15 }] : List Instr).all (fun i => !i.wf)) = true := by decide +kernel

theorem test_ill_formed_2 : (([
    .spliceLocal { c0 with w0 := 0x14 }, .patchStateIdle 16 0, .patchStateIdle 0 128, .coilAlloc { c0 with w0 := 0x21 },
    .coilFree { c0 with w0 := 0x20 }, .coilRead { c0 with w0 := 0x23 }, .coilWrite { c0 with w0 := 0x22 }, .coilAppend { c0 with w0 := 0x25 },
    .coilScan { c0 with w0 := 0x24 }, .coilMigrate { c0 with w0 := 0x27 }, .coilPin { c0 with w0 := 0x26 }, .coilUnpin { c0 with w0 := 0x29 },
    .coilMirror { c0 with w0 := 0x28 }, .coilQuery { c0 with w0 := 0x2B }, .coilPolicy { c0 with w0 := 0x2A }, .clockSweep 8,
    .migrationStart 8, .frameZeroingDone 8 0, .frameZeroingDone 0 2, .memoryDeviceLost 40, .csEnSet (.vf 64), .csEnClear (.vf 64),
    .dmaCopy { c0 with w0 := 0x31 }, .dmaFill { c0 with w0 := 0x30 }, .dmaTransferComplete 8 0 0, .veLaunch { c0 with w0 := 0x39 },
    .veReturn 64 0 ⟨0, []⟩, .veException 64 0 ⟨0, []⟩, .remoteWrite { c0 with w0 := 0x41 }, .remoteRead { c0 with w0 := 0x40 },
    .remoteAtomic { c0 with w0 := 0x43 }, .remoteSplice { c0 with w0 := 0x42 }, .packerRow 16, .staticEntryWidening 16 0 none,
    .staticEntryWidening 0 64 none, .tileRowStart 16, .planeCheck 16 [], .replayBlock 16, .recomputation 16, .rowAddendsAdd 16] : List Instr).all (fun i => !i.wf)) = true := by decide +kernel

theorem test_ill_formed_3 : (([
    .bankLoadComplete 16, .columnSumCheck 16, .bankSwap 16, .refreshBurst 16, .idleBankRefresh 16 0, .idleBankRefresh 0 8, .epochCommandEnd 16,
    .supervisionWindowClose 16, .qrate (.vf 64) 0 0, .qrate .pf0 4 0, .qrate .pf0 0 4, .rateChangeDrained 4, .rateChangeLocked 4,
    .tileEn (.vf 64) 0 true, .tileEn .pf0 16 true, .returnSet (.vf 64) 0, .returnSet .pf0 16, .calTriggerEvaluation 16, .request (.vf 64) 0,
    .calibrationLoad 16, .calibrationSwap 16, .pmCalLate 16, .lockGroupUpdate 16 0 [] true, .lockGroupUpdate 0 5032 [] true,
    .hotspotLimiter 16, .heatEnSet (.vf 64) 0, .heatEnSet .pf0 16, .heatEnClear (.vf 64) 0, .heatEnClear .pf0 16, .heaterRampEnd 16,
    .ringSearchDone 16 [], .freeze (.vf 64) 0 true, .freeze .pf0 16 true, .llRegularTrigger 17 0, .llRegularTrigger 0 4, .regGo (.vf 64) 0,
    .regGo .pf0 17, .injGo (.vf 64) 0, .injGo .pf0 17, .llSetConverted 17 []] : List Instr).all (fun i => !i.wf)) = true := by decide +kernel

theorem test_ill_formed_4 : (([
    .llRingTail (.vf 64) 0 0, .llRingTail .pf0 17 0, .injectionStart 17 0 0 0, .injectionStart 0 4 0 0, .injectionStart 0 0 147456 0,
    .injectionStart 0 0 0 64, .injectionEnd 17, .llHousekeeping 17 [], .syscalZero (.vf 64), .syscalFull (.vf 64), .syscalCommit (.vf 64),
    .legHint 16 0, .legHint 0 64, .legTrip 16 0 true, .legTrip 0 64 true, .legBlankingEnd 16 0 true, .legBlankingEnd 0 64 true,
    .legTripWindowEnd 16, .hmLegRearm (.vf 64) 0 0, .hmLegRearm .pf0 16 0, .close (.vf 64) 0, .close .pf0 16, .railRisen 4, .legEnable 16 0,
    .legEnable 0 64, .combBiasUpdate 4 [], .laneBiasUpdate 4 0 0, .laneBiasUpdate 0 64 0, .lsEnSet (.vf 64) 0, .lsEnSet .pf0 8,
    .lsEnClear (.vf 64) 0, .lsEnClear .pf0 8, .rearm (.vf 64) 0, .rearm .pf0 8, .lsDrvOc 8, .combRampEnd 4, .laneRetune 4 0 0,
    .laneRetune 0 64 0, .laneTuned 4 0, .laneTuned 0 64] : List Instr).all (fun i => !i.wf)) = true := by decide +kernel

theorem test_ill_formed_5 : (([
    .lsTuneFail 4 0, .lsTuneFail 0 64, .rxPowerReading 4 0 0, .rxPowerReading 0 64 0, .powerReportSend 32, .lsPeerStale 32 0, .lsPeerStale 0 8,
    .knotAdd (.ve 64) 0 ⟨0, []⟩, .knotAdd (.ve 0) 8192 ⟨0, []⟩, .knotSub (.ve 64) 0 ⟨0, []⟩, .knotSub (.ve 0) 8192 ⟨0, []⟩, .knotSet (.ve 64) 0 ⟨0, []⟩,
    .knotSet (.ve 0) 8192 ⟨0, []⟩, .knotConfig (.ve 64) 0 ⟨true, []⟩, .knotConfig (.ve 0) 8192 ⟨true, []⟩, .knotWait 84 0 0 true, .knotWait 0 8192 0 true,
    .readFull 84 0, .take 84 0, .put 84 0 0, .fill 84 0 0, .clear 84 0, .syKnotVal (.vf 64) 0 0 [], .syKnotVal .pf0 8192 0 [],
    .continue (.vf 64) 0, .continue .pf0 65536, .flush (.vf 64) 0, .flush .pf0 65536, .frameReceive 32 0 ⟨0, 0, pk, 0, 0⟩,
    .frameReceive 0 8 ⟨0, 0, pk, 0, 0⟩, .frameReceive 0 0 ⟨0, 0, { pk with port := 32 }, 0, 0⟩, .llrAck 32 0 0, .llrAck 0 8 0,
    .llrNak 32 0 0, .llrNak 0 8 0, .powerFrame 32 0 [], .powerFrame 0 8 [], .linkState 32 0 true, .linkState 0 8 true, .linkStateSend 32 0] : List Instr).all (fun i => !i.wf)) = true := by decide +kernel

theorem test_ill_formed_6 : (([
    .linkStateSend 0 8, .llrAckIdle 32 0, .llrAckIdle 0 8, .fxLlrExhausted 32 0, .fxLlrExhausted 0 8, .linkLockLoss 32 0, .linkLockLoss 0 8,
    .linkUpTimeout 32 0, .linkUpTimeout 0 8, .planeSkipExpiry 65536 0, .planeSkipExpiry 0 32, .ack { pk with typ := 15 },
    .readReq { pk with typ := 15 }, .readResp { pk with typ := 15 }, .write { pk with typ := 15 }, .signalMessage { pk with typ := 15 },
    .atomic { pk with typ := 15 }, .atomicResp { pk with typ := 15 }, .splice { pk with typ := 15 },
    .coilMsgCopy { pk with typ := 8, ext := [0, 1] }, .coilMsgWrite { pk with typ := 8, ext := [0, 2] },
    .coilMsgAppend { pk with typ := 8, ext := [0, 3] }, .coilMsgRelease { pk with typ := 8, ext := [0, 4] },
    .coilMsgFetch { pk with typ := 8, ext := [0, 5] }, .coilMsgData { pk with typ := 8, ext := [0, 6] },
    .coilMsgStore { pk with typ := 8, ext := [0, 7] }, .packetApply 4, .hello { pk with typ := 15 },
    .keepalive { pk with typ := 10, ext := [8] }, .demand { pk with typ := 10, ext := [1] }, .assign { pk with typ := 10, ext := [2] },
    .assignAcceptStop 32 0, .assignAcceptStop 0 8, .assignActivation 32 0, .assignActivation 0 8, .members { pk with typ := 10, ext := [3] },
    .routes { pk with typ := 10, ext := [4] }, .peerDown { pk with typ := 10, ext := [7] }, .ackTimerExpiry 65536 0, .busyResend 65536 0] : List Instr).all (fun i => !i.wf)) = true := by decide +kernel

theorem test_ill_formed_7 : (([
    .timeReq { pk with typ := 10, ext := [5] }, .timeResp { pk with typ := 10, ext := [6] }, .partitionCreate (.vf 64) 0,
    .partitionCreate .pf0 64, .partitionRelease (.vf 64) 0, .partitionRelease .pf0 64, .paReleased 64, .keySwitch (.vf 64) 0,
    .keySwitch .pf0 64, .fkeyWordWrite (.vf 64) 0 0 0 0, .fkeyWordWrite .pf0 64 0 0 0, .fkeyWordWrite .pf0 0 256 0 0,
    .fkeyWordWrite .pf0 0 0 4 0, .previousKeyDrop 64, .granuleReassign (.vf 64) 0 0, .granuleReassign .pf0 24832 0, .granuleReassign .pf0 0 64,
    .granuleZeroed 24832, .engineOwnerChange 84, .quantumExpiry 16, .tileHandover 16, .paMboxReq (.vf 64), .paMboxRsp (.vf 64) 0,
    .paMboxRsp .pf0 64, .breakpointHit 20 0 0, .breakpointHit 0 8 0, .ccHalt (.vf 64) 0, .ccHalt .pf0 20, .ccResume (.vf 64) 0,
    .ccResume .pf0 20, .ccStep (.vf 64) 0, .ccStep .pf0 20, .ccDrainEnd 20, .veHalt (.vf 64) 0, .veHalt .pf0 64, .veResume (.vf 64) 0,
    .veResume .pf0 64, .traceSnapshot 64, .trTail (.vf 64) 0 0, .trTail .pf0 64 0] : List Instr).all (fun i => !i.wf)) = true := by decide +kernel

theorem test_ill_formed_8 : (([
    .veEngineFault 64, .ccPairSplit 20, .ccFwHalt 2, .laneAlignmentFecLock 32 0, .laneAlignmentFecLock 0 8, .pcieCompletionTimeout 65536 0 0,
    .pcieCompletionTimeout 0 8 0, .routerAdvertisement 32 0, .neighborDiscovery 32 0, .arpReply 32 0, .pausePfcFrame 32,
    .heaterBitstreamPeriod 16, .hintComparatorRearm 16 0, .hintComparatorRearm 0 64, .sequencerCcFault 20, .retainedBiasWrite 4] : List Instr).all (fun i => !i.wf)) = true := by decide +kernel

theorem test_well_formed : (([
    .pmRailFault 0, .setPointImageWrite 0 true, .doorbellWrite .pf0 0 0, .wait { c0 with w0 := 0x01 }, .coilAlloc { c0 with w0 := 0x20 },
    .coilMirror { c0 with w0 := 0x29 }, .dmaCopy { c0 with w0 := 0x30 }, .remoteSplice { c0 with w0 := 0x43 }, .columnSumCheck 0,
    .tileEn .pf0 0 true, .heatEnSet .pf0 0, .llRingTail .pf0 0 0, .legBlankingEnd 0 0 true, .lsEnClear .pf0 0, .lsPeerStale 0 0, .fill 0 0 0,
    .linkState 0 0 true, .readResp { pk with typ := 2 }, .coilMsgRelease { pk with typ := 8, ext := [0, 3] }, .assignAcceptStop 0 0,
    .partitionCreate .pf0 0, .quantumExpiry 0, .veHalt .pf0 0, .routerAdvertisement 0 0] : List Instr).all Instr.wf) = true := by decide +kernel

theorem test_srcOk : (([.vf 0, .vf 64, .fabric 64, .firmware 15, .firmware 20] : List Src).all (fun x => !srcOk x)) = true := by decide +kernel

theorem test_agentOk : (([.queue 65536, .ve 64, .cc 20, .dma 8, .peer 65536, .reg 64] : List Agent).all (fun x => !agentOk x)) = true := by decide +kernel

theorem test_headerOk : (([{ pk with typ := 16 }, { pk with src := 65536 }, { pk with dst := 65536 }, { pk with part := 64 },
    { pk with port := 32 }, { pk with lane := 8 }] : List Packet).all (fun p => !headerOk p)) = true := by decide +kernel

theorem test_cmdOk : cmdOk 3 { c0 with queue := 65536, w0 := 3 } = false := by decide +kernel

/-! The hypotheses of every clause of every statement can be met: one theorem for each statement, one part for each clause -/

end Machine
open Machine

/-- The hypotheses of ResetInputs. -/
theorem witness_ResetInputs :
    (∃ (s : State), s.dev.boot.power = false) ∧
    (∃ (s : State), s.dev.boot.power = true) ∧
    (∃ (s : State) (i : ResetInput), s.dev.boot.power = true ∧ s.dev.bootState ≠ 1 ∧ s.dev.boot.op = none) ∧
    (∃ (s : State) (i : ResetInput) (hold : Nat), s.dev.boot.power = true ∧ s.dev.bootState = 1 ∧ s.dev.boot.trip = 0 ∧ s.dev.inputLow i = true ∧ (∀
      j, j ≠ i → s.dev.inputLow j = false)) ∧
    (∃ (s : State) (i : ResetInput) (hold : Nat), s.dev.boot.power = true ∧ s.dev.bootState = 1 ∧ s.dev.inputLow i = true ∧ (∃ j, j ≠ i ∧
      s.dev.inputLow j = true)) ∧
    (∃ (s : State) (i : ResetInput), s.dev.boot.power = true ∧ s.dev.inputLow i = true ∧ s.dev.masks Ev.BT_RESET_STUCK 0 = false) ∧
    (∃ (s : State) (src : Src), s.dev.reaches src .BT = .ok ∧ srcPart src = 0 ∧ 7 ≤ s.dev.bootState ∧ s.dev.boot.power = true ∧ s.dev.boot.modLow =
      false ∧ s.dev.boot.perstLow = false ∧ s.dev.boot.trip = 0) :=
  ⟨⟨⟨{ ({} : Dev) with boot := { ({} : Dev).boot with power := false } }, []⟩, by decide +kernel⟩,
    ⟨⟨({} : Dev).up, []⟩, by decide +kernel⟩,
    ⟨⟨{ ({} : Dev) with boot := { ({} : Dev).boot with op := none } }.up, []⟩, .modReset, by decide +kernel⟩,
    by refine ⟨⟨{ ({} : Dev) with boot := { ({} : Dev).boot with trip := 0, modLow := true, perstLow := false } }.inState 1, []⟩, .modReset, 5, ?_⟩; and_intros <;> first | decide +kernel | (intro j hj; cases j <;> first | exact absurd rfl hj | decide +kernel),
    ⟨⟨{ ({} : Dev) with boot := { ({} : Dev).boot with modLow := true, perstLow := true } }.inState 1, []⟩, .perst, 5, by decide +kernel,
      by decide +kernel, by decide +kernel, ⟨.modReset, by decide, by decide +kernel⟩⟩,
    ⟨⟨({ ({} : Dev) with boot := { ({} : Dev).boot with modLow := true } }.inState 1).unmask Ev.BT_RESET_STUCK 0, []⟩, .modReset, by decide +kernel⟩,
    ⟨⟨{ ({} : Dev) with boot := { ({} : Dev).boot with modLow := false, perstLow := false, trip := 0 } }.up, []⟩, .pf0, by decide +kernel⟩⟩

/-- The hypotheses of HostLink. -/
theorem witness_HostLink :
    (∃ (s : State) (ms : Nat), 2 ≤ s.dev.bootState) ∧
    (∃ (s : State) (speed width : Nat), 2 ≤ s.dev.bootState ∧ 1 ≤ speed ∧ speed ≤ 6 ∧ width ∈ [1, 4, 8, 16] ∧ s.dev.masks Ev.HI_SPEED_DEGRADED 0 =
      false) ∧
    (∃ (s : State), s.dev.flag Reg.HI_LINK_UP 0 = true ∧ s.dev.masks Ev.HI_LINK_DOWN 0 = false) :=
  ⟨⟨⟨({} : Dev).inState 2, []⟩, 5, by decide +kernel⟩,
    ⟨⟨(({} : Dev).inState 3).unmask Ev.HI_SPEED_DEGRADED 0, []⟩, 5, 8, by decide +kernel⟩,
    ⟨⟨(({} : Dev).up.wr Reg.HI_LINK_UP 0 1).unmask Ev.HI_LINK_DOWN 0, []⟩, by decide +kernel⟩⟩

/-- The hypotheses of StartUp. -/
theorem witness_StartUp :
    (∃ (s : State) (f : Sfdp), s.dev.bootState = 2 ∧ s.dev.boot.sfdp = some f ∧ 26 ≤ f.log2 ∧ f.log2 ≤ 28) ∧
    (∃ (s : State), s.dev.bootState = 2 ∧ (∀ f, s.dev.boot.sfdp = some f → f.log2 < 26 ∨ 28 < f.log2) ∧ s.dev.masks Ev.BT_FLASH 0 = false) ∧
    (∃ (s : State), s.dev.bootState = 3) ∧
    (∃ (s : State), s.dev.bootState = 4) :=
  ⟨⟨⟨{ ({} : Dev) with boot := { ({} : Dev).boot with sfdp := some ⟨27, 1, 80⟩ } }.inState 2, []⟩, ⟨27, 1, 80⟩, by decide +kernel⟩,
    ⟨⟨{ ({} : Dev) with boot := { ({} : Dev).boot with sfdp := none } }.inState 2 |>.unmask Ev.BT_FLASH 0, []⟩, by decide +kernel,
      (by intro f h; cases h), by decide +kernel⟩,
    ⟨⟨({} : Dev).inState 3, []⟩, by decide +kernel⟩,
    ⟨⟨({} : Dev).inState 4, []⟩, by decide +kernel⟩⟩

/-- The hypotheses of FlashEngine. -/
theorem witness_FlashEngine :
    (∃ (s : State) (src : Src), s.dev.reaches src .FL = .ok ∧ srcPart src = 0 ∧ s.dev.flag Reg.FL_STATUS_BUSY 0 = false ∧ s.dev.rd Reg.FL_ADDR_ADDR 0
      + (s.dev.rd Reg.FL_LEN_LEN_M1 0 + 1) ≤ 0x4000000 ∧ s.dev.protectedAt 1 (s.dev.rd Reg.FL_ADDR_ADDR 0) (s.dev.rd Reg.FL_LEN_LEN_M1 0 + 1) = none) ∧
    (∃ (s : State) (src : Src), s.dev.reaches src .FL = .ok ∧ srcPart src = 0 ∧ s.dev.flag Reg.FL_STATUS_BUSY 0 = false ∧ s.dev.rd Reg.FL_ADDR_ADDR 0
      + (s.dev.rd Reg.FL_LEN_LEN_M1 0 + 1) ≤ 0x4000000 ∧ s.dev.protectedAt 2 (s.dev.rd Reg.FL_ADDR_ADDR 0) (s.dev.rd Reg.FL_LEN_LEN_M1 0 + 1) = none ∧
      s.dev.notBlank (s.dev.rd Reg.FL_ADDR_ADDR 0) (s.dev.rd Reg.FL_LEN_LEN_M1 0 + 1) = none) ∧
    (∃ (s : State) (src : Src), s.dev.reaches src .FL = .ok ∧ srcPart src = 0 ∧ s.dev.flag Reg.FL_STATUS_BUSY 0 = false ∧ s.dev.rd Reg.FL_ADDR_ADDR 0
      % 4096 = 0 ∧ s.dev.rd Reg.FL_ADDR_ADDR 0 + 4096 ≤ 0x4000000 ∧ s.dev.protectedAt 3 (s.dev.rd Reg.FL_ADDR_ADDR 0) 4096 = none) ∧
    (∃ (s : State) (src : Src), s.dev.reaches src .FL = .ok ∧ srcPart src = 0 ∧ s.dev.flag Reg.FL_STATUS_BUSY 0 = false ∧ s.dev.rd Reg.FL_ADDR_ADDR 0
      % 65536 = 0 ∧ s.dev.rd Reg.FL_ADDR_ADDR 0 + 65536 ≤ 0x4000000 ∧ s.dev.protectedAt 4 (s.dev.rd Reg.FL_ADDR_ADDR 0) 65536 = none) ∧
    (∃ (s : State) (o : FlashOp), s.dev.boot.op = some o ∧ o.op = 2) ∧
    (∃ (s : State) (o : FlashOp) (r : Bool), s.dev.boot.op = some o ∧ 3 ≤ o.op) ∧
    (∃ (s : State) (o : FlashOp), s.dev.boot.op = some o ∧ s.dev.masks Ev.FL_TIMEOUT 0 = false) :=
  ⟨⟨⟨((({} : Dev).up.wr Reg.FL_STATUS_BUSY 0 0).wr Reg.FL_ADDR_ADDR 0 5).wr Reg.FL_LEN_LEN_M1 0 255, []⟩, .pf0, by decide +kernel⟩,
    ⟨⟨(((({ ({} : Dev) with boot := { ({} : Dev).boot with flash := [(5, 1)] } }).inState 9).wr Reg.FL_STATUS_BUSY 0 0).wr Reg.FL_ADDR_ADDR 0
      0x10000).wr Reg.FL_LEN_LEN_M1 0 255, []⟩, .pf0, by decide +kernel⟩,
    ⟨⟨(((({ ({} : Dev) with boot := { ({} : Dev).boot with flash := [(5, 1)] } }).inState 9).wr Reg.FL_STATUS_BUSY 0 0).wr Reg.FL_ADDR_ADDR 0
      0x11000).wr Reg.FL_LEN_LEN_M1 0 255, []⟩, .pf0, by decide +kernel⟩,
    ⟨⟨(((({ ({} : Dev) with boot := { ({} : Dev).boot with flash := [(5, 1)] } }).inState 9).wr Reg.FL_STATUS_BUSY 0 0).wr Reg.FL_ADDR_ADDR 0
      0x20000).wr Reg.FL_LEN_LEN_M1 0 255, []⟩, .pf0, by decide +kernel⟩,
    ⟨⟨{ ({} : Dev) with boot := { ({} : Dev).boot with flash := [(5, 1), (0x11000, 3), (0x11005, 7)], op := some ⟨2, 0x11000, 4, [1, 255, 2, 3]⟩ } }.up,
      []⟩, ⟨2, 0x11000, 4, [1, 255, 2, 3]⟩, by decide +kernel⟩,
    ⟨⟨{ ({} : Dev) with boot := { ({} : Dev).boot with flash := [(5, 1), (0x11000, 3), (0x11005, 7), (0x12000, 8)], op := some ⟨3, 0x11000, 4096, []⟩ } }.up,
      []⟩, ⟨3, 0x11000, 4096, []⟩, false, by decide +kernel⟩,
    ⟨⟨({ ({} : Dev) with boot := { ({} : Dev).boot with flash := [(5, 1), (0x11000, 3), (0x11005, 7), (0x12000, 8)], op := some ⟨2, 0x11000, 3, [1, 2, 3]⟩ } }.up).unmask
      Ev.FL_TIMEOUT 0, []⟩, ⟨2, 0x11000, 3, [1, 2, 3]⟩, by decide +kernel⟩⟩

/-- The hypotheses of PowerAndHeat. -/
theorem witness_PowerAndHeat :
    (∃ (s : State), s.dev.boot.power = true ∧ s.dev.masks Ev.PM_INPUT_RANGE 0 = false) ∧
    (∃ (s : State) (rail : Nat), s.dev.boot.power = true ∧ s.dev.masks Ev.PM_RAIL_FAULT 0 = false) ∧
    (∃ (s : State) (steps : Nat), 2 ≤ s.dev.bootState) ∧
    (∃ (s : State) (watts vin iin mv : Nat), 2 ≤ s.dev.bootState ∧ s.dev.flag Reg.PM_THERM_OVER 0 = false ∧ s.dev.rd Reg.PM_PWR_LIMIT_LIMIT_W 0 <
      watts ∧ 700 ≤ s.dev.rd Reg.PM_VCORE_SET_MV 0) ∧
    (∃ (s : State) (watts vin iin mv : Nat), 2 ≤ s.dev.bootState ∧ s.dev.flag Reg.PM_THERM_OVER 0 = false ∧ watts + 50 < s.dev.rd
      Reg.PM_PWR_LIMIT_LIMIT_W 0) ∧
    (∃ (s : State) (sensor : Nat) (temp : Int), sensor ≤ 30 ∧ 105 * 16 < temp ∧ s.dev.boot.power = true ∧ s.dev.boot.trip = 0 ∧ s.dev.masks
      Ev.PM_THERMTRIP 0 = false) :=
  ⟨⟨⟨({} : Dev).up.unmask Ev.PM_INPUT_RANGE 0, []⟩, by decide +kernel⟩,
    ⟨⟨({} : Dev).up.unmask Ev.PM_RAIL_FAULT 0, []⟩, 3, by decide +kernel⟩,
    ⟨⟨({} : Dev).up, []⟩, 5, by decide +kernel⟩,
    ⟨⟨((((({} : Dev).up.wr Reg.PM_THERM_OVER 0 0).wr Reg.PM_PWR_LIMIT_LIMIT_W 0 1900).wr Reg.PM_VCORE_SET_MV 0 702).unmask Ev.PM_PWR_LIMIT_HIT 0),
      []⟩, 1906, 2, 3, 4, by decide +kernel⟩,
    ⟨⟨(({} : Dev).up.wr Reg.PM_THERM_OVER 0 0).wr Reg.PM_PWR_LIMIT_LIMIT_W 0 1900, []⟩, 5, 2, 3, 4, by decide +kernel⟩,
    ⟨⟨({ ({} : Dev) with boot := { ({} : Dev).boot with trip := 0 } }.up).unmask Ev.PM_THERMTRIP 0, []⟩, 3, (1681 + 5 : Nat), by decide +kernel⟩⟩

/-- The hypotheses of Smbus. -/
theorem witness_Smbus :
    (∃ (s : State) (count off : Nat), s.dev.boot.power = true) ∧
    (∃ (s : State), s.dev.boot.power = true ∧ s.dev.boot.smPtr < 0x3000) ∧
    (∃ (s : State), s.dev.boot.power = true ∧ 0x3000 ≤ s.dev.boot.smPtr) ∧
    (∃ (s : State), s.dev.alert = true) :=
  ⟨⟨⟨({} : Dev).up, []⟩, 3, 5, by decide +kernel⟩,
    ⟨⟨{ ({} : Dev) with boot := { ({} : Dev).boot with smPtr := 5 % 0x600 * 8 } }.up, []⟩, by decide +kernel⟩,
    ⟨⟨{ ({} : Dev) with boot := { ({} : Dev).boot with smPtr := 0x3000 } }.up, []⟩, by decide +kernel⟩,
    ⟨⟨({} : Dev).up.wr Reg.PM_THERM_WARN 0 1, []⟩, by decide +kernel⟩⟩

/-- The hypotheses of StoredSettings. -/
theorem witness_StoredSettings :
    (∃ (s : State) (x : Nat × Nat) (r : List (Nat × Nat)), s.dev.boot.pending = x :: r ∧ settingFields x.1 ≠ [] ∧ s.dev.rd Reg.BT_JOURNAL_USED 0 + 513
      ≤ 16384 ∧ s.dev.notBlank (journalBase (s.dev.rd Reg.BT_JOURNAL_COPY 0) + 32 * s.dev.rd Reg.BT_JOURNAL_USED 0) 32 = none) ∧
    (∃ (s : State) (k : FKey), s.dev.boot.pending = [] ∧ s.dev.boot.pendingKey = true ∧ (s.dev.part 0).newest = some k ∧ s.dev.rd Reg.BT_JOURNAL_USED
      0 + 514 ≤ 16384 ∧ s.dev.notBlank (journalBase (s.dev.rd Reg.BT_JOURNAL_COPY 0) + 32 * s.dev.rd Reg.BT_JOURNAL_USED 0) 64 = none) ∧
    (∃ (s : State) (src : Src), s.dev.reaches src .BT = .ok ∧ srcPart src = 0 ∧ 7 ≤ s.dev.bootState) ∧
    (∃ (s : State) (src : Src) (n c : Nat), s.dev.reaches src .BT = .ok ∧ srcPart src = 0 ∧ 7 ≤ s.dev.bootState ∧ s.dev.boot.pendingKey = false ∧ (∀ x
      ∈ s.dev.boot.pending, settingFields x.1 ≠ []) ∧ n = s.dev.rd Reg.BT_JOURNAL_USED 0 ∧ c = s.dev.rd Reg.BT_JOURNAL_COPY 0 ∧ n +
      s.dev.boot.pending.length + 512 ≤ 16384 ∧ s.dev.notBlank (journalBase c + 32 * n) (32 * s.dev.boot.pending.length) = none) ∧
    (∃ (s : State) (src : Src) (sfw pfw : Nat), s.dev.reaches src .BT = .ok ∧ srcPart src = 0 ∧ sfw < 2 ∧ pfw < 2 ∧ s.dev.rd Reg.BT_FW_SEL_SFW_PREF 0
      ≠ sfw ∧ s.dev.header = none) ∧
    (∃ (s : State), (s.dev.bootState = 7 ∨ s.dev.bootState = 8) ∧ s.dev.flag Reg.BT_STATUS_FACTORY_START 0 = true) ∧
    (∃ (s : State) (t : Nat), (s.dev.tile t).mapDirty = true ∧ s.dev.masks Ev.PM_CAL_STORE 0 = false) ∧
    (∃ (s : State) (t : Nat), (s.dev.tile t).mapDirty = true) ∧
    (∃ (s : State) (t : Nat) (codes : List Nat), (s.dev.ringTile t).pointDue = true ∧ NMap.get 0 s.dev.boot.pointAt t = 0 ∧ codes = (List.range
      (groupsPerTile * 16)).map (fun r => (s.dev.ring t r).int / 4096)) ∧
    (∃ (s : State) (q : Nat), s.dev.flag Reg.LS_STATUS_ON q = true ∧ s.dev.flag Reg.LS_STATUS_RAMPING q = false ∧ (s.dev.comb q).biasDue = true) :=
  ⟨⟨⟨{ ({} : Dev) with boot := { ({} : Dev).boot with pending := [(Reg.QM_CTRL_IDLE_REL.id / 64, 0), (3, 4)], flash := [] } }.up.wr
      Reg.BT_JOURNAL_USED 0 5, []⟩, (Reg.QM_CTRL_IDLE_REL.id / 64, 0), [(3, 4)], by decide +kernel⟩,
    ⟨⟨{ ({} : Dev) with parts := [(0, { newest := some fk })], boot := { ({} : Dev).boot with pendingKey := true } }.up.wr Reg.BT_JOURNAL_USED 0 5,
      []⟩, fk, by decide +kernel⟩,
    ⟨⟨{ ({} : Dev) with boot := { ({} : Dev).boot with pending := [(Reg.QM_CTRL_IDLE_REL.id / 64, 0), (3, 4)], pendingKey := true, flash := [] } }.up,
      []⟩, .pf0, by decide +kernel⟩,
    ⟨⟨{ ({} : Dev) with boot := { ({} : Dev).boot with pending := [(Reg.QM_CTRL_IDLE_REL.id / 64, 0), (Reg.GT_CTRL_EN.id / 64, 0)] } }.up.wr
      Reg.BT_JOURNAL_USED 0 5, []⟩, .pf0, 5, 1 - 1, by decide +kernel⟩,
    ⟨⟨{ ({} : Dev) with boot := { ({} : Dev).boot with flash := [(5, 1), (0x2000, 3)] } }.up.wr Reg.BT_FW_SEL_SFW_PREF 0 0, []⟩, .pf0, 1, 1,
      by decide +kernel⟩,
    ⟨⟨({} : Dev).up.wr Reg.BT_STATUS_FACTORY_START 0 1, []⟩, by decide +kernel⟩,
    ⟨⟨(({} : Dev).up.modTile 3 (fun x => { x with mapDirty := true })).unmask Ev.PM_CAL_STORE 0, []⟩, 3, by decide +kernel⟩,
    ⟨⟨({} : Dev).up.modTile 3 (fun x => { x with mapDirty := true, subs := { x.subs with badRows := [3] } }), []⟩, 3, by decide +kernel⟩,
    ⟨⟨{ ({} : Dev) with rings := [(3, { pointDue := true })] }.up, []⟩, 3, _,
      (by decide +kernel : (State.dev ⟨{ ({} : Dev) with rings := [(3, { pointDue := true })] }.up, []⟩ |>.ringTile 3).pointDue = true),
      by decide +kernel, rfl⟩,
    ⟨⟨{ ({} : Dev) with combs := [(2, { biasDue := true })] }.up.wr Reg.LS_STATUS_ON 2 1 |>.wr Reg.LS_STATUS_RAMPING 2 0, []⟩, 2, by decide +kernel⟩⟩

/-- The hypotheses of HostAccesses. -/
theorem witness_HostAccesses :
    (∃ (s : State) (src : Src) (off len : Nat) (w : Bool) (b : Blk) (i : Nat), pageAt off = some (b, i) ∧ ¬(len = 8 ∧ off % 8 = 0) ∧ ¬(w = false ∧ len
      = 4 ∧ off % 4 = 0) ∧ s.dev.accessReach src b w = .ok ∧ s.dev.mayWrite (srcPart src) b i (off % 0x1000 / 8 * 8) = true) ∧
    (∃ (s : State) (src : Src) (off : Nat) (w : Bool), 2 ≤ s.dev.bootState ∧ pageAt off = none ∧ isDoorbell off = false ∧ s.dev.masks Ev.HI_UNMAPPED 0
      = false) ∧
    (∃ (s : State) (src : Src) (off : Nat) (b : Blk) (i : Nat), pageAt off = some (b, i) ∧ s.dev.accessReach src b true = .early ∧ s.dev.masks
      Ev.BT_EARLY_ACCESS 0 = false) ∧
    (∃ (s : State) (fn off : Nat) (bs : List Byte), (s.dev.bootState = 7 ∨ s.dev.bootState = 8) ∧ bs ≠ [] ∧ bar2Hole (s.dev.bar2Addr fn off) = false ∧
      bar2Hole (s.dev.bar2Addr fn off + (bs.length - 1)) = false ∧ s.dev.probeWrite fn (s.dev.bar2Addr fn off) bs.length = .ok) ∧
    (∃ (s : State) (fn off n : Nat), (s.dev.bootState = 7 ∨ s.dev.bootState = 8) ∧ 0 < n ∧ bar2Hole (s.dev.bar2Addr fn off) = false ∧ bar2Hole
      (s.dev.bar2Addr fn off + (n - 1)) = false ∧ s.dev.probeRead fn (s.dev.bar2Addr fn off) n = .ok) :=
  ⟨⟨⟨({} : Dev).up, []⟩, .pf0, 0xC105, 4, false, .QM, 0, by decide +kernel⟩,
    ⟨⟨({} : Dev).up.unmask Ev.HI_UNMAPPED 0, []⟩, .pf0, 0xE000, true, by decide +kernel⟩,
    ⟨⟨(({} : Dev).inState 5).unmask Ev.BT_EARLY_ACCESS 0, []⟩, .pf0, 0xC108, .QM, 0, by decide +kernel⟩,
    ⟨⟨{ ({} : Dev) with badMem := [] }.up.wr Reg.CS_STATUS_LOST_STACKS 0 0 |>.wr Reg.CS_STATUS_LOST_LPDDR 0 0 |>.wr Reg.PA_MEM_OWNER_OWNER 0 0 |>.wr
      Reg.PA_MEM_OWNER_ASSIGNED 0 1 |>.wr Reg.PA_MEM_OWNER_OWNER 1 0 |>.wr Reg.PA_MEM_OWNER_ASSIGNED 1 1, []⟩, 0, 5, [1, 2, 0, 4], by decide +kernel⟩,
    ⟨⟨{ ({} : Dev) with badMem := [] }.up.wr Reg.CS_STATUS_LOST_STACKS 0 0 |>.wr Reg.CS_STATUS_LOST_LPDDR 0 0 |>.wr Reg.PA_MEM_OWNER_OWNER 0 0 |>.wr
      Reg.PA_MEM_OWNER_ASSIGNED 0 1 |>.wr Reg.PA_MEM_OWNER_OWNER 1 0 |>.wr Reg.PA_MEM_OWNER_ASSIGNED 1 1, []⟩, 0, 5, 9, by decide +kernel⟩⟩

/-- The hypotheses of RegisterAccess. -/
theorem witness_RegisterAccess :
    (∃ (s : State) (src : Src) (off : Nat) (b : Blk) (i : Nat) (v : Word), pageAt off = some (b, i) ∧ off % 0x1000 = 0x20 ∧ s.dev.reaches src b = .ok
      ∧ s.dev.mayWrite (srcPart src) b i 0x20 = true) ∧
    (∃ (s : State) (src : Src) (off : Nat) (b : Blk) (i : Nat) (v : Word), pageAt off = some (b, i) ∧ off % 0x1000 = 0x28 ∧ s.dev.reaches src b = .ok
      ∧ s.dev.mayWrite (srcPart src) b i 0x28 = true) ∧
    (∃ (s : State) (src : Src) (page : Nat) (b : Blk) (i : Nat), pageOfIndex page = some (b, i) ∧ b ≠ .PF ∧ s.dev.reaches src b = .ok ∧ s.dev.mayWrite
      (srcPart src) b i 0x10 = true) :=
  ⟨⟨⟨({} : Dev).up, []⟩, .pf0, 0xC020, .QM, 0, (BitVec.ofNat 64 5), by decide +kernel⟩,
    ⟨⟨({} : Dev).up, []⟩, .pf0, 0xC028, .QM, 0, (BitVec.ofNat 64 5), by decide +kernel⟩,
    ⟨⟨({} : Dev).up, []⟩, .pf0, 33, .PT, 3, by decide +kernel⟩⟩

/-- The hypotheses of QueueOperations. -/
theorem witness_QueueOperations :
    (∃ (s : State) (src : Src) (q : Nat), s.dev.reaches src .QM = .ok ∧ srcPart src = 0 ∧ s.dev.qState q = 0 ∧ 4 ≤ s.dev.rd Reg.QM_Q_CFG_SQ_LOG2 q ∧ 4
      ≤ s.dev.rd Reg.QM_Q_CFG_CQ_LOG2 q ∧ s.dev.rd Reg.QM_Q_CFG_WEIGHT q ≠ 0 ∧ s.dev.rd Reg.QM_Q_CFG_VECTOR q < vectorCount (s.dev.qPart q) ∧ s.dev.rd
      Reg.QM_Q_CFG_DRV_MAJOR q = s.dev.rd Reg.BT_FW_SFW_IF_VER 0 / 256) ∧
    (∃ (s : State) (src : Src) (q : Nat), s.dev.reaches src .QM = .ok ∧ srcPart src = 0 ∧ (s.dev.qState q = 1 ∨ s.dev.qState q = 4) ∧ s.dev.waits = []
      ∧ (s.dev.queue q).slots = [] ∧ (s.dev.queue q).done = [] ∧ (s.dev.queue q).failedHead = false) ∧
    (∃ (s : State) (src : Src) (q : Nat), s.dev.reaches src .QM = .ok ∧ srcPart src = 0 ∧ s.dev.qState q = 4) ∧
    (∃ (s : State) (src : Src) (q : Nat) (w : Word), (s.dev.qState q = 1 ∨ s.dev.qState q = 2) ∧ srcPart src = s.dev.qPart q ∧ bit w 32 = true ∧ bit w
      33 = true ∧ s.dev.tailOk q (bits w 15 0) = true ∧ s.dev.headOk q (bits w 31 16) = true) ∧
    (∃ (s : State) (src : Src) (q : Nat) (w : Word), (s.dev.qState q = 1 ∨ s.dev.qState q = 2) ∧ srcPart src = s.dev.qPart q ∧ bit w 32 = true ∧ bit w
      33 = false ∧ s.dev.tailOk q (bits w 15 0) = false ∧ s.dev.masks Ev.QM_DB_BAD 0 = false) ∧
    (∃ (s : State) (src : Src) (q : Nat), s.dev.reaches src .SY = .ok ∧ srcPart src = 0 ∧ (s.dev.queue q).failedHead = true ∧ s.dev.qState q = 2) ∧
    (∃ (s : State) (src : Src) (q : Nat), s.dev.reaches src .SY = .ok ∧ srcPart src = 0 ∧ (s.dev.queue q).failedHead = true ∧ s.dev.qState q = 2 ∧
      s.dev.rd Reg.QM_Q_STATE_SQ_HEAD q = (s.dev.queue q).sqTail ∧ (∀ x ∈ (s.dev.queue q).slots, x.c.queue = q)) :=
  ⟨⟨⟨({} : Dev).up.wr Reg.QM_Q_STATE_STATE 5 0 |>.wr Reg.QM_Q_CFG_SQ_LOG2 5 9 |>.wr Reg.QM_Q_CFG_CQ_LOG2 5 6 |>.wr Reg.QM_Q_CFG_WEIGHT 5 4 |>.wr
      Reg.QM_Q_CFG_VECTOR 5 0 |>.wr Reg.QM_Q_CFG_PARTITION 5 0 |>.wr Reg.QM_Q_CFG_DRV_MAJOR 5 2 |>.wr Reg.BT_FW_SFW_IF_VER 0 0x203, []⟩, .pf0, 5,
      by decide +kernel⟩,
    ⟨⟨{ ({} : Dev) with waits := [], queues := [(4, { sqTail := 3 }), (5, { sqTail := 7 }), (6, { sqTail := 8 })] }.up.wr Reg.QM_Q_STATE_STATE 5 1,
      []⟩, .pf0, 5, by decide +kernel⟩,
    ⟨⟨({} : Dev).up.wr Reg.QM_Q_STATE_STATE 5 4, []⟩, .pf0, 5, by decide +kernel⟩,
    ⟨⟨{ ({} : Dev) with queues := [(4, { sqTail := 3 }), (5, {})] }.up.wr Reg.QM_Q_STATE_STATE 5 1 |>.wr Reg.QM_Q_CFG_PARTITION 5 0 |>.wr
      Reg.QM_Q_CFG_SQ_LOG2 5 4 |>.wr Reg.QM_Q_CFG_CQ_LOG2 5 4 |>.wr Reg.QM_Q_STATE_SQ_HEAD 5 0 |>.wr Reg.QM_Q_STATE_CQ_TAIL 5 0, []⟩, .pf0, 5,
      (BitVec.ofNat 64 (3 * 2 ^ 32 + 5)), by decide +kernel⟩,
    ⟨⟨({ ({} : Dev) with queues := [(4, { sqTail := 3 }), (5, {})] }.up.wr Reg.QM_Q_STATE_STATE 5 1 |>.wr Reg.QM_Q_CFG_PARTITION 5 0 |>.wr
      Reg.QM_Q_CFG_SQ_LOG2 5 4 |>.wr Reg.QM_Q_CFG_CQ_LOG2 5 4 |>.wr Reg.QM_Q_STATE_SQ_HEAD 5 0).unmask Ev.QM_DB_BAD 0, []⟩, .pf0, 5, (BitVec.ofNat 64
      (2 ^ 32 + 17)), by decide +kernel⟩,
    ⟨⟨{ ({} : Dev) with queues := [(5, { failedHead := true })] }.up.wr Reg.QM_Q_STATE_STATE 5 2, []⟩, .pf0, 5, by decide +kernel⟩,
    ⟨⟨{ ({} : Dev) with queues := [(5, { failedHead := true, sqTail := 2, slots := [⟨{ c0 with queue := 5 }, 0, true, false, 4⟩, ⟨{ c0 with queue := 5 }, 1, false, false, 4⟩] })] }.up.wr
      Reg.QM_Q_STATE_STATE 5 2 |>.wr Reg.QM_Q_STATE_SQ_HEAD 5 2, []⟩, .pf0, 5, by decide +kernel⟩⟩

/-- The hypotheses of QueueFlow. -/
theorem witness_QueueFlow :
    (∃ (s : State) (d0 : Dev) (q : Nat) (b : List Byte), s.dev.flag Reg.QM_CTRL_EN 0 = true ∧ s.dev.arbitrate = (d0, some q) ∧ d0.ringRead q (d0.rd
      Reg.QM_Q_STATE_SQ_HEAD q) = some b) ∧
    (∃ (s : State) (q : Nat) (x : Slot), (s.dev.queue q).slots.find? (fun y => !y.dispatched) = some x ∧ s.dev.qState q = 1 ∧ x.c.fence = false ∧
      opcodeOk x.c.opcode = true ∧ s.dev.fwHalted = []) ∧
    (∃ (s : State) (q : Nat) (x : Done) (r : List Done) (ok : Bool), (s.dev.queue q).done = x :: r ∧ x.c.quiet = true ∧ x.status = 0) ∧
    (∃ (s : State) (q : Nat) (x : Done) (r : List Done) (a n t : Nat), (s.dev.queue q).done = x :: r ∧ x.status ≠ 0 ∧ (s.dev.queue q).silent = false ∧
      n = s.dev.cqSize q ∧ t = s.dev.rd Reg.QM_Q_STATE_CQ_TAIL q ∧ (t + 1) % n ≠ (s.dev.queue q).cqHead ∧ a = ringAddr (s.dev.rd Reg.QM_Q_CQ_LOC q)
      (s.dev.rd Reg.QM_Q_CQ_BASE q) t ∧ s.dev.probeWrite (s.dev.qPart q) a 64 = .ok ∧ s.dev.untraced) ∧
    (∃ (s : State) (q : Nat), (s.dev.queue q).uncovered ≠ 0) :=
  ⟨⟨⟨{ ({} : Dev) with queues := [(5, { sqTail := 2 })], badMem := [], arb := {} }.up.wr Reg.QM_CTRL_EN 0 1 |>.wr Reg.QM_Q_STATE_STATE 5 1 |>.wr
      Reg.QM_Q_CFG_WEIGHT 5 1 |>.wr Reg.QM_Q_CFG_CLASS 5 1 |>.wr Reg.QM_Q_CFG_SQ_LOG2 5 4 |>.wr Reg.QM_Q_CFG_CQ_LOG2 5 4 |>.wr Reg.QM_Q_STATE_SQ_HEAD
      5 0 |>.wr Reg.QM_Q_STATE_CQ_TAIL 5 0 |>.wr Reg.QM_Q_SQ_LOC 5 0 |>.wr Reg.QM_Q_SQ_BASE 5 0 |>.wr Reg.PA_MEM_OWNER_OWNER 0 0 |>.wr
      Reg.PA_MEM_OWNER_ASSIGNED 0 1 |>.wr Reg.QM_Q_CFG_PARTITION 5 0 |>.wr Reg.CS_STATUS_LOST_STACKS 0 0, []⟩,
      (({ ({} : Dev) with queues := [(5, { sqTail := 2 })], badMem := [], arb := {} }.up.wr Reg.QM_CTRL_EN 0 1 |>.wr Reg.QM_Q_STATE_STATE 5 1 |>.wr
      Reg.QM_Q_CFG_WEIGHT 5 1 |>.wr Reg.QM_Q_CFG_CLASS 5 1 |>.wr Reg.QM_Q_CFG_SQ_LOG2 5 4 |>.wr Reg.QM_Q_CFG_CQ_LOG2 5 4 |>.wr Reg.QM_Q_STATE_SQ_HEAD
      5 0 |>.wr Reg.QM_Q_STATE_CQ_TAIL 5 0 |>.wr Reg.QM_Q_SQ_LOC 5 0 |>.wr Reg.QM_Q_SQ_BASE 5 0 |>.wr Reg.PA_MEM_OWNER_OWNER 0 0 |>.wr
      Reg.PA_MEM_OWNER_ASSIGNED 0 1 |>.wr Reg.QM_Q_CFG_PARTITION 5 0 |>.wr Reg.CS_STATUS_LOST_STACKS 0 0).arbitrate).1, 5,
      (((({ ({} : Dev) with queues := [(5, { sqTail := 2 })], badMem := [], arb := {} }.up.wr Reg.QM_CTRL_EN 0 1 |>.wr Reg.QM_Q_STATE_STATE 5 1 |>.wr
      Reg.QM_Q_CFG_WEIGHT 5 1 |>.wr Reg.QM_Q_CFG_CLASS 5 1 |>.wr Reg.QM_Q_CFG_SQ_LOG2 5 4 |>.wr Reg.QM_Q_CFG_CQ_LOG2 5 4 |>.wr Reg.QM_Q_STATE_SQ_HEAD
      5 0 |>.wr Reg.QM_Q_STATE_CQ_TAIL 5 0 |>.wr Reg.QM_Q_SQ_LOC 5 0 |>.wr Reg.QM_Q_SQ_BASE 5 0 |>.wr Reg.PA_MEM_OWNER_OWNER 0 0 |>.wr
      Reg.PA_MEM_OWNER_ASSIGNED 0 1 |>.wr Reg.QM_Q_CFG_PARTITION 5 0 |>.wr Reg.CS_STATUS_LOST_STACKS 0 0).arbitrate).1.ringRead 5 0).getD []),
      by decide +kernel⟩,
    ⟨⟨{ ({} : Dev) with fwHalted := [], queues := [(5, { slots := [⟨{ c0 with queue := 5 }, 0, true, false, 4⟩, ⟨{ c0 with queue := 5, w0 := 1 }, 1, false, false, 4⟩] })] }.up.wr
      Reg.QM_Q_STATE_STATE 5 1, []⟩, 5, ⟨{ c0 with queue := 5, w0 := 1 }, 1, false, false, 4⟩, by decide +kernel⟩,
    ⟨⟨{ ({} : Dev) with queues := [(5, { done := [⟨{ c0 with queue := 5, w0 := 0x400 }, 0, true, 0, 0, 0, 0, 9⟩], slots := [⟨{ c0 with queue := 5, w0 := 0x400 }, 0, true, true, 4⟩] })] }.up,
      []⟩, 5, ⟨{ c0 with queue := 5, w0 := 0x400 }, 0, true, 0, 0, 0, 0, 9⟩, [], true, by decide +kernel⟩,
    ⟨⟨{ ({} : Dev) with badMem := [], queues := [(5, { done := [⟨{ c0 with queue := 5, w0 := 0x400 }, 7, true, 5, 0, 0, 0, 9⟩], slots := [⟨{ c0 with queue := 5, w0 := 0x400 }, 0, true, true, 4⟩] })] }.up.wr
      Reg.TR_CTRL_EN 0 0 |>.wr Reg.QM_Q_CFG_CQ_LOG2 5 4 |>.wr Reg.QM_Q_STATE_CQ_TAIL 5 5 |>.wr Reg.QM_Q_CQ_LOC 5 0 |>.wr Reg.QM_Q_CQ_BASE 5 5 |>.wr
      Reg.PA_MEM_OWNER_OWNER 0 0 |>.wr Reg.PA_MEM_OWNER_ASSIGNED 0 1 |>.wr Reg.QM_Q_CFG_PARTITION 5 0 |>.wr Reg.CS_STATUS_LOST_STACKS 0 0, []⟩, 5,
      ⟨{ c0 with queue := 5, w0 := 0x400 }, 7, true, 5, 0, 0, 0, 9⟩, [], (ringAddr
      (({ ({} : Dev) with badMem := [], queues := [(5, { done := [⟨{ c0 with queue := 5, w0 := 0x400 }, 7, true, 5, 0, 0, 0, 9⟩], slots := [⟨{ c0 with queue := 5, w0 := 0x400 }, 0, true, true, 4⟩] })] }.up.wr
      Reg.TR_CTRL_EN 0 0 |>.wr Reg.QM_Q_CFG_CQ_LOG2 5 4 |>.wr Reg.QM_Q_STATE_CQ_TAIL 5 5 |>.wr Reg.QM_Q_CQ_LOC 5 0 |>.wr Reg.QM_Q_CQ_BASE 5 5 |>.wr
      Reg.PA_MEM_OWNER_OWNER 0 0 |>.wr Reg.PA_MEM_OWNER_ASSIGNED 0 1 |>.wr Reg.QM_Q_CFG_PARTITION 5 0 |>.wr Reg.CS_STATUS_LOST_STACKS 0 0).rd
      Reg.QM_Q_CQ_LOC 5)
      (({ ({} : Dev) with badMem := [], queues := [(5, { done := [⟨{ c0 with queue := 5, w0 := 0x400 }, 7, true, 5, 0, 0, 0, 9⟩], slots := [⟨{ c0 with queue := 5, w0 := 0x400 }, 0, true, true, 4⟩] })] }.up.wr
      Reg.TR_CTRL_EN 0 0 |>.wr Reg.QM_Q_CFG_CQ_LOG2 5 4 |>.wr Reg.QM_Q_STATE_CQ_TAIL 5 5 |>.wr Reg.QM_Q_CQ_LOC 5 0 |>.wr Reg.QM_Q_CQ_BASE 5 5 |>.wr
      Reg.PA_MEM_OWNER_OWNER 0 0 |>.wr Reg.PA_MEM_OWNER_ASSIGNED 0 1 |>.wr Reg.QM_Q_CFG_PARTITION 5 0 |>.wr Reg.CS_STATUS_LOST_STACKS 0 0).rd
      Reg.QM_Q_CQ_BASE 5) 5), 16, 5, by unfold Dev.untraced; decide +kernel⟩,
    ⟨⟨{ ({} : Dev) with queues := [(5, { uncovered := 2 })] }.up, []⟩, 5, by decide +kernel⟩⟩

/-- The hypotheses of KnotValues. -/
theorem witness_KnotValues :
    (∃ (s : State) (a : Agent) (k n : Nat), s.dev.agentRuns a = true ∧ knotOk k = true ∧ s.dev.knotPart k = s.dev.agentPart a ∧ (s.dev.knot k).waiters
      = [] ∧ (s.dev.knot k).val + n < 2 ^ 32) ∧
    (∃ (s : State) (a : Agent) (k n : Nat), s.dev.agentRuns a = true ∧ knotOk k = true ∧ s.dev.knotPart k = s.dev.agentPart a ∧ (s.dev.knot k).waiters
      = [] ∧ n ≤ (s.dev.knot k).val) ∧
    (∃ (s : State) (p k n m : Nat), knotOk k = true ∧ s.dev.knotPart k = p ∧ (s.dev.knot k).waiters = [] ∧ (s.dev.knot k).val + m < 2 ^ 32 ∧ n ≤
      (s.dev.knot k).val + m) ∧
    (∃ (s : State) (a : Agent) (k v : Nat), s.dev.agentRuns a = true ∧ knotOk k = true ∧ s.dev.knotPart k = s.dev.agentPart a ∧ (s.dev.knot k).waiters
      = []) ∧
    (∃ (s : State) (a : Agent) (k : Nat) (e : Bool), s.dev.agentRuns a = true ∧ knotOk k = true ∧ s.dev.knotPart k = s.dev.agentPart a) ∧
    (∃ (s : State) (c : Cmd) (k : Nat), k = bits c.w2 12 0 ∧ bits c.w2 15 13 = 0 ∧ bit c.w2 16 = false ∧ knotOk k = true ∧ s.dev.knotPart k =
      s.dev.cPart c ∧ (s.dev.knot k).waiters = [] ∧ (s.dev.knot k).val + bits c.w3 31 0 < 2 ^ 32) ∧
    (∃ (s : State) (src : Src) (k v : Nat), s.dev.reaches src .SY = .ok ∧ srcPart src = 0 ∧ knotOk k = true ∧ (s.dev.knot k).waiters = []) ∧
    (∃ (s : State) (src : Src) (p k v n : Nat), s.dev.reaches src .SY = .ok ∧ srcPart src = 0 ∧ knotOk k = true ∧ s.dev.knotPart k = p ∧ (s.dev.knot
      k).waiters = [] ∧ v % 2 ^ 32 + n < 2 ^ 32) :=
  ⟨⟨⟨{ ({} : Dev) with knots := [(3, { val := 2 }), (70, { val := 5 })] }.up, []⟩, .reg 0, 70, 2, by decide +kernel⟩,
    ⟨⟨{ ({} : Dev) with knots := [(3, { val := 2 }), (70, { val := 5 })] }.up, []⟩, .ve 1, 70, 4, by decide +kernel⟩,
    ⟨⟨{ ({} : Dev) with knots := [(3, { val := 2 }), (70, { val := 5 })] }.up, []⟩, 0, 70, 7, 3, by decide +kernel⟩,
    ⟨⟨{ ({} : Dev) with knots := [(3, { val := 2 }), (70, { val := 5 })] }.up, []⟩, .ve 1, 70, 9, by decide +kernel⟩,
    ⟨⟨{ ({} : Dev) with knots := [(3, { val := 2 }), (70, { val := 5 })] }.up, []⟩, .reg 0, 70, true, by decide +kernel⟩,
    ⟨⟨{ ({} : Dev) with knots := [(3, { val := 2 }), (70, { val := 5 })], engOwner := [] }.up.wr Reg.QM_Q_CFG_PARTITION 5 0, []⟩,
      { c0 with queue := 5, w2 := 70, w3 := BitVec.ofNat 64 2 }, 70, by decide +kernel⟩,
    ⟨⟨{ ({} : Dev) with knots := [(3, { val := 2 }), (70, { val := 5 })], engOwner := [] }.up, []⟩, .pf0, 70, 2, by decide +kernel⟩,
    ⟨⟨{ ({} : Dev) with knots := [(3, { val := 2 }), (70, { val := 5 })] }.up, []⟩, .pf0, 0, 70, 9, 2, by decide +kernel⟩⟩

/-- The hypotheses of KnotMisuse. -/
theorem witness_KnotMisuse :
    (∃ (s : State) (p k n : Nat), knotOk k = true ∧ s.dev.knotPart k = p ∧ 2 ^ 32 ≤ (s.dev.knot k).val + n ∧ s.dev.masks Ev.SY_OVERFLOW 0 = false) ∧
    (∃ (s : State) (p k n : Nat), knotOk k = true ∧ s.dev.knotPart k = p ∧ (s.dev.knot k).val < n ∧ s.dev.masks Ev.SY_UNDERFLOW 0 = false) ∧
    (∃ (s : State) (p k n : Nat), knotOk k = true ∧ s.dev.knotPart k ≠ p ∧ s.dev.masks Ev.SY_FOREIGN 0 = false) :=
  ⟨⟨⟨{ ({} : Dev) with knots := [(3, { val := 2 }), (70, { val := 5 })], engOwner := [] }.up.unmask Ev.SY_OVERFLOW 0, []⟩, 0, 70, (2 ^ 32 + 2),
      by decide +kernel⟩,
    ⟨⟨{ ({} : Dev) with knots := [(3, { val := 2 }), (70, { val := 5 })], engOwner := [] }.up.unmask Ev.SY_UNDERFLOW 0, []⟩, 0, 70, (2 ^ 31 + 2),
      by decide +kernel⟩,
    ⟨⟨{ ({} : Dev) with knots := [(3, { val := 2 }), (70, { val := 5 })], engOwner := [(1, 2)] }.up.unmask Ev.SY_FOREIGN 0, []⟩, 0, 70, 2,
      by decide +kernel⟩⟩

/-- The hypotheses of Waits. -/
theorem witness_Waits :
    (∃ (s : State) (c : Cmd) (k : Nat), k = bits c.w2 12 0 ∧ bit c.w2 16 = false ∧ knotOk k = true ∧ s.dev.knotPart k = s.dev.cPart c ∧ (s.dev.knot
      k).waiters = [] ∧ s.dev.waits = [] ∧ 0 < bits c.w3 31 0 ∧ bits c.w3 31 0 ≤ (s.dev.knot k).val ∧ bit c.w2 13 = true) ∧
    (∃ (s : State) (c : Cmd) (k : Nat), k = bits c.w2 12 0 ∧ bit c.w2 16 = false ∧ knotOk k = true ∧ s.dev.knotPart k = s.dev.cPart c ∧ (s.dev.knot
      k).waiters = [] ∧ (s.dev.knot k).val < bits c.w3 31 0 ∧ s.dev.rd Reg.QM_Q_STATE_STATE c.queue = 1 ∧ bits c.w3 63 32 ≠ 0) ∧
    (∃ (s : State) (e k v : Nat) (consume : Bool), s.dev.engineRuns e = true ∧ knotOk k = true ∧ s.dev.knotPart k = s.dev.engineOwner e ∧ k / 64 = e ∧
      e < 64 ∧ (s.dev.knot k).waiters = [] ∧ s.dev.waits = [] ∧ (s.dev.eng e).haltPending = false ∧ v ≤ (s.dev.knot k).val) ∧
    (∃ (s : State) (e k v : Nat) (consume : Bool), s.dev.engineRuns e = true ∧ knotOk k = true ∧ s.dev.knotPart k = s.dev.engineOwner e ∧ k / 64 = e ∧
      e < 64 ∧ (s.dev.knot k).waiters = [] ∧ (s.dev.knot k).val < v) ∧
    (∃ (s : State) (w : Wait) (c : Cmd) (k : Nat), s.dev.waits.find? (fun x => x.id = w.id) = some w ∧ w.obj = .knot k ∧ w.c = some c ∧ s.dev.masks
      Ev.SY_WAIT_TIMEOUT 0 = false) ∧
    (∃ (s : State), s.dev.flag Reg.SY_CTRL_DL_EN 0 = true ∧ s.dev.queues = []) ∧
    (∃ (s : State), s.dev.flag Reg.SY_CTRL_DL_EN 0 = true ∧ s.dev.flag Reg.SY_CTRL_DL_ACTION 0 = false ∧ s.dev.untraced) ∧
    (∃ (s : State) (p : Nat), s.dev.flag Reg.SY_CTRL_DL_EN 0 = true ∧ s.dev.flag Reg.SY_CTRL_DL_ACTION 0 = false ∧ s.dev.untraced ∧ p < 64 ∧
      s.dev.stalled p = true ∧ s.dev.flag Reg.SY_PART_STATE_STALLED p = true ∧ s.dev.dlReported.contains p = false ∧ s.dev.rd Reg.SY_CTRL_DL_TIME 0 ≤
      min (s.dev.rd Reg.SY_PART_STATE_STALLED_US p + 1) (2 ^ 20 - 1) ∧ s.dev.masks Ev.SY_DEADLOCK 0 = false) ∧
    (∃ (s : State) (p q k : Nat) (c : Cmd) (w : Wait), s.dev.flag Reg.SY_CTRL_DL_EN 0 = true ∧ s.dev.flag Reg.SY_CTRL_DL_ACTION 0 = true ∧
      s.dev.untraced ∧ p < 64 ∧ s.dev.queues.map (fun e => e.1) = [q] ∧ s.dev.stalled p = true ∧ s.dev.flag Reg.SY_PART_STATE_STALLED p = true ∧
      s.dev.dlReported.contains p = false ∧ s.dev.rd Reg.SY_CTRL_DL_TIME 0 ≤ min (s.dev.rd Reg.SY_PART_STATE_STALLED_US p + 1) (2 ^ 20 - 1) ∧
      s.dev.inFlightOf q = [c] ∧ c.queue = q ∧ s.dev.waits = [w] ∧ w.c = some c ∧ w.obj = .knot k) :=
  ⟨⟨⟨{ ({} : Dev) with waits := [], knots := [(3, { val := 2 }), (70, { val := 2 ^ 20 + 5 })], engOwner := [] }.up.wr Reg.QM_Q_CFG_PARTITION 5 0,
      []⟩, { c0 with queue := 5, w2 := 70 + 8192, w3 := BitVec.ofNat 64 3 }, 70, by decide +kernel⟩,
    ⟨⟨{ ({} : Dev) with waits := [], knots := [(3, { val := 2 }), (70, { val := 5 })], engOwner := [] }.up.wr Reg.QM_Q_CFG_PARTITION 5 0 |>.wr
      Reg.QM_Q_STATE_STATE 5 1, []⟩, { c0 with queue := 5, w2 := 70 + 8192, w3 := BitVec.ofNat 64 (2 ^ 32 * 9 + 2 ^ 30 + 2) }, 70, by decide +kernel⟩,
    ⟨⟨{ ({} : Dev) with knots := [(3, { val := 2 }), (70, { val := 5 })] }.up, []⟩, 1, 70, 5, true, by decide +kernel⟩,
    ⟨⟨{ ({} : Dev) with knots := [(3, { val := 2 }), (70, { val := 5 })] }.up, []⟩, 1, 70, 6, true, by decide +kernel⟩,
    ⟨⟨({ ({} : Dev) with waits := [⟨7, .knot 70, .queue 5, 0, 5, 9, some { c0 with queue := 5 }⟩], knots := [(3, { val := 2 }), (70, { val := 5, waiters := [⟨7, .queue 5, 0, 2 ^ 21, true⟩] })], engOwner := [] }.up).unmask
      Ev.SY_WAIT_TIMEOUT 0, []⟩, ⟨7, .knot 70, .queue 5, 0, 5, 9, some { c0 with queue := 5 }⟩, { c0 with queue := 5 }, 70, by decide +kernel⟩,
    ⟨⟨{ ({} : Dev) with queues := [] }.up.wr Reg.SY_CTRL_DL_EN 0 1, []⟩, by decide +kernel⟩,
    ⟨⟨({} : Dev).up.wr Reg.SY_CTRL_DL_EN 0 1 |>.wr Reg.SY_CTRL_DL_ACTION 0 0 |>.wr Reg.TR_CTRL_EN 0 0, []⟩, by unfold Dev.untraced; decide +kernel⟩,
    ⟨⟨stalledDev 0, []⟩, 0, by unfold Dev.untraced; decide +kernel⟩,
    ⟨⟨stalledDev 1, []⟩, 0, 5, 70, ct, ⟨7, .knot 70, .queue 5, 0, 5, 9, some ct⟩, by unfold Dev.untraced; decide +kernel⟩⟩

/-- The hypotheses of FullEmpty. -/
theorem witness_FullEmpty :
    (∃ (s : State) (e a : Nat), s.dev.engineRuns e = true ∧ s.dev.feParked = [] ∧ feWordOk a = true ∧ s.dev.probe (s.dev.engineOwner e) a 8 = .ok ∧
      (s.dev.fe a).full = true ∧ (s.dev.fe a).waiters = []) ∧
    (∃ (s : State) (e a : Nat), s.dev.engineRuns e = true ∧ s.dev.feParked = [] ∧ feWordOk a = true ∧ s.dev.probe (s.dev.engineOwner e) a 8 = .ok ∧
      (s.dev.fe a).full = true ∧ (s.dev.fe a).waiters = []) ∧
    (∃ (s : State) (e a : Nat), s.dev.engineRuns e = true ∧ feWordOk a = true ∧ s.dev.probe (s.dev.engineOwner e) a 8 = .ok ∧ (s.dev.fe a).full =
      false ∧ (s.dev.fe a).waiters = [] ∧ e < 64) ∧
    (∃ (s : State) (e a : Nat) (v : Word), s.dev.engineRuns e = true ∧ s.dev.feParked = [] ∧ feWordOk a = true ∧ s.dev.probe (s.dev.engineOwner e) a 8
      = .ok ∧ (s.dev.fe a).full = false ∧ (s.dev.fe a).waiters = []) ∧
    (∃ (s : State) (e a : Nat) (v : Word), s.dev.engineRuns e = true ∧ s.dev.feParked = [] ∧ feWordOk a = true ∧ s.dev.probe (s.dev.engineOwner e) a 8
      = .ok ∧ (s.dev.fe a).waiters = []) ∧
    (∃ (s : State) (e a : Nat), s.dev.engineRuns e = true ∧ s.dev.feParked = [] ∧ feWordOk a = true ∧ s.dev.probe (s.dev.engineOwner e) a 8 = .ok ∧
      (s.dev.fe a).waiters = []) :=
  ⟨⟨⟨{ ({} : Dev) with feWords := [(stagingBase + 16, { full := true })], mem := [(stagingBase + 16, 4), (stagingBase + 17, 9)] }.feReady, []⟩, 3,
      (stagingBase + 16), by decide +kernel⟩,
    ⟨⟨{ ({} : Dev) with feWords := [(stagingBase + 16, { full := true })], mem := [(stagingBase + 16, 4), (stagingBase + 17, 9)] }.feReady, []⟩, 3,
      (stagingBase + 16), by decide +kernel⟩,
    ⟨⟨{ ({} : Dev) with feWords := [(stagingBase + 16, { full := false })], mem := [(stagingBase + 16, 4), (stagingBase + 17, 9)] }.feReady, []⟩, 3,
      (stagingBase + 16), by decide +kernel⟩,
    ⟨⟨{ ({} : Dev) with feWords := [(stagingBase + 16, { full := false })], mem := [(stagingBase + 16, 4), (stagingBase + 17, 9)] }.feReady, []⟩, 3,
      (stagingBase + 16), 9, by decide +kernel⟩,
    ⟨⟨{ ({} : Dev) with feWords := [(stagingBase + 16, { full := true })], mem := [(stagingBase + 16, 4), (stagingBase + 17, 9)] }.feReady, []⟩, 3,
      (stagingBase + 16), 9, by decide +kernel⟩,
    ⟨⟨{ ({} : Dev) with feWords := [(stagingBase + 16, { full := true })], mem := [(stagingBase + 16, 4), (stagingBase + 17, 9)] }.feReady, []⟩, 3,
      (stagingBase + 16), by decide +kernel⟩⟩

/-- The hypotheses of VectorEngines. -/
theorem witness_VectorEngines :
    (∃ (s : State) (c : Cmd) (h : List Byte), bits c.w4 12 0 = 0 ∧ c.engine < 63 ∧ s.dev.engineOwner c.engine = s.dev.cPart c ∧ s.dev.engineFree
      c.engine = true ∧ bits c.w2 47 0 % 4096 = 0 ∧ s.dev.loadFor (s.dev.cPart c) (bits c.w2 47 0) 64 = (h, .ok) ∧ s.dev.routineOk h 0 = true) ∧
    (∃ (s : State) (e : Nat) (c : Cmd) (w : Word) (steps : Nat), s.dev.engineRuns e = true ∧ (s.dev.eng e).cmd = some c ∧ s.dev.launches = []) ∧
    (∃ (s : State) (e : Nat) (c : Cmd) (w : Word) (steps acc a b n : Nat) (z x y : List Byte) (r : Int) (sat : Bool), s.dev.engineRuns e = true ∧
      (s.dev.eng e).cmd = some c ∧ s.dev.launches = [] ∧ s.dev.probeRead (s.dev.cPart c) acc 4 = .ok ∧ s.dev.probeRead (s.dev.cPart c) a n = .ok ∧
      s.dev.probeRead (s.dev.cPart c) b n = .ok ∧ s.dev.probeWrite (s.dev.cPart c) acc 4 = .ok ∧ z = s.dev.bytes acc 4 ∧ x = s.dev.bytes a n ∧ y =
      s.dev.bytes b n ∧ (r, sat) = macs (toSigned 32 (leNat z)) ((x.zip y).map (fun q => (q.1.toInt, q.2.toInt))) ∧ s.dev.untraced) ∧
    (∃ (acc : Int) (l : List (Int × Int)), (macs acc l).2 = false) ∧
    (∃ (s : State) (e : Nat) (c : Cmd) (status steps : Nat), s.dev.engineRuns e = true ∧ (s.dev.eng e).cmd = some c ∧ s.dev.launches = [] ∧
      s.dev.feParked = []) ∧
    (∃ (s : State) (e : Nat), e < 64 ∧ s.dev.feParked = [] ∧ s.dev.masks Ev.VE_ENGINE_FAULT e = false) :=
  ⟨⟨⟨{ ({} : Dev) with engines := [(4, { haltPending := true })], launches := [], engOwner := [], mem := [(0x1000, 0x56)] }.feReady.routineAt, []⟩,
      { c0 with queue := 5, w1 := 3 * 2 ^ 36, w2 := BitVec.ofNat 64 stagingBase },
      (({ ({} : Dev) with engines := [(4, { haltPending := true })], launches := [], engOwner := [], mem := [(0x1000, 0x56)] }.feReady.routineAt).bytes
      stagingBase 64), by decide +kernel⟩,
    ⟨⟨{ ({} : Dev) with engines := [(3, { cmd := some { c0 with queue := 5 } }), (4, { haltPending := true })] }.feReady, []⟩, 3,
      { c0 with queue := 5 }, 9, 2, by decide +kernel⟩,
    ⟨⟨macDev, []⟩, 3, { c0 with queue := 5 }, 9, 2, stagingBase, (stagingBase + 4), (stagingBase + 6), 2, _, _, _, _, _, by decide +kernel,
      by decide +kernel, by decide +kernel, by decide +kernel, by decide +kernel, by decide +kernel, by decide +kernel, rfl, rfl, rfl, rfl,
      by unfold Dev.untraced; decide +kernel⟩,
    ⟨5, [(-128, 127), (3, -4)], by decide +kernel⟩,
    ⟨⟨{ ({} : Dev) with engines := [(3, { cmd := some { c0 with queue := 5 } }), (4, { haltPending := true })], waits := [⟨7, .knot 70, .ve 2, 0, 5, 9, none⟩] }.feReady,
      []⟩, 3, { c0 with queue := 5 }, 0x1605, 2, by decide +kernel⟩,
    ⟨⟨{ ({} : Dev) with mem := [(veBase 3 + 5, 4), (veBase 4, 5)] }.up.unmask Ev.VE_ENGINE_FAULT 3, []⟩, 3, by decide +kernel⟩⟩

/-- The hypotheses of Transfers. -/
theorem witness_Transfers :
    (∃ (s : State) (c : Cmd), c.opcode = 0x31 ∧ dmaBad c = false ∧ c.sigEn = false ∧ c.engine < 8 ∧ s.dev.dmaFree c.engine = true ∧ c.outer = 1 ∧
      s.dev.dmaFault c = none ∧ s.dev.probeWrite (s.dev.cPart c) (c.dstRun 0) c.inner = .ok) ∧
    (∃ (s : State) (c : Cmd), c.opcode = 0x30 ∧ dmaBad c = false ∧ c.sigEn = false ∧ c.engine < 8 ∧ s.dev.dmaFree c.engine = true ∧ c.outer = 1 ∧
      s.dev.dmaFault c = none ∧ s.dev.probeRead (s.dev.cPart c) (c.srcRun 0) c.inner = .ok ∧ s.dev.probeWrite (s.dev.cPart c) (c.dstRun 0) c.inner =
      .ok) ∧
    (∃ (s : State) (x : Xfer), s.dev.xfers.find? (fun y => y.engine = x.engine ∧ y.seq = x.seq) = some x ∧ x.status = 0 ∧ x.c.sigEn = false ∧
      s.dev.dmaWait = []) ∧
    (∃ (s : State) (q e seq : Nat), s.dev.xfers = [] ∧ s.dev.qState q = 1 ∧ s.dev.rd Reg.QM_Q_SQ_LOC q = 1 ∧ s.dev.masks Ev.QM_RING_FAULT 0 = false) ∧
    (∃ (s : State) (q : Nat) (x : Xfer), s.dev.xfers = [x] ∧ x.toHost = true ∧ x.status = 0 ∧ s.dev.dmaWait = []) :=
  ⟨⟨⟨{ ({} : Dev) with xfers := [], mem := [(stagingBase + 5, 4), (stagingBase + 205, 5)] }.feReady.wr Reg.QM_Q_CFG_PARTITION 5 0 |>.wr
      Reg.DM_CTRL_EN 2 1, []⟩,
      { c0 with queue := 5, w0 := 0x31, w1 := 2 * 2 ^ 36, w2 := BitVec.ofNat 64 (5 * 77), w3 := BitVec.ofNat 64 (stagingBase + 64), w4 := 24 + 2 ^ 32 },
      by decide +kernel⟩,
    ⟨⟨{ ({} : Dev) with xfers := [], mem := [(stagingBase + 5, 4), (stagingBase + 205, 5)] }.feReady.wr Reg.QM_Q_CFG_PARTITION 5 0 |>.wr
      Reg.DM_CTRL_EN 2 1, []⟩,
      { c0 with queue := 5, w0 := 0x30, w1 := 2 * 2 ^ 36, w2 := BitVec.ofNat 64 stagingBase, w3 := BitVec.ofNat 64 (stagingBase + 5), w4 := BitVec.ofNat 64 (27 + 2 + 2 ^ 32) },
      by decide +kernel⟩,
    ⟨⟨{ ({} : Dev) with dmaWait := [], xfers := [⟨2, 7, { c0 with queue := 5 }, 100, 0, 0⟩, ⟨2, 8, { c0 with queue := 5 }, 100, 0, 0⟩] }.up, []⟩, ⟨2,
      7, { c0 with queue := 5 }, 100, 0, 0⟩, by decide +kernel⟩,
    ⟨⟨{ ({} : Dev) with xfers := [] }.up.wr Reg.QM_Q_STATE_STATE 5 1 |>.wr Reg.QM_Q_SQ_LOC 5 1 |>.unmask Ev.QM_RING_FAULT 0, []⟩, 5, 5, 2,
      by decide +kernel⟩,
    ⟨⟨{ ({} : Dev) with xfers := [⟨2, 7, toHostCmd, 24, 0, 0⟩] }.up, []⟩, 5, ⟨2, 7, toHostCmd, 24, 0, 0⟩, by decide +kernel⟩⟩

/-- The hypotheses of Partitions. -/
theorem witness_Partitions :
    (∃ (s : State) (src : Src) (p : Nat), s.dev.reaches src .PA = .ok ∧ srcPart src = 0 ∧ p ≠ 0 ∧ p < 64 ∧ s.dev.rd Reg.PA_PART_CFG_STATE p = 0) ∧
    (∃ (s : State) (p : Nat), s.dev.rd Reg.PA_PART_CFG_STATE p = 2 ∧ s.dev.granulesIn p = [] ∧ (∀ t, t < 16 → s.dev.holder t ≠ p) ∧ p < 64 ∧
      s.dev.masks Ev.PA_RELEASED 0 = false) ∧
    (∃ (s : State) (src : Src) (p : Nat) (k : FKey), s.dev.reaches src .PA = .ok ∧ srcPart src = 0 ∧ (s.dev.part p).newest = some k ∧ s.dev.fabric =
      {}) ∧
    (∃ (s : State) (src : Src) (p keyId word : Nat) (v : Word), s.dev.reaches src .PA = .ok ∧ srcPart src = 0 ∧ s.dev.partActive p = true ∧ word < 3) ∧
    (∃ (s : State) (src : Src) (p keyId : Nat) (v : Word), s.dev.reaches src .PA = .ok ∧ srcPart src = 0 ∧ s.dev.partActive p = true) ∧
    (∃ (s : State) (p : Nat) (k : FKey), (s.dev.part p).prev = some k) :=
  ⟨⟨⟨({} : Dev).up.wr Reg.PA_PART_CFG_STATE 2 0, []⟩, .pf0, 2, by decide +kernel⟩,
    ⟨⟨({} : Dev).up.clr Reg.PA_MEM_OWNER_OWNER |>.clr Reg.PA_TILE_CFG_HOLDER |>.wr Reg.PA_PART_CFG_STATE 2 2 |>.unmask Ev.PA_RELEASED 0, []⟩, 2,
      by decide +kernel⟩,
    ⟨⟨{ ({} : Dev) with fabric := {}, parts := [(2, { newest := some ⟨3, [1, 2, 3, 5]⟩, cur := some ⟨9, [1, 1, 1, 1]⟩ })] }.up, []⟩, .pf0, 2, ⟨3, [1,
      2, 3, 5]⟩, by decide +kernel⟩,
    ⟨⟨({} : Dev).up.wr Reg.PA_STATUS 0 5, []⟩, .pf0, 2, 2, 2, (BitVec.ofNat 64 3), by decide +kernel⟩,
    ⟨⟨{ ({} : Dev) with parts := [(2, { words := [(12, 4), (13, 5)], cur := some ⟨9, [1, 1, 1, 1]⟩ })] }.up.wr Reg.PA_STATUS 0 5, []⟩, .pf0, 2, 3,
      (BitVec.ofNat 64 3), by decide +kernel⟩,
    ⟨⟨{ ({} : Dev) with parts := [(2, { prev := some ⟨9, [1, 1, 1, 1]⟩, switched := 5 })] }.up, []⟩, 2, ⟨9, [1, 1, 1, 1]⟩, by decide +kernel⟩⟩

/-- The hypotheses of Scrubs. -/
theorem witness_Scrubs :
    (∃ (s : State) (src : Src) (g owner : Nat), s.dev.reaches src .PA = .ok ∧ srcPart src = 0 ∧ g < 24832 ∧ s.dev.flag Reg.PA_MEM_OWNER_ASSIGNED g =
      true ∧ s.dev.rd Reg.PA_MEM_OWNER_OWNER g ≠ owner ∧ s.dev.coil.chunks = [] ∧ s.dev.holdsTable g = false ∧ s.dev.holdsSave g = false ∧
      s.dev.deviceLost (granuleRange g).1 = false) ∧
    (∃ (s : State) (g o : Nat), NMap.get 0 s.dev.zeroing g = o + 1 ∧ o < 64 ∧ s.dev.feParked = []) ∧
    (∃ (s : State) (e : Nat), s.dev.engineOwner e ≠ s.dev.rd Reg.PA_ENG_OWNER_OWNER e ∧ (s.dev.eng e).cmd = none ∧ s.dev.waits = [] ∧ s.dev.launches =
      [] ∧ s.dev.feParked = []) ∧
    (∃ (s : State) (t : Nat), (s.dev.tile t).shared = true) ∧
    (∃ (s : State) (src : Src), s.dev.reaches src .PA = .ok ∧ srcPart src ≠ 0 ∧ s.dev.masks Ev.PA_MBOX_REQ 0 = false) ∧
    (∃ (s : State) (src : Src) (p : Nat), s.dev.reaches src .PA = .ok ∧ srcPart src = 0) :=
  ⟨⟨⟨{ ({} : Dev) with coil := {} }.up.wr Reg.PA_MEM_OWNER_ASSIGNED 24577 1 |>.wr Reg.PA_MEM_OWNER_OWNER 24577 5 |>.clr Reg.PA_SAVE_BASE_BASE |>.clr
      Reg.CS_TABLE0_BASE |>.clr Reg.CS_TABLE1_BASE, []⟩, .pf0, 24577, 0, by decide +kernel⟩,
    ⟨⟨{ ({} : Dev) with zeroing := [(24576, 4)] }.up, []⟩, 24576, 3, by decide +kernel⟩,
    ⟨⟨{ ({} : Dev) with engOwner := [(3, 2)], knots := [(130, { val := 3 }), (193, { val := 4 }), (260, { val := 5 })] }.up.wr Reg.PA_ENG_OWNER_OWNER
      3 4, []⟩, 3, by decide +kernel⟩,
    ⟨⟨{ ({} : Dev) with now := 5 }.up.setTile 3 { shared := true, tookAt := 2 }, []⟩, 3, by decide +kernel⟩,
    ⟨⟨({} : Dev).up.unmask Ev.PA_MBOX_REQ 0, []⟩, (.vf 3), by decide +kernel⟩,
    ⟨⟨({} : Dev).up, []⟩, .pf0, 3, by decide +kernel⟩⟩

/-- The hypotheses of WarmupAndDiscover. -/
theorem witness_WarmupAndDiscover :
    (∃ (s : State), s.dev.bootState = 5 ∧ s.dev.memoryDone = true ∧ (∀ t, t < 16 → 2 ≤ s.dev.svc t)) ∧
    (∃ (s : State), s.dev.bootState = 5 ∧ (∀ t, t < 16 → s.dev.svc t ≤ 1 → (s.dev.tile t).held = [] ∧ (s.dev.tile t).waiting = [] ∧ (s.dev.tile
      t).runs = [] ∧ s.dev.masks Ev.PT_OUT_OF_SERVICE t = false)) ∧
    (∃ (s : State), s.dev.bootState = 5 ∧ (∀ t, t < 16 → 2 ≤ s.dev.svc t)) ∧
    (∃ (s : State), s.dev.bootState = 6 ∧ s.dev.fnidClaimed = false ∧ s.dev.discovered = true ∧ s.dev.rd Reg.BT_STATE_DEGR 0 = 0 ∧ (∀ q, q < 4 →
      s.dev.flag Reg.LS_STATUS_AT_TARGET q = true ∧ s.dev.flag Reg.HM_STATUS_RAIL_OPEN (4 * q) = false)) ∧
    (∃ (s : State), s.dev.bootState = 8 ∧ s.dev.fnidClaimed = false ∧ s.dev.discovered = true ∧ s.dev.rd Reg.BT_STATE_DEGR 0 = 2 ^ Cause.discover.bit) ∧
    (∃ (s : State), s.dev.bootState = 6 ∧ s.dev.fnidClaimed = false ∧ s.dev.masks Ev.BT_DEGRADED 0 = false) :=
  ⟨⟨⟨(List.range 16).foldl (fun x t => x.wr Reg.PT_STATUS_SVC t 4) (({} : Dev).inState 5 |>.wr Reg.CS_CTRL_EN 0 0), []⟩, by decide +kernel⟩,
    ⟨⟨(List.range 16).foldl (fun x t => (x.wr Reg.PT_STATUS_SVC t 1).unmask Ev.PT_OUT_OF_SERVICE t) (({} : Dev).inState 5), []⟩, by decide +kernel⟩,
    ⟨⟨(List.range 16).foldl (fun x t => x.wr Reg.PT_STATUS_SVC t 4) (({} : Dev).inState 5), []⟩, by decide +kernel⟩,
    ⟨⟨discovering 6, []⟩, by decide +kernel⟩,
    ⟨⟨(discovering 8).wr Reg.BT_STATE_DEGR 0 (2 ^ Cause.discover.bit), []⟩, by decide +kernel⟩,
    ⟨⟨({} : Dev).inState 6 |>.unmask Ev.BT_DEGRADED 0, []⟩, by decide +kernel⟩⟩

/-- The hypotheses of Handovers. -/
theorem witness_Handovers :
    (∃ (s : State) (t : Nat), t < 16 ∧ s.dev.handoverPoint t = true ∧ s.dev.flag Reg.PA_TILE_CFG_SHARED t = false ∧ (s.dev.tile t).shared = false ∧
      s.dev.holder t ≠ s.dev.rd Reg.PA_TILE_CFG_OWNER t ∧ s.dev.rd Reg.PA_TILE_CFG_OWNER t < 64 ∧ (s.dev.tile t).held = [] ∧ (s.dev.tile t).waiting =
      [] ∧ s.dev.saveOk (s.dev.rd Reg.PA_TILE_CFG_OWNER t) = false ∧ s.dev.flag Reg.QS_ROWBUF_EN t = false) ∧
    (∃ (s : State) (src : Src) (p : Nat), s.dev.reaches src .PA = .ok ∧ srcPart src = 0 ∧ p ≠ 0 ∧ p < 64 ∧ s.dev.rd Reg.PA_PART_CFG_STATE p = 1 ∧
      s.dev.queues = [] ∧ s.dev.launches = [] ∧ s.dev.dmaWait = [] ∧ s.dev.coilOps = [] ∧ s.dev.fabric = {} ∧ s.dev.coil = {} ∧ (∀ e, e < 84 →
      s.dev.engineOwner e ≠ p ∧ s.dev.rd Reg.PA_ENG_OWNER_OWNER e ≠ p) ∧ (∀ t, t < 16 → s.dev.holder t ≠ p ∧ s.dev.rd Reg.PA_TILE_CFG_OWNER t ≠ p ∧
      (s.dev.tile t).waiting = []) ∧ s.dev.granulesIn p = []) :=
  ⟨⟨⟨({} : Dev).tileReady.wr Reg.PA_TILE_CFG_SHARED 3 0 |>.wr Reg.PA_TILE_CFG_OWNER 3 2 |>.wr Reg.PA_SAVE_BASE_BASE 2 0 |>.wr Reg.QS_ROWBUF_EN 3 0
      |>.setTile 3 { desc := [(2, mkDesc 0 3 4 0)], static := [(1, 5)], map := 2, bankA := { key := 7, loaded := true }, winChecked := 5 }, []⟩, 3,
      by decide +kernel⟩,
    ⟨⟨{ ({} : Dev) with queues := [], launches := [], dmaWait := [], coilOps := [], fabric := {}, coil := {}, engOwner := [], tiles := [] }.up.wr
      Reg.PA_PART_CFG_STATE 2 1 |>.clr Reg.PA_ENG_OWNER_OWNER |>.clr Reg.PA_TILE_CFG_HOLDER |>.clr Reg.PA_TILE_CFG_OWNER |>.clr
      Reg.PA_MEM_OWNER_OWNER, []⟩, .pf0, 2, by decide +kernel⟩⟩

/-- The hypotheses of Debugging. -/
theorem witness_Debugging :
    (∃ (s : State) (n bp pc : Nat), s.dev.flag Reg.CC_BP_EN (win n bp) = true ∧ s.dev.haltOk n (s.dev.corePart n) = true ∧ s.dev.rd
      Reg.CC_STATUS_STATE n = 0 ∧ s.dev.masks Ev.CC_BREAK n = false) ∧
    (∃ (s : State) (src : Src) (n : Nat), s.dev.reaches src .CC = .ok ∧ s.dev.haltOk n (srcPart src) = true ∧ s.dev.rd Reg.CC_STATUS_STATE n = 0 ∧
      s.dev.masks Ev.CC_BREAK n = false) ∧
    (∃ (s : State) (src : Src) (n : Nat), s.dev.reaches src .CC = .ok ∧ s.dev.haltOk n (srcPart src) = true ∧ s.dev.rd Reg.CC_STATUS_STATE n ≠ 0 ∧
      (s.dev.tile n).held = [] ∧ (s.dev.tile n).runs = []) ∧
    (∃ (s : State) (src : Src) (n : Nat), s.dev.reaches src .CC = .ok ∧ s.dev.haltOk n (srcPart src) = true ∧ s.dev.rd Reg.CC_STATUS_STATE n = 2 ∧
      s.dev.masks Ev.CC_BREAK n = false) ∧
    (∃ (s : State) (n : Nat), s.dev.rd Reg.CC_STATUS_STATE n = 1 ∧ s.dev.handoverPoint n = true) ∧
    (∃ (s : State) (src : Src) (e : Nat), s.dev.reaches src .VE = .ok ∧ s.dev.engineOwner e = srcPart src ∧ e < 64 ∧ s.dev.rd Reg.VE_STATUS_STATE e =
      1) ∧
    (∃ (s : State) (src : Src) (e : Nat), s.dev.reaches src .VE = .ok ∧ s.dev.engineOwner e = srcPart src ∧ e < 64 ∧ s.dev.rd Reg.VE_STATUS_STATE e =
      2) ∧
    (∃ (s : State) (src : Src) (e : Nat), s.dev.reaches src .VE = .ok ∧ s.dev.engineOwner e = srcPart src ∧ e < 64 ∧ s.dev.rd Reg.VE_STATUS_STATE e =
      3) ∧
    (∃ (s : State) (n : Nat), 16 ≤ n ∧ s.dev.masks Ev.CC_PAIR_SPLIT n = false) ∧
    (∃ (s : State) (pair : Nat), s.dev.flag Reg.CC_STATUS_SPLIT (16 + 2 * pair) = true ∧ s.dev.fwHalted.contains pair = false ∧ pair < 2 ∧ s.dev.masks
      Ev.CC_FW_HALT (16 + 2 * pair) = false ∧ s.dev.masks Ev.CC_FW_HALT (17 + 2 * pair) = false) ∧
    (∃ (s : State) (n : Nat), n < 16 ∧ s.dev.svc n ≠ 4 ∧ (s.dev.tile n).held = [] ∧ (s.dev.tile n).runs = [] ∧ (s.dev.tile n).waiting = [] ∧
      s.dev.masks Ev.PT_OUT_OF_SERVICE n = false) ∧
    (∃ (s : State) (n : Nat) (h : Held), n < 16 ∧ s.dev.svc n = 4 ∧ (s.dev.tile n).held = [h] ∧ h.op ≠ 0x10 ∧ (s.dev.tile n).runs = []) :=
  ⟨⟨⟨({} : Dev).up.wr Reg.CC_BP_EN (win 3 1) 1 |>.wr Reg.CC_STATUS_STATE 3 0 |>.unmask Ev.CC_BREAK 3, []⟩, 3, 1, 5, by decide +kernel⟩,
    ⟨⟨({} : Dev).up.wr Reg.PA_TILE_CFG_HOLDER 3 0 |>.wr Reg.CC_STATUS_STATE 3 0 |>.unmask Ev.CC_BREAK 3, []⟩, .pf0, 3, by decide +kernel⟩,
    ⟨⟨({} : Dev).up.wr Reg.PA_TILE_CFG_HOLDER 3 0 |>.wr Reg.CC_STATUS_STATE 3 2 |>.setTile 3 { nextSeq := 4 }, []⟩, .pf0, 3, by decide +kernel⟩,
    ⟨⟨({} : Dev).up.wr Reg.PA_TILE_CFG_HOLDER 3 0 |>.wr Reg.CC_STATUS_STATE 3 2 |>.unmask Ev.CC_BREAK 3, []⟩, .pf0, 3, by decide +kernel⟩,
    ⟨⟨({} : Dev).up.wr Reg.CC_STATUS_STATE 3 1 |>.setTile 3 { nextSeq := 4 }, []⟩, 3, by decide +kernel⟩,
    ⟨⟨{ ({} : Dev) with engOwner := [] }.up.wr Reg.VE_STATUS_STATE 3 1, []⟩, .pf0, 3, by decide +kernel⟩,
    ⟨⟨{ ({} : Dev) with engOwner := [] }.up.wr Reg.VE_STATUS_STATE 3 2, []⟩, .pf0, 3, by decide +kernel⟩,
    ⟨⟨{ ({} : Dev) with engOwner := [] }.up.wr Reg.VE_STATUS_STATE 3 3, []⟩, .pf0, 3, by decide +kernel⟩,
    ⟨⟨({} : Dev).up.unmask Ev.CC_PAIR_SPLIT 17, []⟩, 17, by decide +kernel⟩,
    ⟨⟨{ ({} : Dev) with fwHalted := [] }.up.wr Reg.CC_STATUS_SPLIT 18 1 |>.unmask Ev.CC_FW_HALT 18 |>.unmask Ev.CC_FW_HALT 19, []⟩, 1,
      by decide +kernel⟩,
    ⟨⟨({} : Dev).up.wr Reg.PT_STATUS_SVC 3 2 |>.setTile 3 { nextSeq := 4 } |>.unmask Ev.PT_OUT_OF_SERVICE 3, []⟩, 3, by decide +kernel⟩,
    ⟨⟨({} : Dev).up.wr Reg.PT_STATUS_SVC 3 4 |>.setTile 3 { nextSeq := 4, held := [⟨0x11, ct, 3, 0, c0⟩] }, []⟩, 3, ⟨0x11, ct, 3, 0, c0⟩,
      by decide +kernel⟩⟩

/-- The hypotheses of Tracing. -/
theorem witness_Tracing :
    (∃ (s : State) (p : Nat), s.dev.flag Reg.TR_PCTRL_SNAP_EN p = true ∧ s.dev.traceOn p = true ∧ s.dev.traceFull p = false ∧ s.dev.flag
      Reg.TR_PCTRL_STOP p = false ∧ NMap.get 0 s.dev.trLost p = 0) ∧
    (∃ (s : State) (src : Src) (p v : Nat), s.dev.reaches src .TR = .ok ∧ (srcPart src = 0 ∨ srcPart src = p) ∧ s.dev.flag Reg.TR_PCTRL_STOP p =
      false) :=
  ⟨⟨⟨{ ({} : Dev) with trLost := [] }.up.wr Reg.TR_PCTRL_SNAP_EN 2 1 |>.wr Reg.TR_CTRL_EN 0 1 |>.wr Reg.TR_PCTRL_EN 2 1 |>.wr Reg.TR_REGION_BASE 2 5
      |>.wr Reg.TR_HEAD_LOST 2 0 |>.wr Reg.TR_PCTRL_STOP 2 0 |>.wr Reg.TR_SIZE_SIZE 2 3, []⟩, 2, by decide +kernel⟩,
    ⟨⟨({} : Dev).up.wr Reg.TR_PCTRL_STOP 2 0, []⟩, .pf0, 2, 5, by decide +kernel⟩⟩

/-- The hypotheses of PatchCommands. -/
theorem witness_PatchCommands :
    (∃ (s : State) (c : Cmd) (t i : Nat), t = c.tile ∧ i = bits c.w2 6 0 ∧ s.dev.takesPatch c ∧ bits c.w2 8 7 ≠ 3 ∧ dValid (s.dev.desc t i) = false ∧
      bits c.w2 26 15 + patchBlocks (bits c.w2 14 9 + 1) (bits c.w2 8 7) ≤ 4096 ∧ s.dev.meetsPatch t (bits c.w2 26 15) (patchBlocks (bits c.w2 14 9 +
      1) (bits c.w2 8 7)) 128 = false ∧ s.dev.meetsPpb t (bits c.w2 26 15) (patchBlocks (bits c.w2 14 9 + 1) (bits c.w2 8 7)) = false) ∧
    (∃ (s : State) (c : Cmd) (t i : Nat), t = c.tile ∧ i = bits c.w2 6 0 ∧ s.dev.takesPatch c ∧ patchOf (s.dev.desc t i) (s.dev.cPart c) = true ∧
      dState (s.dev.desc t i) = 0) ∧
    (∃ (s : State) (c : Cmd) (t i : Nat), t = c.tile ∧ i = bits c.w2 6 0 ∧ s.dev.takesPatch c ∧ patchOf (s.dev.desc t i) (s.dev.cPart c) = true ∧
      dState (s.dev.desc t i) = 0) ∧
    (∃ (s : State) (c : Cmd) (t i p : Nat), t = c.tile ∧ i = bits c.w2 6 0 ∧ p = s.dev.cPart c ∧ s.dev.takesPatch c ∧ patchOf (s.dev.desc t i) p =
      true ∧ dState (s.dev.desc t i) = 0 ∧ dFmt (s.dev.desc t i) = 0 ∧ dRows (s.dev.desc t i) = 1 ∧ dIncomplete (s.dev.desc t i) = false ∧ dSat
      (s.dev.desc t i) = false ∧ bits c.w2 9 7 = 0 ∧ bits c.w5 47 0 = 0 ∧ s.dev.probeWrite p (bits c.w3 47 0) 1536 = .ok) :=
  ⟨⟨⟨({} : Dev).tileReady.setTile 3 { desc := [(1, mkDesc 0 3 4 0)] }, []⟩,
      { ct with w2 := BitVec.ofNat 64 (9 + 2 * 2 ^ 7 + 2 * 2 ^ 9 + 64 * 2 ^ 15) }, 3, 9, by unfold Dev.takesPatch Dev.calm; decide +kernel⟩,
    ⟨⟨({} : Dev).tileReady.setTile 3 { desc := [(1, mkDesc 0 3 4 0), (9, dSetBit (mkDesc 1 3 64 0) 11)] } |>.putLe (acBase 3 + 64 * 1024 + 5) 4 5,
      []⟩, { ct with w2 := 9 }, 3, 9, by unfold Dev.takesPatch Dev.calm; decide +kernel⟩,
    ⟨⟨({} : Dev).tileReady.setTile 3 { desc := [(1, mkDesc 0 3 4 0), (9, dSetBit (mkDesc 1 3 64 0) 11)] } |>.putLe (acBase 3 + 64 * 1024 + 5) 4 5,
      []⟩, { ct with w2 := 9 }, 3, 9, by unfold Dev.takesPatch Dev.calm; decide +kernel⟩,
    ⟨⟨{ ({} : Dev) with mem := [] }.hbmReady.tileReady.setTile 3 { desc := [(1, mkDesc 0 3 4 0), (9, mkDesc 0 0 64 0)] } |>.putLe (acBase 3 + 64 *
      1024 + 5) 4 5 |>.putLe 5000 4 2, []⟩, { ct with w2 := 9, w3 := 4096 }, 3, 9, 0, by unfold Dev.takesPatch Dev.calm; decide +kernel⟩⟩

/-- The hypotheses of Splices. -/
theorem witness_Splices :
    (∃ (s : State) (c : Cmd) (t r j : Nat), t = c.tile ∧ s.dev.takesPatch c ∧ (s.dev.tile t).shared = false ∧ nbits (bits c.w3 36 0) 3 0 = t ∧
      regionField (bits c.w3 36 0) = ⟨r, r, j, j⟩ ∧ s.dev.spliceSrc (.live (bits c.w2 3 0)) (bits c.w2 10 4) (s.dev.cPart c) ⟨r, r, j, j⟩ (bits c.w2 3
      0 = t ∧ bits c.w2 10 4 = nbits (bits c.w3 36 0) 10 4) = none ∧ s.dev.spliceDst (.live t) (nbits (bits c.w3 36 0) 10 4) (s.dev.cPart c) ⟨r, r, j,
      j⟩ false = none ∧ dState (s.dev.desc (bits c.w2 3 0) (bits c.w2 10 4)) = 0 ∧ (accAdd 0 (s.dev.accRead (.live t) (s.dev.desc t (nbits (bits c.w3
      36 0) 10 4)) r j) (s.dev.accRead (.live (bits c.w2 3 0)) (s.dev.desc (bits c.w2 3 0) (bits c.w2 10 4)) r j)).2 = false) ∧
    (∃ (s : State) (w : Wait) (h : Held) (t i : Nat), w.obj = .patch t i ∧ w.c = some h.c ∧ s.dev.waits = [w] ∧ h.c.tile = t ∧ h.op = 0x14 ∧ i = bits
      h.c.w2 6 0 ∧ (s.dev.tile t).held = [h] ∧ (s.dev.tile t).runs = [] ∧ (s.dev.tile t).dead = false ∧ s.dev.seqStopped t = false ∧ patchOf
      (s.dev.desc t i) (s.dev.cPart h.c) = true ∧ dState (s.dev.desc t i) = 0) :=
  ⟨⟨⟨({} : Dev).tileReady.setTile 3 { desc := [(1, mkDesc 0 3 4 0), (9, mkDesc 0 2 64 0)] } |>.putLe (acBase 3 + 4 * 1024 + 12 * 130) 11 (2 * 3)
      |>.putLe (acBase 3 + 64 * 1024 + 12 * 130) 11 (3 * 5), []⟩,
      { ct with w2 := BitVec.ofNat 64 (3 + 1 * 16), w3 := BitVec.ofNat 64 (3 + 9 * 16 + 2 ^ 11 + 2 ^ 17 + 2 * 2 ^ 23 + 2 * 2 ^ 30) }, 3, 1, 2,
      by unfold Dev.takesPatch Dev.calm; decide +kernel⟩,
    ⟨⟨{ ({} : Dev).tileReady with waits := [⟨5, .patch 3 9, .queue 5, 0, 0, 9, some { ct with w2 := 9 }⟩] }.setTile 3
      { desc := [(1, mkDesc 0 3 4 0), (9, mkDesc 0 2 64 0)], held := [⟨0x14, { ct with w2 := 9 }, 4, 0, c0⟩] }, []⟩, ⟨5, .patch 3 9, .queue 5, 0, 0,
      9, some { ct with w2 := 9 }⟩, ⟨0x14, { ct with w2 := 9 }, 4, 0, c0⟩, 3, 9, by decide +kernel⟩⟩

/-- The hypotheses of BankEpochs. -/
theorem witness_BankEpochs :
    (∃ (s : State) (c : Cmd) (t n : Nat) (lv : List Int) (sc : List Nat) (z : Nat), t = c.tile ∧ n = (s.dev.tile t).nextSeq ∧ s.dev.gate t
      (s.dev.cPart c) = .pass ∧ s.dev.svc t = 2 ∧ s.dev.flag Reg.PT_CTRL_TILE_EN t = false ∧ s.dev.calm t ∧ (s.dev.tile t).dead = false ∧ (s.dev.tile
      t).loads = [] ∧ (s.dev.tile t).bankA.loaded = false ∧ (s.dev.tile t).bankB.loaded = false ∧ (s.dev.tile t).shared = false ∧ (s.dev.rd
      Reg.QM_TILE_PREEMPT_BITS 0).testBit t = false ∧ epochBad c = false ∧ c.pmode ≠ 0 ∧ c.load = true ∧ c.isPair = false ∧ s.dev.readImages t c false
      (s.dev.tile t).nextSubs = .ok lv sc z ∧ s.dev.probeRead (s.dev.cPart c) c.wtAddr (128 * weightBytes c.wfmt) = .ok ∧ s.dev.probeRead (s.dev.cPart
      c) c.scaleAddr (256 * groupCount c.gsize) = .ok) ∧
    (∃ (s : State) (t : Nat) (l : Load), (s.dev.tile t).loads = [l] ∧ l.sent = false ∧ s.dev.calm t) ∧
    (∃ (s : State) (t : Nat) (l : Load), (s.dev.tile t).loads = [l] ∧ l.sent = true ∧ s.dev.calm t ∧ (∀ g, g < 8 → NMap.get [] (s.dev.tile
      t).colsumSeen (8 * b2n l.bankB + g) = levelSums l.levels g) ∧ ((s.dev.tile t).bank l.bankB).loaded = true ∧ ((s.dev.tile t).bank l.bankB).key =
      l.key) ∧
    (∃ (s : State) (t : Nat) (h : Held), s.dev.inService t = true ∧ (s.dev.tile t).runs = [] ∧ (s.dev.tile t).held = [h] ∧ s.dev.headWantsSwap t =
      some h ∧ h.c.isPair = false ∧ s.dev.flag Reg.PM_CAL_TILE_RUNNING t = false ∧ (s.dev.tile t).stages = [] ∧ h.img = h.c ∧ (s.dev.idle t).map =
      (s.dev.tile t).map ∧ (h.c.pmode = 1 → s.dev.probeRead (s.dev.cPart h.c) h.c.tsv (4 * h.c.rows) = .ok)) :=
  ⟨let ⟨a, b, z, h⟩ := image_ok bkDev 3 bk false (bkDev.tile 3).nextSubs (by decide +kernel);
      by refine ⟨⟨bkDev, []⟩, bk, 3, 4, a, b, z, ?_⟩; and_intros <;> first | decide +kernel | (unfold Dev.calm; decide +kernel) | exact h,
    ⟨⟨({} : Dev).tileReady.setTile 3 { loads := [loadB false], air := [.plane 3 4] }, []⟩, 3, loadB false, by unfold Dev.calm; decide +kernel⟩,
    ⟨⟨({} : Dev).tileReady.setTile 3
      { loads := [loadB true], bankB := { loaded := true, key := 8, levels := [1, 2] }, colsumSeen := (List.range 8).map (fun g => (8 + g, levelSums [1, 2] g)) },
      []⟩, 3, loadB true, by unfold Dev.calm; decide +kernel⟩,
    ⟨⟨({} : Dev).tileReady.wr Reg.PT_CTRL_TILE_EN 3 1 |>.wr Reg.PT_STATUS_ACTIVE_BANK 3 0 |>.setTile 3
      { held := [⟨0x10, epc, 4, 4, epc⟩], desc := [(0, mkDesc 0 63 2000 0)], bankB := { loaded := true, key := 8, levels := [1, 2] }, bankA := { loaded := false, key := 6, verified := true } },
      []⟩, 3, ⟨0x10, epc, 4, 4, epc⟩, by decide +kernel⟩⟩

/-- The hypotheses of RowsInProgress. -/
theorem witness_RowsInProgress :
    (∃ (s : State) (t a n : Nat) (r : Run) (e : Word) (k : Packed), (s.dev.tile t).runs = [r] ∧ r.ended = false ∧ s.dev.inService t = true ∧ r.packed
      < r.limit ∧ r.pass = 0 ∧ r.c.exports = false ∧ rowRange r.c r.packed = (a, n) ∧ s.dev.probeRead (s.dev.runPart r) a n = .ok ∧ e = (if r.packed =
      0 then NMap.get 0 (s.dev.tile t).static r.c.staticIdx else r.entry) ∧ (r.c.pmode = 2 → r.packed = 0 → entryCheck t r.c e = none) ∧ (r.c.pmode =
      2 → r.packed + 1 ≠ r.c.rows) ∧ k = packRow r.c e (r.recs.getD r.packed 0) (s.dev.bytes a n) ∧ k.nonfinite = 0 ∧ k.clamp = false) ∧
    (∃ (s : State) (t : Nat) (r : Run) (row : Row) (rest : List Row), (s.dev.tile t).packedRows = row :: rest ∧ (s.dev.tile t).current = some r ∧
      s.dev.inService t = true ∧ NMap.get 0 s.dev.rate (quadOf t) = 0 ∧ (s.dev.tile t).replayStop = false ∧ row.run = r.id ∧ (s.dev.tile t).bankGood
      (s.dev.active t) row.key = true) ∧
    (∃ (s : State) (t tag p : Nat) (row : Row) (codes : List Int) (rest : List Sample), (s.dev.tile t).air = .plane tag p :: rest ∧ (s.dev.tile
      t).rows = [row] ∧ row.tag = tag ∧ row.void = false ∧ (∀ g, g < 8 → flaggedGroups (segOf (codes.map decided) g) = [])) ∧
    (∃ (s : State) (t tag p seg : Nat) (row : Row) (codes : List Int) (rest : List Sample), (s.dev.tile t).air = .replay tag p seg :: rest ∧
      (s.dev.tile t).rows = [row] ∧ row.tag = tag ∧ row.void = false ∧ (s.dev.tile t).runs = [] ∧ (s.dev.tile t).replayWait = [] ∧ (s.dev.tile
      t).replayQ.length + rest.countP Sample.isReplay < 16 ∧ flaggedGroups (segOf (codes.map decided) 0) ≠ [] ∧ s.dev.isLate t row = false ∧ NMap.get
      0 row.tries (p * 8 + seg) < 3) ∧
    (∃ (s : State) (t : Nat) (q : Sample) (rest : List Sample), (s.dev.tile t).replayQ = q :: rest) ∧
    (∃ (s : State) (t tag p seg : Nat) (row : Row) (b : Bank) (rest : List Sample), (s.dev.tile t).recompQ = .replay tag p seg :: rest ∧ (s.dev.tile
      t).rows = [row] ∧ row.tag = tag ∧ row.void = false ∧ (s.dev.tile t).recompWait = [] ∧ (s.dev.tile t).byKey row.key = some b) ∧
    (∃ (s : State) (t : Nat) (row : Row) (r : Run) (b : Bank), (s.dev.tile t).readyRow = some (row, r, b) ∧ r.c.isPair = true ∧ row.pass = 0 ∧
      (s.dev.tile t).runs = [r]) ∧
    (∃ (s : State) (t : Nat) (row : Row) (r : Run) (b : Bank) (dsc : Nat × Nat) (n : Nat → Nat → Int), (s.dev.tile t).readyRow = some (row, r, b) ∧
      r.c.isPair = false ∧ (s.dev.tile t).runs = [r] ∧ (s.dev.tile t).held = [] ∧ s.dev.untraced ∧ r.added + 1 < r.limit ∧ (r.ended = true ∨
      (s.dev.tile t).bankGood (s.dev.active t) r.key = true) ∧ dsc = s.dev.desc t (r.c.patchFor row.idx) ∧ (∀ g j, n g j = if r.c.accfmt = 0 then
      addend (s.dev.corrected t r row b g j) (b.scales.getD (j * 8 + g) 0) row.stok (r.c.wfmt == 0) else s.dev.corrected t r row b g j)) :=
  ⟨⟨⟨{ ({} : Dev) with mem := [(4097, 5)] }.hbmReady.tileReady.setTile 3 { runs := [runP] }, []⟩, 3, _, _, runP, _, _, by decide +kernel,
      by decide +kernel, by decide +kernel, by decide +kernel, by decide +kernel, by decide +kernel, rfl, by decide +kernel, rfl, by decide +kernel,
      by decide +kernel, rfl, by decide +kernel⟩,
    ⟨⟨({} : Dev).tileReady.wr Reg.PT_STATUS_ACTIVE_BANK 3 0 |>.setTile 3
      { runs := [runA], bankA := { loaded := true, key := 8 }, packedRows := [rowA], air := [.colsum true] }, []⟩, 3, runA, rowA, [],
      by decide +kernel⟩,
    ⟨⟨({} : Dev).tileReady.setTile 3 { rows := [rowA], air := [.plane 7 5, .colsum true], winFlagged := 3 }, []⟩, 3, 7, 5, rowA, [], [.colsum true],
      by decide +kernel⟩,
    ⟨⟨({} : Dev).tileReady.wr Reg.PT_STATUS_ACTIVE_BANK 3 0 |>.setTile 3
      { rows := [rowA], bankA := { loaded := true, key := 8 }, air := [.replay 7 2 5, .colsum true], winFlagged := 3 }, []⟩, 3, 7, 2, 5, rowA, (600 ::
      List.replicate 143 2), [.colsum true], by decide +kernel⟩,
    ⟨⟨({} : Dev).tileReady.setTile 3 { replayQ := [.replay 7 2 5, .colsum true], air := [.colsum false] }, []⟩, 3, (.replay 7 2 5), [.colsum true],
      by decide +kernel⟩,
    ⟨⟨({} : Dev).tileReady.setTile 3
      { recompQ := [.replay 7 2 5, .colsum true], rows := [rowA], bankA := { loaded := true, key := 8, levels := [1, 2, 3] } }, []⟩, 3, 7, 2, 5, rowA,
      { loaded := true, key := 8, levels := [1, 2, 3] }, [.colsum true], by decide +kernel⟩,
    ⟨⟨{ ({} : Dev) with mem := [(acBase 3, 5), (acBase 3 + 1024 * 100 + 1, 8)] }.tileReady.setTile 3
      { ppbBase := 100, ppbActive := true, ppbBlocks := 8, runs := [pairRun], rows := [pairRow], bankB := { loaded := true, key := 9, levels := [1, 2, 3], verified := true } },
      []⟩, 3, pairRow, pairRun, { loaded := true, key := 9, levels := [1, 2, 3], verified := true }, by decide +kernel⟩,
    ⟨⟨addDev, []⟩, 3, { rowA with width := 1, dec := (List.range 8).map (fun k => (k, [3, -7])) }, { runA with packed := 5, started := 5 },
      { loaded := true, key := 8, levels := [1, 2, 3], scales := [0x7F00], verified := true }, _, _, by decide +kernel, by decide +kernel,
      by decide +kernel, by decide +kernel, by unfold Dev.untraced; decide +kernel, by decide +kernel, by decide +kernel, rfl, fun g j => rfl⟩⟩

/-- The hypotheses of TileUpkeep. -/
theorem witness_TileUpkeep :
    (∃ (s : State) (t i : Nat) (w : Widen), (s.dev.tile t).widen = [w] ∧ w.entry = i ∧ s.dev.calm t ∧ NMap.get 0 (s.dev.tile t).static i = w.word) ∧
    (∃ (s : State) (t i : Nat) (w : Widen) (v : Word), (s.dev.tile t).widen = [w] ∧ w.entry = i ∧ s.dev.calm t) ∧
    (∃ (s : State) (t i : Nat) (w : Widen), (s.dev.tile t).widen = [w] ∧ w.entry = i ∧ s.dev.calm t ∧ NMap.get 0 (s.dev.tile t).static i ≠ w.word) ∧
    (∃ (s : State) (t : Nat), (s.dev.tile t).epochActive = true ∧ (s.dev.active t).loaded = true ∧ s.dev.svc t ≠ 4 ∧ (s.dev.tile t).replayQ = []) ∧
    (∃ (s : State) (t : Nat) (r : Run), (s.dev.tile t).runs = [r] ∧ r.ended = false ∧ r.limit ≤ r.started ∧ r.added < r.limit ∧ r.c.isPair = false ∧
      (s.dev.tile t).held = []) ∧
    (∃ (s : State) (t : Nat) (r : Run), (s.dev.tile t).runs = [r] ∧ r.ended = false ∧ r.limit ≤ r.started ∧ r.limit ≤ r.added ∧ r.c.isPair = false ∧
      (s.dev.tile t).held = [] ∧ r.touched = [] ∧ r.status = 0 ∧ (∀ y ∈ (s.dev.tile t).rows, y.run ≠ r.id)) ∧
    (∃ (s : State) (t : Nat), (s.dev.tile t).released = false ∧ (s.dev.tile t).epochActive = true ∧ s.dev.calm t ∧ (s.dev.tile t).lastCmd ≤
      (s.dev.tile t).lastEpochEnd) ∧
    (∃ (s : State) (t : Nat), 2 ^ 24 ≤ (s.dev.tile t).winChecked ∧ (s.dev.svc t = 2 ∨ s.dev.svc t = 3) ∧ (s.dev.tile t).winFlagged * 1000000 ≤
      (s.dev.tile t).winChecked) ∧
    (∃ (s : State) (t : Nat), 2 ^ 24 ≤ (s.dev.tile t).winChecked ∧ s.dev.svc t = 2 ∧ (s.dev.tile t).winFlagged * 10000 ≤ (s.dev.tile t).winChecked ∧
      (s.dev.tile t).winChecked < (s.dev.tile t).winFlagged * 1000000 ∧ (s.dev.tile t).persist = 0 ∧ s.dev.refinOk = true ∧ s.dev.flag
      Reg.PM_CAL_TILE_RUNNING t = false ∧ (s.dev.tile t).cal.waitRefin = false ∧ s.dev.masks Ev.PT_RATE_HIGH t = false) ∧
    (∃ (s : State) (t : Nat), 2 ^ 24 ≤ (s.dev.tile t).winChecked ∧ s.dev.svc t = 2 ∧ s.dev.calm t ∧ (s.dev.tile t).waiting = [] ∧ (s.dev.tile
      t).winChecked < (s.dev.tile t).winFlagged * 10000 ∧ s.dev.masks Ev.PT_OUT_OF_SERVICE t = false) :=
  ⟨⟨⟨({} : Dev).tileReady.setTile 3 { widen := [⟨2, 0x2800000100, 4, 9, -5, 2 ^ 40 + 5⟩], static := [(2, 0x2800000100)] }, []⟩, 3, 2, ⟨2,
      0x2800000100, 4, 9, -5, 2 ^ 40 + 5⟩, by unfold Dev.calm; decide +kernel⟩,
    ⟨⟨({} : Dev).tileReady.setTile 3 { widen := [⟨2, 0x800000100, 4, 9, -5, 2 ^ 40 + 5⟩] }, []⟩, 3, 2, ⟨2, 0x800000100, 4, 9, -5, 2 ^ 40 + 5⟩,
      (BitVec.ofNat 64 2), by unfold Dev.calm; decide +kernel⟩,
    ⟨⟨({} : Dev).tileReady.setTile 3 { widen := [⟨2, 0x2800000100, 4, 9, -5, 2 ^ 40 + 5⟩], static := [(2, 0x2800000101)] }, []⟩, 3, 2, ⟨2,
      0x2800000100, 4, 9, -5, 2 ^ 40 + 5⟩, by unfold Dev.calm; decide +kernel⟩,
    ⟨⟨({} : Dev).tileReady.wr Reg.PT_STATUS_ACTIVE_BANK 3 0 |>.setTile 3
      { epochActive := true, epochStart := 2, bursts := 3, bankA := { loaded := true } }, []⟩, 3, by decide +kernel⟩,
    ⟨⟨({} : Dev).tileReady.setTile 3
      { runs := [{ id := 4, c := epc, target := 4, img := epc, firstHi := false, limit := 5, packed := 5, started := 5, added := 2 }] }, []⟩, 3,
      { id := 4, c := epc, target := 4, img := epc, firstHi := false, limit := 5, packed := 5, started := 5, added := 2 }, by decide +kernel⟩,
    ⟨⟨({} : Dev).tileReady.setTile 3 { runs := [{ runA with packed := 5, started := 5, added := 5 }] }, []⟩, 3,
      { runA with packed := 5, started := 5, added := 5 }, by decide +kernel⟩,
    ⟨⟨{ ({} : Dev) with now := 5 }.tileReady.setTile 3 { epochActive := true, lastCmd := 3, lastEpochEnd := 2 + 3 }, []⟩, 3,
      by unfold Dev.calm; decide +kernel⟩,
    ⟨⟨({} : Dev).tileReady.setTile 3 { winChecked := 2 ^ 24 + 5, winFlagged := 2, persist := 3 }, []⟩, 3, by decide +kernel⟩,
    ⟨⟨({} : Dev).tileReady.refinFine.unmask Ev.PT_RATE_HIGH 3 |>.setTile 3 { winChecked := 2 ^ 24, winFlagged := 17 }, []⟩, 3, by decide +kernel⟩,
    ⟨⟨({} : Dev).tileReady.unmask Ev.PT_OUT_OF_SERVICE 3 |>.setTile 3 { winChecked := 2 ^ 24, winFlagged := 1700 }, []⟩, 3,
      by unfold Dev.calm; decide +kernel⟩⟩

/-- The hypotheses of TileService. -/
theorem witness_TileService :
    (∃ (s : State) (src : Src) (q r : Nat), s.dev.reaches src .PT = .ok ∧ srcPart src = 0 ∧ r < 3 ∧ NMap.get 0 s.dev.rate q = 0 ∧ r ≠ s.dev.rateOf (4
      * q)) ∧
    (∃ (s : State) (q : Nat), NMap.get 0 s.dev.rate q = 1 ∧ (∀ i, i < 4 → (s.dev.tile (4 * q + i)).rows = [] ∧ (s.dev.tile (4 * q + i)).air = [] ∧
      (s.dev.tile (4 * q + i)).replayQ = [] ∧ (s.dev.tile (4 * q + i)).recompQ = [] ∧ (s.dev.tile (4 * q + i)).replayWait = [] ∧ (s.dev.tile (4 * q +
      i)).recompWait = [])) ∧
    (∃ (s : State) (q r : Nat), NMap.get 0 s.dev.rate q = 2 + r ∧ r < 3 ∧ s.dev.rd Reg.PT_CTRL_QRATE (4 * q) = r ∧ (∀ i, i < 4 → s.dev.calm (4 * q +
      i) ∧ (s.dev.active (4 * q + i)).loaded = false ∧ s.dev.flag Reg.PM_CAL_TILE_RUNNING (4 * q + i) = false ∧ s.dev.svc (4 * q + i) = 5 ∧
      (s.dev.tile (4 * q + i)).svcBack = 2)) ∧
    (∃ (s : State) (src : Src) (t : Nat) (on : Bool), s.dev.reaches src .PT = .ok ∧ s.dev.mayPt src t = true ∧ s.dev.calm t) ∧
    (∃ (s : State) (src : Src) (t : Nat), s.dev.reaches src .PT = .ok ∧ srcPart src = 0 ∧ s.dev.svc t = 4 ∧ (s.dev.tile t).passed = true ∧ NMap.get 0
      s.dev.rate (quadOf t) = 0 ∧ s.dev.calm t) ∧
    (∃ (s : State) (src : Src) (t : Nat), s.dev.reaches src .PT = .ok ∧ srcPart src = 0 ∧ s.dev.svc t = 4 ∧ (s.dev.tile t).passed = true ∧ NMap.get 0
      s.dev.rate (quadOf t) ≠ 0 ∧ s.dev.calm t) :=
  ⟨⟨⟨{ ({} : Dev) with rate := [] }.up.wr Reg.PT_STATUS_QRATE_NOW 4 0, []⟩, .pf0, 1, 2, by decide +kernel⟩,
    ⟨⟨{ ({} : Dev) with rate := [(1, 1)], tiles := [(3, { nextSeq := 7 }), (5, { nextSeq := 6 })] }.up, []⟩, 1, by decide +kernel⟩,
    ⟨⟨rateDev, []⟩, 1, 1, by unfold Dev.calm; decide +kernel⟩,
    ⟨⟨({} : Dev).tileReady.setTile 3 { nextSeq := 4 }, []⟩, .pf0, 3, (false), by unfold Dev.calm; decide +kernel⟩,
    ⟨⟨({} : Dev).tileReady.wr Reg.PT_STATUS_SVC 3 4 |>.setTile 3 { nextSeq := 4, passed := true, epochActive := true }, []⟩, .pf0, 3,
      by unfold Dev.calm; decide +kernel⟩,
    ⟨⟨{ ({} : Dev) with rate := [(0, 1)] }.tileReady.wr Reg.PT_STATUS_SVC 3 4 |>.setTile 3 { nextSeq := 4, passed := true }, []⟩, .pf0, 3,
      by unfold Dev.calm; decide +kernel⟩⟩

/-- The hypotheses of CalibrationRuns. -/
theorem witness_CalibrationRuns :
    (∃ (s : State) (t : Nat), s.dev.flag Reg.PM_CAL_TILE_RUNNING t = false ∧ s.dev.refinOk = true ∧ (s.dev.tile t).cal.waitRefin = false ∧
      s.dev.tempMoved t (s.dev.rdS Reg.PM_CAL_RUN_TEMP t) (s.dev.rd Reg.PM_CAL_CTRL_DT_CAL 0) = true) ∧
    (∃ (s : State) (t : Nat), s.dev.flag Reg.PM_CAL_TILE_RUNNING t = true ∧ s.dev.rd Reg.PM_CAL_TILE_TRIGGER t ≠ 2 ∧ s.dev.tempMoved t (s.dev.tile
      t).cal.temp (s.dev.tile t).cal.dt = true ∧ (s.dev.tile t).cal.restarts < 3) ∧
    (∃ (s : State) (src : Src) (t : Nat), s.dev.reaches src .PM = .ok ∧ srcPart src = 0 ∧ t < 16 ∧ s.dev.refinOk = true ∧ s.dev.flag
      Reg.PM_CAL_TILE_RUNNING t = false ∧ (s.dev.tile t).cal.waitRefin = false) ∧
    (∃ (s : State) (t : Nat), s.dev.idlePeriod t = true ∧ (s.dev.tile t).loads = []) ∧
    (∃ (s : State) (t : Nat), s.dev.idlePeriod t = true ∧ (s.dev.idle t).loaded = true ∧ (s.dev.idle t).key = 0 ∧ (s.dev.tile t).map = (s.dev.idle
      t).map ∧ (s.dev.tile t).stages = [] ∧ s.dev.flag Reg.PM_CAL_TILE_RUNNING t = false) ∧
    (∃ (s : State) (t : Nat), s.dev.flag Reg.PM_CAL_TILE_RUNNING t = true ∧ (s.dev.tile t).cal.late = false ∧ s.dev.masks Ev.PM_CAL_LATE 0 = false) :=
  ⟨⟨⟨({} : Dev).tileReady.refinFine.wr Reg.PM_CAL_CTRL_DT_CAL 0 8 |>.wrS Reg.PM_CAL_RUN_TEMP 3 300 |>.wrS Reg.HM_TEMP_QTEMP 3 325 |>.setTile 3
      { nextSeq := 4 }, []⟩, 3, by decide +kernel⟩,
    ⟨⟨({} : Dev).tileReady.refinFine.wr Reg.PM_CAL_CTRL_DT_CAL 0 8 |>.wrS Reg.PM_CAL_RUN_TEMP 3 300 |>.wrS Reg.HM_TEMP_QTEMP 3 325 |>.wr
      Reg.PM_CAL_TILE_RUNNING 3 1 |>.wr Reg.PM_CAL_TILE_TRIGGER 3 1 |>.setTile 3 { cal := { temp := 300, dt := 8, restarts := 2 } }, []⟩, 3,
      by decide +kernel⟩,
    ⟨⟨({} : Dev).tileReady.refinFine.setTile 3 { nextSeq := 4 }, []⟩, .pf0, 3, by decide +kernel⟩,
    ⟨⟨({} : Dev).tileReady.setTile 3 { nextSeq := 4, bankA := { loaded := true }, bankB := { loaded := true } }, []⟩, 3, by decide +kernel⟩,
    ⟨⟨({} : Dev).tileReady.wr Reg.PT_STATUS_ACTIVE_BANK 3 1 |>.setTile 3
      { nextSeq := 4, map := 2, bankA := { loaded := true, map := 2 }, bankB := { loaded := true, map := 2 } }, []⟩, 3, by decide +kernel⟩,
    ⟨⟨({} : Dev).tileReady.wr Reg.PM_CAL_TILE_RUNNING 3 1 |>.unmask Ev.PM_CAL_LATE 0 |>.setTile 3 { cal := { start := 5 } }, []⟩, 3,
      by decide +kernel⟩⟩

/-- The hypotheses of LockUpdate. -/
theorem witness_LockUpdate :
    (∃ (s : State) (t g n : Nat) (conv : List Int) (late : Bool), (s.dev.ringTile t).on = true ∧ (s.dev.ringTile t).search = none ∧ s.dev.convFrame t
      g = some n ∧ s.dev.loopsHeld t = false) ∧
    (∃ (s : State) (t g n : Nat) (conv : List Int) (late : Bool), (s.dev.ringTile t).on = true ∧ (s.dev.ringTile t).search = none ∧ s.dev.convFrame t
      g = some n ∧ s.dev.loopsHeld t = true) :=
  ⟨⟨⟨lockDev, []⟩, 3, 6, 1, [5, 3, -4, 8], false, by decide +kernel⟩,
    ⟨⟨lockDev.wr Reg.LK_CTRL_FREEZE 3 1, []⟩, 3, 6, 1, [5, 3, -4, 8], false, by decide +kernel⟩⟩

/-- The hypotheses of Heaters. -/
theorem witness_Heaters :
    (∃ (s : State) (t r : Nat) (x : RingTile) (v : Ring), t < 16 ∧ s.dev.rings = [(t, x)] ∧ x.rings = [(r, v)] ∧ x.groups = [] ∧ x.on = true ∧ x.ramp
      = none ∧ x.search = none ∧ x.offDue = false ∧ x.clearDue = false ∧ s.dev.flag Reg.HM_CTRL_DITHER_EN t = false) ∧
    (∃ (s : State) (t r : Nat) (v : Ring), (s.dev.ringTile t).on = true ∧ (s.dev.ringTile t).rings = [(r, v)] ∧ v.state ≠ 0) ∧
    (∃ (s : State) (t : Nat), (s.dev.ringTile t).ramp = some 10000) ∧
    (∃ (s : State) (t : Nat) (codes : List Nat), (s.dev.ringTile t).search ≠ none) ∧
    (∃ (s : State) (src : Src) (t : Nat) (on : Bool), s.dev.reaches src .LK = .ok ∧ srcPart src = 0 ∧ NMap.rising (s.dev.ringTile t).rings = true) ∧
    (∃ (s : State) (t : Nat), s.dev.flag Reg.LL_STATUS_SYSCAL_BUSY t = false) ∧
    (∃ (s : State) (t : Nat), s.dev.flag Reg.LL_STATUS_SYSCAL_BUSY t = true) :=
  ⟨⟨⟨{ ({} : Dev) with rings := [(3, { on := true, rings := [(20, { int := 4096 * 5, state := 2, out := 2 })] })] }.up.wr Reg.HM_CTRL_DITHER_EN 3 0,
      []⟩, 3, 20, { on := true, rings := [(20, { int := 4096 * 5, state := 2, out := 2 })] }, { int := 4096 * 5, state := 2, out := 2 },
      by decide +kernel⟩,
    ⟨⟨{ ({} : Dev) with rings := [(3, { on := true, rings := [(20, { int := 4096 * 5, state := 2, out := 2 })] })] }.up, []⟩, 3, 20,
      { int := 4096 * 5, state := 2, out := 2 }, by decide +kernel⟩,
    ⟨⟨{ ({} : Dev) with rings := [(3, { ramp := some 10000, rings := [(20, { int := 4096 * 5, state := 2, out := 2 })] })] }.up, []⟩, 3,
      by decide +kernel⟩,
    ⟨⟨{ ({} : Dev) with rings := [(3, { search := some 5, rings := [(20, { int := 4096 * 5, state := 2, out := 2 })] })] }.up, []⟩, 3, [5, 6, 70000],
      by decide +kernel⟩,
    ⟨⟨{ ({} : Dev) with rings := [(3, { on := true, rings := [(20, { int := 4096 * 5, state := 2, out := 2 }), (25, { heldRun := 3 })] })] }.up, []⟩,
      .pf0, 3, (false), by decide +kernel⟩,
    ⟨⟨({} : Dev).up.wr Reg.LL_STATUS_SYSCAL_BUSY 3 0 |>.wrS Reg.HM_TEMP_HOTSPOT 3 1005, []⟩, 3, by decide +kernel⟩,
    ⟨⟨({} : Dev).up.wr Reg.LL_STATUS_SYSCAL_BUSY 3 1, []⟩, 3, by decide +kernel⟩⟩

/-- The hypotheses of HeatersOnAndOff. -/
theorem witness_HeatersOnAndOff :
    (∃ (s : State) (src : Src) (t : Nat), s.dev.reaches src .HM = .ok ∧ srcPart src = 0 ∧ s.dev.flag Reg.HM_CTRL_HEAT_EN t = false ∧ s.dev.flag
      Reg.HM_STATUS_RAIL_OPEN t = false ∧ (s.dev.rail (quadOf t)).rising = false ∧ s.dev.flag Reg.LK_STATUS_SP_OK t = true) ∧
    (∃ (s : State) (src : Src) (t : Nat), s.dev.reaches src .HM = .ok ∧ srcPart src = 0 ∧ s.dev.flag Reg.HM_CTRL_HEAT_EN t = true) :=
  ⟨⟨⟨{ ({} : Dev) with rails := [] }.up.wr Reg.HM_CTRL_HEAT_EN 3 0 |>.wr Reg.HM_STATUS_RAIL_OPEN 3 0 |>.wr Reg.LK_STATUS_SP_OK 3 1, []⟩, .pf0, 3,
      by decide +kernel⟩,
    ⟨⟨{ ({} : Dev) with rings := [(3, { on := true, rings := [(20, { int := 4096 * 5, state := 2, out := 2 })] })] }.up.wr Reg.HM_CTRL_HEAT_EN 3 1,
      []⟩, .pf0, 3, by decide +kernel⟩⟩

/-- The hypotheses of PowerLegs. -/
theorem witness_PowerLegs :
    (∃ (s : State) (t leg : Nat), (s.dev.ringTile t).legDue.testBit leg = true ∧ s.dev.flag Reg.HM_STATUS_RAIL_OPEN t = false ∧ (s.dev.rail (quadOf
      t)).rising = false ∧ (s.dev.rd Reg.HM_LEG_STATE t).testBit leg = false) ∧
    (∃ (s : State) (t leg : Nat), (s.dev.ringTile t).hintSpent.testBit leg = false ∧ s.dev.flag Reg.LL_CTRL_INJ_HINT t = true) ∧
    (∃ (s : State) (t leg : Nat), s.dev.flag Reg.HM_STATUS_RAIL_OPEN t = false ∧ (s.dev.ringTile t).legOn.testBit leg = true ∧ leg < 64 ∧ (s.dev.rail
      (quadOf t)).trips = [] ∧ s.dev.calm t ∧ (s.dev.tile t).waiting = []) ∧
    (∃ (s : State) (t leg : Nat), 0 < NMap.get 0 (s.dev.ringTile t).blank leg ∧ s.dev.flag Reg.HM_STATUS_RAIL_OPEN t = false ∧ (s.dev.ringTile
      t).legOn.testBit leg = true ∧ leg < 64 ∧ (s.dev.rail (quadOf t)).trips = [] ∧ s.dev.calm t ∧ (s.dev.tile t).waiting = []) ∧
    (∃ (s : State) (t leg : Nat), 0 < NMap.get 0 (s.dev.ringTile t).blank leg) ∧
    (∃ (s : State) (t leg a : Nat), (s.dev.rail (quadOf t)).trips = [(a, t, leg)] ∧ s.dev.svc t = 4 ∧ s.dev.calm t ∧ s.dev.masks Ev.HM_LEG_TRIP t =
      false) ∧
    (∃ (s : State) (src : Src) (t leg : Nat), s.dev.reaches src .HM = .ok ∧ srcPart src = 0 ∧ leg < 64 ∧ s.dev.flag Reg.HM_STATUS_RAIL_OPEN t = false
      ∧ s.dev.flag Reg.HM_CTRL_HEAT_EN t = false ∧ (s.dev.rd Reg.HM_LEG_STATE t).testBit leg = true) :=
  ⟨⟨⟨{ ({} : Dev) with rails := [], rings := [(3, { legDue := 2 ^ 5 + 5, legFrom := 2, legOn := 3 })] }.up.wr Reg.HM_STATUS_RAIL_OPEN 3 0 |>.wr
      Reg.HM_LEG_STATE 3 0, []⟩, 3, 5, by decide +kernel⟩,
    ⟨⟨{ ({} : Dev) with rings := [(3, { hintSpent := 3 })] }.up.wr Reg.LL_CTRL_INJ_HINT 3 1, []⟩, 3, 5, by decide +kernel⟩,
    ⟨⟨{ ({} : Dev) with rings := [(3, { legOn := 2 ^ 5 + 2 })] }.tileReady.wr Reg.HM_STATUS_RAIL_OPEN 3 0, []⟩, 3, 5,
      by unfold Dev.calm; decide +kernel⟩,
    ⟨⟨{ ({} : Dev) with rings := [(3, { legOn := 2 ^ 5 + 2, blank := [(5, 2)] })] }.tileReady.wr Reg.HM_STATUS_RAIL_OPEN 3 0, []⟩, 3, 5,
      by unfold Dev.calm; decide +kernel⟩,
    ⟨⟨{ ({} : Dev) with rings := [(3, { legOn := 2 ^ 5, blank := [(5, 1 + 5)] })] }.up, []⟩, 3, 5, by decide +kernel⟩,
    ⟨⟨{ ({} : Dev) with rails := [(0, { trips := [(5, 3, 5)] })] }.tileReady.wr Reg.PT_STATUS_SVC 3 4 |>.unmask Ev.HM_LEG_TRIP 3, []⟩, 3, 5, 5,
      by unfold Dev.calm; decide +kernel⟩,
    ⟨⟨{ ({} : Dev) with rings := [(3, { legOn := 2 })] }.up.wr Reg.HM_STATUS_RAIL_OPEN 3 0 |>.wr Reg.HM_CTRL_HEAT_EN 3 0 |>.wr Reg.HM_LEG_STATE 3 34,
      []⟩, .pf0, 3, 5, by decide +kernel⟩⟩

/-- The hypotheses of HeaterRails. -/
theorem witness_HeaterRails :
    (∃ (s : State) (src : Src) (q : Nat), s.dev.reaches src .HM = .ok ∧ srcPart src = 0 ∧ q < 4 ∧ s.dev.flag Reg.HM_STATUS_RAIL_OPEN (4 * q) = true ∧
      (∀ i, i < 4 → s.dev.rd Reg.HM_LEG_STATE (4 * q + i) = 0) ∧ (s.dev.rail q).openAt + 160000000 ≤ s.dev.mono ∧ s.dev.rd Reg.HM_RAIL_RAIL_MV (4 * q)
      < 100) ∧
    (∃ (s : State) (src : Src) (q : Nat), s.dev.reaches src .HM = .ok ∧ srcPart src = 0 ∧ q < 4 ∧ s.dev.flag Reg.HM_STATUS_RAIL_OPEN (4 * q) = false ∧
      s.dev.masks Ev.HM_RAIL_REFUSED (4 * q) = false) ∧
    (∃ (s : State) (q : Nat), (s.dev.rail q).rising = true ∧ (∀ i, i < 4 → s.dev.flag Reg.HM_CTRL_HEAT_EN (4 * q + i) = false)) :=
  ⟨⟨⟨{ ({} : Dev) with mono := 160000000 + 5, rails := [(1, { openAt := 5 })] }.up.wr Reg.HM_STATUS_RAIL_OPEN 4 1 |>.clr Reg.HM_LEG_STATE |>.wr
      Reg.HM_RAIL_RAIL_MV 4 2, []⟩, .pf0, 1, by decide +kernel⟩,
    ⟨⟨({} : Dev).up.wr Reg.HM_STATUS_RAIL_OPEN 4 0 |>.unmask Ev.HM_RAIL_REFUSED 4, []⟩, .pf0, 1, by decide +kernel⟩,
    ⟨⟨{ ({} : Dev) with rails := [(1, { openAt := 5, rising := true })] }.up.clr Reg.HM_CTRL_HEAT_EN, []⟩, 1, by decide +kernel⟩⟩

/-- The hypotheses of LeadlinePasses. -/
theorem witness_LeadlinePasses :
    (∃ (s : State) (u trig a : Nat) (l : List Nat), s.dev.passReady u ∧ trig = s.dev.rd Reg.LL_CTRL_REG_TRIG u ∧ (trig = 0 ∧ (s.dev.unit u).regAt = a
      :: l ∨ trig = 1 ∧ a = (s.dev.unit u).timerAt + 160 * s.dev.rd Reg.LL_TIMER_PERIOD u)) ∧
    (∃ (s : State) (src : Src) (u : Nat), s.dev.reaches src .LL = .ok ∧ srcPart src = 0 ∧ s.dev.passReady u ∧ s.dev.rd Reg.LL_CTRL_REG_TRIG u = 2) ∧
    (∃ (s : State) (u trig a : Nat) (l : List Nat), s.dev.flag Reg.LL_CTRL_REG_EN u = true ∧ trig = s.dev.rd Reg.LL_CTRL_REG_TRIG u ∧ (trig = 0 ∧
      (s.dev.unit u).regAt = a :: l ∨ trig = 1 ∧ a = (s.dev.unit u).timerAt + 160 * s.dev.rd Reg.LL_TIMER_PERIOD u) ∧ 2 ≤ s.dev.rd
      Reg.LL_STATUS_REG_STATE u ∧ s.dev.masks Ev.LL_TRIG_MISSED u = false) ∧
    (∃ (s : State) (u : Nat) (codes : List Int), s.dev.flag Reg.LL_STATUS_SYSCAL_BUSY u = false ∧ (s.dev.unit u).inj = none ∧ (s.dev.unit
      u).injPending = none ∧ s.dev.rd Reg.LL_STATUS_REG_STATE u = 2 ∧ 8 * ((s.dev.unit u).sets + 1) < (entryIndices u 0 (NMap.get 0 (s.dev.unit
      u).list (s.dev.unit u).cur)).length) ∧
    (∃ (s : State) (src : Src) (u v : Nat), s.dev.reaches src .LL = .ok ∧ srcPart src = 0 ∧ s.dev.rd Reg.LL_STATUS_REG_STATE u ≠ 3) ∧
    (∃ (s : State) (src : Src) (u v : Nat) (l : List Nat), s.dev.reaches src .LL = .ok ∧ srcPart src = 0 ∧ s.dev.rd Reg.LL_STATUS_REG_STATE u = 3 ∧
      s.dev.flag Reg.LL_STATUS_SYSCAL_BUSY u = false ∧ (s.dev.unit u).startDue = false ∧ (s.dev.unit u).cur < s.dev.rd Reg.LL_LEN_REG_LEN u ∧ l =
      entryIndices u 0 (NMap.get 0 (s.dev.unit u).list (s.dev.unit u).cur) ∧ l ≠ [] ∧ l.length ≤ (s.dev.wr Reg.LL_RING_TAIL_RECORD u v).ringRoom u) ∧
    (∃ (s : State) (u : Nat) (readings : List Int), u < 16 ∧ s.dev.flag Reg.LL_STATUS_SYSCAL_BUSY u = false ∧ (s.dev.unit u).groupDue = true ∧
      (s.dev.unit u).inj = none ∧ (s.dev.unit u).injPending = none ∧ (∃ i, i < 4 ∧ 4 * (u / 4) + i ≠ u ∧ (s.dev.unit (4 * (u / 4) + i)).tempsNew =
      false)) :=
  ⟨⟨⟨{ ({} : Dev) with ll := [(3, { list := [(0, 4), (1, 5)], passes := 5, regAt := [9, 12] })] }.passOk 3 0, []⟩, 3, 0, 9, [12],
      by unfold Dev.passReady; decide +kernel⟩,
    ⟨⟨{ ({} : Dev) with ll := [(3, { list := [(0, 4), (1, 5)], passes := 5 })] }.passOk 3 2, []⟩, .pf0, 3, by unfold Dev.passReady; decide +kernel⟩,
    ⟨⟨{ ({} : Dev) with ll := [(3, { list := [(0, 4), (1, 5)], regAt := [9, 12] })] }.passOk 3 0 |>.wr Reg.LL_STATUS_REG_STATE 3 2 |>.unmask
      Ev.LL_TRIG_MISSED 3, []⟩, 3, 0, 9, [12], by decide +kernel⟩,
    ⟨⟨{ ({} : Dev) with ll := [(3, { list := [(0, llBig), (1, 5)], passes := 5, buf := [3, 4] })] }.passOk 3 1 |>.wr Reg.LL_STATUS_REG_STATE 3 2, []⟩,
      3, [1, 2, 3, 4, 5, 6, 7, 8], by decide +kernel⟩,
    ⟨⟨({} : Dev).up.wr Reg.LL_STATUS_REG_STATE 3 2, []⟩, .pf0, 3, 5, by decide +kernel⟩,
    ⟨⟨{ ({} : Dev) with ll := [(3, { list := [(0, 4), (1, 5)] })] }.passOk 3 1 |>.wr Reg.LL_STATUS_REG_STATE 3 3, []⟩, .pf0, 3, 0, _,
      by decide +kernel, by decide +kernel, by decide +kernel, by decide +kernel, by decide +kernel, by decide +kernel, rfl, by decide +kernel⟩,
    by refine ⟨⟨{ ({} : Dev) with ll := [(3, { groupDue := true })] }.up.wr Reg.LL_STATUS_SYSCAL_BUSY 3 0, []⟩, 3, [1, 2, 3, 4, 5, 6, 7, 8], ?_⟩; and_intros <;> first | decide +kernel | exact ⟨0, by decide +kernel⟩⟩

/-- The hypotheses of Injections. -/
theorem witness_Injections :
    (∃ (s : State) (src : Src) (u : Nat), s.dev.reaches src .LL = .ok ∧ srcPart src = 0 ∧ s.dev.flag Reg.LL_STATUS_SYSCAL_BUSY u = false ∧ (s.dev.unit
      u).inj = none ∧ (s.dev.unit u).injPending = none) ∧
    (∃ (s : State) (u a : Nat) (l : List Nat), s.dev.flag Reg.LL_CTRL_INJ_FRAME u = true ∧ s.dev.flag Reg.LL_STATUS_SYSCAL_BUSY u = false ∧
      (s.dev.unit u).inj = none ∧ (s.dev.unit u).injPending = none ∧ (s.dev.unit u).injAt = a :: l) ∧
    (∃ (s : State) (u : Nat) (g : InjTrig), (g.cause = 2 ∧ g.leg = 0 ∨ g.cause = 3 ∧ g.ring = 0) ∧ (s.dev.unit u).raised = [g] ∧ s.dev.flag
      Reg.LL_STATUS_SYSCAL_BUSY u = false ∧ (s.dev.unit u).inj = none ∧ (s.dev.unit u).injPending = none) ∧
    (∃ (s : State) (u : Nat) (g : InjTrig), (s.dev.unit u).inj = some g ∧ (s.dev.unit u).injRun.length ≤ (s.dev.unit u).injSets ∧ s.dev.flag
      Reg.LL_STATUS_SYSCAL_BUSY u = false ∧ (s.dev.unit u).injPending = none) :=
  ⟨⟨⟨{ ({} : Dev) with ll := [(3, { passes := 5, sets := 3, buf := [4], inside := 2 })] }.up.wr Reg.LL_STATUS_SYSCAL_BUSY 3 0, []⟩, .pf0, 3,
      by decide +kernel⟩,
    ⟨⟨{ ({} : Dev) with ll := [(3, { passes := 5, sets := 3, buf := [4], injAt := [7, 9] })] }.up.wr Reg.LL_STATUS_SYSCAL_BUSY 3 0 |>.wr
      Reg.LL_CTRL_INJ_FRAME 3 1, []⟩, 3, 7, [9], by decide +kernel⟩,
    ⟨⟨{ ({} : Dev) with ll := [(3, { passes := 5, sets := 3, buf := [4], raised := [⟨2, 40, 0⟩] })] }.up.wr Reg.LL_STATUS_SYSCAL_BUSY 3 0, []⟩, 3, ⟨2,
      40, 0⟩, by decide +kernel⟩,
    ⟨⟨{ ({} : Dev) with ll := [(3, { passes := 5, sets := 3, buf := [4], inj := some ⟨1, 2, 3⟩, injRun := [1], injSets := 1, injBuf := [(0, { value := 5 })] })] }.up.wr
      Reg.LL_STATUS_SYSCAL_BUSY 3 0, []⟩, 3, ⟨1, 2, 3⟩, by decide +kernel⟩⟩

/-- The hypotheses of SystemCalibration. -/
theorem witness_SystemCalibration :
    (∃ (s : State) (src : Src), s.dev.reaches src .LL = .ok ∧ srcPart src = 0 ∧ s.dev.syscal.step = 0 ∧ s.dev.refinCoarse = true) ∧
    (∃ (s : State) (src : Src), s.dev.reaches src .LL = .ok ∧ srcPart src = 0 ∧ s.dev.syscal.step = 0 ∧ s.dev.refinCoarse = true ∧ (s.dev.rd
      Reg.LL_SYSCAL_STATE 16 = 1 ∨ s.dev.rd Reg.LL_SYSCAL_STATE 16 = 2)) ∧
    (∃ (s : State) (sums : List Int), s.dev.syscal.step = 1 ∧ sums.length = 136 ∧ (∀ m ∈ sums, m.natAbs ≤ 20 * 4096) ∧ (∀ u, u < 17 → s.dev.rd
      Reg.LL_STATUS_REG_STATE u ≠ 3)) ∧
    (∃ (s : State) (sums diffs : List Int), s.dev.syscal.step = 2 ∧ sums.length = 136 ∧ s.dev.syscal.offsets.length = 136 ∧ diffs = (List.range
      136).map (fun i => sums.getD i 0 - s.dev.syscal.offsets.getD i 0 * 256) ∧ (∀ v ∈ diffs, (v - 1536 * 4096).natAbs ≤ 31 * 4096) ∧ (∀ u, u < 17 →
      s.dev.rd Reg.LL_STATUS_REG_STATE u ≠ 3)) ∧
    (∃ (s : State) (src : Src), s.dev.reaches src .LL = .ok ∧ srcPart src = 0 ∧ s.dev.syscal.step = 0 ∧ s.dev.refinCoarse = true ∧ s.dev.rd
      Reg.LL_SYSCAL_STATE 16 = 2) :=
  ⟨⟨⟨{ ({} : Dev) with syscal := { offsets := [4] } }.up.refinFine, []⟩, .pf0, by decide +kernel⟩,
    ⟨⟨{ ({} : Dev) with syscal := { offsets := [4] } }.up.refinFine.wr Reg.LL_SYSCAL_STATE 16 1, []⟩, .pf0, by decide +kernel⟩,
    ⟨⟨{ ({} : Dev) with syscal := { step := 1 } }.up, []⟩, ((List.range 136).map (fun i => ((i * 5 % 160000 : Nat) : Int) - 80000)),
      by decide +kernel⟩,
    ⟨⟨{ ({} : Dev) with syscal := { step := 2, offsets := List.replicate 136 3 } }.up, []⟩, (List.replicate 136 (1536 * 4096 + 768)), (List.replicate
      136 (1536 * 4096)), by decide +kernel⟩,
    ⟨⟨{ ({} : Dev) with syscal := { offsets := (List.range 136).map (fun (i : Nat) => (i : Int)), gains := List.replicate 136 32005 } }.up.refinFine.wr
      Reg.LL_SYSCAL_STATE 16 2, []⟩, .pf0, by decide +kernel⟩⟩

/-- The hypotheses of BiasLoops. -/
theorem witness_BiasLoops :
    (∃ (s : State) (q : Nat) (powers : List Int), s.dev.flag Reg.LS_STATUS_ON q = true ∧ s.dev.flag Reg.LS_STATUS_RAMPING q = false ∧ s.dev.usedLines
      q ≠ []) ∧
    (∃ (s : State) (q : Nat), s.dev.flag Reg.LS_STATUS_RAMPING q = true) ∧
    (∃ (s : State) (e lane : Nat) (power : Int), s.dev.flag Reg.LF_STATUS_ON (4 + e) = true ∧ (s.dev.optic (e * 64 + lane)).blanked = false) :=
  ⟨⟨⟨{ ({} : Dev) with combs := [(0, { steady := 3, bias0 := some 1500 }), (2, { lowRun := 2 })] }.up.wr Reg.LS_STATUS_ON 2 1 |>.wr
      Reg.LS_STATUS_RAMPING 2 0, []⟩, 2, ((List.range 34).map (fun i => ((5 + i : Nat) : Int))), by decide +kernel⟩,
    ⟨⟨{ ({} : Dev) with combs := [(0, { steady := 3, bias0 := some 1500 }), (2, { lowRun := 2, bias0 := some 5 })] }.up.wr Reg.LS_STATUS_RAMPING 2 1,
      []⟩, 2, by decide +kernel⟩,
    ⟨⟨{ ({} : Dev) with optics := [(64, { bias := 5, txPower := 4 }), (70, {bias := 7})] }.up.wr Reg.LF_STATUS_ON 5 1, []⟩, 1, 0, (2 : Nat),
      by decide +kernel⟩⟩

/-- The hypotheses of LaserDrivers. -/
theorem witness_LaserDrivers :
    (∃ (s : State) (src : Src) (q : Nat), s.dev.reaches src .LS = .ok ∧ srcPart src = 0 ∧ q < 4 ∧ s.dev.flag Reg.LS_CTRL_EN q = false ∧ s.dev.flag
      Reg.LS_STATUS_DRV_TRIPPED q = false) ∧
    (∃ (s : State) (src : Src) (q : Nat), s.dev.reaches src .LS = .ok ∧ srcPart src = 0 ∧ q < 4 ∧ s.dev.flag Reg.LS_CTRL_EN q = false ∧ s.dev.flag
      Reg.LS_STATUS_DRV_TRIPPED q = true) ∧
    (∃ (s : State) (src : Src) (n : Nat), s.dev.reaches src .LF = .ok ∧ srcPart src = 0 ∧ 4 ≤ n ∧ s.dev.flag Reg.LS_CTRL_EN n = true) ∧
    (∃ (s : State) (src : Src) (q : Nat), s.dev.reaches src .LS = .ok ∧ srcPart src = 0 ∧ q < 4 ∧ s.dev.flag Reg.LS_CTRL_EN q = true ∧ s.dev.flag
      Reg.LS_STATUS_DRV_TRIPPED q = true) ∧
    (∃ (s : State) (q : Nat), q < 4 ∧ s.dev.flag Reg.LS_STATUS_ON q = true ∧ (∀ i, i < 4 → s.dev.svc (4 * q + i) = 4 ∧ s.dev.calm (4 * q + i))) ∧
    (∃ (s : State) (n : Nat), 4 ≤ n ∧ n < 8 ∧ s.dev.flag Reg.LF_STATUS_ON n = true ∧ s.dev.quiet ∧ (∀ k, k / 64 = n - 4 → (s.dev.link k).txq = [] ∧
      (s.dev.link k).replay = []) ∧ s.dev.masks Ev.LS_DRV_OC n = false) :=
  ⟨⟨⟨({} : Dev).up.wr Reg.LS_CTRL_EN 2 0 |>.wr Reg.LS_STATUS_DRV_TRIPPED 2 0, []⟩, .pf0, 2, by decide +kernel⟩,
    ⟨⟨({} : Dev).up.wr Reg.LS_CTRL_EN 2 0 |>.wr Reg.LS_STATUS_DRV_TRIPPED 2 1, []⟩, .pf0, 2, by decide +kernel⟩,
    ⟨⟨({} : Dev).up.wr Reg.LS_CTRL_EN 5 1, []⟩, .pf0, 5, by decide +kernel⟩,
    ⟨⟨({} : Dev).up.wr Reg.LS_CTRL_EN 2 1 |>.wr Reg.LS_STATUS_DRV_TRIPPED 2 1, []⟩, .pf0, 2, by decide +kernel⟩,
    ⟨⟨(List.range 4).foldl (fun x i => x.wr Reg.PT_STATUS_SVC (8 + i) 4)
      ({ ({} : Dev) with tiles := [(3, { nextSeq := 5 }), (9, { nextSeq := 5 })] }.up.wr Reg.LS_STATUS_ON 2 1), []⟩, 2,
      by unfold Dev.calm; decide +kernel⟩,
    ⟨⟨({} : Dev).up.wr Reg.LF_STATUS_ON 5 1 |>.unmask Ev.LS_DRV_OC 5, []⟩, 5, by decide +kernel, by decide +kernel, by decide +kernel,
      by unfold Dev.quiet; decide +kernel, fun _ _ => ⟨rfl, rfl⟩, by decide +kernel⟩⟩

/-- The hypotheses of FabricLanes. -/
theorem witness_FabricLanes :
    (∃ (s : State) (e lane c k : Nat), k = e * 64 + lane ∧ s.dev.directPort (k / 8) = true ∧ s.dev.quiet ∧ (s.dev.link k).txq = [] ∧ (s.dev.link
      k).replay = []) ∧
    (∃ (s : State) (e lane : Nat), (s.dev.optic (e * 64 + lane)).blanked = true) ∧
    (∃ (s : State) (e lane : Nat), (s.dev.optic (e * 64 + lane)).blanked = true ∧ s.dev.fabric = {} ∧ s.dev.masks Ev.LS_TUNE_FAIL (4 + e) = false) ∧
    (∃ (s : State) (e lane : Nat) (power : Int), (s.dev.optic (e * 64 + lane)).blanked = false ∧ (s.dev.link (e * 64 + lane)).stop = false ∧
      (s.dev.optic (e * 64 + lane)).los = false ∧ (s.dev.optic (e * 64 + lane)).setRuns = [2, 0, 0, 0] ∧ power < s.dev.rdS Reg.LF_RX_THR_WARN_LO (4 +
      e) ∧ -900 ≤ power ∧ (s.dev.optic (e * 64 + lane)).warnLo = false ∧ s.dev.masks Ev.LS_RX_WARN (4 + e) = false) ∧
    (∃ (s : State) (port lane : Nat) (es : List PowerEntry) (x : PowerEntry), s.dev.directPort port = true ∧ s.dev.selfLink (laneKey port lane) =
      false ∧ es.find? (fun y => y.channel = (s.dev.optic (laneKey port lane)).channel) = some x) ∧
    (∃ (s : State) (port : Nat), s.dev.directPort port = true ∧ (∀ l, l < 8 → s.dev.carries (laneKey port l) = decide (l = 0))) ∧
    (∃ (s : State) (port lane : Nat), s.dev.directPort port = true ∧ (s.dev.link (laneKey port lane)).up = true ∧ s.dev.masks Ev.LS_PEER_STALE (4 +
      port / 8) = false) :=
  ⟨⟨⟨({} : Dev).up.direct 9, []⟩, 1, 10, 3, 74, by unfold Dev.quiet; decide +kernel⟩,
    ⟨⟨{ ({} : Dev) with optics := [(67, { blanked := true, target := 5 }), (70, { bias := 7 })] }.up, []⟩, 1, 3, by decide +kernel⟩,
    ⟨⟨{ ({} : Dev) with fabric := {}, optics := [(67, { blanked := true, target := 5, retuneAt := 2 }), (70, { bias := 7 })] }.up.unmask
      Ev.LS_TUNE_FAIL 5, []⟩, 1, 3, by decide +kernel⟩,
    ⟨⟨{ ({} : Dev) with optics := [(67, { setRuns := [2, 0, 0, 0], rxPower := 4 }), (70, { bias := 7 })] }.up.unmask Ev.LS_RX_WARN 5 |>.wrS
      Reg.LF_RX_THR_WARN_LO 5 (-300), []⟩, 1, 3, (-301 - (5 : Nat)), by decide +kernel⟩,
    ⟨⟨{ ({} : Dev) with optics := [(laneKey 9 2, { channel := 3, txPower := 5 })] }.up.direct 9, []⟩, 9, 2, [⟨4, 5, 2, true, false⟩, ⟨5, -5, 3, true,
      true⟩], ⟨5, -5, 3, true, true⟩, by decide +kernel⟩,
    ⟨⟨{ ({} : Dev) with optics := [(laneKey 9 2, { channel := 3, txPower := 5 })], fabric := { links := [(laneKey 9 0, { up := true })] } }.up.direct
      9, []⟩, 9, by decide +kernel⟩,
    ⟨⟨{ ({} : Dev) with optics := [(laneKey 9 2, { channel := 3, txPower := 5 })], fabric := { links := [(laneKey 9 2, { up := true, report := 5 })] } }.up.direct
      9 |>.unmask Ev.LS_PEER_STALE 5, []⟩, 9, 2, by decide +kernel⟩⟩

/-- The hypotheses of CoilCommands. -/
theorem witness_CoilCommands :
    (∃ (s : State) (c : Cmd) (p t slot n b : Nat) (l : List Nat) (u : Dev), s.dev.flag Reg.CS_CTRL_EN 0 = true ∧ s.dev.flag Reg.CS_STATUS_READY 0 =
      true ∧ p = s.dev.cPart c ∧ n = bits c.w2 10 5 + 1 ∧ n ≤ 4 ∧ bits c.w2 4 1 ≠ 15 ∧ bits c.w2 14 11 ≤ 9 ∧ (bit c.w2 0 = true ∨ bits c.w2 14 11 = 0)
      ∧ s.dev.nextSlot = some slot ∧ s.dev.rd Reg.CS_PART_SLOTS_LIVE p < s.dev.rd Reg.CS_PART_SLOTS_SLOT_QUOTA p ∧ s.dev.rd
      Reg.CS_PART_SLOTS_SLOT_QUOTA p < 2 ^ 32 ∧ t = polHome (s.dev.policy p (bits c.w2 18 15)) ∧ t < 2 ∧ s.dev.place p t (bits c.w2 4 1) n (List.range
      8) true = some (u, b, l)) ∧
    (∃ (s : State) (c : Cmd) (k : Coil), s.dev.takesCoil c k ∧ k.tier < 2 ∧ k.mirrored = false ∧ nextGen k.gen ≠ s.dev.startGen) ∧
    (∃ (s : State) (c : Cmd) (k : Coil), s.dev.takesCoil c k) ∧
    (∃ (s : State) (c : Cmd) (k : Coil), s.dev.takesCoil c k) ∧
    (∃ (s : State) (c : Cmd) (k : Coil), s.dev.takesCoil c k) ∧
    (∃ (s : State) (c : Cmd) (w i : Nat), s.dev.flag Reg.CS_CTRL_EN 0 = true ∧ s.dev.flag Reg.CS_STATUS_READY 0 = true ∧ w = c.w3.toNat % 2 ^ 50 ∧ i =
      s.dev.cPart c + 64 * bits c.w2 3 0 ∧ polWin w ≠ 0 ∧ polWin w ≤ 1000 ∧ polIdle w ≠ 0) :=
  ⟨let ⟨u, b, l, h⟩ := some_get (allocDev.place 0 0 0 4 (List.range 8) true) (by decide +kernel);
      by refine ⟨⟨allocDev, []⟩, { ct with w2 := 1 + 3 * 2 ^ 5 + 3 * 2 ^ 11 + 2 * 2 ^ 15 }, 0, 0, (allocDev.nextSlot.getD 0), 4, b, l, u, ?_⟩; and_intros <;> first | decide +kernel | exact h,
    ⟨⟨({} : Dev).coilK { ck with pinned := false }, []⟩, cc, { ck with pinned := false }, by unfold Dev.takesCoil; decide +kernel⟩,
    ⟨⟨({} : Dev).coilK { ck with touches := 2, pinned := true }, []⟩, cc, { ck with touches := 2, pinned := true },
      by unfold Dev.takesCoil; decide +kernel⟩,
    ⟨⟨({} : Dev).coilK { ck with touches := 2, pinned := true }, []⟩, cc, { ck with touches := 2, pinned := true },
      by unfold Dev.takesCoil; decide +kernel⟩,
    ⟨⟨({} : Dev).coilK { ck with touches := 2, pinned := true }, []⟩, cc, { ck with touches := 2, pinned := true },
      by unfold Dev.takesCoil; decide +kernel⟩,
    ⟨⟨({} : Dev).coilK ck, []⟩, { cc with w2 := 3, w3 := BitVec.ofNat 64 (3 + 6 * 2 ^ 7 + 9 * 2 ^ 17 + 2 ^ 50) }, (3 + 6 * 2 ^ 7 + 9 * 2 ^ 17), 192,
      by decide +kernel⟩⟩

/-- The hypotheses of StaleHandles. -/
theorem witness_StaleHandles :
    ∃ (s : State) (c : Cmd), s.dev.flag Reg.CS_CTRL_EN 0 = true ∧ s.dev.flag Reg.CS_STATUS_READY 0 = true ∧ hPart c.handle = s.dev.cPart c ∧ hSlot
      c.handle < s.dev.tableSlots ∧ (s.dev.coilAt (hSlot c.handle)).gen ≠ hGen c.handle ∧ s.dev.masks Ev.CS_STALE_HANDLE 0 = false :=
  ⟨⟨({} : Dev).coilK { ck with gen := 8 } |>.unmask Ev.CS_STALE_HANDLE 0, []⟩, cc, by decide +kernel⟩

/-- The hypotheses of CoilData. -/
theorem witness_CoilData :
    (∃ (s : State) (c : Cmd) (k : Coil) (dst n : Nat) (bs : List Byte), s.dev.takesCoil c k ∧ k.tier = 0 ∧ c.w3.toNat + bits c.w4 31 0 ≤ (if k.ring
      then k.count else k.size) ∧ (∀ x ∈ k.reads c.w3.toNat (bits c.w4 31 0), s.dev.deviceLost x.1 = false ∧ ∀ j, j < x.2 → ¬ s.dev.inTable (x.1 + j))
      ∧ s.dev.piecesBad (k.reads c.w3.toNat (bits c.w4 31 0)) = none ∧ bs = s.dev.gather (k.reads c.w3.toNat (bits c.w4 31 0)) ∧ dst = bits c.w5 47 0
      ∧ n = bs.length ∧ s.dev.probeWrite (s.dev.cPart c) dst n = .ok) ∧
    (∃ (s : State) (c : Cmd) (k : Coil) (n : Nat) (bs : List Byte), s.dev.takesCoil c k ∧ k.tier = 0 ∧ k.ring = false ∧ k.mirrored = false ∧ n = bits
      c.w4 31 0 ∧ 0 < n ∧ c.w3.toNat + n ≤ k.size ∧ (∀ x ∈ k.span c.w3.toNat n, s.dev.deviceLost x.1 = false) ∧ s.dev.piecesPartial (k.span c.w3.toNat
      n) = none ∧ (∀ j, j < n → ¬ s.dev.inTable (bits c.w5 47 0 + j)) ∧ s.dev.loadFor (s.dev.cPart c) (bits c.w5 47 0) n = (bs, .ok)) ∧
    (∃ (s : State) (c : Cmd) (k : Coil) (n : Nat) (bs : List Byte), s.dev.takesCoil c k ∧ k.tier = 0 ∧ k.ring = true ∧ k.mirrored = false ∧ n = bits
      c.w4 31 0 ∧ 0 < n ∧ n ≤ k.cap ∧ (∀ x ∈ k.records k.head n, s.dev.deviceLost x.1 = false) ∧ s.dev.piecesPartial (k.records k.head n) = none ∧ (∀
      j, j < n * k.record → ¬ s.dev.inTable (bits c.w5 47 0 + j)) ∧ s.dev.loadFor (s.dev.cPart c) (bits c.w5 47 0) (n * k.record) = (bs, .ok)) ∧
    (∃ (s : State) (c : Cmd) (k : Coil) (e : Nat) (h : List Byte), s.dev.takesCoil c k ∧ k.tier = 0 ∧ bits c.w5 12 0 = 0 ∧ (∀ a ∈ k.ext,
      s.dev.deviceLost a = false) ∧ e < 64 ∧ e / 8 = k.nbhd ∧ s.dev.engineOwner e = s.dev.cPart c ∧ s.dev.engineFree e = true ∧ (∀ f, f < 64 → f / 8 =
      k.nbhd → f ≠ e → s.dev.engineOwner f ≠ s.dev.cPart c) ∧ bits c.w3 47 0 % 4096 = 0 ∧ (∀ j, j < 64 → ¬ s.dev.inTable (bits c.w3 47 0 + j)) ∧
      s.dev.loadFor (s.dev.cPart c) (bits c.w3 47 0) 64 = (h, .ok) ∧ s.dev.routineOk h 0 = true) ∧
    (∃ (s : State) (c : Cmd) (k : Coil) (t b : Nat) (l : List Nat) (u : Dev), s.dev.takesCoil c k ∧ k.pinned = false ∧ k.tier < 2 ∧ bit c.w3 2 = false
      ∧ t = bits c.w3 1 0 ∧ t < 2 ∧ t ≠ k.tier ∧ (∀ a ∈ k.ext, s.dev.deviceLost a = false) ∧ s.dev.place k.owner t k.cls k.ext.length [k.nbhd] false =
      some (u, b, l)) ∧
    (∃ (s : State) (c : Cmd) (k : Coil), s.dev.takesCoil c k ∧ k.pinned = false ∧ k.tier < 2 ∧ bit c.w3 2 = false ∧ bits c.w3 1 0 = k.tier ∧ (∀ a ∈
      k.ext, s.dev.deviceLost a = false)) ∧
    (∃ (s : State) (c : Cmd) (k : Coil), s.dev.takesCoil c k ∧ bits c.w3 15 0 = 0xFFFF ∧ k.mirrored = false) ∧
    (∃ (s : State) (c : Cmd) (k : Coil) (n : Nat), s.dev.takesCoil c k ∧ n = bits c.w3 15 0 ∧ n ≠ 0xFFFF ∧ s.dev.peerRefused (s.dev.cPart c) n = 0 ∧
      k.tier < 2 ∧ (∀ a ∈ k.ext, s.dev.deviceLost a = false) ∧ s.dev.piecesBad (k.span 0 k.size) = none ∧ s.dev.quiet) :=
  ⟨⟨⟨{ ({} : Dev) with mem := [(0x2000064, 4), (0x2001002, 9), (0x3000001, 3)] }.coilK ck, []⟩, { cc with w3 := 4090, w4 := 12, w5 := 0x3000000 },
      ck, 0x3000000, 12, (({ ({} : Dev) with mem := [(0x2000064, 4), (0x2001002, 9), (0x3000001, 3)] }.coilK ck).gather (ck.reads 4090 12)),
      by unfold Dev.inTable Dev.takesCoil; decide +kernel⟩,
    ⟨⟨{ ({} : Dev) with mem := [(0x1000000, 4), (0x1000008, 9), (0x2001001, 3)] }.coilK ck, []⟩, { cc with w3 := 4090, w4 := 12, w5 := 0x1000000 },
      ck, 12, (({ ({} : Dev) with mem := [(0x1000000, 4), (0x1000008, 9), (0x2001001, 3)] }.coilK ck).bytes 0x1000000 12),
      by unfold Dev.inTable Dev.takesCoil; decide +kernel⟩,
    ⟨⟨{ ({} : Dev) with mem := [(0x1000000, 4), (0x1000008, 9), (0x2001001, 3)] }.coilK { ck with ring := true, head := 1022, count := 9 }, []⟩,
      { cc with w4 := 4, w5 := 0x1000000 }, { ck with ring := true, head := 1022, count := 9 }, 4,
      (({ ({} : Dev) with mem := [(0x1000000, 4), (0x1000008, 9), (0x2001001, 3)] }.coilK { ck with ring := true, head := 1022, count := 9 }).bytes
      0x1000000 32), by unfold Dev.inTable Dev.takesCoil; decide +kernel⟩,
    ⟨⟨{ { ({} : Dev) with engines := [], launches := [], mem := [(0x1000, 0x56)] }.coilK ck |>.feReady.routineAt with engOwner := (List.range 7).map (fun i => (i + 1, 2)) },
      []⟩, { cc with w3 := BitVec.ofNat 64 stagingBase, w5 := 2 ^ 13 }, ck, 0,
      (({ { ({} : Dev) with engines := [], launches := [], mem := [(0x1000, 0x56)] }.coilK ck |>.feReady.routineAt with engOwner := (List.range 7).map (fun i => (i + 1, 2)) }).bytes
      stagingBase 64), by unfold Dev.inTable Dev.takesCoil; decide +kernel⟩,
    let ⟨u, b, l, h⟩ := some_get (moveDev.place 0 1 0 2 [0] false) (by decide +kernel);
      by refine ⟨⟨moveDev, []⟩, { cc with w3 := 1 }, ck, 1, b, l, u, ?_⟩; and_intros <;> first | decide +kernel | (unfold Dev.takesCoil; decide +kernel) | exact h,
    ⟨⟨({} : Dev).coilK ck, []⟩, { cc with w3 := 0 }, ck, by unfold Dev.takesCoil; decide +kernel⟩,
    ⟨⟨({} : Dev).coilK { ck with degraded := false }, []⟩, { cc with w3 := 0xFFFF }, { ck with degraded := false },
      by unfold Dev.takesCoil; decide +kernel⟩,
    ⟨⟨({} : Dev).fabOn {} |>.coilK ck, []⟩, { cc with w3 := 8 }, ck, 8, by unfold Dev.takesCoil; decide +kernel, by unfold Dev.quiet; decide +kernel⟩⟩

/-- The hypotheses of CoilUpkeep. -/
theorem witness_CoilUpkeep :
    (∃ (s : State) (o : CoilOp) (k : Coil), s.dev.coilOps = [o] ∧ o.admitted = false ∧ o.op = 7 ∧ k = s.dev.coilAt o.slot ∧ k.gen = o.gen ∧ k.state =
      1) ∧
    (∃ (s : State) (o : CoilOp), s.dev.coilOps = [o] ∧ o.admitted = true ∧ o.wait = .mirror ∧ o.told = some 0 ∧ ((s.dev.coilAt o.slot).mirrored =
      false ∨ (s.dev.coilAt o.slot).mirrorPeer = bits o.c.w3 15 0)) ∧
    (∃ (s : State) (n : Nat), s.dev.flag Reg.CS_CTRL_EN 0 = true ∧ s.dev.flag Reg.CS_STATUS_READY 0 = true ∧ s.dev.flag Reg.CS_CTRL_MIG_EN 0 = false ∧
      s.dev.coil.marks = [] ∧ s.dev.coil.moves = [] ∧ s.dev.rd Reg.CS_STATUS_LOST_STACKS 0 = 0 ∧ s.dev.rd Reg.CS_STATUS_LOST_LPDDR 0 = 0 ∧ NMap.rising
      s.dev.coil.coils = true) ∧
    (∃ (s : State) (n : Nat) (m : Move) (k : Coil), s.dev.flag Reg.CS_CTRL_EN 0 = true ∧ s.dev.flag Reg.CS_CTRL_MIG_EN 0 = true ∧ s.dev.coil.moves =
      [m] ∧ m.kind = .policy ∧ m.started = false ∧ m.seeking = false ∧ m.after = 0 ∧ k = s.dev.coilAt m.slot ∧ k.nbhd = n ∧ k.gen = m.gen ∧ k.state =
      1 ∧ k.pinned = false ∧ m.dst ≠ [] ∧ k.tier ≠ 2 ∧ m.tier ≠ 2) ∧
    (∃ (s : State) (m : Move) (k : Coil), s.dev.coil.moves = [m] ∧ m.started = true ∧ m.kind = .policy ∧ m.told = none ∧ k = s.dev.coilAt m.slot ∧
      k.tier < 2 ∧ m.tier < 2 ∧ s.dev.coilOps = [] ∧ s.dev.piecesBad (k.span 0 k.size) = none ∧ m.dst.length = k.ext.length ∧ m.dst.Pairwise (fun a b
      => a + frameSize k.cls ≤ b ∨ b + frameSize k.cls ≤ a) ∧ (∀ a ∈ m.dst, ∀ j, j < frameSize k.cls → ¬ s.dev.inTable (a + j)) ∧ m.slot <
      s.dev.tableSlots ∧ k.xl + k.ext.length ≤ s.dev.tableSlots * 8) ∧
    (∃ (s : State) (n t g f : Nat) (k : Chunk), s.dev.flag Reg.CS_CTRL_EN 0 = true ∧ s.dev.coil.chunks = [(g, k)] ∧ chunkTier g = t ∧ chunkNbhd g = n
      ∧ k.dirty = [f] ∧ k.used ≠ []) :=
  ⟨⟨⟨{ ({} : Dev).coilK { ck with touches := 5 } with coilOps := [⟨cc, 7, 9, 7, true, false, .run, none⟩] }, []⟩, ⟨cc, 7, 9, 7, true, false, .run,
      none⟩, { ck with touches := 5 }, by decide +kernel⟩,
    ⟨⟨{ ({} : Dev).coilK { ck with touches := 5 } with coilOps := [⟨{ cc with w3 := 77 }, 6, 9, 7, true, true, .mirror, some 0⟩] }, []⟩,
      ⟨{ cc with w3 := 77 }, 6, 9, 7, true, true, .mirror, some 0⟩, by decide +kernel⟩,
    ⟨⟨({} : Dev).coilOn { coils := [(9, { ck with touched := true }), (11, { ck with touched := true, tier := 1 })], fresh := 12 } |>.wr
      Reg.CS_CTRL_MIG_EN 0 0, []⟩, 0, by decide +kernel⟩,
    ⟨⟨({} : Dev).coilOn { coils := [(9, { ck with tier := 1 })], fresh := 12, moves := [{ mv .policy [0x3000000, 0x3001000] with started := false }] }
      |>.wr Reg.CS_CTRL_MIG_EN 0 1, []⟩, 0, { mv .policy [0x3000000, 0x3001000] with started := false }, { ck with tier := 1 }, by decide +kernel⟩,
    by refine ⟨⟨{ ({} : Dev) with mem := [(0x2000005, 4), (0x2001007, 8)] }.coilOn { coils := [(9, { ck with state := 2 })], fresh := 12, chunks := [(0, { used := [8192, 8193, 12288, 12289] })], moves := [{ mv .policy [lpddrBase + 0x3000000, lpddrBase + 0x3001000] with tier := 1 }] } |>.wr Reg.CS_CTRL_MIG_EN 0 1, []⟩, { mv .policy [lpddrBase + 0x3000000, lpddrBase + 0x3001000] with tier := 1 }, { ck with state := 2 }, ?_⟩; and_intros <;> first | decide +kernel | (intro a ha; apply out_of_table; revert a; decide +kernel),
    ⟨⟨{ ({} : Dev) with mem := [(0x2000005, 4), (0x2001007, 8)] }.coilOn
      { coils := [(9, ck)], fresh := 12, chunks := [(0, { used := [8193], dirty := [8192] })] }, []⟩, 0, 0, 0, 8192,
      { used := [8193], dirty := [8192] }, by decide +kernel⟩⟩

/-- The hypotheses of CoilStoreStart. -/
theorem witness_CoilStoreStart :
    (∃ (s : State) (src : Src), s.dev.reaches src .CS = .ok ∧ srcPart src = 0 ∧ s.dev.flag Reg.CS_CTRL_EN 0 = false ∧ s.dev.basesOk = true ∧
      s.dev.coil.cfg = (s.dev.wr Reg.CS_CTRL_EN 0 1).csConfig) ∧
    (∃ (s : State) (src : Src), s.dev.reaches src .CS = .ok ∧ srcPart src = 0 ∧ s.dev.flag Reg.CS_CTRL_EN 0 = false ∧ s.dev.basesOk = true ∧
      s.dev.coil.cfg ≠ (s.dev.wr Reg.CS_CTRL_EN 0 1).csConfig) ∧
    (∃ (s : State) (src : Src), s.dev.reaches src .CS = .ok ∧ srcPart src = 0) ∧
    (∃ (s : State), s.dev.flag Reg.CS_CTRL_EN 0 = true ∧ s.dev.flag Reg.CS_STATUS_READY 0 = false ∧ s.dev.coil.held = []) ∧
    (∃ (s : State), s.dev.bootState = 5 ∧ s.dev.flag Reg.CS_CTRL_EN 0 = false ∧ s.dev.basesOk = true ∧ s.dev.flag Reg.CS_STATUS_READY 0 = false ∧
      s.dev.coil.held = []) ∧
    (∃ (s : State) (x : Nat), x < 8 ∧ s.dev.deviceLost (x * 2 ^ 36) = false ∧ (∀ b ∈ [s.dev.rd Reg.CS_TABLE0_BASE 0, s.dev.rd Reg.CS_TABLE1_BASE 0], b
      * 65536 / 2 ^ 36 ≠ x) ∧ s.dev.coil.moves = [] ∧ s.dev.bootState ≠ 5 ∧ (∀ p, p < 64 → s.dev.rd Reg.TR_REGION_BASE p = 0)) ∧
    (∃ (s : State) (x : Nat), x < 8 ∧ s.dev.deviceLost (x * 2 ^ 36) = false ∧ s.dev.flag Reg.CS_STATUS_READY 0 = true ∧ s.dev.rd Reg.CS_TABLE0_BASE 0
      * 65536 / 2 ^ 36 = x ∧ s.dev.basesOk = true ∧ s.dev.flag Reg.CS_STATUS_TABLE_SINGLE 0 = false ∧ s.dev.masks Ev.CS_TABLE_COPY 0 = false ∧
      s.dev.coil.moves = [] ∧ (∀ p, p < 64 → s.dev.rd Reg.TR_REGION_BASE p = 0)) ∧
    (∃ (s : State) (o b : Nat), s.dev.flag Reg.CS_STATUS_TABLE_SINGLE 0 = true ∧ s.dev.deviceLost (s.dev.rd Reg.CS_TABLE0_BASE 0 * 65536) = true ∧ o =
      s.dev.rd Reg.CS_TABLE1_BASE 0 * 65536 / 2 ^ 36 ∧ b = (s.dev.rd Reg.CS_TABLE0_BASE 0 * 65536 / 2 ^ 36 + 1) % 8 ∧ b ≠ o ∧ s.dev.deviceLost (b * 2
      ^ 36) = false ∧ s.dev.tableSlots * 128 + s.dev.rd Reg.CS_POOL_POOL_CHUNKS b * 2 ^ 26 ≤ 2 ^ 36) :=
  ⟨⟨⟨(fun (x : Dev) => x.cs (fun y => { y with cfg := (x.wr Reg.CS_CTRL_EN 0 1).csConfig })) (({} : Dev).coilK ck |>.wr Reg.CS_CTRL_EN 0 0), []⟩,
      .pf0, by decide +kernel⟩,
    ⟨⟨(fun (x : Dev) => x.cs (fun y => { y with cfg := 5 :: (x.wr Reg.CS_CTRL_EN 0 1).csConfig })) (({} : Dev).coilK ck |>.wr Reg.CS_CTRL_EN 0 0),
      []⟩, .pf0, by decide +kernel⟩,
    ⟨⟨({} : Dev).coilK ck, []⟩, .pf0, by decide +kernel⟩,
    ⟨⟨{ ({} : Dev) with mem := [(5, 4), (0x2001007, 8)] }.coilOn
      { coils := [(9, ck), (11, { ck with gen := 90, state := 4 })], freed := [3], fresh := 12, chunks := [(0, { used := [8193], dirty := [8192] })] }
      |>.wr Reg.CS_STATUS_READY 0 0 |>.clr Reg.CS_POOL_POOL_CHUNKS |>.wr Reg.CS_POOL_POOL_CHUNKS 3 1 |>.wr Reg.CS_TABLE_LOG2_SLOTS 0 5, []⟩,
      by decide +kernel⟩,
    ⟨⟨({} : Dev).coilK ck |>.inState 5 |>.wr Reg.CS_STATUS_READY 0 0 |>.wr Reg.CS_CTRL_EN 0 0, []⟩, by decide +kernel⟩,
    ⟨⟨({} : Dev).coilK ck |>.wr Reg.CS_STATUS_READY 0 0 |>.clr Reg.TR_REGION_BASE |>.clr Reg.CS_POOL_POOL_CHUNKS, []⟩, 3, by decide +kernel⟩,
    ⟨⟨({} : Dev).coilK ck |>.wr Reg.CS_STATUS_TABLE_SINGLE 0 0 |>.clr Reg.TR_REGION_BASE |>.clr Reg.CS_POOL_POOL_CHUNKS |>.unmask Ev.CS_TABLE_COPY 0,
      []⟩, 0, by decide +kernel⟩,
    ⟨⟨({} : Dev).coilK ck |>.wr Reg.CS_TABLE_LOG2_SLOTS 0 6 |>.wr Reg.CS_STATUS_TABLE_SINGLE 0 1 |>.wr Reg.CS_STATUS_LOST_STACKS 0 1 |>.wr
      Reg.CS_TABLE1_BASE 0 (3 * 2 ^ 20 + 1) |>.wr Reg.CS_POOL_POOL_CHUNKS 1 1, []⟩, 3, 1, by decide +kernel⟩⟩

/-- The hypotheses of LinkFrames. -/
theorem witness_LinkFrames :
    (∃ (s : State) (port lane k : Nat) (f : Frame), k = laneKey port lane ∧ s.dev.directPort port = true ∧ s.dev.carries k = true ∧ f.bad = 0 ∧ f.lseq
      = ((s.dev.link k).rxSeq + 1) % 65536 ∧ f.packet.typ ≠ 0 ∧ f.packet.dst = s.dev.fnid ∧ (s.dev.link k).replay = [] ∧ s.dev.quiet) ∧
    (∃ (s : State) (port lane k : Nat) (f : Frame), k = laneKey port lane ∧ lane < 8 ∧ s.dev.directPort port = true ∧ s.dev.carries k = true ∧ f.bad ≠
      0 ∧ f.bad ≤ 64 ∧ (s.dev.link k).unc = []) ∧
    (∃ (s : State) (port lane k : Nat) (f : Frame), k = laneKey port lane ∧ lane < 8 ∧ s.dev.directPort port = true ∧ s.dev.carries k = true ∧ f.bad =
      0 ∧ f.packet.typ ≠ 0 ∧ 0 < (f.lseq + 65536 - ((s.dev.link k).rxSeq + 1) % 65536) % 65536 ∧ (f.lseq + 65536 - ((s.dev.link k).rxSeq + 1) % 65536)
      % 65536 < 32768 ∧ (s.dev.link k).replay = [] ∧ s.dev.quiet) ∧
    (∃ (s : State) (port lane k : Nat) (r : Replay) (a b : List Replay), k = laneKey port lane ∧ s.dev.directPort port = true ∧ (s.dev.link k).up =
      true ∧ (s.dev.link k).replay = a ++ r :: b ∧ (∀ x ∈ a, x.lseq ≠ r.lseq) ∧ (s.dev.link k).txq = [] ∧ s.dev.quiet) ∧
    (∃ (s : State) (port lane k : Nat) (r : Replay), k = laneKey port lane ∧ lane < 8 ∧ s.dev.directPort port = true ∧ (s.dev.link k).up = true ∧
      (s.dev.link k).replay = [r] ∧ r.lseq < 65536 ∧ r.plays < 4 ∧ s.dev.quiet) ∧
    (∃ (s : State) (port lane k : Nat) (r : Replay), k = laneKey port lane ∧ lane < 8 ∧ s.dev.directPort port = true ∧ (s.dev.link k).up = true ∧
      (s.dev.link k).replay = [r] ∧ r.lseq < 65536 ∧ 4 ≤ r.plays ∧ s.dev.quiet ∧ s.dev.masks Ev.FX_LLR_EXHAUSTED port = false) ∧
    (∃ (s : State) (port lane k : Nat), k = laneKey port lane ∧ lane < 8 ∧ s.dev.directPort port = true ∧ (s.dev.link k).up = true) ∧
    (∃ (s : State) (port lane k : Nat), k = laneKey port lane ∧ lane < 8 ∧ (s.dev.link k).up = true ∧ (s.dev.link k).replay ≠ [] ∧ s.dev.quiet ∧
      s.dev.masks Ev.FX_LLR_EXHAUSTED port = false) ∧
    (∃ (s : State) (port lane k : Nat), k = laneKey port lane ∧ lane < 8 ∧ s.dev.directPort port = true ∧ (s.dev.link k).up = true ∧ s.dev.quiet ∧
      s.dev.masks Ev.FX_LINK_DOWN port = false) ∧
    (∃ (s : State) (port lane k : Nat), k = laneKey port lane ∧ lane < 8 ∧ s.dev.directPort port = true ∧ (s.dev.link k).up = false ∧ (s.dev.link
      k).locked = true ∧ (s.dev.link k).upRcvd = 9 ∧ 10 ≤ (s.dev.link k).upSent ∧ s.dev.flag Reg.FX_CTRL_EN port = true ∧ s.dev.selfLink k = false ∧
      s.dev.quiet) ∧
    (∃ (s : State) (port lane k : Nat), k = laneKey port lane ∧ lane < 8 ∧ s.dev.directPort port = true ∧ (s.dev.link k).up = false ∧ (s.dev.link
      k).upSent < 9 ∧ s.dev.flag Reg.FX_CTRL_EN port = true ∧ s.dev.selfLink k = false ∧ (s.dev.optic k).blanked = false ∧ (s.dev.link k).locked =
      true) ∧
    (∃ (s : State) (port lane : Nat), s.dev.flag Reg.FX_CTRL_EN port = true ∧ s.dev.directPort port = true ∧ lane < 8 ∧ (s.dev.optic (laneKey port
      lane)).blanked = false) ∧
    (∃ (s : State) (port lane : Nat), s.dev.flag Reg.FX_CTRL_EN port = true ∧ s.dev.directPort port = false ∧ (s.dev.lanesOf port).contains lane =
      true ∧ (s.dev.optic (laneKey port lane)).blanked = false ∧ (∀ l ∈ s.dev.lanesOf port, l ≠ lane → (s.dev.link (laneKey port l)).locked = true) ∧
      (s.dev.link (laneKey port 0)).up = false ∧ s.dev.quiet) :=
  ⟨⟨⟨({} : Dev).fabOn { links := [(17, { up := true, rxSeq := 65535 })] }, []⟩, 2, 1, 17, ⟨0, 4, pk, 0, 1⟩, by unfold Dev.quiet; decide +kernel⟩,
    ⟨⟨({} : Dev).fabOn { links := [(17, { up := true, rxSeq := 65535 })] }, []⟩, 2, 1, 17, ⟨0, 4, pk, 3, 0⟩, by decide +kernel⟩,
    ⟨⟨({} : Dev).fabOn { links := [(17, { up := true, rxSeq := 65535 })] }, []⟩, 2, 1, 17, ⟨6, 4, pk, 0, 0⟩, by unfold Dev.quiet; decide +kernel⟩,
    ⟨⟨({} : Dev).fabOn { links := [(17, { up := true, replay := [{ rp with lseq := 5 }, rp, { rp with lseq := 7 }] })] }, []⟩, 2, 1, 17, rp,
      [{ rp with lseq := 5 }], [{ rp with lseq := 7 }], by unfold Dev.quiet; decide +kernel⟩,
    ⟨⟨({} : Dev).fabOn { links := [(17, { up := true, replay := [rp] })] }, []⟩, 2, 1, 17, rp, by unfold Dev.quiet; decide +kernel⟩,
    ⟨⟨({} : Dev).fabOn { links := [(17, { up := true, replay := [{ rp with plays := 4 }] })] } |>.unmask Ev.FX_LLR_EXHAUSTED 2, []⟩, 2, 1, 17,
      { rp with plays := 4 }, by unfold Dev.quiet; decide +kernel⟩,
    ⟨⟨({} : Dev).fabOn { links := [(17, { up := true, rxSeq := 5 })] }, []⟩, 2, 1, 17, by decide +kernel⟩,
    ⟨⟨({} : Dev).fabOn { links := [(17, { up := true, replay := [rp] })] } |>.unmask Ev.FX_LLR_EXHAUSTED 2, []⟩, 2, 1, 17,
      by unfold Dev.quiet; decide +kernel⟩,
    ⟨⟨({} : Dev).fabOn { links := [(17, { up := true, replay := [rp] }), (18, { up := true })] } |>.unmask Ev.FX_LINK_DOWN 2, []⟩, 2, 1, 17,
      by unfold Dev.quiet; decide +kernel⟩,
    ⟨⟨({} : Dev).fabOn { links := [(17, { locked := true, upRcvd := 9, upSent := 10 + 2, txSeq := 5 })] } |>.wr Reg.FX_CTRL_EN 2 1, []⟩, 2, 1, 17,
      by unfold Dev.quiet; decide +kernel⟩,
    ⟨⟨({} : Dev).fabOn { links := [(17, { locked := true, upRcvd := 10, upSent := 5 })] } |>.wr Reg.FX_CTRL_EN 2 1, []⟩, 2, 1, 17, by decide +kernel⟩,
    ⟨⟨({} : Dev).fabOn { links := [(18, { up := true })] } |>.wr Reg.FX_CTRL_EN 2 1, []⟩, 2, 1, by decide +kernel⟩,
    ⟨⟨({} : Dev).fabOn { links := [(16, { locked := true }), (18, { locked := true }), (19, { locked := true })] } |>.wr Reg.FX_CTRL_EN 2 1 |>.wr
      Reg.FX_CTRL_MODE 2 1, []⟩, 2, 1, by unfold Dev.quiet; decide +kernel⟩⟩

/-- The hypotheses of RetunesAndGateways. -/
theorem witness_RetunesAndGateways :
    (∃ (s : State) (port lane k t : Nat), k = laneKey port lane ∧ (s.dev.link k).tAct = some t ∧ (s.dev.link k).next ≠ (s.dev.optic k).channel) ∧
    (∃ (s : State) (port lane k t : Nat), k = laneKey port lane ∧ lane < 8 ∧ s.dev.directPort port = true ∧ (s.dev.link k).tAct = some t ∧ (s.dev.link
      k).next ≠ (s.dev.optic k).channel ∧ s.dev.quiet) ∧
    (∃ (s : State) (port lane k t : Nat), k = laneKey port lane ∧ (s.dev.link k).tAct = some t ∧ (s.dev.link k).up = false ∧ (s.dev.link k).stop =
      true ∧ s.dev.masks Ev.FX_LINK_DOWN port = false) ∧
    (∃ (s : State) (n plane : Nat), (NMap.get ({} : Path) (s.dev.peer n).paths plane).skipUntil ≠ 0 ∧ s.dev.quiet) ∧
    (∃ (s : State) (port : Nat), s.dev.flag Reg.FX_CTRL_EN port = true ∧ s.dev.masks Ev.FX_CTRL_DISCARDED port = false) ∧
    (∃ (s : State) (port router : Nat), s.dev.directPort port = false ∧ s.dev.flag Reg.GT_CTRL_IPV4 0 = false ∧ (NMap.get ({} : Gateway)
      s.dev.fabric.gateways port).router ≠ some router ∧ s.dev.quiet) ∧
    (∃ (s : State) (port router mac : Nat), s.dev.directPort port = false ∧ s.dev.flag Reg.GT_CTRL_IPV4 0 = false ∧ (NMap.get ({} : Gateway)
      s.dev.fabric.gateways port).router = some router ∧ s.dev.quiet) ∧
    (∃ (s : State) (port mac : Nat), s.dev.directPort port = false ∧ s.dev.flag Reg.GT_CTRL_IPV4 0 = true ∧ s.dev.quiet) :=
  ⟨⟨⟨{ ({} : Dev) with optics := [(17, { channel := 3 })] }.fabOn { links := [(17, { up := true, tAct := some 5, next := 9, nextPeer := 8 })] }, []⟩,
      2, 1, 17, 5, by decide +kernel⟩,
    ⟨⟨{ ({} : Dev) with optics := [(17, { channel := 3 })] }.fabOn
      { links := [(17, { up := true, tAct := some 5, next := 9, nextPeer := 8, replay := [rp] }), (18, { up := true })] }, []⟩, 2, 1, 17, 5,
      by unfold Dev.quiet; decide +kernel⟩,
    ⟨⟨({} : Dev).fabOn { links := [(17, { stop := true, tAct := some 5, next := 9, nextPeer := 8 }), (18, { up := true })] } |>.unmask Ev.FX_LINK_DOWN
      2, []⟩, 2, 1, 17, 5, by decide +kernel⟩,
    ⟨⟨({} : Dev).fabOn { peers := [(8, { paths := [(5, { skipUntil := 1 + 5 })] })] }, []⟩, 8, 5, by unfold Dev.quiet; decide +kernel⟩,
    ⟨⟨({} : Dev).fabOn {} |>.wr Reg.FX_CTRL_EN 2 1 |>.unmask Ev.FX_CTRL_DISCARDED 2, []⟩, 2, by decide +kernel⟩,
    ⟨⟨({} : Dev).fabOn { gateways := [(2, { router := some 4, mac := some 9 })] } |>.wr Reg.GT_CTRL_IPV4 0 0 |>.wr Reg.FX_CTRL_MODE 2 1, []⟩, 2, 10,
      by unfold Dev.quiet; decide +kernel⟩,
    ⟨⟨({} : Dev).fabOn { gateways := [(2, { router := some 4, mac := none })] } |>.wr Reg.GT_CTRL_IPV4 0 0 |>.wr Reg.FX_CTRL_MODE 2 1, []⟩, 2, 4, 5,
      by unfold Dev.quiet; decide +kernel⟩,
    ⟨⟨({} : Dev).fabOn { gateways := [(2, { router := some 4, mac := none })] } |>.wr Reg.GT_CTRL_IPV4 0 1 |>.wr Reg.FX_CTRL_MODE 2 1, []⟩, 2, 5,
      by unfold Dev.quiet; decide +kernel⟩⟩

/-- The hypotheses of PacketsReceived. -/
theorem witness_PacketsReceived :
    (∃ (s : State) (p : Packet), s.dev.takesPacket p ∧ s.dev.quiet ∧ regionOf (bits (p.word 0) 47 0) ≠ .reg ∧ s.dev.probeWrite p.part (bits (p.word 0)
      47 0) p.data.length = .ok) ∧
    (∃ (s : State) (p : Packet) (bs : List Byte), s.dev.takesPacket p ∧ s.dev.quiet ∧ s.dev.loadFor p.part (bits (p.word 0) 47 0) (bits (p.word 1) 31
      0) = (bs, .ok) ∧ s.dev.peerRefused p.part p.src = 0) ∧
    (∃ (s : State) (p : Packet) (m : Msg) (c : Cmd) (dst len : Nat), s.dev.takesPacket p ∧ s.dev.fabric.msgs = [m] ∧ s.dev.fabric.out = [] ∧
      s.dev.fabric.told = [] ∧ m.fin = .read c dst len ∧ m.typ = 1 ∧ m.peer = p.src ∧ m.part = p.part ∧ m.key.isSome ∧ m.base = bits (p.word 0) 47 0 ∧
      m.next = m.total ∧ m.acked = m.total ∧ m.bad = 0 ∧ len ≤ m.got + p.data.length ∧ s.dev.probeWrite p.part (dst + bits (p.word 1) 31 0)
      p.data.length = .ok) ∧
    (∃ (s : State) (p : Packet) (k : Nat), s.dev.takesPacket p ∧ s.dev.quiet ∧ bits (p.word 0) 15 13 = 0 ∧ k = bits (p.word 0) 12 0 ∧ knotOk k = true
      ∧ s.dev.knotPart k = p.part ∧ (s.dev.knot k).waiters = [] ∧ (s.dev.knot k).val + bits (p.word 1) 31 0 < 2 ^ 32) ∧
    (∃ (s : State) (p : Packet) (a op old : Nat), s.dev.takesPacket p ∧ s.dev.quiet ∧ a = bits (p.word 0) 47 0 ∧ a % 8 = 0 ∧ regionOf a ≠ .host ∧ op =
      bits (p.word 0) 51 48 ∧ op < 7 ∧ s.dev.loadFor p.part a 8 = (s.dev.bytes a 8, .ok) ∧ s.dev.probeWrite p.part a 8 = .ok ∧ s.dev.peerRefused
      p.part p.src = 0 ∧ old = s.dev.le a 8) ∧
    (∃ (s : State) (p : Packet) (m : Msg) (c : Cmd), s.dev.takesPacket p ∧ s.dev.fabric.msgs = [m] ∧ s.dev.fabric.out = [] ∧ s.dev.fabric.told = [] ∧
      m.fin = .atomic c ∧ m.typ = 5 ∧ m.peer = p.src ∧ m.part = p.part ∧ m.key.isSome ∧ m.base = bits (p.word 0) 47 0 ∧ m.next = m.total ∧ m.acked =
      m.total) ∧
    (∃ (s : State) (p : Packet) (t i r j : Nat), s.dev.takesPacket p ∧ s.dev.quiet ∧ s.dev.fabric.splices = [] ∧ p.idx = 0 ∧ p.last = true ∧ t = bits
      (p.word 0) 3 0 ∧ i = bits (p.word 0) 10 4 ∧ regionField (p.word 0).toNat = ⟨r, r, j, j⟩ ∧ bits (p.word 0) 40 37 = 0 ∧ bits (p.word 1) 31 0 = 0 ∧
      p.data.length = 12 ∧ (s.dev.tile t).shared = false ∧ NMap.get 0 (s.dev.tile t).adding i = 0 ∧ s.dev.spliceDst (.live t) i p.part ⟨r, r, j, j⟩
      false = none ∧ (accAdd 0 (s.dev.accRead (.live t) (s.dev.desc t i) r j) (toSigned 96 (leNat p.data))).2 = false) ∧
    (∃ (s : State) (e : Nat) (n : Nat × Nat) (r : List (Nat × Nat)), NMap.get [] s.dev.fabric.rxq e = n :: r) :=
  ⟨⟨⟨({} : Dev).hbmReady.fabOn {}, []⟩, (sgn { pk with typ := 3, ext := [0x3000, 8], data := [1, 2, 3, BitVec.ofNat 8 5] }), takes_sgn _ _
      (by decide +kernel), by unfold Dev.quiet; decide +kernel⟩,
    ⟨⟨{ ({} : Dev) with mem := [(0x3001, 8)] }.hbmReady.fabOn {}, []⟩, (sgn { pk with typ := 1, ext := [0x3000, 8], data := [] }),
      (({ ({} : Dev) with mem := [(0x3001, 8)] }.hbmReady.fabOn {}).bytes 0x3000 8), takes_sgn _ _ (by decide +kernel),
      by unfold Dev.quiet; decide +kernel⟩,
    ⟨⟨({} : Dev).hbmReady.fabOn { msgs := [{ mg with typ := 1, fin := .read ct 0x5000 12, acked := 1, got := 8 }] }, []⟩, (sgn
      { pk with typ := 2, ext := [70, 8], data := [1, 2, 3, BitVec.ofNat 8 5] }),
      { mg with typ := 1, fin := .read ct 0x5000 12, acked := 1, got := 8 }, ct, 0x5000, 12, takes_sgn _ _ (by decide +kernel), by decide +kernel⟩,
    ⟨⟨{ ({} : Dev) with knots := [(70, { val := 5 })], engOwner := [] }.fabOn {}, []⟩, (sgn
      { pk with typ := 4, ext := [70, BitVec.ofNat 64 2], data := [] }), 70, takes_sgn _ _ (by decide +kernel), by unfold Dev.quiet; decide +kernel⟩,
    ⟨⟨{ ({} : Dev) with mem := [(0x3000, BitVec.ofNat 8 4), (0x3007, 255)] }.hbmReady.fabOn {}, []⟩, (sgn
      { pk with typ := 5, ext := [BitVec.ofNat 64 (0x3000 + 4 * 2 ^ 48), BitVec.ofNat 64 5, BitVec.ofNat 64 2], data := [] }), 0x3000, 4,
      (({ ({} : Dev) with mem := [(0x3000, BitVec.ofNat 8 4), (0x3007, 255)] }.hbmReady.fabOn {}).le 0x3000 8), takes_sgn _ _ (by decide +kernel),
      by unfold Dev.quiet; decide +kernel⟩,
    ⟨⟨({} : Dev).hbmReady.fabOn { msgs := [{ mg with typ := 5, fin := .atomic ct, acked := 1 }] }, []⟩, (sgn
      { pk with typ := 6, ext := [70, BitVec.ofNat 64 5], data := [] }), { mg with typ := 5, fin := .atomic ct, acked := 1 }, ct, takes_sgn _ _
      (by decide +kernel), by decide +kernel⟩,
    ⟨⟨({} : Dev).tileReady.fabOn {} |>.setTile 3 { desc := [(1, mkDesc 0 3 4 0), (9, mkDesc 0 2 64 0)] } |>.putLe (acBase 3 + 64 * 1024 + 12 * 130) 11
      (3 * 5), []⟩, (sgn
      { pk with typ := 7, ext := [BitVec.ofNat 64 (3 + 9 * 16 + 2 ^ 11 + 2 ^ 17 + 2 * 2 ^ 23 + 2 * 2 ^ 30), 0], data := [1, 2, 3, 4, 5, 6, 7, 8, 9, 10, 11, 250] }),
      3, 9, 1, 2, takes_sgn _ _ (by decide +kernel), by unfold Dev.quiet; decide +kernel⟩,
    ⟨⟨({} : Dev).fabOn { rxq := [(4, [(5, 0)]), (6, [(100, 0), (200, 1)])] }, []⟩, 6, (100, 0), [(200, 1)], by decide +kernel⟩⟩

/-- The hypotheses of CoilMessages. -/
theorem witness_CoilMessages :
    (∃ (s : State) (p : Packet) (l : Loan) (off a : Nat), s.dev.takesPacket p ∧ s.dev.quiet ∧ hPart (p.word 0).toNat = p.part ∧ s.dev.lends = true ∧
      s.dev.loanOf p.src (p.word 0).toNat = some l ∧ off = (p.word 2).toNat ∧ 0 < p.data.length ∧ off % 4096 + p.data.length ≤ 4096 ∧ NMap.get 0
      l.pages (off / 4096) = a + 1) ∧
    (∃ (s : State) (p : Packet) (l : Loan) (off a : Nat), s.dev.takesPacket p ∧ s.dev.quiet ∧ hPart (p.word 0).toNat = p.part ∧ s.dev.lends = true ∧
      s.dev.loanOf p.src (p.word 0).toNat = some l ∧ l.size ≠ 0 ∧ off = ((p.word 2).toNat * (8 * 2 ^ Config.replicaRecord (p.word 0).toNat)) % l.size
      ∧ off + p.data.length ≤ l.size ∧ 0 < p.data.length ∧ off % 4096 + p.data.length ≤ 4096 ∧ NMap.get 0 l.pages (off / 4096) = a + 1) ∧
    (∃ (s : State) (p : Packet) (l : Loan), s.dev.takesPacket p ∧ s.dev.quiet ∧ s.dev.loanOf p.src (p.word 0).toNat = some l) ∧
    (∃ (s : State) (p : Packet) (l : Loan), s.dev.takesPacket p ∧ s.dev.quiet ∧ s.dev.loanOf p.src (p.word 0).toNat = some l ∧ s.dev.peerRefused
      p.part p.src = 0) ∧
    (∃ (s : State) (p : Packet) (m : Move), s.dev.takesPacket p ∧ s.dev.quiet ∧ s.dev.coil.moves = [m] ∧ m.slot = hSlot (p.word 0).toNat ∧ m.gen =
      hGen (p.word 0).toNat ∧ (s.dev.coilAt m.slot).peer = p.src) :=
  ⟨⟨⟨lendDev, []⟩, sgn (lendMsg 2 0x2010 [1, 2, 3, 5]), ⟨8, 0x700000004, [(0, 0x4001), (2, 0x5001)]⟩, 0x2010, 0x5000, takes_sgn _ _
      (by decide +kernel), by unfold Dev.quiet; decide +kernel⟩,
    ⟨⟨lendDev, []⟩, sgn (lendMsg 2 0 [1, 2, 3, 5]), ⟨8, 0x700000004, [(0, 0x4001), (2, 0x5001)]⟩, 0, 0x4000, takes_sgn _ _ (by decide +kernel),
      by unfold Dev.quiet; decide +kernel, by decide +kernel, by decide +kernel, by decide +kernel, by decide +kernel, by show 0 = (0 * _) % _; simp,
      by decide +kernel⟩,
    ⟨⟨lendDev, []⟩, sgn (lendMsg 3 0 []), ⟨8, 0x700000004, [(0, 0x4001), (2, 0x5001)]⟩, takes_sgn _ _ (by decide +kernel),
      by unfold Dev.quiet; decide +kernel⟩,
    ⟨⟨lendDev, []⟩, sgn (lendMsg 4 0x2000 []), ⟨8, 0x700000004, [(0, 0x4001), (2, 0x5001)]⟩, takes_sgn _ _ (by decide +kernel),
      by unfold Dev.quiet; decide +kernel⟩,
    ⟨⟨({} : Dev).fabOn {} |>.coilOn
      { coils := [(9, { ck with state := 2, tier := 2, ext := [0, 0], peer := 8 })], moves := [mv .fault [0x2000000, 0x2001000]] }, []⟩, sgn
      { pk with typ := 8, ext := [0x700000009, 5, 0x1000], data := [1, 2, 3] }, mv .fault [0x2000000, 0x2001000], takes_sgn _ _ (by decide +kernel),
      by unfold Dev.quiet; decide +kernel⟩⟩

/-- The hypotheses of MessagesSent. -/
theorem witness_MessagesSent :
    (∃ (s : State) (c : Cmd) (bs : List Byte), lengthBad c = false ∧ s.dev.peerRefused (s.dev.cPart c) c.peer = 0 ∧ s.dev.loadFor (s.dev.cPart c)
      (bits c.w2 47 0) c.length = (bs, .ok) ∧ s.dev.quiet) ∧
    (∃ (s : State) (c : Cmd), lengthBad c = false ∧ s.dev.peerRefused (s.dev.cPart c) c.peer = 0 ∧ s.dev.quiet) ∧
    (∃ (s : State) (c : Cmd), bits c.w3 51 48 < 7 ∧ bits c.w3 47 0 % 8 = 0 ∧ s.dev.peerRefused (s.dev.cPart c) c.peer = 0 ∧ s.dev.quiet) ∧
    (∃ (s : State) (c : Cmd) (t i : Nat), t = bits c.w2 3 0 ∧ i = bits c.w2 10 4 ∧ dState (s.dev.desc t i) = 0 ∧ bit c.w2 11 = false ∧ s.dev.spliceSrc
      (.live t) i (s.dev.cPart c) (regionField (bits c.w3 36 0)) false = none ∧ s.dev.peerRefused (s.dev.cPart c) c.peer = 0 ∧ s.dev.quiet) ∧
    (∃ (s : State) (p : Packet) (m : Msg) (o : Out) (c : Cmd), s.dev.hears p ∧ s.dev.fabric.msgs = [m] ∧ s.dev.fabric.out = [o] ∧ s.dev.fabric.told =
      [] ∧ o.msg = m.id ∧ o.peer = p.src ∧ o.psn = bits (p.word 0) 47 0 ∧ bits (p.word 0) 51 48 = 0 ∧ m.fin = .cmd c ∧ m.total = m.acked + 1 ∧ m.next
      = m.total) ∧
    (∃ (s : State) (p : Packet) (m : Msg) (o : Out) (c : Cmd), s.dev.hears p ∧ s.dev.fabric.msgs = [m] ∧ s.dev.fabric.out = [o] ∧ s.dev.fabric.told =
      [] ∧ o.msg = m.id ∧ o.peer = p.src ∧ o.psn = bits (p.word 0) 47 0 ∧ bits (p.word 0) 51 48 = 8 ∧ bits (p.word 1) 15 0 ≠ 0 ∧ m.fin = .cmd c) ∧
    (∃ (s : State) (p : Packet) (m : Msg) (o : Out), s.dev.hears p ∧ s.dev.fabric.msgs = [m] ∧ s.dev.fabric.out = [o] ∧ s.dev.fabric.told = [] ∧ o.msg
      = m.id ∧ o.peer = p.src ∧ o.psn = bits (p.word 0) 47 0 ∧ bits (p.word 0) 51 48 = 4 ∧ o.busy < 255 ∧ m.next = m.total) ∧
    (∃ (s : State) (m : Msg) (o : Out), s.dev.fabric.msgs = [m] ∧ s.dev.fabric.out = [o] ∧ s.dev.fabric.told = [] ∧ o.busyAt = none ∧ o.timer +
      o.links * s.dev.rd Reg.GT_TIMING_ACK_TMO 0 * 16000 ≤ s.dev.mono ∧ o.retx < s.dev.rd Reg.GT_TIMING_RETX 0 ∧ s.dev.switched = false ∧ s.dev.ways
      o.peer = [] ∧ m.next = m.total) ∧
    (∃ (s : State) (m : Msg) (o : Out) (c : Cmd), s.dev.fabric.msgs = [m] ∧ s.dev.fabric.out = [o] ∧ s.dev.fabric.told = [] ∧ o.busyAt = none ∧ o.msg
      = m.id ∧ m.peer = o.peer ∧ m.fin = .cmd c ∧ s.dev.coil.coils = [] ∧ o.timer + o.links * s.dev.rd Reg.GT_TIMING_ACK_TMO 0 * 16000 ≤ s.dev.mono ∧
      s.dev.rd Reg.GT_TIMING_RETX 0 ≤ o.retx ∧ s.dev.isCoord = false ∧ s.dev.coordinator = none ∧ s.dev.masks Ev.GT_PEER_FAILED 0 = false) ∧
    (∃ (s : State) (m : Msg) (o : Out) (w : Way) (k : FKey) (t : Nat), s.dev.fabric.msgs = [m] ∧ s.dev.fabric.out = [o] ∧ s.dev.fabric.told = [] ∧
      o.busyAt = some t ∧ t + 64000 ≤ s.dev.mono ∧ o.msg = m.id ∧ m.key = some k ∧ m.next = m.total ∧ s.dev.ways o.peer = [w] ∧ s.dev.wayFull o.peer w
      = false ∧ s.dev.directPort (w.link / 8) = true ∧ (s.dev.link w.link).txq = [] ∧ (s.dev.link w.link).held + (s.dev.seal k (s.dev.packetOf m
      o.idx)).frameSize ≤ replayShare) :=
  ⟨⟨⟨{ ({} : Dev) with mem := [(0x1001, 7)] }.hbmReady.fabOn {} |>.wr Reg.QM_Q_CFG_PARTITION 5 0, []⟩, tcmd,
      (({ ({} : Dev) with mem := [(0x1001, 7)] }.hbmReady.fabOn {} |>.wr Reg.QM_Q_CFG_PARTITION 5 0).bytes 0x1000 40),
      by unfold Dev.quiet; decide +kernel⟩,
    ⟨⟨({} : Dev).hbmReady.fabOn {} |>.wr Reg.QM_Q_CFG_PARTITION 5 0, []⟩, tcmd, by unfold Dev.quiet; decide +kernel⟩,
    ⟨⟨({} : Dev).hbmReady.fabOn {} |>.wr Reg.QM_Q_CFG_PARTITION 5 0, []⟩, { tcmd with w3 := BitVec.ofNat 64 (0x2000 + 5 * 2 ^ 48) },
      by unfold Dev.quiet; decide +kernel⟩,
    ⟨⟨({} : Dev).tileReady.fabOn {} |>.setTile 3 { desc := [(1, mkDesc 0 3 4 0), (9, dSetBit (mkDesc 0 2 64 0) 11)] } |>.putLe (acBase 3 + 64 * 1024 +
      12 * 130) 11 (3 * 5), []⟩, { tcmd with w2 := 8 * 2 ^ 48 + 3 + 9 * 16, w3 := 2 ^ 17 + 2 * 2 ^ 23 + 5 * 2 ^ 30 }, 3, 9,
      by unfold Dev.quiet; decide +kernel⟩,
    ⟨⟨({} : Dev).fabOn { msgs := [mg], out := [ou] }, []⟩, (acks 0 0), mg, ou, { ct with w2 := 8 * 2 ^ 48 }, hears_sgn _ _ (by decide +kernel),
      by decide +kernel⟩,
    ⟨⟨({} : Dev).fabOn { msgs := [mg], out := [ou] }, []⟩, (acks 8 6), mg, ou, { ct with w2 := 8 * 2 ^ 48 }, hears_sgn _ _ (by decide +kernel),
      by decide +kernel⟩,
    ⟨⟨({} : Dev).fabOn { msgs := [mg], out := [{ ou with busy := 5 }] }, []⟩, (acks 4 0), mg, { ou with busy := 5 }, hears_sgn _ _
      (by decide +kernel), by decide +kernel⟩,
    ⟨⟨{ ({} : Dev).fabOn { msgs := [mg], out := [ou] } with mono := 2 ^ 32 + 5 } |>.wr Reg.GT_TIMING_RETX 0 3, []⟩, mg, ou, by decide +kernel⟩,
    ⟨⟨{ ({} : Dev).fabOn { msgs := [mg], out := [{ ou with retx := 3 }] } with mono := 2 ^ 32 + 5, coil := {} } |>.wr Reg.GT_TIMING_RETX 0 3 |>.wr
      Reg.GT_COORD_IS_COORD 0 0 |>.wr Reg.GT_COORD_COORD_VALID 0 0 |>.unmask Ev.GT_PEER_FAILED 0, []⟩, mg, { ou with retx := 3 },
      { ct with w2 := 8 * 2 ^ 48 }, by decide +kernel⟩,
    ⟨⟨{ ({} : Dev).fabOn { msgs := [mg], out := [{ ou with busyAt := some 5 }] } with mono := 2 ^ 32 + 5, optics := [(17, { channel := 3 })] } |>.wr
      Reg.GT_ROUTE 8 (3 + 2 * 4 + 3 * 2 ^ 7), []⟩, mg, { ou with busyAt := some 5 }, ⟨0, 17, 1⟩, fk, 5, by decide +kernel⟩⟩

/-- The hypotheses of Coordination. -/
theorem witness_Coordination :
    (∃ (s : State) (p : Packet) (k n : Nat), k = laneKey p.port p.lane ∧ s.dev.flag Reg.GT_CTRL_EN 0 = true ∧ s.dev.authentic p = true ∧
      s.dev.switched = false ∧ p.hops = 0 ∧ bit (p.word 0) 16 = true ∧ n = bits (p.word 0) 15 0 ∧ n ≠ s.dev.fnid ∧ (p.word 1).toNat ≠ s.dev.serial ∧
      s.dev.rd Reg.GT_PEER_STATE n = 0 ∧ (s.dev.peer n).former = [] ∧ p.inc < 65536 ∧ bits (p.word 0) 31 27 = p.port ∧ bits (p.word 0) 35 32 =
      (s.dev.optic k).channel ∧ bits (p.word 0) 26 18 = s.dev.foldPeer p.port (s.dev.optic k).channel ∧ s.dev.isCoord = false ∧ s.dev.quiet) ∧
    (∃ (s : State) (p : Packet) (k : Nat), k = laneKey p.port p.lane ∧ s.dev.flag Reg.GT_CTRL_EN 0 = true ∧ s.dev.authentic p = true ∧ s.dev.switched
      = false ∧ p.hops = 0 ∧ bit (p.word 0) 16 = false ∧ (p.word 1).toNat ≠ s.dev.serial ∧ bits (p.word 0) 31 27 ≠ p.port ∧ s.dev.masks Ev.FX_WIRING
      p.port = false) ∧
    (∃ (s : State) (k n : Nat) (key : FKey), s.dev.flag Reg.GT_CTRL_EN 0 = true ∧ s.dev.switched = false ∧ s.dev.anchors = [k] ∧ (s.dev.link k).peer =
      some n ∧ s.dev.sendKey 0 = some key ∧ (s.dev.link k).txq = [] ∧ (s.dev.link k).replay = [] ∧ (s.dev.peer n).ackSeq < 2 ^ 47) ∧
    (∃ (s : State), s.dev.flag Reg.GT_CTRL_EN 0 = true ∧ s.dev.isCoord = false ∧ s.dev.isCand = true ∧ s.dev.bestKnown = s.dev.selfCand ∧
      s.dev.coordinator = none ∧ s.dev.fabric.coord.heard = [] ∧ s.dev.quiet) ∧
    (∃ (s : State) (p : Packet), s.dev.takesPacket p ∧ s.dev.quiet ∧ s.dev.isCoord = false ∧ s.dev.coordinator = some p.src) ∧
    (∃ (s : State) (m : Member), s.dev.isCoord = true ∧ s.dev.fabric.coord.members = [m] ∧ m.serial ≠ s.dev.serial ∧ s.dev.peerRefused 0 m.fnid = 0 ∧
      s.dev.quiet) ∧
    (∃ (s : State) (c : Nat), s.dev.isCoord = false ∧ s.dev.coordinator = some c ∧ s.dev.masks Ev.GT_COORD_LOST 0 = false) ∧
    (∃ (s : State) (p : Packet) (m : Member), s.dev.takesPacket p ∧ s.dev.quiet ∧ s.dev.isCoord = false ∧ s.dev.coordinator = some p.src ∧ (recs 24
      p.data).map memberOf = [m] ∧ m.serial = s.dev.serial ∧ m.pps = false ∧ s.dev.flag Reg.GT_NODE_STATIC 0 = false) ∧
    (∃ (s : State) (p : Packet) (n : Nat) (e : Word), s.dev.takesPacket p ∧ s.dev.quiet ∧ s.dev.isCoord = false ∧ s.dev.coordinator = some p.src ∧ n <
      65536 ∧ n ≠ s.dev.fnid ∧ p.data = leBytes 8 n ++ leBytes 8 e.toNat ∧ s.dev.flag Reg.GT_CTRL_STATIC_ROUTES 0 = false) ∧
    (∃ (s : State) (p : Packet), s.dev.takesPacket p ∧ s.dev.quiet ∧ s.dev.isCoord = true) :=
  ⟨⟨⟨{ ({} : Dev) with optics := [(17, { channel := 3 })] }.fabOn {} |>.wr Reg.GT_PEER_STATE 8 0 |>.wr Reg.GT_COORD_IS_COORD 0 0 |>.wr
      Reg.GT_NODE_RING_N 0 64 |>.wr Reg.GT_NODE_RING_INDEX 0 7 |>.wr Reg.FX_CTRL_FOLD 2 32 |>.wr Reg.ID_SERIAL 0 999, []⟩, (sgn
      { pk with typ := 9, psn := 2 ^ 47 + 4, ext := [8 + 2 ^ 16 + 22 * 2 ^ 18 + 2 * 2 ^ 27 + 3 * 2 ^ 32 + 2 ^ 36, 1234, 1234, 1] }), 17, 8,
      by decide +kernel, by decide +kernel, authentic_sgn _ _ (by decide +kernel), by unfold Dev.quiet; decide +kernel⟩,
    ⟨⟨{ ({} : Dev) with optics := [(17, { channel := 3 })] }.fabOn {} |>.wr Reg.GT_PEER_STATE 8 0 |>.wr Reg.GT_COORD_IS_COORD 0 0 |>.wr Reg.ID_SERIAL
      0 999 |>.unmask Ev.FX_WIRING 2, []⟩, (sgn
      { pk with typ := 9, psn := 2 ^ 47 + 4, ext := [22 * 2 ^ 18 + 5 * 2 ^ 27 + 3 * 2 ^ 32, 1234, 1234, 1] }), 17, by decide +kernel,
      by decide +kernel, authentic_sgn _ _ (by decide +kernel), by decide +kernel⟩,
    ⟨⟨{ ({} : Dev) with optics := [(17, { channel := 3 })] }.fabOn { links := [(17, { up := true, peer := some 8 })] }, []⟩, 17, 8, fk,
      by decide +kernel⟩,
    ⟨⟨({} : Dev).fabOn {} |>.wr Reg.GT_COORD_IS_COORD 0 0 |>.wr Reg.GT_COORD_COORD_VALID 0 0, []⟩, by unfold Dev.quiet; decide +kernel⟩,
    ⟨⟨({} : Dev).fabOn {} |>.wr Reg.GT_COORD_IS_COORD 0 0 |>.wr Reg.GT_COORD_COORD_VALID 0 1 |>.wr Reg.GT_COORD_COORD 0 8, []⟩, (sgn
      { pk with typ := 10, ext := [7, 0] }), takes_sgn _ _ (by decide +kernel), by unfold Dev.quiet; decide +kernel⟩,
    ⟨⟨({} : Dev).fabOn { coord := { members := [⟨8, 1234, 6, 1, 0, 0, false⟩] } } |>.wr Reg.ID_SERIAL 0 999 |>.wr Reg.GT_COORD_IS_COORD 0 1, []⟩, ⟨8,
      1234, 6, 1, 0, 0, false⟩, by unfold Dev.quiet; decide +kernel⟩,
    ⟨⟨({} : Dev).fabOn { coord := { best := some (1, 2) } } |>.wr Reg.GT_COORD_IS_COORD 0 0 |>.wr Reg.GT_COORD_COORD_VALID 0 1 |>.wr
      Reg.GT_COORD_COORD 0 8 |>.unmask Ev.GT_COORD_LOST 0, []⟩, 8, by decide +kernel⟩,
    ⟨⟨({} : Dev).fabOn {} |>.wr Reg.GT_COORD_IS_COORD 0 0 |>.wr Reg.GT_COORD_COORD_VALID 0 1 |>.wr Reg.GT_COORD_COORD 0 8 |>.wr Reg.ID_SERIAL 0 999
      |>.wr Reg.GT_NODE_STATIC 0 0, []⟩, (sgn { pk with typ := 10, ext := [2, 0], data := memberBytes [(⟨41, 999, 6, 1, 8, 2, false⟩, 0)] }), ⟨41,
      999, 6, 1, 8, 2, false⟩, takes_sgn _ _ (by decide +kernel), by unfold Dev.quiet; decide +kernel⟩,
    ⟨⟨({} : Dev).fabOn {} |>.wr Reg.GT_COORD_IS_COORD 0 0 |>.wr Reg.GT_COORD_COORD_VALID 0 1 |>.wr Reg.GT_COORD_COORD 0 8 |>.wr
      Reg.GT_CTRL_STATIC_ROUTES 0 0, []⟩, (sgn { pk with typ := 10, ext := [3, 0], data := leBytes 8 5 ++ leBytes 8 2 }), 5, (BitVec.ofNat 64 2),
      takes_sgn _ _ (by decide +kernel), by unfold Dev.quiet; decide +kernel⟩,
    ⟨⟨({} : Dev).fabOn {} |>.wr Reg.GT_COORD_IS_COORD 0 1, []⟩, (sgn { pk with typ := 10, ext := [6, 0], data := leBytes 8 5 }), takes_sgn _ _
      (by decide +kernel), by unfold Dev.quiet; decide +kernel⟩⟩

/-- The hypotheses of Demands. -/
theorem witness_Demands :
    (∃ (s : State) (c : Nat), s.dev.coordinator = some c ∧ s.dev.isCoord = false ∧ s.dev.peerRefused 0 c = 0 ∧ s.dev.quiet) ∧
    (∃ (s : State) (u : Dev) (p : Packet) (h : Nat), s.dev.takesPacket p ∧ s.dev.quiet ∧ s.dev.isCoord = true ∧ h < 2 ^ 33 ∧ p.data = leBytes 8 h ∧ u
      = s.dev.takeDemand p.src [] (nbits h 32 1) (h.testBit 0) [] ∧ (u.tree u.seats).map (fun m => m.1) = u.coord.members) ∧
    (∃ (s : State), s.dev.isCoord = true ∧ s.dev.switched = false ∧ s.dev.fabric.coord.members = [] ∧ s.dev.quiet) ∧
    (∃ (s : State) (p : Packet) (port ch n i : Nat), s.dev.takesPacket p ∧ s.dev.quiet ∧ s.dev.isCoord = false ∧ s.dev.coordinator = some p.src ∧
      p.data = leBytes 2 s.dev.fnid ++ leBytes 2 n ++ leBytes 2 port ++ leBytes 2 ch ∧ s.dev.fnid < 65536 ∧ n < 65536 ∧ port < 32 ∧ ch < 16 ∧ i < 8 ∧
      (∀ j, j < 8 → (s.dev.optic (laneKey port j)).channel ≠ ch) ∧ (∀ j, j < i → (s.dev.optic (laneKey port j)).channel < 6) ∧ 6 ≤ (s.dev.optic
      (laneKey port i)).channel ∧ (s.dev.link (laneKey port i)).tAct = none ∧ laneKey port i ≠ s.dev.linkOf p.port p.lane) :=
  ⟨⟨⟨({} : Dev).fabOn { coord := { failed := [(1, 2)], demands := [⟨1, 2, 3, 4⟩] } } |>.wr Reg.GT_COORD_IS_COORD 0 0 |>.wr Reg.GT_COORD_COORD_VALID 0
      1 |>.wr Reg.GT_COORD_COORD 0 8, []⟩, 8, by unfold Dev.quiet; decide +kernel⟩,
    ⟨⟨demandDev, []⟩, (demandDev.takeDemand 8 [] 4 true []), sgn { pk with typ := 10, ext := [0, 0], data := leBytes 8 9 }, 9, takes_sgn _ _
      (by decide +kernel), by unfold Dev.quiet; decide +kernel⟩,
    ⟨⟨({} : Dev).fabOn { coord := { members := [], lost := [(1, 2, 3)] } } |>.wr Reg.GT_COORD_IS_COORD 0 1, []⟩, by unfold Dev.quiet; decide +kernel⟩,
    ⟨⟨{ ({} : Dev) with optics := [(18, { channel := 7 })] }.fabOn {} |>.wr Reg.GT_COORD_IS_COORD 0 0 |>.wr Reg.GT_COORD_COORD_VALID 0 1 |>.wr
      Reg.GT_COORD_COORD 0 8, []⟩, (sgn
      { pk with typ := 10, ext := [1, BitVec.ofNat 64 5], data := leBytes 2 40 ++ leBytes 2 8 ++ leBytes 2 2 ++ leBytes 2 9 }), 2, 9, 8, 2, takes_sgn
      _ _ (by decide +kernel), by unfold Dev.quiet; decide +kernel⟩⟩

/-- The hypotheses of FabricTime. -/
theorem witness_FabricTime :
    (∃ (s : State), s.dev.flag Reg.GT_CTRL_EN 0 = true ∧ s.dev.flag Reg.TM_CTRL_MASTER 0 = false ∧ s.dev.rd Reg.TM_PARENT_DEPTH 0 ≠ 0 ∧
      s.dev.peerRefused 0 (s.dev.rd Reg.TM_PARENT_FNID 0) = 0 ∧ s.dev.quiet) ∧
    (∃ (s : State) (p : Packet), s.dev.takesPacket p ∧ s.dev.quiet ∧ s.dev.peerRefused 0 p.src = 0) ∧
    (∃ (s : State) (p : Packet) (t1 : Nat), s.dev.takesPacket p ∧ s.dev.quiet ∧ s.dev.fabric.time.t1 = some t1 ∧ p.src = s.dev.rd Reg.TM_PARENT_FNID 0
      ∧ s.dev.fabric.time.last = [] ∧ (est (((p.word 1).toNat - t1 : Int) - (s.dev.now - p.time)) 2).natAbs ≤ 320) ∧
    (∃ (s : State), s.dev.ppsMaster = true ∧ s.dev.boot.beenReady = false ∧ s.dev.now < 2 ^ 64) ∧
    (∃ (s : State), s.dev.ppsMaster = true ∧ s.dev.boot.beenReady = true ∧ s.dev.now < 2 ^ 64) ∧
    (∃ (s : State) (t : Nat), s.dev.fabric.time.edge = some t ∧ s.dev.fabric.time.missing = false ∧ s.dev.ppsMaster = true ∧ s.dev.masks
      Ev.TM_PPS_MISSING 0 = false) ∧
    (∃ (s : State) (t : Nat), t = (s.dev.now + 16000000000 - 1) / 16000000000 * 16000000000 ∧ s.dev.boot.ppsOut.getLast? ≠ some t ∧ s.dev.started .TM
      = true ∧ s.dev.flag Reg.TM_CTRL_PPS_OUT_EN 0 = true) :=
  ⟨⟨⟨({} : Dev).fabOn {} |>.wr Reg.TM_CTRL_MASTER 0 0 |>.wr Reg.TM_PARENT_DEPTH 0 2 |>.wr Reg.TM_PARENT_FNID 0 8, []⟩,
      by unfold Dev.quiet; decide +kernel⟩,
    ⟨⟨({} : Dev).fabOn {}, []⟩, (sgn { pk with typ := 10, ext := [4, 0] }), takes_sgn _ _ (by decide +kernel), by unfold Dev.quiet; decide +kernel⟩,
    ⟨⟨{ ({} : Dev) with now := 10 ^ 6 + 5 }.fabOn { time := { t1 := some (10 ^ 6 - 100) } } |>.wr Reg.TM_PARENT_FNID 0 8, []⟩, (sgn
      { pk with typ := 10, ext := [5, BitVec.ofNat 64 (10 ^ 6 - 40 + 3)], time := 10 ^ 6 - 30 }), (10 ^ 6 - 100), takes_sgn _ _ (by decide +kernel),
      by unfold Dev.quiet; decide +kernel⟩,
    ⟨⟨{ ({} : Dev) with boot := { ({} : Dev).boot with beenReady := false } }.fabOn {} |>.wr Reg.TM_CTRL_PPS_IN_EN 0 1, []⟩, by decide +kernel⟩,
    ⟨⟨{ ({} : Dev) with boot := { ({} : Dev).boot with beenReady := true } }.fabOn {} |>.wr Reg.TM_CTRL_PPS_IN_EN 0 1, []⟩, by decide +kernel⟩,
    ⟨⟨({} : Dev).fabOn { time := { edge := some 5, slew := 5 } } |>.wr Reg.TM_CTRL_PPS_IN_EN 0 1 |>.unmask Ev.TM_PPS_MISSING 0, []⟩, 5,
      by decide +kernel⟩,
    ⟨⟨{ ({} : Dev) with now := 5 }.up.wr Reg.TM_CTRL_PPS_OUT_EN 0 1, []⟩, ((5 + 16000000000 - 1) / 16000000000 * 16000000000), by decide +kernel⟩⟩

/-- The hypotheses of LogicalIndex. -/
theorem witness_LogicalIndex :
    (∃ (k : Coil) (i : Nat), k.ring = true ∧ i < k.count ∧ k.count ≤ k.cap) ∧
    (∃ (s : Dev) (k : Coil) (i n : Nat), k.ring = true ∧ i + n ≤ k.count ∧ k.count ≤ k.cap) ∧
    (∃ (s : State) (c : Cmd) (k : Coil), s.dev.takesCoil c k ∧ k.ring = true ∧ k.count < c.w3.toNat + bits c.w4 31 0) :=
  ⟨⟨{ ck with ring := true, rsz := 3, head := 50, count := 3 + 5 }, 2, by decide +kernel⟩,
    ⟨{ ({} : Dev) with mem := [(0x2000064, 4), (0x2001010, 9), (0x3000001, 3)] }, { ck with ring := true, rsz := 3, head := 5, count := 3 }, 2, (3 -
      2), by decide +kernel⟩,
    ⟨⟨({} : Dev).coilK { ck with ring := true, rsz := 3, count := 9 }, []⟩, { cc with w3 := 4, w4 := 6, w5 := 0x3000000 },
      { ck with ring := true, rsz := 3, count := 9 }, by unfold Dev.takesCoil; decide +kernel⟩⟩

/-- The hypotheses of OutOfRangeDecisions. -/
theorem witness_OutOfRangeDecisions :
    (∃ (seg : List Int) (g : Nat) (c : Int), g < 8 ∧ c ∈ groupSample seg g ∧ (c < -480 ∨ 480 < c)) ∧
    (∃ (s : State) (t : Nat) (b : Bool) (l : Load) (codes : List Int) (rest : List Sample), (s.dev.tile t).air = .colsum b :: rest ∧ (s.dev.tile
      t).loads = [l] ∧ l.bankB = b ∧ l.sent = true ∧ (s.dev.tile t).images = [] ∧ (s.dev.tile t).replayWait = [] ∧ (s.dev.tile t).replayQ.length +
      rest.countP Sample.isReplay ≤ 8 ∧ (∀ y ∈ (s.dev.tile t).rows, y.void = false) ∧ (∀ g, g < 8 → NMap.get 0 (s.dev.tile t).colsumTries (8 * b2n b +
      g) < 3) ∧ codes.length = 1152 ∧ t < 16 ∧ s.dev.flag Reg.PAGE_CTRL_CNT_FREEZE (pageOf .PT t) = false ∧ s.dev.rd Reg.PT_OOR t + 1152 < 2 ^ 64) ∧
    (∃ (s : State) (t tag p : Nat) (row : Row) (codes : List Int) (rest : List Sample), (s.dev.tile t).air = .plane tag p :: rest ∧ (s.dev.tile
      t).rows = [row] ∧ row.tag = tag ∧ row.void = false ∧ s.dev.isLate t row = false ∧ (s.dev.tile t).replayWait = [] ∧ (s.dev.tile t).replayQ.length
      + rest.countP Sample.isReplay ≤ 8 ∧ (∀ g, g < 8 → NMap.get 0 row.tries (p * 8 + g) < 3) ∧ codes.length = 1152 ∧ t < 16 ∧ s.dev.flag
      Reg.PAGE_CTRL_CNT_FREEZE (pageOf .PT t) = false ∧ s.dev.rd Reg.PT_OOR t + 1152 < 2 ^ 64) :=
  ⟨⟨(((List.range 144).map (fun i => if i = 5 then (481 + 2 : Int) else 0))), (if 5 < 128 then 5 / 16 else (5 - 128) / 2), (481 + 2 : Int),
      by decide +kernel⟩,
    ⟨⟨{ ({} : Dev) with tiles := [(3, { loads := [loadB true], air := [.colsum true, .plane 3 4] }), (5, { nextSeq := 7 })] }.up |>.wr
      Reg.PT_STATUS_ACTIVE_BANK 3 0 |>.wr Reg.PAGE_CTRL_CNT_FREEZE (pageOf .PT 3) 0, []⟩, 3, true, (loadB true), oorCodes, [.plane 3 4],
      by decide +kernel⟩,
    ⟨⟨{ ({} : Dev) with tiles := [(3, { rows := [rowA], bankA := { loaded := true, key := 8 }, air := [.plane 7 5, .colsum true], winFlagged := 3 }), (5, { nextSeq := 7 })] }.up
      |>.wr Reg.PT_STATUS_ACTIVE_BANK 3 0 |>.wr Reg.PAGE_CTRL_CNT_FREEZE (pageOf .PT 3) 0, []⟩, 3, 7, 5, rowA, oorCodes, [.colsum true],
      by decide +kernel⟩⟩

/-- The hypotheses of StepKeepsCanonical. -/
theorem witness_StepKeepsCanonical :
    ∃ (s t : State), s.dev.Canonical ∧ step s = .next t :=
  ⟨State.reset, _, test_empty_memory_canonical, rfl⟩

end Sys2Proof
end

section
/-! PROOFS. O56: a check of a whole symbol (R64), by what each of its parts leaves alone and what each segment asks for. -/
namespace Sys2Proof.Machine

/-! Out-of-range codes (R63, R64): a code outside -480 to +480 flags its group-sample, and saturation of the decision neither
makes nor hides one. -/

/-- A code outside -480 to +480 flags the group-sample that holds it, whatever the syndromes are. -/
theorem flagged_of_outOfRange {x : List Int} {c : Int} (hc : c ∈ x) (ho : outOfRange c = true) : flagged x = true := by
  have hany : x.any outOfRange = true := List.any_eq_true.2 ⟨c, hc, ho⟩
  simp [flagged, hany]

theorem mem_flaggedGroups {seg : List Int} {g : Nat} : g ∈ flaggedGroups seg ↔ g < 8 ∧ flagged (groupSample seg g) = true := by
  simp [flaggedGroups]

/-- The 10-bit saturation of a decision (R63) keeps every code on its side of the range of R64. -/
theorem outOfRange_decided (c : Int) : outOfRange (decided c) = outOfRange c := by
  unfold decided clampI outOfRange
  split
  · next h => simp [show c < -480 by omega]
  · split
    · next h => simp [show 480 < c by omega]
    · rfl

theorem oorCount_map_decided (codes : List Int) : oorCount (codes.map decided) = oorCount codes := by
  have hcomp : outOfRange ∘ decided = outOfRange := funext outOfRange_decided
  simp [oorCount, List.filter_map, hcomp]

theorem oorCount_append (a b : List Int) : oorCount (a ++ b) = oorCount a + oorCount b := by simp [oorCount]

theorem oorCount_le_length (codes : List Int) : oorCount codes ≤ codes.length := List.length_filter_le _ _

/-- The first `n` segments hold the out-of-range codes of the first 144 `n` codes. -/
theorem sum_oorCount_segOf (codes : List Int) (n : Nat) :
    ((List.range n).map (fun g => oorCount (segOf codes g))).sum = oorCount (codes.take (144 * n)) := by
  induction n with
  | zero => simp [oorCount]
  | succ n ih =>
    rw [List.range_succ, List.map_append, List.sum_append, ih, Nat.mul_succ, List.take_add, oorCount_append]
    simp [segOf]

/-- The eight segments of a symbol, each with its number. -/
def segments (codes : List Int) : List (Nat × List Int) := (List.range 8).map (fun g => (g, segOf codes g))

/-- The eight segments of a symbol hold all its out-of-range codes. -/
theorem sum_oorCount_segments {codes : List Int} (h : codes.length = 1152) :
    (((segments (codes.map decided)).map (fun e => e.2)).map oorCount).sum = oorCount codes := by
  have hsum := sum_oorCount_segOf (codes.map decided) 8
  rw [List.take_of_length_le (by simp [h]), oorCount_map_decided] at hsum
  simpa [segments, Function.comp_def] using hsum

/-! What a check of a symbol of one tile leaves alone -/

/-- The check of a symbol of tile `t` leads from `s` to `d` and counts `n` in PT_OOR: every other tile, memory, queues, engines,
knots and the choice of the active bank stay. -/
structure Dev.Checks (s d : Dev) (t n : Nat) : Prop where
  others : s.onlyTile d t
  mem : d.mem = s.mem
  queues : d.queues = s.queues
  engines : d.engines = s.engines
  knots : d.knots = s.knots
  activeB : d.activeB t = s.activeB t
  oor : d.rd Reg.PT_OOR t = s.rd Reg.PT_OOR t + n

theorem Dev.Checks.refl (s : Dev) (t : Nat) : s.Checks s t 0 := ⟨fun _ _ => rfl, rfl, rfl, rfl, rfl, rfl, rfl⟩

theorem Dev.Checks.trans {s d e : Dev} {t m n : Nat} (h : s.Checks d t m) (k : d.Checks e t n) : s.Checks e t (m + n) where
  others := fun u hu => (k.others u hu).trans (h.others u hu)
  mem := k.mem.trans h.mem
  queues := k.queues.trans h.queues
  engines := k.engines.trans h.engines
  knots := k.knots.trans h.knots
  activeB := k.activeB.trans h.activeB
  oor := by rw [k.oor, h.oor, Nat.add_assoc]

/-- A part that counts nothing comes before. -/
theorem Dev.Checks.after {s d e : Dev} {t n : Nat} (k : d.Checks e t n) (h : s.Checks d t 0) : s.Checks e t n :=
  Nat.zero_add n ▸ h.trans k

theorem Dev.Checks.of_modTile (s : Dev) (t : Nat) (f : Tile → Tile) : s.Checks (s.modTile t f) t 0 :=
  ⟨fun _ hu => Dev.tile_setTile_ne s _ (Ne.symm hu), rfl, rfl, rfl, rfl, rfl, rfl⟩

@[simp] theorem Dev.tile_modTile_self (s : Dev) (t : Nat) (f : Tile → Tile) : (s.modTile t f).tile t = f (s.tile t) :=
  Dev.tile_setTile_self s t _

/-- A part of a check that writes registers and work counts only: every tile stays as well, and PT_OOR. -/
structure Dev.Notes (s d : Dev) (t : Nat) : Prop extends s.Checks d t 0 where
  tiles : d.tiles = s.tiles

theorem Dev.Notes.refl (s : Dev) (t : Nat) : s.Notes s t := ⟨.refl s t, rfl⟩

theorem Dev.Notes.trans {s d e : Dev} {t : Nat} (h : s.Notes d t) (k : d.Notes e t) : s.Notes e t :=
  ⟨h.toChecks.trans k.toChecks, k.tiles.trans h.tiles⟩

theorem Dev.Notes.tile {s d : Dev} {t : Nat} (h : s.Notes d t) (u : Nat) : d.tile u = s.tile u := by
  rw [Dev.tile, h.tiles]; rfl

/-- A write of a register other than PT_OOR and PT_STATUS.ACTIVE_BANK. -/
theorem Dev.Notes.of_wr (s : Dev) (t : Nat) {f : Field} (i v : Nat) (ho : f.id ≠ Reg.PT_OOR.id)
    (ha : f.id ≠ Reg.PT_STATUS_ACTIVE_BANK.id) : s.Notes (s.wr f i v) t where
  others := fun _ _ => rfl
  mem := rfl
  queues := rfl
  engines := rfl
  knots := rfl
  activeB := by simp only [Dev.activeB, Dev.flag, Dev.rd_wr_ne s i t v ha]
  oor := Dev.rd_wr_ne s i t v ho
  tiles := rfl

theorem Dev.Notes.wr {s d : Dev} {t : Nat} (h : s.Notes d t) {f : Field} (i v : Nat) (ho : f.id ≠ Reg.PT_OOR.id)
    (ha : f.id ≠ Reg.PT_STATUS_ACTIVE_BANK.id) : s.Notes (d.wr f i v) t := h.trans (.of_wr d t i v ho ha)

theorem Dev.Notes.of_bump (s : Dev) (t : Nat) {f : Field} (i n : Nat) (ho : f.id ≠ Reg.PT_OOR.id)
    (ha : f.id ≠ Reg.PT_STATUS_ACTIVE_BANK.id) : s.Notes (s.bump f i n) t := by
  obtain h | h := s.bump_cases f i n <;> rw [h]
  · exact .refl s t
  · exact .of_wr s t i _ ho ha

theorem Dev.Notes.of_pf (s : Dev) (t p id n : Nat) : s.Notes (s.pf p id n) t := by
  unfold Dev.pf
  split
  · exact .refl s t
  · exact .of_wr s t _ _ (by decide) (by decide)

theorem Dev.Notes.of_lastFlag (s : Dev) (t seg plane : Nat) (late : Bool) (codes : List Int) :
    s.Notes (s.lastFlag t seg plane late codes) t := by
  unfold Dev.lastFlag
  split
  · exact .refl s t
  · iterate 8 refine .wr ?_ _ _ (by decide) (by decide)
    exact .refl s t

theorem Dev.Notes.of_flagNote (s : Dev) (t plane : Nat) (late : Bool) (segs : List (Nat × List Int)) :
    s.Notes (s.flagNote t plane late segs) t := by
  unfold Dev.flagNote
  split
  · exact .of_lastFlag s t _ plane late _
  · exact .refl s t

theorem Dev.Notes.of_foldl {α : Type} {f : Dev → α → Dev} {t : Nat} (hf : ∀ (s : Dev) a, s.Notes (f s a) t) (l : List α) (s : Dev) :
    s.Notes (l.foldl f s) t := by
  induction l generalizing s with
  | nil => exact .refl s t
  | cons a l ih => exact (hf s a).trans (ih (f s a))

/-- Work counts of a command, and what the filters of its partition count of them (R455). -/
theorem Dev.Notes.of_addWork (s : Dev) (t : Nat) (c : Cmd) (w : Work) : s.Notes (s.addWork c w) t := by
  have hwork (m : NMap Work) : s.Notes { s with work := m } t := ⟨⟨fun _ _ => rfl, rfl, rfl, rfl, rfl, rfl, rfl⟩, rfl⟩
  refine (hwork _).trans (.of_foldl (fun s f => ?_) _ _)
  dsimp only
  split
  · split
    · exact .refl s t
    · iterate 3 refine .wr ?_ _ _ (by decide) (by decide)
      exact .refl s t
  · exact .refl s t

/-! Counting (R64, R77, R93) -/

/-- PT_OOR counts where the page's counters are not frozen and the sum fits its 64 bits. -/
theorem Dev.Checks.of_bump_oor {s : Dev} {t n : Nat} (ht : t < 16)
    (hf : s.flag Reg.PAGE_CTRL_CNT_FREEZE (pageOf .PT t) = false) (hn : s.rd Reg.PT_OOR t + n < 2 ^ 64) :
    s.Checks (s.bump Reg.PT_OOR t n) t n where
  others := fun u _ => Dev.tile_bump s _ t n u
  mem := Dev.bump_mem s _ t n
  queues := Dev.bump_queues s _ t n
  engines := Dev.bump_engines s _ t n
  knots := Dev.bump_knots s _ t n
  activeB := by simp only [Dev.activeB, Dev.flag, Dev.rd_bump_ne s t t n (show Reg.PT_OOR.id ≠ Reg.PT_STATUS_ACTIVE_BANK.id by decide)]
  oor := by
    have hkey : pageOfKey Reg.PT_OOR t = pageOf .PT t := by simp [pageOfKey, Reg.PT_OOR, manyInst, show t % 128 = t by omega]
    rw [Dev.rd_bump_self s _ t n (hkey ▸ hf)]
    exact Nat.mod_eq_of_lt hn

/-- The counts of a check: PT_OOR counts every out-of-range code of the segments. -/
theorem Dev.Checks.of_countCheck {s : Dev} {t p : Nat} {segs : List (List Int)} (ht : t < 16)
    (hf : s.flag Reg.PAGE_CTRL_CNT_FREEZE (pageOf .PT t) = false)
    (hn : s.rd Reg.PT_OOR t + (segs.map oorCount).sum < 2 ^ 64) :
    s.Checks (s.countCheck t p segs) t (segs.map oorCount).sum := by
  generalize hk : 8 * segs.length = k
  generalize hm : (segs.map (fun x => (flaggedGroups x).length)).sum = m
  have hgs : s.Notes ((s.bump Reg.PT_GS_CHECKED t k).bump Reg.PT_GS_FLAGGED t m) t :=
    .trans (.of_bump s t t k (by decide) (by decide)) (.of_bump _ t t m (by decide) (by decide))
  have hfreeze : ((s.bump Reg.PT_GS_CHECKED t k).bump Reg.PT_GS_FLAGGED t m).flag Reg.PAGE_CTRL_CNT_FREEZE (pageOf .PT t) = false := by
    simp only [Dev.flag]
    rw [Dev.rd_bump_ne _ _ _ _ (by decide), Dev.rd_bump_ne _ _ _ _ (by decide)]
    exact hf
  have hoor := (Dev.Checks.of_bump_oor ht hfreeze (n := (segs.map oorCount).sum) (by rw [hgs.oor]; exact hn)).after hgs.toChecks
  have hpf (u : Dev) : u.Notes ((u.pf p 0x32 k).pf p 0x33 m) t := (Dev.Notes.of_pf u t p 0x32 k).trans (.of_pf _ t p 0x33 m)
  subst hk hm
  exact (hoor.trans (.of_modTile _ t _)).trans (hpf _).toChecks

/-- The counts of a check touch the counts of the tile's window only. -/
theorem Dev.tile_countCheck (s : Dev) (t p : Nat) (segs : List (List Int)) :
    (s.countCheck t p segs).tile t = { s.tile t with
      winChecked := (s.tile t).winChecked + 8 * segs.length
      winFlagged := (s.tile t).winFlagged + (segs.map (fun x => (flaggedGroups x).length)).sum } := by
  simp [Dev.countCheck, (Dev.Notes.of_pf _ t _ _ _).tile]

/-! Asking for replays (R71, R72) -/

/-- No flag waits for a place, and `k` more replays find one among the 16 outstanding. -/
structure Tile.HasRoom (x : Tile) (k : Nat) : Prop where
  none_waits : x.replayWait = []
  fits : x.outstanding + k ≤ 16

theorem Tile.HasRoom.askReplay_replayQ {x : Tile} {k : Nat} (h : x.HasRoom (k + 1)) (q : Sample) :
    (x.askReplay q).replayQ = x.replayQ ++ [q] := by
  have hfree : (16 - x.outstanding) = (15 - x.outstanding) + 1 := by have := h.fits; omega
  show x.replayQ ++ (x.replayWait ++ [q]).take (16 - x.outstanding) = _
  simp [h.none_waits, hfree]

theorem Tile.HasRoom.askReplay {x : Tile} {k : Nat} (h : x.HasRoom (k + 1)) (q : Sample) : (x.askReplay q).HasRoom k where
  none_waits := by
    have hfree : (16 - x.outstanding) = (15 - x.outstanding) + 1 := by have := h.fits; omega
    show (x.replayWait ++ [q]).drop (16 - x.outstanding) = []
    simp [h.none_waits, hfree]
  fits := by
    have hair : (x.askReplay q).air = x.air := rfl
    have := h.fits
    simp only [Tile.outstanding, hair, h.askReplay_replayQ, List.length_append, List.length_singleton] at this ⊢
    omega

theorem Tile.HasRoom.mono {x : Tile} {j k : Nat} (h : x.HasRoom k) (hjk : j ≤ k) : x.HasRoom j :=
  ⟨h.none_waits, by have := h.fits; omega⟩

/-- A part of a check of a symbol of tile `t` that asks for the replays `qs`. -/
structure Dev.Asks (s d : Dev) (t : Nat) (qs : List Sample) : Prop extends s.Checks d t 0 where
  replayQ : (d.tile t).replayQ = (s.tile t).replayQ ++ qs

/-- Segments checked one after the other: where every step asks for `ask g` just for the segments with `p`, the whole asks for
these in order. `I segs` is what a state keeps before the segments `segs`. -/
theorem Dev.Asks.of_foldl {f : Dev → Nat → Dev} {I : List Nat → Dev → Prop} {p : Nat → Bool} {ask : Nat → Sample} {t : Nat}
    (hf : ∀ g segs s, I (g :: segs) s → I segs (f s g) ∧ s.Asks (f s g) t (if p g then [ask g] else []))
    (segs : List Nat) (s : Dev) (h : I segs s) :
    I [] (segs.foldl f s) ∧ s.Asks (segs.foldl f s) t ((segs.filter p).map ask) := by
  induction segs generalizing s with
  | nil => exact ⟨h, .refl s t, by simp⟩
  | cons g segs ih =>
    obtain ⟨hI, hstep⟩ := hf g segs s h
    obtain ⟨hend, hrest⟩ := ih (f s g) hI
    refine ⟨hend, hstep.toChecks.trans hrest.toChecks, ?_⟩
    rw [List.foldl_cons, hrest.replayQ, hstep.replayQ, List.filter_cons]
    split <;> simp

theorem NMap.get_modify {α : Type} [DecidableEq α] (d : α) (m : NMap α) (k j : Nat) (f : α → α) :
    NMap.get d (NMap.modify d m k f) j = if k = j then f (NMap.get d m k) else NMap.get d m j := NMap.get_set d m k j _

/-! The segments of a column-sum symbol (R86) -/

/-- Tile `t` waits for the segments `segs` of the column-sum symbol of load `l` with tries left and room for their replays. -/
structure Tile.ColsumOpen (x : Tile) (l : Load) (segs : List Nat) : Prop where
  loads : x.loads = [l]
  sent : l.sent = true
  images : x.images = []
  rows : ∀ y ∈ x.rows, y.void = false
  once : segs.Nodup
  tries : ∀ g ∈ segs, NMap.get 0 x.colsumTries (8 * b2n l.bankB + g) < 3
  room : x.HasRoom segs.length

/-- A segment of a column-sum symbol that is waited for: its integers are kept, or it is sent again. -/
theorem Dev.colsumSeg_eq {s : Dev} {t g : Nat} {l : Load} {segs : List Nat} (h : (s.tile t).ColsumOpen l (g :: segs))
    (codes : List Int) : s.colsumSeg t l.bankB g codes =
      if (flaggedGroups codes).isEmpty then
        s.modTile t (fun x => { x with colsumSeen := NMap.insert x.colsumSeen (8 * b2n l.bankB + g) codes })
      else s.modTile t (fun x => ({ x with
        colsumTries := NMap.modify 0 x.colsumTries (8 * b2n l.bankB + g) (· + 1) } : Tile).askReplay (.colsumReplay l.bankB g)) := by
  have htry : ¬ 3 ≤ NMap.get 0 (s.tile t).colsumTries (8 * b2n l.bankB + g) := Nat.not_le.2 (h.tries g (by simp))
  simp [Dev.colsumSeg, Dev.colsumLate, h.loads, h.sent, h.images, htry]

theorem Dev.Asks.of_colsumSeg {s : Dev} {t g : Nat} {l : Load} {segs : List Nat} (h : (s.tile t).ColsumOpen l (g :: segs))
    (codes : List Int) : ((s.colsumSeg t l.bankB g codes).tile t).ColsumOpen l segs ∧
      s.Asks (s.colsumSeg t l.bankB g codes) t (if !(flaggedGroups codes).isEmpty then [.colsumReplay l.bankB g] else []) := by
  obtain ⟨hg, honce⟩ := List.nodup_cons.1 h.once
  rw [Dev.colsumSeg_eq h]
  split
  · next hc =>
    refine ⟨?_, .of_modTile s t _, by simp [hc]⟩
    rw [Dev.tile_modTile_self]
    exact ⟨h.loads, h.sent, h.images, h.rows, honce, fun j hj => h.tries j (by simp [hj]), ⟨h.room.none_waits, (h.room.mono (by simp)).fits⟩⟩
  · next hc =>
    generalize hx : ({ s.tile t with colsumTries := NMap.modify 0 (s.tile t).colsumTries (8 * b2n l.bankB + g) (· + 1) } : Tile) = x
    have hroom : x.HasRoom (segs.length + 1) := hx ▸ ⟨h.room.none_waits, h.room.fits⟩
    refine ⟨?_, .of_modTile s t _, ?_⟩
    · rw [Dev.tile_modTile_self, hx]
      refine ⟨hx ▸ h.loads, h.sent, hx ▸ h.images, hx ▸ h.rows, honce, fun j hj => ?_, hroom.askReplay _⟩
      have hjg : ¬ g = j := fun e => hg (e ▸ hj)
      subst hx
      simpa [Tile.askReplay, Tile.fillPlaces, NMap.get_modify, hjg] using h.tries j (by simp [hj])
    · rw [Dev.tile_modTile_self, hx, hroom.askReplay_replayQ, ← hx]
      simp [hc]

/-! The segments of a plane (R71) -/

/-- Row `row`, the only one of tile `t`, waits for the segments `segs` of its plane `p`: its bank is still active, it has tries
left, and the tile has room for their replays. -/
structure Dev.PlaneOpen (s : Dev) (t p : Nat) (row : Row) (segs : List Nat) : Prop where
  rows : (s.tile t).rows = [row]
  void : row.void = false
  onTime : s.isLate t row = false
  once : segs.Nodup
  tries : ∀ g ∈ segs, NMap.get 0 row.tries (p * 8 + g) < 3
  room : (s.tile t).HasRoom segs.length

/-- Whether a row is late depends on the bank that is active and on the row's load only. -/
theorem Dev.isLate_congr {s d : Dev} {t : Nat} {row row' : Row} (hb : d.activeB t = s.activeB t)
    (hA : (d.tile t).bankA = (s.tile t).bankA) (hB : (d.tile t).bankB = (s.tile t).bankB) (hk : row'.key = row.key) :
    d.isLate t row' = s.isLate t row := by
  simp only [Dev.isLate, Dev.active, Tile.bank, hb, hA, hB, hk]

/-- A part of a check that keeps the banks of the tile leaves a row as late as it was. -/
theorem Dev.Checks.isLate {s d : Dev} {t n : Nat} (h : s.Checks d t n) (row : Row)
    (hA : (d.tile t).bankA = (s.tile t).bankA) (hB : (d.tile t).bankB = (s.tile t).bankB) : d.isLate t row = s.isLate t row :=
  Dev.isLate_congr h.activeB hA hB rfl

/-- The work counts of a flagged segment: its row's run, where there is one, counts the flags. -/
def Dev.countFlags (s : Dev) (t : Nat) (row : Row) (codes : List Int) : Dev :=
  match (s.tile t).runs.find? (fun r => r.id = row.run) with
  | some r => s.addWork r.c { flags := (flaggedGroups codes).length }
  | none => s

theorem Dev.Notes.of_countFlags (s : Dev) (t : Nat) (row : Row) (codes : List Int) : s.Notes (s.countFlags t row codes) t := by
  unfold Dev.countFlags
  split
  · exact .of_addWork s t _ _
  · exact .refl s t

/-- A segment of a plane that is waited for: its integers are kept, or it is sent again. -/
theorem Dev.segCheck_eq {s : Dev} {t p g : Nat} {row : Row} {segs : List Nat} (h : s.PlaneOpen t p row (g :: segs))
    (codes : List Int) : s.segCheck t row.tag p g codes =
      if (flaggedGroups codes).isEmpty then s.modRow t row.tag (fun r => { r with dec := NMap.insert r.dec (p * 8 + g) codes })
      else ((s.countFlags t row codes).modRow t row.tag (fun r => { r with tries := NMap.modify 0 r.tries (p * 8 + g) (· + 1) })).modTile t
        (fun x => x.askReplay (.replay row.tag p g)) := by
  have hrow : (s.tile t).rows.find? (fun r => r.tag = row.tag) = some row := by simp [h.rows]
  have htry : ¬ 3 ≤ NMap.get 0 row.tries (p * 8 + g) := Nat.not_le.2 (h.tries g (by simp))
  have hnotes := Dev.Notes.of_countFlags s t row codes
  have hlate : (s.countFlags t row codes).isLate t row = false := by
    rw [hnotes.isLate row (by rw [hnotes.tile]) (by rw [hnotes.tile])]; exact h.onTime
  unfold Dev.segCheck
  rw [hrow]
  dsimp only
  rw [if_neg htry]
  split
  · rfl
  · exact if_neg (Bool.eq_false_iff.1 hlate)

/-- What a change of the only row of a tile leaves. -/
theorem Dev.tile_modRow {s : Dev} {t : Nat} {row : Row} (h : (s.tile t).rows = [row]) (f : Row → Row) :
    (s.modRow t row.tag f).tile t = { s.tile t with rows := [f row] } := by
  simp [Dev.modRow, h]

theorem Dev.Asks.of_segCheck {s : Dev} {t p g : Nat} {row : Row} {segs : List Nat} (h : s.PlaneOpen t p row (g :: segs))
    (codes : List Int) : (∃ row', row'.tag = row.tag ∧ (s.segCheck t row.tag p g codes).PlaneOpen t p row' segs) ∧
      s.Asks (s.segCheck t row.tag p g codes) t (if !(flaggedGroups codes).isEmpty then [.replay row.tag p g] else []) := by
  obtain ⟨hg, honce⟩ := List.nodup_cons.1 h.once
  rw [Dev.segCheck_eq h]
  split
  · next hc =>
    have htile := Dev.tile_modRow h.rows (fun r => { r with dec := NMap.insert r.dec (p * 8 + g) codes })
    have hchecks : s.Checks (s.modRow t row.tag (fun r => { r with dec := NMap.insert r.dec (p * 8 + g) codes })) t 0 := .of_modTile s t _
    refine ⟨⟨{ row with dec := NMap.insert row.dec (p * 8 + g) codes }, rfl, ?_⟩, hchecks, by simp [htile, hc]⟩
    exact {
      rows := by rw [htile]
      void := h.void
      onTime := (Dev.isLate_congr hchecks.activeB (by rw [htile]) (by rw [htile]) rfl).trans h.onTime
      once := honce
      tries := fun j hj => h.tries j (by simp [hj])
      room := by rw [htile]; exact ⟨h.room.none_waits, (h.room.mono (by simp)).fits⟩ }
  · next hc =>
    have hnotes := Dev.Notes.of_countFlags s t row codes
    generalize s.countFlags t row codes = u at hnotes ⊢
    have htile := Dev.tile_modRow ((congrArg Tile.rows (hnotes.tile t)).trans h.rows)
      (fun r => { r with tries := NMap.modify 0 r.tries (p * 8 + g) (· + 1) })
    generalize hv : u.modRow t row.tag (fun r => { r with tries := NMap.modify 0 r.tries (p * 8 + g) (· + 1) }) = v at htile ⊢
    have hchecks : s.Checks (v.modTile t (fun x => x.askReplay (.replay row.tag p g))) t 0 :=
      hv ▸ (hnotes.toChecks.trans (.of_modTile u t _)).trans (.of_modTile _ t _)
    rw [hnotes.tile] at htile
    have hroom : (v.tile t).HasRoom (segs.length + 1) := by rw [htile]; exact ⟨h.room.none_waits, h.room.fits⟩
    have hlast := Dev.tile_modTile_self v t (fun x => x.askReplay (.replay row.tag p g))
    refine ⟨⟨{ row with tries := NMap.modify 0 row.tries (p * 8 + g) (· + 1) }, rfl, ?_⟩, hchecks, ?_⟩
    · exact {
        rows := by rw [hlast, htile]; rfl
        void := h.void
        onTime := (Dev.isLate_congr hchecks.activeB (by rw [hlast, htile]; rfl) (by rw [hlast, htile]; rfl) rfl).trans h.onTime
        once := honce
        tries := fun j hj => by
          have hjg : ¬ g = j := fun e => hg (e ▸ hj)
          simpa [NMap.get_modify, hjg] using h.tries j (by simp [hj])
        room := by rw [hlast]; exact hroom.askReplay _ }
    · rw [hlast, hroom.askReplay_replayQ, htile]
      simp [hc]

/-! The symbol as a whole (R64) -/

/-- The segments of a symbol whose flagged ones are sent again. -/
def resent (codes : List Int) : List Nat := (List.range 8).filter (fun g => !(flaggedGroups (segOf codes g)).isEmpty)

/-- Where no row of the tile is void, the end of a check only gives free places to flags that waited. -/
theorem Dev.checked_eq {s : Dev} {t : Nat} (h : ∀ y ∈ (s.tile t).rows, y.void = false) : s.checked t = s.modTile t Tile.fillPlaces := by
  have hrows : ((s.modTile t Tile.fillPlaces).tile t).rows = (s.tile t).rows := by rw [Dev.tile_modTile_self]; rfl
  have hnone : (s.tile t).rows.any (fun y => y.void && y.resolved) = false :=
    List.any_eq_false.2 (fun y hy => by simp [h y hy])
  simp only [Dev.checked, hrows, hnone, Bool.false_eq_true, if_false]

/-- The end of a check asks for nothing where no flag waits and no row is void. -/
theorem Dev.Asks.of_checked {s : Dev} {t k : Nat} (hv : ∀ y ∈ (s.tile t).rows, y.void = false) (hr : (s.tile t).HasRoom k) :
    s.Asks (s.checked t) t [] := by
  rw [Dev.checked_eq hv]
  exact ⟨.of_modTile s t _, by simp [Tile.fillPlaces, hr.none_waits]⟩

/-- What precedes the segments of a whole symbol: it leaves the air, and its group-samples are counted and noted. -/
def Dev.symbolNoted (s : Dev) (t plane : Nat) (late : Bool) (codes : List Int) (rest : List Sample) : Dev :=
  let u := s.modTile t (fun x => { x with air := rest })
  (u.countCheck t (u.holder t) ((segments codes).map (fun e => e.2))).flagNote t plane late (segments codes)

/-- It touches the air and the counts of the tile's window only. -/
theorem Dev.tile_symbolNoted (s : Dev) (t plane : Nat) (late : Bool) (codes : List Int) (rest : List Sample) :
    ∃ m n, (s.symbolNoted t plane late codes rest).tile t = { s.tile t with air := rest, winChecked := m, winFlagged := n } := by
  rw [Dev.symbolNoted, (Dev.Notes.of_flagNote _ t plane late _).tile, Dev.tile_countCheck, Dev.tile_modTile_self]
  exact ⟨_, _, rfl⟩

/-- PT_OOR counts every out-of-range code of the symbol. -/
theorem Dev.Checks.of_symbolNoted {s : Dev} {t : Nat} {codes : List Int} (hlen : codes.length = 1152) (ht : t < 16)
    (hf : s.flag Reg.PAGE_CTRL_CNT_FREEZE (pageOf .PT t) = false) (hn : s.rd Reg.PT_OOR t + 1152 < 2 ^ 64)
    (plane : Nat) (late : Bool) (rest : List Sample) :
    s.Checks (s.symbolNoted t plane late (codes.map decided) rest) t (oorCount codes) := by
  have hle := oorCount_le_length codes
  have hcount := sum_oorCount_segments hlen
  have hair := Dev.Checks.of_modTile s t (fun x => { x with air := rest })
  have hcheck := Dev.Checks.of_countCheck (s := s.modTile t (fun x => { x with air := rest }))
    (p := (s.modTile t (fun x => { x with air := rest })).holder t) (segs := (segments (codes.map decided)).map (fun e => e.2)) ht hf
    (by rw [hcount, hair.oor]; omega)
  rw [hcount] at hcheck
  exact (hcheck.after hair).trans (Dev.Notes.of_flagNote _ t plane late (segments (codes.map decided))).toChecks

/-- The room a tile has once the symbol has left the air. -/
theorem Tile.HasRoom.of_landed {x y : Tile} {rest : List Sample} {m n : Nat} (hw : x.replayWait = [])
    (hroom : x.replayQ.length + rest.countP Sample.isReplay ≤ 8) (hy : y = { x with air := rest, winChecked := m, winFlagged := n }) :
    y.HasRoom (List.range 8).length := by
  subst hy
  exact ⟨hw, by simp only [Tile.outstanding, List.length_range]; omega⟩

theorem doPlaneCheck_colsum {s : Dev} {t : Nat} {b : Bool} {rest : List Sample} (hair : (s.tile t).air = .colsum b :: rest)
    (codes : List Int) : ∃ late, doPlaneCheck t codes s = ((List.range 8).foldl
      (fun d g => d.colsumSeg t b g (segOf (codes.map decided) g)) (s.symbolNoted t 0 late (codes.map decided) rest)).checked t := by
  simp only [doPlaneCheck, hair, Dev.checkSymbol, List.foldl_map]
  exact ⟨_, rfl⟩

theorem doPlaneCheck_plane {s : Dev} {t tag p : Nat} {rest : List Sample} (hair : (s.tile t).air = .plane tag p :: rest)
    (codes : List Int) : ∃ late, doPlaneCheck t codes s = ((List.range 8).foldl
      (fun d g => d.segCheck t tag p g (segOf (codes.map decided) g)) (s.symbolNoted t p late (codes.map decided) rest)).checked t := by
  simp only [doPlaneCheck, hair, Dev.checkSymbol, List.foldl_map]
  exact ⟨_, rfl⟩

/-- A symbol that is noted, whose segments ask for `qs`, and whose check ends. -/
theorem Dev.Checks.of_symbol {s u v : Dev} {t n k : Nat} {qs : List Sample} (hu : s.Checks u t n)
    (hq : (u.tile t).replayQ = (s.tile t).replayQ) (hv : u.Asks v t qs) (hvoid : ∀ y ∈ (v.tile t).rows, y.void = false)
    (hroom : (v.tile t).HasRoom k) :
    s.Checks (v.checked t) t n ∧ ((v.checked t).tile t).replayQ = (s.tile t).replayQ ++ qs := by
  have hend := Dev.Asks.of_checked hvoid hroom
  refine ⟨(hu.trans hv.toChecks).trans hend.toChecks, ?_⟩
  rw [hend.replayQ, hv.replayQ, hq, List.append_nil]

/-- A column-sum symbol of a load that waits for it, with tries and room left (R64, R86). -/
theorem doPlaneCheck_colsum_oor {s : Dev} {t : Nat} {l : Load} {codes : List Int} {rest : List Sample}
    (hair : (s.tile t).air = .colsum l.bankB :: rest) (hloads : (s.tile t).loads = [l]) (hsent : l.sent = true)
    (himages : (s.tile t).images = []) (hwait : (s.tile t).replayWait = [])
    (hroom : (s.tile t).replayQ.length + rest.countP Sample.isReplay ≤ 8) (hvoid : ∀ y ∈ (s.tile t).rows, y.void = false)
    (htries : ∀ g, g < 8 → NMap.get 0 (s.tile t).colsumTries (8 * b2n l.bankB + g) < 3) (hlen : codes.length = 1152) (ht : t < 16)
    (hf : s.flag Reg.PAGE_CTRL_CNT_FREEZE (pageOf .PT t) = false) (hn : s.rd Reg.PT_OOR t + 1152 < 2 ^ 64) :
    s.Checks (doPlaneCheck t codes s) t (oorCount codes) ∧ ((doPlaneCheck t codes s).tile t).replayQ =
      (s.tile t).replayQ ++ (resent (codes.map decided)).map (fun g => .colsumReplay l.bankB g) := by
  obtain ⟨late, hdo⟩ := doPlaneCheck_colsum hair codes
  obtain ⟨m, n, htile⟩ := s.tile_symbolNoted t 0 late (codes.map decided) rest
  have hopen : ((s.symbolNoted t 0 late (codes.map decided) rest).tile t).ColsumOpen l (List.range 8) :=
    ⟨by rw [htile]; exact hloads, hsent, by rw [htile]; exact himages, by rw [htile]; exact hvoid, List.nodup_range,
      fun g hg => by rw [htile]; exact htries g (List.mem_range.1 hg), .of_landed hwait hroom htile⟩
  obtain ⟨hend, hasks⟩ := Dev.Asks.of_foldl (t := t) (I := fun segs d => (d.tile t).ColsumOpen l segs)
    (fun g _ _ h => Dev.Asks.of_colsumSeg h (segOf (codes.map decided) g)) _ _ hopen
  rw [hdo]
  exact (Dev.Checks.of_symbolNoted hlen ht hf hn 0 late rest).of_symbol (by rw [htile]) hasks hend.rows hend.room

/-- A plane of a row whose bank is still active, with tries and room left (R64, R71). -/
theorem doPlaneCheck_plane_oor {s : Dev} {t p : Nat} {row : Row} {codes : List Int} {rest : List Sample}
    (hair : (s.tile t).air = .plane row.tag p :: rest) (hrows : (s.tile t).rows = [row]) (hvoid : row.void = false)
    (hlate : s.isLate t row = false) (hwait : (s.tile t).replayWait = [])
    (hroom : (s.tile t).replayQ.length + rest.countP Sample.isReplay ≤ 8)
    (htries : ∀ g, g < 8 → NMap.get 0 row.tries (p * 8 + g) < 3) (hlen : codes.length = 1152) (ht : t < 16)
    (hf : s.flag Reg.PAGE_CTRL_CNT_FREEZE (pageOf .PT t) = false) (hn : s.rd Reg.PT_OOR t + 1152 < 2 ^ 64) :
    s.Checks (doPlaneCheck t codes s) t (oorCount codes) ∧ ((doPlaneCheck t codes s).tile t).replayQ =
      (s.tile t).replayQ ++ (resent (codes.map decided)).map (fun g => .replay row.tag p g) := by
  obtain ⟨late, hdo⟩ := doPlaneCheck_plane hair codes
  obtain ⟨m, n, htile⟩ := s.tile_symbolNoted t p late (codes.map decided) rest
  have hnoted := Dev.Checks.of_symbolNoted hlen ht hf hn p late rest
  have hopen : (s.symbolNoted t p late (codes.map decided) rest).PlaneOpen t p row (List.range 8) :=
    ⟨by rw [htile]; exact hrows, hvoid, (hnoted.isLate row (by rw [htile]) (by rw [htile])).trans hlate, List.nodup_range,
      fun g hg => htries g (List.mem_range.1 hg), .of_landed hwait hroom htile⟩
  obtain ⟨⟨row', _, hend⟩, hasks⟩ := Dev.Asks.of_foldl (t := t)
    (I := fun segs d => ∃ row', row'.tag = row.tag ∧ d.PlaneOpen t p row' segs)
    (fun g segs d ⟨row', htag, h⟩ => by
      have hstep := Dev.Asks.of_segCheck h (segOf (codes.map decided) g)
      rw [htag] at hstep
      exact hstep) _ _ ⟨row, rfl, hopen⟩
  rw [hdo]
  exact hnoted.of_symbol (by rw [htile]) hasks (by simp [hend.rows, hend.void]) hend.room

/-- Settles O56: an out-of-range code flags its group-sample, PT_OOR counts it, and the flagged segments are sent again, by an
induction over the eight segments of the symbol that keeps tries and room for those that follow. -/
theorem outOfRangeDecisions : Obligations.OutOfRangeDecisions := by
  unfold Obligations.OutOfRangeDecisions
  refine ⟨fun seg g c hg hc ho => mem_flaggedGroups.2 ⟨hg, flagged_of_outOfRange hc (by simpa [outOfRange] using ho)⟩, ?_, ?_⟩
  · intro s t b l codes rest hair hloads hbank hsent himages hwait hroom hvoid htries hlen ht hf hn
    subst hbank
    obtain ⟨hcheck, hq⟩ := doPlaneCheck_colsum_oor hair hloads hsent himages hwait hroom hvoid htries hlen ht hf hn
    exact ⟨_, rfl, hcheck.others, hcheck.mem, hcheck.queues, hcheck.oor, hq⟩
  · intro s t tag p row codes rest hair hrows htag hvoid hlate hwait hroom htries hlen ht hf hn
    subst htag
    obtain ⟨hcheck, hq⟩ := doPlaneCheck_plane_oor hair hrows hvoid hlate hwait hroom htries hlen ht hf hn
    exact ⟨_, rfl, hcheck.mem, hcheck.queues, hcheck.engines, hcheck.knots, hcheck.oor, hq⟩

end Sys2Proof.Machine
end

section
/-! PROOFS. O55: what a read of a ring-history coil meets (R229), by the byte of a coil that each piece holds, and what the
context store makes of a command that it takes at once. -/
namespace Sys2Proof.Machine

/-! The bytes of a coil (R227): pieces gather the bytes of consecutive offsets -/

theorem frameSize_pos (cls : Nat) : 0 < frameSize cls := by simp [frameSize]

/-- The memory address of the byte of a coil at an offset (R227). -/
def Coil.addr (k : Coil) (off : Nat) : Nat := k.ext.getD (off / frameSize k.cls) 0 + off % frameSize k.cls

/-- The bytes of a coil at `n` offsets from `off` on, in their order. -/
def Dev.dataOf (s : Dev) (k : Coil) (off n : Nat) : List Byte := (List.range' off n).map (fun x => s.byte (k.addr x))

theorem Dev.dataOf_add (s : Dev) (k : Coil) (off m n : Nat) :
    s.dataOf k off (m + n) = s.dataOf k off m ++ s.dataOf k (off + m) n := by
  rw [Dev.dataOf, Dev.dataOf, Dev.dataOf, ← List.map_append, List.range'_append_1]

@[simp] theorem Dev.gather_nil (s : Dev) : s.gather [] = [] := rfl

@[simp] theorem Dev.gather_cons (s : Dev) (a n : Nat) (ps : List (Nat × Nat)) :
    s.gather ((a, n) :: ps) = s.bytes a n ++ s.gather ps := rfl

@[simp] theorem Dev.gather_append (s : Dev) (ps qs : List (Nat × Nat)) : s.gather (ps ++ qs) = s.gather ps ++ s.gather qs := by
  simp [Dev.gather]

/-- Within an extent the addresses of a coil's bytes are consecutive. -/
theorem Coil.addr_add (k : Coil) {off i : Nat} (h : off % frameSize k.cls + i < frameSize k.cls) :
    k.addr (off + i) = k.addr off + i := by
  have hdiv : (off + i) / frameSize k.cls = off / frameSize k.cls := by
    rw [Nat.add_div (frameSize_pos k.cls), Nat.mod_eq_of_lt (a := i) (by omega), Nat.div_eq_of_lt (a := i) (by omega)]
    simp [h]
  have hmod : (off + i) % frameSize k.cls = off % frameSize k.cls + i := by
    rw [Nat.add_mod, Nat.mod_eq_of_lt (a := i) (by omega), Nat.mod_eq_of_lt h]
  simp only [Coil.addr, hdiv, hmod, Nat.add_assoc]

theorem Dev.bytes_addr (s : Dev) (k : Coil) {off m : Nat} (h : off % frameSize k.cls + m ≤ frameSize k.cls) :
    s.bytes (k.addr off) m = s.dataOf k off m := by
  simp only [Dev.bytes, Dev.dataOf, List.range'_eq_map_range, List.map_map]
  refine List.map_congr_left fun i hi => ?_
  have hlt := List.mem_range.1 hi
  simp [k.addr_add (off := off) (i := i) (by omega)]

/-- One piece reaches at most to the end of its extent, so that the fuel bounds the extents met. -/
theorem Dev.gather_pieces (s : Dev) (k : Coil) (fuel : Nat) {off n : Nat}
    (h : n ≤ fuel * frameSize k.cls - off % frameSize k.cls) : s.gather (k.pieces fuel off n) = s.dataOf k off n := by
  induction fuel generalizing off n with
  | zero =>
    obtain rfl : n = 0 := by omega
    rfl
  | succ fuel ih =>
    obtain rfl | hn := Nat.eq_zero_or_pos n
    · rfl
    generalize hz : frameSize k.cls = z at h ih
    have hoff : off % z < z := Nat.mod_lt _ (hz ▸ frameSize_pos k.cls)
    generalize hm : min (z - off % z) n = m
    have hpieces : k.pieces (fuel + 1) off n = (k.addr off, m) :: k.pieces fuel (off + m) (n - m) := by
      simp [Coil.pieces, Coil.addr, hn.ne', hz, hm]
    have hrest : n - m ≤ fuel * z - (off + m) % z := by
      obtain hlast | hnext : n = m ∨ m = z - off % z := by omega
      · omega
      · have hstart : (off + m) % z = 0 := by
          rw [hnext, ← Nat.mod_add_mod, Nat.add_sub_cancel' hoff.le, Nat.mod_self]
        rw [Nat.succ_mul] at h
        omega
    calc s.gather (k.pieces (fuel + 1) off n)
        = s.dataOf k off m ++ s.dataOf k (off + m) (n - m) := by
          rw [hpieces, Dev.gather_cons, s.bytes_addr k (by rw [hz]; omega), ih hrest]
      _ = s.dataOf k off n := by rw [← s.dataOf_add, Nat.add_sub_cancel' (by omega)]

theorem Dev.gather_span (s : Dev) (k : Coil) {off n : Nat} (h : off + n ≤ k.size) : s.gather (k.span off n) = s.dataOf k off n := by
  refine s.gather_pieces k _ ?_
  have hoff := Nat.mod_lt off (frameSize_pos k.cls)
  rw [Nat.succ_mul]
  simp only [Coil.size] at h
  omega

@[simp] theorem Coil.span_zero (k : Coil) (off : Nat) : k.span off 0 = [] := by simp [Coil.span, Coil.pieces]

/-! The records of a ring-history coil (R228): a run of them gathers the records one after another -/

theorem Coil.record_end_le_size (k : Coil) {p : Nat} (h : p ≤ k.cap) : p * k.record ≤ k.size :=
  (Nat.mul_le_mul_right _ h).trans (Nat.div_mul_le_self _ _)

/-- Records that do not wrap, one after another. -/
theorem Dev.gather_span_records (s : Dev) (k : Coil) {p m : Nat} (h : p + m ≤ k.cap) :
    s.gather (k.span (p * k.record) (m * k.record)) =
      ((List.range m).map (fun j => s.gather (k.span ((p + j) * k.record) k.record))).flatten := by
  induction m with
  | zero => simp
  | succ m ih =>
    have hsize := k.record_end_le_size h
    have hlast : (p + m) * k.record + k.record ≤ k.size := by rwa [← Nat.succ_mul]
    have hall : p * k.record + (m + 1) * k.record ≤ k.size := by rwa [← Nat.add_mul]
    have hinit : p * k.record + m * k.record ≤ k.size := by rw [← Nat.add_mul]; omega
    rw [List.range_succ, List.map_append, List.flatten_append, ← ih (by omega), s.gather_span k hall, Nat.succ_mul, s.dataOf_add,
      ← s.gather_span k hinit, ← Nat.add_mul]
    simp [s.gather_span k hlast]

/-- Records from physical index `p` on wrap at CAP. -/
theorem Dev.gather_records (s : Dev) (k : Coil) {p n : Nat} (hp : p < k.cap) (hn : n ≤ k.cap) :
    s.gather (k.records p n) = ((List.range n).map (fun j => s.gather (k.span ((p + j) % k.cap * k.record) k.record))).flatten := by
  generalize hm : min n (k.cap - p) = m
  have hsplit : List.range n = List.range m ++ (List.range (n - m)).map (fun j => m + j) := by
    rw [← List.range_add, Nat.add_sub_cancel' (by omega)]
  have hhead : ∀ j ∈ List.range m, (p + j) % k.cap = p + j := fun j hj => Nat.mod_eq_of_lt (by have := List.mem_range.1 hj; omega)
  have htail : ∀ j ∈ List.range (n - m), (p + (m + j)) % k.cap = j := by
    intro j hj
    have hj := List.mem_range.1 hj
    rw [show p + (m + j) = k.cap + j by omega, Nat.add_mod_left, Nat.mod_eq_of_lt (by omega)]
  have hwrapped := s.gather_span_records k (p := 0) (m := n - m) (by omega)
  rw [Nat.zero_mul] at hwrapped
  rw [Coil.records, hm, s.gather_append, s.gather_span_records k (by omega), hwrapped, hsplit, List.map_append, List.flatten_append,
    List.map_map]
  congr 2
  · exact List.map_congr_left fun j hj => by rw [hhead j hj]
  · exact List.map_congr_left fun j hj => by simp [htail j hj]

/-! Logical indices (R229) -/

/-- The physical index of the record of a logical index (R229). -/
def Coil.phys (k : Coil) (i : Nat) : Nat := (k.head + k.cap - k.count + i) % k.cap

theorem Coil.phys_add (k : Coil) (i j : Nat) : k.phys (i + j) = (k.phys i + j) % k.cap := by
  simp [Coil.phys, Nat.add_assoc]

/-- A full ring, whose COUNT is 0 modulo CAP, starts at HEAD. -/
theorem Coil.reads_ring {k : Coil} (hr : k.ring = true) (hc : k.count ≤ k.cap) (i n : Nat) : k.reads i n = k.records (k.phys i) n := by
  have hphys : (k.head + k.cap - k.count % k.cap + i) % k.cap = k.phys i := by
    rcases hc.lt_or_eq with hlt | hfull
    · rw [Nat.mod_eq_of_lt hlt, Coil.phys]
    · rw [Coil.phys, hfull, Nat.mod_self, Nat.sub_zero, Nat.add_sub_cancel, Nat.add_right_comm, Nat.add_mod_right]
  rw [Coil.reads, if_pos hr, hphys]

theorem Coil.phys_lt_cap {k : Coil} {i : Nat} (hi : i < k.count) (hc : k.count ≤ k.cap) : k.phys i < k.cap :=
  Nat.mod_lt _ (by omega)

theorem Coil.records_one {k : Coil} {p : Nat} (hp : p < k.cap) : k.records p 1 = k.span (p * k.record) k.record := by
  simp [Coil.records, show min 1 (k.cap - p) = 1 by omega]

theorem Coil.reads_one {k : Coil} {i : Nat} (hr : k.ring = true) (hi : i < k.count) (hc : k.count ≤ k.cap) :
    k.reads i 1 = k.span (k.phys i * k.record) k.record := by
  rw [Coil.reads_ring hr hc, Coil.records_one (Coil.phys_lt_cap hi hc)]

theorem Dev.gather_reads (s : Dev) {k : Coil} {i n : Nat} (hr : k.ring = true) (hi : i + n ≤ k.count) (hc : k.count ≤ k.cap) :
    s.gather (k.reads i n) = ((List.range n).map (fun j => s.gather (k.reads (i + j) 1))).flatten := by
  obtain rfl | hn := Nat.eq_zero_or_pos n
  · simp [Coil.reads_ring hr hc, Coil.records]
  · rw [Coil.reads_ring hr hc, s.gather_records k (Coil.phys_lt_cap (by omega) hc) (by omega)]
    refine congrArg List.flatten (List.map_congr_left fun j hj => ?_)
    have hj := List.mem_range.1 hj
    rw [Coil.reads_one hr (by omega) hc, Coil.phys_add]

/-! A command that the context store takes (R233, R235): it is admitted and runs at once -/

/-- The operation of a command, before it is admitted. -/
def arrivingOp (op : Nat) (c : Cmd) : CoilOp :=
  { c := c, op := op, slot := hSlot c.handle, gen := hGen c.handle, write := opWrite op, admitted := false }

/-- The operation of a command that has been admitted. -/
def admittedOp (op : Nat) (c : Cmd) : CoilOp := { arrivingOp op c with admitted := true }

@[simp] theorem admittedOp_c (op : Nat) (c : Cmd) : (admittedOp op c).c = c := rfl
@[simp] theorem admittedOp_op (op : Nat) (c : Cmd) : (admittedOp op c).op = op := rfl
@[simp] theorem admittedOp_slot (op : Nat) (c : Cmd) : (admittedOp op c).slot = hSlot c.handle := rfl

/-- The module when the context store holds the operation of one command alone, admitted. -/
def Dev.holding (s : Dev) (op : Nat) (c : Cmd) : Dev := { s with coilOps := [admittedOp op c] }

@[simp] theorem Dev.coilAt_holding (s : Dev) (op : Nat) (c : Cmd) (slot : Nat) : (s.holding op c).coilAt slot = s.coilAt slot := rfl

theorem Dev.writeMeets_of_still {s : Dev} {slot : Nat} (h : s.moveOf slot = none) : s.writeMeets slot = s := by
  simp [Dev.writeMeets, h]

theorem Dev.mayAdmit_of_unheld {s : Dev} (h : s.coilOps = []) (o : CoilOp) : s.mayAdmit o = true := by
  simp [Dev.mayAdmit, h]

theorem Dev.grantOp_arriving {s : Dev} {op : Nat} {c : Cmd} (hgen : (s.coilAt (hSlot c.handle)).gen = hGen c.handle) :
    { s with coilOps := [arrivingOp op c] }.grantOp (arrivingOp op c) = (s.holding op c).opRun (admittedOp op c) := by
  have hcurrent : ¬ ((s.holding op c).coilAt (hSlot c.handle)).gen ≠ hGen c.handle := not_not_intro hgen
  simp only [Dev.grantOp, List.map_cons, List.map_nil, if_true]
  exact if_neg hcurrent

/-- An operation on a coil passes the handle checks and, with nothing holding a coil, is granted at once. -/
theorem Dev.coilEnter_of_takesCoil {s : Dev} {c : Cmd} {k : Coil} {op : Nat} (h : s.takesCoil c k)
    (hplain : ¬ (op = 6 ∧ bit c.w3 2 = true)) : s.coilEnter op c = (s.holding op c).opRun (admittedOp op c) := by
  obtain ⟨-, -, rfl, hpart, hslot, hlive, hgen, howner, hgroup, hops, hstill, -⟩ := h
  have hexists : (s.coilAt (hSlot c.handle)).exists = true := by simp [Coil.exists, hlive]
  rw [← Dev.grantOp_arriving hgen]
  simp [Dev.coilEnter, arrivingOp, hpart, hslot, hexists, hgen, howner, hgroup, hplain, hops, Dev.writeMeets_of_still hstill,
    Dev.mayAdmit_of_unheld hops]

theorem Dev.coilCommand_of_takesCoil {s : Dev} {c : Cmd} {k : Coil} {op : Nat} (h : s.takesCoil c k) (halloc : op ≠ 0)
    (hpolicy : op ≠ 11) (hplain : ¬ (op = 6 ∧ bit c.w3 2 = true)) (hgood : coilBad op c = false) :
    s.coilCommand op c = (s.holding op c).opRun (admittedOp op c) := by
  rw [← Dev.coilEnter_of_takesCoil h hplain]
  obtain ⟨hen, hready, -⟩ := h
  simp [Dev.coilCommand, hen, hready, hgood, halloc, hpolicy]

theorem Dev.setOp_holding (s : Dev) (op : Nat) (c : Cmd) :
    (s.holding op c).setOp c (fun o => { o with wait := .run }) = s.holding op c := by
  simp [Dev.setOp, Dev.holding, admittedOp, arrivingOp]

theorem Dev.opRun_read {s : Dev} {c : Cmd} (hlive : (s.coilAt (hSlot c.handle)).state = 1) :
    (s.holding 2 c).opRun (admittedOp 2 c) = (s.holding 2 c).opRead (admittedOp 2 c) := by
  simp [Dev.opRun, s.setOp_holding 2 c, hlive]

/-! A failed operation leaves its completion and no other trace -/

/-- Indices above COUNT fail the read before anything is touched (R229). -/
theorem Dev.opRead_beyond_count {s : Dev} {o : CoilOp} (hr : (s.coilAt o.slot).ring = true)
    (hn : (s.coilAt o.slot).count < o.c.w3.toNat + bits o.c.w4 31 0) : s.opRead o = s.opFail o stRange o.slot := by
  simp [Dev.opRead, hr, hn]

theorem Dev.coilRelease_of_only {s : Dev} {o : CoilOp} (h : s.coilOps = [o]) (hadm : o.admitted = true) :
    s.coilRelease o.c = { s with coilOps := [] } := by
  simp [Dev.coilRelease, h, hadm]

theorem Dev.opFail_holding (s : Dev) (op : Nat) (c : Cmd) (st d0 : Nat) :
    (s.holding op c).opFail (admittedOp op c) st d0 = { s.failSt c st d0 0 with coilOps := [] } :=
  Dev.coilRelease_of_only (s := (s.holding op c).failSt c st d0 0) (o := admittedOp op c) rfl rfl

/-- COIL_READ of logical indices above COUNT (R229). -/
theorem doCoilRead_beyond_count {s : Dev} {c : Cmd} {k : Coil} (h : s.takesCoil c k) (hr : k.ring = true)
    (hn : k.count < c.w3.toNat + bits c.w4 31 0) :
    doCoilRead c s = { s.failSt c stRange (hSlot c.handle) 0 with coilOps := [] } := by
  have hcommand := Dev.coilCommand_of_takesCoil (op := 2) h (by decide) (by decide) (by simp) rfl
  obtain ⟨-, -, rfl, -, -, hlive, -⟩ := h
  calc doCoilRead c s
      = (s.holding 2 c).opRead (admittedOp 2 c) := hcommand.trans (Dev.opRun_read hlive)
    _ = (s.holding 2 c).opFail (admittedOp 2 c) stRange (hSlot c.handle) := Dev.opRead_beyond_count hr hn
    _ = { s.failSt c stRange (hSlot c.handle) 0 with coilOps := [] } := s.opFail_holding 2 c stRange (hSlot c.handle)

/-- Settles O55: a piece gathers the bytes of consecutive offsets, so a run of records gathers them one after another and wraps
at CAP once; a read above COUNT fails before anything is touched. -/
theorem logicalIndex : Obligations.LogicalIndex := by
  unfold Obligations.LogicalIndex
  refine ⟨fun k i hr hi hc => Coil.reads_one hr hi hc, fun s k i n hr hi hc => s.gather_reads hr hi hc, ?_⟩
  intro s c k htakes hr hn
  refine ⟨doCoilRead c s.dev, rfl, ?_⟩
  rw [doCoilRead_beyond_count htakes hr hn]
  exact ⟨rfl, rfl, rfl, rfl, congrArg Queue.done (s.dev.finish_queue c stRange false 0 0 (hSlot c.handle) 0)⟩

end Sys2Proof.Machine
end
